-- ==== Sys2Proof/Word.lean ====
section
/-! DEFINITION. The word types of the IK9600 model and their plainest arithmetic. -/
namespace Sys2Proof

/-- One byte of host memory, of a descriptor, of a record. -/
abbrev Byte := BitVec 8

/-- A sparse table keyed by number, sorted by strictly rising key. An absent key reads as its table's default. -/
abbrev SMap (β : Type) := List (Nat × β)

end Sys2Proof
end

