-- ==== Sys2Proof/Syntax.lean ====
section
/-! DEFINITION. The commands of the IK9600 block: one constructor per row of spec/opcode_table.json, with the row's operands.

Operands that come from a host are numbers as the host writes them; those that name one of a fixed set are `Fin`. A command
of a ring carries a `CmdHdr`. An event row's operands are what the event brings (a level, a measured value, a frame). -/
namespace Sys2Proof

/-- The parts of a descriptor, or of a chain of descriptors, that every ring command has (R125, R126): the port and the command
or bulk ring it came by, its tag, whether interrupt on completion was asked, whether it is a chain, its buffers (address,
length) in order, whether the buffers' DMA transfers succeed on the link (R129), whether a reserved flag bit was set, and whether a chain is valid for
the command (R137: which chains are not, the manual leaves to the command; it states none). -/
structure CmdHdr where
  port : Fin 2
  ring : Fin 32
  tag : Nat
  ioc : Bool := false
  chained : Bool := false
  bufs : List (Nat × Nat) := []
  dmaOk : Bool := true
  flagsBad : Bool := false
  chainOk : Bool := true
deriving DecidableEq, Repr

/-- What the link does to a port's accesses (R129, R29): reads of doorbell entries and of descriptors succeed, writes of ring and shadow entries
succeed, and the host's flow control lets result buffers be written. -/
structure LinkRes where
  doorbell : Bool := true
  desc : Bool := true
  entry : Bool := true
  flow : Bool := true
deriving DecidableEq, Repr

/-- A port's link as it has come up (R106, R107): the address its host gave BAR0 and BAR1, the trained width in lanes, and the rate (1 to 4 for 2.5, 5, 8
and 16 GT/s). -/
structure LinkUp where
  bar : Nat := 0
  width : Nat := 4
  rate : Nat := 4
deriving DecidableEq, Repr

/-- What Proof finds on one tile (R98, R99): its location code, the tests failed, the spare rows used, and whether no test ran. A tile that is not
listed has passed without repairs. -/
structure ProofEntry where
  loc : Nat
  failed : Nat := 0
  repairs : Nat := 0
  notRun : Bool := false
deriving DecidableEq, Repr

/-- What the Proof steps find (R93 to R95): the findings on tiles, the engines whose active image's signature fails
(R19's order: 0–3 AC, 4–6 LE, 7–9 CL, 10–11 SQ, 12 TS, 13–16 MD, 17 AQ, 18–19 BE, 20 TE, 21 KE, 22 BT), whether a loop or CLP
image signature fails, the lanes outvoted in step 11 and whether no two lanes were equal there, a key tree fault, and the time
from t0 to the verdict in µs. -/
structure ProofResult where
  entries : List ProofEntry := []
  imageFail : List Nat := []
  loopClpImageFail : Bool := false
  outvoted : List Nat := []
  noTwoEqual : Bool := false
  keyTreeFault : Bool := false
  cryptoFault : Bool := false
  portFault : List Nat := []
  durationUs : Nat := 0
deriving DecidableEq, Repr

/-- What the integrity witness's words show (R145, R146): the 64-bit pattern is intact, the CRC-32 of the static state matches, no word has a parity
error, and by how many counts the two copies of the RTC counter differ. -/
structure Witness where
  pattern : Bool := true
  crc : Bool := true
  parity : Bool := true
  rtcDiff : Nat := 0
deriving DecidableEq, Repr

/-- An AVSBus command (R65). -/
inductive AvsCmd where
  | voltWrite (mv : Nat)
  | voltRead
  | currentRead
  | tempRead
  | statusRead
deriving DecidableEq, Repr

/-- What an engine's access aims at (R20): the private memory of an engine, a Bench table, or the hardware blocks of an island. -/
inductive EngineTarget where
  | privMem (e : Fin 24)
  | bench (t : Nat)
  | hw (island : Fin 14)
deriving DecidableEq, Repr

/-- What a detector found, where the raise depends on it: an access of an engine (R20), a Bench table whose body check fails (R30), correctable errors
counted in the hour (R495). -/
inductive DetFinding where
  | plain
  | access (engine : Fin 24) (target : EngineTarget) (write : Bool)
  | body (t : Fin 256)
  | errors (n : Nat)
deriving DecidableEq, Repr

/-- A clock's data set as an Announce gives it (R181): currentUtcOffset, grandmaster priority1, clockClass, clockAccuracy,
offsetScaledLogVariance, priority2 and identity, stepsRemoved, and the sender's clock identity. -/
structure AnnSet where
  utc : Nat := 0
  prio1 : Nat
  cls : Nat
  acc : Nat
  var : Nat
  prio2 : Nat
  gm : Nat
  steps : Nat := 0
  sender : Nat := 0
deriving DecidableEq, Repr

/-- The header of a PTP message: domainNumber, the transport it came by (0 Ethernet, 1 UDP/IPv4, 2 UDP/IPv6), sequenceId (R181). -/
structure PtpHdr where
  dnum : Nat
  tr : Fin 3 := 0
  seq : Nat := 0
deriving DecidableEq, Repr

/-- A UDP datagram of Tyrid (R230): the station's IP address (its source when received; its destination when sent, none for a broadcast), its source
and destination ports, and its bytes. -/
structure Datagram where
  ip : Option Nat := none
  sport : Nat := 47700
  dport : Nat := 47700
  data : List Byte
deriving DecidableEq, Repr

/-- A frame that the application cores send: the transmit stamp they ask for, by messageType, domainNumber and sequenceId (R186, R189). -/
structure AppFrame where
  stamp : Option (Fin 16 × Fin 256 × Fin 65536) := none
deriving DecidableEq, Repr

/-- A received Ethernet frame, as the MAC classifies it (R172, R174, R181). -/
inductive EthKind where
  /-- A PTP Announce. -/
  | announce (m : PtpHdr) (a : AnnSet)
  /-- A PTP Delay_Req, or Pdelay_Req when `peer`. -/
  | delayReq (m : PtpHdr) (peer : Bool)
  /-- A PTP Delay_Resp: the master's receive time in ns, and whether it answers this port's own request. -/
  | delayResp (m : PtpHdr) (rxNs : Nat) (own : Bool)
  /-- A PTP Pdelay_Resp: the responder's receive time in ns and, one-step, its transmit time; whether it answers this port's own request. -/
  | pdelayResp (m : PtpHdr) (rxNs : Nat) (txNs : Option Nat) (own : Bool)
  /-- The Follow_Up of a two-step Pdelay_Resp: the responder's transmit time in ns. -/
  | pdelayFollowUp (m : PtpHdr) (txNs : Nat) (own : Bool)
  /-- A PTP management message. -/
  | ptpManagement
  /-- Another PTP message. -/
  | ptp
  /-- A UDP datagram to a Tyrid port (R230). -/
  | tyrid (g : Datagram)
  /-- A frame of the management services, with the frame that the application cores send on it, if any. -/
  | mgmt (answer : Option AppFrame)
  | diag
  /-- An ARP request for an IPv4 address. -/
  | arp (ip : Nat)
  /-- An IPv6 neighbour solicitation for an address. -/
  | solicit (ip : Nat)
  /-- An IEEE 802.3 pause frame, in pause quanta. -/
  | pause (quanta : Nat)
  | other
deriving DecidableEq, Repr

/-- A received frame: kind, length in bytes, destination MAC address (R171), the identifier of its VLAN tag, whether the checksums the MAC tests are
right, and its PRP trailer: source address, LanId (true: LAN A's 0xA) and sequence number. -/
structure EthFrame where
  kind : EthKind
  len : Nat
  dst : Nat := 0xFFFFFFFFFFFF
  vlan : Option Nat := none
  sumOk : Bool := true
  prp : Option (Nat × Bool × Nat) := none
deriving DecidableEq, Repr

/-- A Sync message (R183, R187): its header, and its origin time plus corrections in ns. It is stamped when it is received. -/
structure PtpSync where
  originNs : Nat
  tr : Fin 3 := 0
  seq : Nat := 0
deriving DecidableEq, Repr

/-- A CAN frame (R199, R208, R209): identifier with the base in bits 28–18 and the extension in bits 17–0. -/
structure CanFrame where
  id : Nat
  ide : Bool := false
  rtr : Bool := false
  fdf : Bool := false
  brs : Bool := false
  esi : Bool := false
  dlc : Nat := 0
  data : List Byte := []
deriving DecidableEq, Repr

/-- Where in a frame an error came: in the arbitration field; after it but before the FDF-to-res edge; between that edge and the data phase; in the data
phase of a frame with BRS; after it (R205, R213, R214). A classical frame has `early` up to its end. -/
inductive CanPlace where
  | arb
  | early
  | edge
  | data
  | tail
deriving DecidableEq, Repr

/-- How a transmission attempt ends (R212, R214): success, lost arbitration, or an error with its code and place; `more` counts what came after it of
what the standard gives a transmitter 8 of TEC for each: a bit error while it sent an active error flag or an overload flag, and each run of dominant
bits after one. -/
inductive CanEnd where
  | success (more : Nat)
  | lostArb
  | error (code : Fin 7) (place : CanPlace) (more : Nat)
deriving DecidableEq, Repr

/-- How a Tyrid PDU of a station reaches the controller (R228 to R230): as the CAN frames of its segments on a channel, in the order received, or in a
datagram received on an Ethernet port. -/
inductive PduIn where
  | can (chan : Fin 16) (frames : List CanFrame)
  | udp (q : Fin 6) (g : Datagram)
deriving DecidableEq, Repr

/-- Where a PDU comes from or goes to: the transport, the CAN channel or Ethernet port, and the station's IP address (R229, R230, R232). -/
structure PduSrc where
  udp : Bool := false
  chan : Nat := 0
  ip : Nat := 0
deriving DecidableEq, Repr

/-- A loop's binding in a loop program image (R393, R394, R426). -/
structure LoopBind where
  cls : Fin 8 := 0
  dir : Bool := false
  ffEn : Bool := false
  cas : Bool := false
  master : Nat := 0
  pv : Nat := 0
  out : Nat := 0
  ff : Nat := 0
  ilkEn : Bool := false
  ilkBit : Nat := 0
deriving DecidableEq, Repr

/-- A CLP program image (R443): identifier, data layout, WC_TICKS, code, presets, initial data words, unforceable items (space, address). -/
structure ClpImage where
  id : Nat := 0
  dataId : Nat := 0
  wc : Nat := 0
  code : List Nat := []
  pt : List (Nat × Nat) := []
  pv : List (Nat × Nat) := []
  dw0 : List (Nat × Nat) := []
  unforce : List (Nat × Nat) := []
deriving DecidableEq, Repr

/-- An item of a publication that a lane's fault changed on its way (R464): word or bit, address, and the value as it arrives. -/
structure PubUpset where
  word : Bool
  addr : Nat
  val : Nat
deriving DecidableEq, Repr

/-- What a part's payload stands for, where the manual gives its content and no byte layout (R549; log 42): firmware with the settings formats it
expects of units 0 to 15, if it is the boot firmware; a loop program; a CLP program; CLP retentive data; an AQ sequence as entry, CFG and TIM words;
settings as BAR0 address and value. The payload's own bytes say the rest (kinds 0x30 to 0x32). -/
inductive PartContent where
  | none
  | firmware (fmts : Option (List Nat))
  | loops (l : List (Nat × LoopBind))
  | clp (img : ClpImage)
  | clpData (m dw ctr : List (Nat × Nat))
  | seq (l : List (Nat × Nat × Nat))
  | settings (l : List (Nat × Nat))
deriving DecidableEq, Repr

/-- A part as UPD_CLOSE finds it: whether its firmware seal is valid (R549), and what its payload stands for. -/
structure PartIn where
  sealOk : Bool := true
  content : PartContent := .none
deriving DecidableEq, Repr

/-- A command of the block. -/
inductive Instr where
  /-- BAR0_WRITE (R595): A BAR0 write to a register that has no row of its own acts field by field by access code, or is ignored and counted. -/
  | bar0Write (p : Fin 2) (addr size v : Nat)
  /-- LOW_WORD_READ (R4): A read of the low word of a 64-bit quantity returns it and loads the reading port's shadow with the high word of the same instant. -/
  | lowWordRead (p : Fin 2) (addr size : Nat)
  /-- CLEAR_ON_READ (R7): A read of a register holding RC fields returns them and clears them, keeping a set that coincides with the read. -/
  | clearOnRead (p : Fin 2) (addr size : Nat)
  /-- KICK (R121): A write of a ring number to HOST.KICK starts a read of that ring's doorbell entry within 200 ns, or is ignored and counted. -/
  | kick (p : Fin 2) (v : Nat) (link : LinkRes)
  /-- LOCK (R113): Writing 1 to GLB.LOCK.LOCK starts the commit of every RWL field to eMRAM with BUSY set. -/
  | lock (p : Fin 2)
  /-- LOCK_COMMIT_END (R113): The lock commit ends, setting LOCK or COMMIT_ERR and raising EV6. -/
  | lockCommitEnd (ok : Bool)
  /-- ISL_CTRL_EN (R69): A write of PWR.ISL_CTRL[n].EN before lock requests an island on or off under R71 to R73. -/
  | islCtrlEn (p : Fin 2) (n : Fin 14) (v : Nat)
  /-- RING_EN_SET (R123): Setting HOST.RING[n].CFG.EN starts a stopped ring if its configuration passes the start test, else ERROR. -/
  | ringEnSet (p : Fin 2) (n : Fin 32) (v : Nat)
  /-- RING_EN_CLEAR (R123): Clearing HOST.RING[n].CFG.EN moves a running ring to STOPPING. -/
  | ringEnClear (p : Fin 2) (n : Fin 32) (v : Nat)
  /-- CAN_EN_WRITE (R201): A write of CAN[n].CTRL.EN before lock starts or stops a channel. -/
  | canEnWrite (p : Fin 2) (n : Fin 16) (v : Nat)
  /-- SAR_EN_WRITE (R255): A write of PIO.SAR[k].CTRL.EN before lock starts or stops a SAR. -/
  | sarEnWrite (p : Fin 2) (k : Fin 2) (v : Nat)
  /-- SESS_EN_WRITE (R235): A write of a session's EN before lock switches the session on or starts its stop with LEAVE. -/
  | sessEnWrite (p : Fin 2) (n : Fin 4096) (v : Nat)
  /-- CLP_EN_WRITE (R451): A write of CLP.CFG.EN before lock stops or runs the CLP. -/
  | clpEnWrite (p : Fin 2) (v : Nat)
  /-- PORT_EN_WRITE (R173): A write of ETH.PORT[p].CFG.EN before lock requests an Ethernet port on or off. -/
  | portEnWrite (p : Fin 2) (q : Fin 6) (v : Nat)
  /-- PART_EN_WRITE (R388): A write of SOLV.PART[p].CTRL.EN before lock stops or enables a solver partition. -/
  | partEnWrite (port : Fin 2) (p : Fin 2) (v : Nat)
  /-- HEAT_EN_CLEAR (R325): Clearing a heat meter's EN closes its interval record at once with length 0. -/
  | heatEnClear (p : Fin 2) (m : Fin 256) (v : Nat)
  /-- CTT_CFG_WRITE (R287): A write to METER.CTT[t].CFG copies the shadow points to the active table at the next window boundary, or sets CFG_ERR. -/
  | cttCfgWrite (p : Fin 2) (t : Fin 32) (v : Nat)
  /-- PPS_TARGET_WRITE (R191): A write of a compare target that is not in the future fires the pulse at once with LATE set. -/
  | ppsTargetWrite (p : Fin 2) (k : Fin 2) (v : Nat)
  /-- LOOP_CTX_WRITE (R416): A BAR0 write to a loop context before lock is checked and scheduled at an effective sample on all lanes, or refused with COEF_REFUSED. -/
  | loopCtxWrite (p : Fin 2) (addr v : Nat)
  /-- RTC_LO_READ (R150): Reading CRUST.RTC_LO latches RTC_HI, CAL0 and CAL1 from the same sub-second count. -/
  | rtcLoRead (p : Fin 2)
  /-- SVC_SEC_LO_READ (R198): Reading TIME SVC_SEC_LO latches SVC_SEC_HI, SVC_NS and SVC_FRAC for that port. -/
  | svcSecLoRead (p : Fin 2)
  /-- CAP_SEC_LO_READ (R198): Reading CAP_SEC_LO removes the oldest trigger capture and latches CAP_SEC_HI and CAP_NS. -/
  | capSecLoRead (p : Fin 2) (k : Fin 2)
  /-- SNAP_READ (R296): Reading SNAP[r] latches WRAPCNT[r] for the next read from the same port. -/
  | snapRead (p : Fin 2) (f : Fin 16) (r : Fin 8)
  /-- CUR_SEQ_WRITE (R514): A write to EVR.CUR_SEQ moves the recorder window cursor and sets or clears LATE. -/
  | curSeqWrite (p : Fin 2) (v : Nat)
  /-- AREA_WRITE (R514): A write of EVR.CUR.AREA selects the recorder area and sets or clears LATE. -/
  | areaWrite (p : Fin 2) (v : Nat)
  /-- NEXT (R514): Writing 1 to EVR.CUR.NEXT advances the window past its eight slots. -/
  | next (p : Fin 2) (v : Nat)
  /-- MPG_RISE (R90): MPG rises with VAUX33 present, causing a cold reset from STANDBY to PROOF. -/
  | mpgRise (testmode : Bool)
  /-- STRAP_SAMPLING (R45): The straps are sampled eight times from 100 µs after t0 and latched into GLB.STRAP. -/
  | strapSampling (samples : List Nat) (safeOk : Bool)
  /-- PROOF_START (R93): Proof starts and runs its self-test steps towards a verdict. -/
  | proofStart (w : Witness)
  /-- PROOF_VERDICT (R95): Proof reaches its verdict, writes the report and enters RUN or RACK. -/
  | proofVerdict (r : ProofResult)
  /-- PROOF_DEADLINE (R92): CS finds no verdict by the Proof deadline and issues a PROOF_HANG warm reset or holds the control die. -/
  | proofDeadline
  /-- MPG_FALL (R52): MPG falls and every control-die output goes to its reset state, the device entering STANDBY. -/
  | mpgFall
  /-- WRST_N (R52): WRST_N is held low for at least 10 µs while MPG is high, causing a device warm reset. -/
  | wrstN (lowNs : Nat) (mpgToo : Bool)
  /-- PFAIL_N_FALL (R51): A falling edge on PFAIL_N starts the Crust last-gasp log, the recorder flush and the metering and CLP checkpoints. -/
  | pfailNFall (mpgToo : Bool)
  /-- PERST_ASSERT (R88): PERST0_N or PERST1_N is asserted, resetting that port's link and configuration space. -/
  | perstAssert (p : Fin 2)
  /-- PERST_RELEASE (R580): PERST is released and link training starts once t0 plus 120 ms has passed. -/
  | perstRelease (p : Fin 2)
  /-- PORT_GONE (R138): A port's link goes down, PERST, FLR, BME clear or D3hot makes the port gone, stopping its rings and passing its blocks. -/
  | portGone (p : Fin 2) (cause : Fin 6)
  /-- PORT_RETURN (R139): A gone port returns with its rings and routing at reset values and EV3 raised at the other port. -/
  | portReturn (p : Fin 2) (up : LinkUp)
  /-- HOST_HEARTBEAT_CHECK (R122): Every 100 ms the controller reads the host heartbeat and treats the port as gone after HB_TIMEOUT without change. -/
  | hostHeartbeatCheck (p : Fin 2)
  /-- VAUX33_FALL (R142): VAUX33 falls below range and the Crust switches to VBAT within 2 µs. -/
  | vaux33Fall
  /-- CRUST_SWITCH_BACK (R142): VAUX33 has been in range for 1 ms; the Crust switches back and checks its witness. -/
  | crustSwitchBack (w : Witness)
  /-- CRUST_POWER_UP (R146): The Crust die powers up after both supplies were absent and checks its witness before anything else. -/
  | crustPowerUp (vaux : Bool) (w : Witness)
  /-- CRUST_POWER_LOSS (R90): VAUX33 and VBAT are both absent and the device goes OFF. -/
  | crustPowerLoss (cutUpdate : Bool)
  /-- BAT_LEVEL_CHANGE (R144): VBAT crosses 2.2 V or 2.0 V, changing BAT_LOW or BAT_ABSENT and raising EV19. -/
  | batLevelChange (mv : Nat)
  /-- LOW_RET_LATCH (R145): The retention detector latches LOW_RET when the Crust supply falls below 1.6 V. -/
  | lowRetLatch
  /-- SCRUB (R148): Once per second CS scrubs Crust parity and declares a loss on an error. -/
  | scrub (parityError : Bool)
  /-- RAIL_OUT_OF_RANGE (R61): A main rail leaves its range and the rail monitor acts for its rail class. -/
  | railOutOfRange (r : Fin 12) (order : Bool)
  /-- RAIL_RECOVERY (R61): All rails have been in range for the required time and the device or island restarts. -/
  | railRecovery (rails : Nat)
  /-- CLOCK_LOST (R75): A clock input is absent or more than 1 % off frequency and the input's loss reaction applies. -/
  | clockLost (n : Fin 8)
  /-- REFCLK_RECOVERY (R75): After 10 ms of valid REFCLK, CS releases a device warm reset. -/
  | refclkRecovery
  /-- CAN_CLK_RECOVERY (R203): After 1 ms of valid CAN_CLK every enabled channel starts. -/
  | canClkRecovery
  /-- PLL_LOCK_LOST (R76): A PLL loses lock and its loss reaction applies. -/
  | pllLockLost (pll : Fin 7) (locked : Bool)
  /-- THERMAL_TRIP (R86): The trip comparator signals CS, which applies the SAFE path and cuts power to islands 1 to 8 and 10 to 13. -/
  | thermalTrip
  /-- THERMAL_READ (R81): Every 10 ms the thermal manager reads the twelve sensors and acts on the hottest. -/
  | thermalRead (temps : List Int)
  /-- THROTTLE_STEP (R83): A throttle step is taken or undone after its 2 s or 10 s interval. -/
  | throttleStep
  /-- AVS_COMMAND (R65): The IK9600 sends an AVSBus command to the VDDC regulator and takes its answer. -/
  | avsCommand (c : AvsCmd) (answer : Option Nat)
  /-- ISLAND_POWER (R132): Command switching an island on or off, with a return time for HOST. -/
  | islandPower (h : CmdHdr) (isl on ret : Nat)
  /-- ISLAND_STOP_END (R70): An island completes STOPPING and is OFF, starting its minimum off time. -/
  | islandStopEnd (n : Fin 14)
  /-- ISLAND_START_END (R70): An island completes STARTING and is ON, acting on any waiting off request. -/
  | islandStartEnd (n : Fin 14)
  /-- ISLAND_MINOFF_END (R71): An island's minimum off time ends and a latched enable starts it. -/
  | islandMinoffEnd (n : Fin 14)
  /-- HOST_RETURN_TIMER (R21): The HOST return time ends and the HOST island powers on by itself. -/
  | hostReturnTimer
  /-- ACTION_DELAY_END (R132): 100 µs after its completion, a warm reset, retry-Proof or HOST off action begins. -/
  | actionDelayEnd
  /-- NOP (R130): Device command that does nothing. -/
  | nop (h : CmdHdr)
  /-- REG_READ (R130): Device command reading up to five BAR0 offsets. -/
  | regRead (h : CmdHdr) (count : Nat) (offs : List Nat)
  /-- CFG_WRITE (R131): Device command writing up to five registers whole or not at all, committed to eMRAM. -/
  | cfgWrite (h : CmdHdr) (count : Nat) (pairs : List (Nat × Nat))
  /-- STATE_CMD (R132): Device command for Keep-Warm entry or exit, warm reset or retry-Proof. -/
  | stateCmd (h : CmdHdr) (action : Nat)
  /-- START_POLICY (R96): Device command writing DEGRADED_RUN to eMRAM. -/
  | startPolicy (h : CmdHdr) (v : Nat)
  /-- BENCH_READ (R132): Device command reading a Bench table under a read lease. -/
  | benchRead (h : CmdHdr) (table : Nat)
  /-- BENCH_WRITE (R132): Device command publishing a host-produced Bench table. -/
  | benchWrite (h : CmdHdr) (table : Nat)
  /-- UNLOCK (R114): Device command returning GLB.LOCK to 0 with a maintenance grant. -/
  | unlock (h : CmdHdr)
  /-- RING_SETUP (R132): HOST command configuring and starting a ring of the sending port. -/
  | ringSetup (h : CmdHdr) (ring kind log2size cring vector modCount modTime epoch base : Nat)
  /-- RING_STOP (R123): HOST command moving a ring of the sending port to STOPPING. -/
  | ringStop (h : CmdHdr) (ring : Nat)
  /-- ROUTE_SET (R134): HOST command writing event routing entries of the sending port. -/
  | routeSet (h : CmdHdr) (first count : Nat) (words : List Nat)
  /-- OWN_SET (R112): HOST command giving or claiming block write ownership. -/
  | ownSet (h : CmdHdr) (mask claim : Nat)
  /-- DOORBELL_POLL (R121): Every DB_POLL the controller reads the doorbell entries of a port's running rings and fetches descriptors. -/
  | doorbellPoll (p : Fin 2) (link : LinkRes)
  /-- MODERATION_TIMEOUT (R133): MOD_TIME has run since the first pending entry and the ring's MSI-X vector is sent. -/
  | moderationTimeout (n : Fin 32)
  /-- LEASE_EXPIRY (R29): A Bench read lease expires after 1 ms, failing the consumer's read and freeing the producer. -/
  | leaseExpiry (table : Fin 256) (buffer : Bool) (consumer : Nat)
  /-- DCQ_READER_TIMEOUT (R77): A dual-clock queue sees no read for 1 µs and raises its FCU detector. -/
  | dcqReaderTimeout (n : Fin 14)
  /-- RTC_SET (R152): TIME command setting or slewing the RTC in mode 0, 1 or 2. -/
  | rtcSet (h : CmdHdr) (mode secs : Nat)
  /-- RTC_STEP (R152): A mode 0 or 1 set takes effect at its second boundary, counted as a step and recorded. -/
  | rtcStep
  /-- CNT_INCR (R161): TIME command incrementing a monotonic counter CNT[4] to CNT[15]. -/
  | cntIncr (h : CmdHdr) (n : Nat)
  /-- TAMPER_CFG (R159): TIME command setting tamper configuration, with a grant to disarm. -/
  | tamperCfg (h : CmdHdr) (v : Nat)
  /-- ALM_FIRE (R153): The RTC seconds count reaches an alarm's NEXT_MATCH and the alarm fires per ACT. -/
  | almFire (alm : Fin 2)
  /-- COMP_STEP (R151): Every 8 s or 64 s CS measures crystal temperature and updates the RTC correction. -/
  | compStep (temp : Int)
  /-- DISCIPLINE (R152): Every 64 s of locked service time CS slews the RTC towards service time or sets DISC_LIMIT. -/
  | discipline
  /-- PON_TIMEOUT (R157): MPG does not rise within PON_TIMEOUT after a wake, so PONCTL falls and PON_FAIL is set. -/
  | ponTimeout
  /-- TAMPER_EVENT (R158): A tamper input stays active for FILT and the event is accepted, logged and its actions applied. -/
  | tamperEvent (n : Fin 4) (level : Bool) (heldNs : Nat)
  /-- CRP_READ_STATUS (R164): Crust port command 0x01 returns CRUST.STATUS. -/
  | crpReadStatus
  /-- CRP_READ_RTC (R164): Crust port command 0x02 returns RTC_LO and RTC_HI latched together. -/
  | crpReadRtc
  /-- CRP_READ_TAMP_STAT (R164): Crust port command 0x03 returns TAMP_STAT. -/
  | crpReadTampStat
  /-- CRP_READ_TAMPER_LOG (R164): Crust port command 0x04 returns the tamper log. -/
  | crpReadTamperLog
  /-- CRP_READ_COUNTERS (R164): Crust port command 0x05 returns CNT[0] to CNT[15]. -/
  | crpReadCounters
  /-- CRP_READ_IDENTITY (R164): Crust port command 0x06 returns the device identity. -/
  | crpReadIdentity
  /-- CRP_READ_LAST_GASP (R164): Crust port commands 0x10 to 0x17 return a last-gasp record. -/
  | crpReadLastGasp (code : Fin 256)
  /-- CRP_WAKE (R157): Crust port Send Byte WAKE acts as a wake source when PORT_WAKE is 1. -/
  | crpWake (pecOk : Bool)
  /-- ALERT_CLR (R163): Crust port Send Byte releasing CRP_ALERT_N. -/
  | alertClr (pecOk : Bool)
  /-- ALERT_RESPONSE (R163): A read of the SMBus Alert Response Address answers for the asserting Crust port. -/
  | alertResponse
  /-- SMBUS_TIMEOUT (R583): SCL held low for 25 to 35 ms resets the Crust port interface. -/
  | smbusTimeout
  /-- DOM_SELECT (R195): TIME command setting the preferred domain and AUTO. -/
  | domSelect (h : CmdHdr) (dom auto : Nat)
  /-- PORT_ADDR (R195): TIME command setting and committing the IP addresses of the six ports. -/
  | portAddr (h : CmdHdr)
  /-- PORT_POWER (R173): TIME command switching an Ethernet port on or off. -/
  | portPower (h : CmdHdr) (port on : Nat)
  /-- TB_LOAD (R190): TIME command loading a time base counter with SRC 0. -/
  | tbLoad (h : CmdHdr) (n v : Nat)
  /-- PORT_STOP_END (R173): An Ethernet port completes STOPPING and is OFF. -/
  | portStopEnd (q : Fin 6)
  /-- PORT_START_END (R173): An Ethernet port completes STARTING and is ON. -/
  | portStartEnd (q : Fin 6)
  /-- PORT_MINOFF_END (R173): A port's 1 ms minimum off time ends and a latched enable starts it. -/
  | portMinoffEnd (q : Fin 6)
  /-- LINK_CHANGE (R173): An Ethernet link goes up or down and EV32 is raised. -/
  | linkChange (q : Fin 6) (up : Bool) (speed : Fin 3)
  /-- FRAME_RX (R172): An Ethernet frame is received, stamped and passed to its role or dropped and counted. -/
  | frameRx (q : Fin 6) (f : EthFrame)
  /-- PTP_SYNC_RX (R183): A Sync message is received and the domain servo steps or slews and updates its state. -/
  | ptpSyncRx (dom : Fin 2) (q : Fin 6) (m : PtpSync)
  /-- ANNOUNCE_TIMEOUT (R183): Announce receipt timeout puts a domain into HOLDOVER. -/
  | announceTimeout (dom : Fin 2) (q : Fin 6)
  /-- SYNC_TIMEOUT (R183): No Sync arrives for 4 Sync intervals and the domain enters HOLDOVER. -/
  | syncTimeout (dom : Fin 2)
  /-- PTP_TX_INTERVAL (R181): A profile interval ends and TE sends Sync, Announce or Pdelay_Req. -/
  | ptpTxInterval (dom : Fin 2) (q : Fin 6) (kind : Fin 4)
  /-- TXTS_STALE (R189): A transmit timestamp entry not taken within 1 s is discarded and counted. -/
  | txtsStale (q : Fin 6)
  /-- PRP_SUPERVISION (R174): Every LIFE_MS a PRP pair sends supervision frames. -/
  | prpSupervision (pair : Fin 2)
  /-- PRP_LAN_TIMEOUT (R174): No frame on a LAN for 3 × LIFE_MS marks it failed and raises EV33. -/
  | prpLanTimeout (pair : Fin 2) (lanB : Bool)
  /-- REVERT_TIMER (R184): PREF has been LOCKED for 60 s with REVERT 1 and service time returns to it. -/
  | revertTimer
  /-- HOLD_VALID_EXPIRY (R178): HOLD_VALID seconds pass in HOLDOVER and service time VALID becomes 0. -/
  | holdValidExpiry
  /-- TEMPOS_START (R179): At the first whole second after lock or ACQ_WAIT, TEMPOS_RUN is set and the tempos start. -/
  | temposStart
  /-- TRIG_CAPTURE (R191): A selected edge on TIME_TRIG is captured in service time and EV31 raised, or counted in OVF. -/
  | trigCapture (k : Fin 2) (rise : Bool)
  /-- PPS_PULSE (R191): In per-second mode a PPS output rises at each whole second of its source. -/
  | ppsPulse (k : Fin 2)
  /-- PPS_COMPARE (R191): In compare mode service time reaches the target and one pulse is given. -/
  | ppsCompare (k : Fin 2)
  /-- DIAG_BAR0_READ (R193): Diagnostic request kind 1 returns BAR0 register contents. -/
  | diagBar0Read (q : Fin 6) (ident off len : Nat)
  /-- DIAG_PROOF_REPORT (R193): Diagnostic request kind 2 returns the Proof report. -/
  | diagProofReport (q : Fin 6) (ident off len : Nat)
  /-- DIAG_FAULT_RECORDS (R193): Diagnostic request kind 3 returns fault records. -/
  | diagFaultRecords (q : Fin 6) (ident first len : Nat)
  /-- DIAG_RECORDER_RECORDS (R193): Diagnostic request kind 4 returns recorder records from a sequence. -/
  | diagRecorderRecords (q : Fin 6) (ident seq len : Nat)
  /-- DIAG_CRUST_STATUS (R193): Diagnostic request kind 5 returns the Crust status. -/
  | diagCrustStatus (q : Fin 6) (ident off len : Nat)
  /-- CAN_POWER (R224): FIELD command switching a channel off, on, to sleep or waking it. -/
  | canPower (h : CmdHdr) (ch action : Nat)
  /-- CAN_TX (R224): FIELD command setting TXREQ on a host transmit object, optionally waiting for the outcome. -/
  | canTx (h : CmdHdr) (ch obj dlc flags : Nat) (inline : List Byte)
  /-- CAN_CANCEL (R213): FIELD command cancelling a pending transmission according to where its frame stands. -/
  | canCancel (h : CmdHdr) (ch obj : Nat) (phase : Fin 3)
  /-- CAN_RX_READ (R224): FIELD command returning new frames of a range of objects and clearing NEWDAT. -/
  | canRxRead (h : CmdHdr) (ch first count : Nat)
  /-- CAN_HPB_READ (R210): FIELD command removing frames from the high-priority buffer. -/
  | canHpbRead (h : CmdHdr) (ch : Nat)
  /-- CAN_RESUME (R216): FIELD command resuming suspended objects and setting ACK_RUN to 0. -/
  | canResume (h : CmdHdr) (ch : Nat)
  /-- CAN_BO_RECOVER (R215): FIELD command starting bus-off recovery when BO_WAIT is set. -/
  | canBoRecover (h : CmdHdr) (ch : Nat)
  /-- CAN_START_END (R201): A starting or waking channel completes STBY_DLY and integration and becomes ACTIVE. -/
  | canStartEnd (n : Fin 16)
  /-- CAN_STOP_END (R202): A stopping channel's frame ends and it enters OFF, clearing TXREQ with TXERR. -/
  | canStopEnd (n : Fin 16)
  /-- CAN_STOP_TIMEOUT (R202): Own transmission not ended 2 ms after a stop; CAN_TXD is released recessive. -/
  | canStopTimeout (n : Fin 16)
  /-- CAN_MINOFF_END (R202): A channel's minimum off time ends and a latched enable starts it. -/
  | canMinoffEnd (n : Fin 16)
  /-- CAN_FRAME_RX (R208): A frame received without error is tested against filters and stored, buffered or lost. -/
  | canFrameRx (n : Fin 16) (f : CanFrame) (age : Nat)
  /-- CAN_TX_END (R212): A transmission attempt ends in success, error or lost arbitration with its outcome. -/
  | canTxEnd (n : Fin 16) (r : CanEnd) (tdcv age : Nat)
  /-- BUSOFF_RECOVERY_END (R215): 128 occurrences of 11 recessive bits end recovery and the channel returns to ACTIVE. -/
  | busoffRecoveryEnd (n : Fin 16)
  /-- SLEEP_ENTRY (R217): At the next bus idle after an accepted sleep request the channel enters SLEEP. -/
  | sleepEntry (n : Fin 16)
  /-- CAN_WAKE (R218): CAN_RXD low for WAKE_FILT in WAKE_MODE 1 wakes the channel. -/
  | canWake (n : Fin 16)
  /-- SESS_CFG (R244): SESSION command writing and committing a session context. -/
  | sessCfg (h : CmdHdr) (n : Nat)
  /-- SESS_POWER (R244): SESSION command switching a session on or off. -/
  | sessPower (h : CmdHdr) (n action : Nat)
  /-- SESS_READ (R244): SESSION command returning session status records. -/
  | sessRead (h : CmdHdr) (first count : Nat)
  /-- SESS_PARAM (R244): SESSION command sending a PARAM read or write to a station. -/
  | sessParam (h : CmdHdr) (n rw len param : Nat)
  /-- SESS_BCAST (R244): SESSION command sending a rejoin or freeze broadcast. -/
  | sessBcast (h : CmdHdr) (sub cans ports : Nat)
  /-- JOIN_REQUEST (R232): A JOIN request is received and answered as accepted or refused. -/
  | joinRequest (n : Fin 4096) (p : PduIn)
  /-- POLL_SLOT (R236): A session's poll slot sends its POLL request and any pending outputs and setpoints. -/
  | pollSlot (n : Fin 4096)
  /-- POLL_RESPONSE (R234): A valid POLL response updates the inputs and the session state. -/
  | pollResponse (n : Fin 4096) (p : PduIn)
  /-- RESP_TIMEOUT (R234): RESP_TMO passes without a valid response, sending a repeat or counting a miss. -/
  | respTimeout (n : Fin 4096) (what : Fin 3)
  /-- JOIN_TIMEOUT (R234): JOIN_TMO passes in JOINING without a valid response and the session goes STALE. -/
  | joinTimeout (n : Fin 4096)
  /-- LOST_TIMEOUT (R234): LOST_TMO passes since the last valid response and a STALE session goes LOST. -/
  | lostTimeout (n : Fin 4096)
  /-- LOST_POLL (R234): Every LOST_POLL seconds a STATUS request is sent to a LOST session. -/
  | lostPoll (n : Fin 4096)
  /-- OUT_CONFIRMATION (R240): An OUT or SETPT confirmation is received and counted against the last sent image. -/
  | outConfirmation (n : Fin 4096) (p : PduIn)
  /-- ALARM_PDU (R245): An ALARM PDU is received, acknowledged at once and EV74 raised. -/
  | alarmPdu (n : Fin 4096) (p : PduIn)
  /-- STATUS_ANSWER (R241): A STATUS answer is received and its fallback duration recorded. -/
  | statusAnswer (n : Fin 4096) (p : PduIn)
  /-- PARAM_ANSWER (R244): A PARAM answer is received and completes SESS_PARAM. -/
  | paramAnswer (n : Fin 4096) (p : PduIn)
  /-- LEAVE_PDU (R235): A LEAVE received from a station puts the session into IDLE. -/
  | leavePdu (n : Fin 4096) (p : PduIn)
  /-- SESSION_STOP_END (R235): One RESP_TMO after LEAVE is sent, a stopping session enters IDLE. -/
  | sessionStopEnd (n : Fin 4096)
  /-- SESS_MINOFF_END (R235): A session's 10 ms minimum off time ends and a latched enable acts. -/
  | sessMinoffEnd (n : Fin 4096)
  /-- TIME_BROADCAST (R244): Every 10 s the controller sends a time broadcast. -/
  | timeBroadcast
  /-- ADC_INJECT (R256): ADC command running one conversion outside the sequence, or dropping it. -/
  | adcInject (h : CmdHdr) (sar cfg tim gain ofs param : Nat) (codes refs : List Int)
  /-- ADC_CAL (R265): ADC command performing a system calibration action on an entry. -/
  | adcCal (h : CmdHdr) (sar entry action ref : Nat)
  /-- SAR_SERVICE (R268): ADC command taking a SAR out or returning it. -/
  | sarService (h : CmdHdr) (sar action : Nat)
  /-- DAC_CAL (R271): ADC command writing a DAC's GAIN and OFS together. -/
  | dacCal (h : CmdHdr) (n gain ofs : Nat)
  /-- PIN_LOAD (R275): ADC command setting a pulse count at the next base tick. -/
  | pinLoad (h : CmdHdr) (n count : Nat)
  /-- SAR_PASS (R252): A SAR pass falls due and converts its due entries, handing results to the lanes. -/
  | sarPass (k : Fin 2) (convs : List (List Int × List Int))
  /-- SAR_MINOFF_END (R255): A SAR's minimum off time ends and a latched enable starts it. -/
  | sarMinoffEnd (k : Fin 2)
  /-- SAR_SELFCAL_END (R268): A taken-out SAR ends its self-calibration. -/
  | sarSelfcalEnd (k : Fin 2)
  /-- CAL_TIMEOUT (R266): An ADC calibration session open for 600 s is abandoned and EV87 raised. -/
  | calTimeout (k : Fin 2) (e : Fin 256)
  /-- INPUT_STALE_TIMEOUT (R263): An entry has no new result for its limit and its input word goes STALE. -/
  | inputStaleTimeout (k : Fin 2) (e : Fin 256)
  /-- DIO_LEVEL_CHANGE (R273): A DIO level passes its filter, enters LVL and is handed to the lanes. -/
  | dioLevelChange (n : Fin 128) (v : Bool)
  /-- DIO_MISMATCH (R274): A driven pin's level differs for FILT samples plus 20 µs, setting MISM and raising EV86. -/
  | dioMismatch (n : Fin 128)
  /-- PIN_EDGE (R275): A filtered pulse edge is counted and its stamp and rate updated. -/
  | pinEdge (n : Fin 64) (rise : Bool)
  /-- RATE_TIMEOUT (R275): No edge counts for RATE_TMO seconds and RATE returns to 0. -/
  | rateTimeout (n : Fin 64)
  /-- EXC_OPEN (R249): An excitation source misses its compliance for 20 µs and OPEN is set. -/
  | excOpen (n : Fin 16) (now : Bool)
  /-- DAC_OPEN (R271): A current-mode DAC compliance shortfall lasting 100 µs sets OPEN. -/
  | dacOpen (n : Fin 32) (now : Bool)
  /-- MTR_CAL (R310): METER command performing a channel calibration action. -/
  | mtrCal (h : CmdHdr) (ch action ref : Nat)
  /-- MTR_SERVICE (R306): METER command taking a metering DSP out or returning it. -/
  | mtrService (h : CmdHdr) (k action : Nat)
  /-- MTR_STREAM (R303): METER command directing the metering stream to a ring. -/
  | mtrStream (h : CmdHdr) (ring period fmask bmask flags : Nat)
  /-- MTR_IVL_READ (R311): METER command returning held electrical interval records. -/
  | mtrIvlRead (h : CmdHdr) (f first count : Nat)
  /-- METER_CYCLE_END (R293): A busbar cycle ends and each feeder's energy and pulse residues are accumulated. -/
  | meterCycleEnd (b : Fin 4) (cross : Option Nat)
  /-- METER_WINDOW_END (R291): A metering window ends and its quantities are formed. -/
  | meterWindowEnd (b : Fin 4)
  /-- URMS_HALF_CYCLE (R298): Each half cycle Urms(1/2) is tested for dip, swell and interruption starts and ends. -/
  | urmsHalfCycle (b : Fin 4)
  /-- METER_INTERVAL_CLOSE (R304): At each UTC multiple of IVL a feeder closes an interval record for signing. -/
  | meterIntervalClose
  /-- RECORD_SIGNING (R305): KE signs a waiting metering or heat record, or it is released unsigned. -/
  | recordSigning
  /-- METER_CHECKPOINT (R308): Every 60 s energy accumulators, residues and interval state are copied to eMRAM. -/
  | meterCheckpoint
  /-- POUT_PULSE (R299): A pulse output sends one pulse of its backlog. -/
  | poutPulse (k : Fin 32)
  /-- DTF_PULSE (R300): A test output places its next 10 µs pulse at the power-proportional frequency. -/
  | dtfPulse (k : Fin 4)
  /-- MCAL_TIMEOUT (R310): A metering calibration session open for 600 s is abandoned and EV94 raised. -/
  | mcalTimeout (c : Fin 60)
  /-- DSP_SELFTEST_END (R306): A taken-out metering DSP ends its self-test, passing or failing. -/
  | dspSelftestEnd (k : Fin 4) (pass : Bool)
  /-- CTT_TEMP_UPDATE (R288): Once per second a correction table takes its temperature. -/
  | cttTempUpdate (t : Fin 32)
  /-- HEAT_IVL_READ (R331): METER command returning held heat interval records. -/
  | heatIvlRead (h : CmdHdr) (m first count : Nat)
  /-- HEAT_BILL_READ (R331): METER command returning held heat billing records. -/
  | heatBillRead (h : CmdHdr) (m first count : Nat)
  /-- HEAT_BILL_CLOSE (R326): METER command closing billing records at once for named meters. -/
  | heatBillClose (h : CmdHdr)
  /-- HEAT_SAMPLE (R317): At each PERIOD a heat meter reads its sources and computes energy and volume. -/
  | heatSample (m : Fin 256)
  /-- HEAT_INTERVAL_CLOSE (R325): At each UTC multiple of HEAT_CFG.IVL a heat meter closes an interval record. -/
  | heatIntervalClose
  /-- BILLING_CLOSE (R326): At BILL_HOUR on BILL_DAY every running meter closes a billing record. -/
  | billingClose
  /-- MODEL_LOAD (R340): MODEL command checking a network model image and staging it after analysis. -/
  | modelLoad (h : CmdHdr)
  /-- MODEL_ANALYSIS_END (R340): The symbolic analysis of a loaded model ends and MODEL_LOAD completes. -/
  | modelAnalysisEnd
  /-- MODEL_ACTIVATE (R341): MODEL command making the staged model active at the next model tick. -/
  | modelActivate (h : CmdHdr)
  /-- MODEL_EDIT (R342): MODEL command applying edit records without new analysis. -/
  | modelEdit (h : CmdHdr) (count : Nat)
  /-- MODEL_READ (R356): MODEL command returning records of the active model. -/
  | modelRead (h : CmdHdr) (table first count : Nat)
  /-- MODEL_TICK (R23): Each whole second plus MODEL_PHASE the model tempo ticks: snapshots close and the estimator waits for its gather window. -/
  | modelTick
  /-- GATHER_END (R343): GATHER_MS after the tick the estimator takes its snapshots and starts Gauss-Newton. -/
  | gatherEnd
  /-- EST_CONVERGED (R343): The estimate converges or diverges and EST_STATE is published. -/
  | estConverged
  /-- EST_DEADLINE (R344): DEADLINE_MS after the tick the estimate is published as at the deadline. -/
  | estDeadline (done : Nat) (thermal : Bool)
  /-- TDE_STEP (R349): TS runs one transport step on EST_STATE publication or after WAIT and publishes TDE_PRED. -/
  | tdeStep
  /-- PLAN_WAIT_EXPIRY (R378): TDE_PRED is not published within PLAN_WAIT and D's take is made. -/
  | planWaitExpiry
  /-- F_TAKE (R378): At each 100 ms tick partition F takes and starts its cycle. -/
  | fTake
  /-- PARTITION_DELIVERY (R382): A partition's cycle converges or is ill-posed and it publishes DISP_TRAJ or FAST_SOL. -/
  | partitionDelivery (p : Fin 2)
  /-- SOLVE_DEADLINE (R379): A partition reaches its deadline or ITER_MAX and delivers EARLY, DAYOLD or NO_SOLUTION. -/
  | solveDeadline (p : Fin 2) (done : Nat)
  /-- PART_SET (R372): SOLV command changing tiles, SRAM and bandwidth shares. -/
  | partSet (h : CmdHdr) (tiles sram : List Nat) (bwE bwF : Nat)
  /-- PART_SET_APPLY (R372): The partitions a PART_SET alters are idle and the change is made. -/
  | partSetApply
  /-- STRUCT_LOAD (R364): SOLV command checking a structure image and staging it. -/
  | structLoad (h : CmdHdr) (p : Nat)
  /-- STRUCT_ANALYSIS_END (R364): The ordering and tree computation of a structure load ends and the load completes. -/
  | structAnalysisEnd (p : Fin 2)
  /-- STRUCT_ACTIVATE (R365): SOLV command making the staged structure active at the partition's next take. -/
  | structActivate (h : CmdHdr) (p : Nat)
  /-- SOLV_DELTA (R366): SOLV command accepting a delta set as pending for a structure. -/
  | solvDelta (h : CmdHdr) (p id : Nat)
  /-- SOLV_CTRL (R388): SOLV command switching a partition off or on or discarding its warm start. -/
  | solvCtrl (h : CmdHdr) (p action : Nat)
  /-- SOLV_READ (R389): SOLV command returning binary64 solution values. -/
  | solvRead (h : CmdHdr) (p what first count : Nat)
  /-- SD_MAP (R383): SOLV command loading the Setpoint Distributor map. -/
  | sdMap (h : CmdHdr) (count : Nat)
  /-- SD_ROUND (R384): Within 2 ms of a D or F publication the Distributor computes targets, issues setpoints and publishes SETPT. -/
  | sdRound
  /-- RAMP_ISSUE (R385): At each whole multiple of RAMP_MS the Distributor issues ramped setpoints towards their targets. -/
  | rampIssue
  /-- LOOP_MODE (R406): LOOP command changing a loop's mode or setpoint source at an effective sample. -/
  | loopMode (h : CmdHdr) (n mode src : Nat)
  /-- LOOP_SP (R409): LOOP command setting the local setpoint. -/
  | loopSp (h : CmdHdr) (n v : Nat)
  /-- LOOP_MANUAL (R404): LOOP command setting MAN_OUT. -/
  | loopManual (h : CmdHdr) (n v : Nat)
  /-- LOOP_COEF (R418): LOOP command changing coefficients whole or not at all, committed to eMRAM. -/
  | loopCoef (h : CmdHdr) (n : Nat)
  /-- LOOP_LIMITS (R419): LOOP command changing limits in every mode, committed to eMRAM. -/
  | loopLimits (h : CmdHdr) (n : Nat)
  /-- LOOP_FORCE (R414): LOOP command forcing or releasing a loop's published output. -/
  | loopForce (h : CmdHdr) (n on v : Nat)
  /-- LOOP_READ (R423): LOOP command returning loop contexts. -/
  | loopRead (h : CmdHdr) (n count : Nat)
  /-- LOOP_SAMPLE (R403): A lane's sample timer starts a sample of a class and its loops are evaluated and published. -/
  | loopSample (l : Fin 3) (c : Fin 8) (late : Bool)
  /-- LANE_REQ (R472): LANES command asking CS to isolate or re-admit a lane. -/
  | laneReq (h : CmdHdr) (lane action : Nat)
  /-- SAFE_CMD (R470): LANES command applying or releasing the SAFE path. -/
  | safeCmd (h : CmdHdr) (v : Nat)
  /-- LANE_LOG_READ (R477): LANES command returning disagreement log records. -/
  | laneLogRead (h : CmdHdr) (first count : Nat)
  /-- LANE_PUBLICATION (R460): A lane's publication reaches the Output Gate, opening or joining a vote window and driving decided outputs. -/
  | lanePublication (l : Fin 3) (upsets : List PubUpset)
  /-- VOTE_WINDOW_CLOSE (R461): VOTE_WIN after its opening a vote window closes and each item takes its voted value. -/
  | voteWindowClose (src : Fin 9)
  /-- CS_ARBITRATION (R464): CS receives a finding record and decides isolation, strikes or the SAFE path. -/
  | csArbitration (late : Option (Fin 3))
  /-- OFFSET_CHECK (R459): Every second CS measures each lane's tick offset and isolates a lane beyond PHASE_MAX. -/
  | offsetCheck (offs : List Int)
  /-- READMIT_STARTING_END (R472): A re-admitted lane's island start and loading end and SELFTEST begins. -/
  | readmitStartingEnd
  /-- READMIT_SELFTEST_END (R472): A re-admitted lane's self-test ends and MIRRORING begins. -/
  | readmitSelftestEnd
  /-- MIRROR_CHECKPOINT (R473): A source CLP cycle publishing early enough is checkpointed and copied, and SHADOW begins. -/
  | mirrorCheckpoint
  /-- MIRROR_TIMEOUT (R473): No suitable checkpoint within 1,000 cycles fails the re-admission. -/
  | mirrorTimeout
  /-- SHADOW_END (R474): SHADOW ends and the lane is voted, or the re-admission fails. -/
  | shadowEnd
  /-- LANE_STAT_PUBLICATION (R478): Every 100 ms the Output Gate publishes LANE_STAT. -/
  | laneStatPublication
  /-- CLP_FORCE (R444): CLP command setting or releasing a force on an I, Q, IW or QW item. -/
  | clpForce (h : CmdHdr) (action space addr v : Nat)
  /-- CLP_FORCE_ALL (R454): CLP command releasing every CLP force. -/
  | clpForceAll (h : CmdHdr)
  /-- CLP_RUN (R451): CLP command stopping or running the CLP. -/
  | clpRun (h : CmdHdr) (action : Nat)
  /-- CLP_DATA (R452): CLP command writing a marker, data word or counter value on every lane. -/
  | clpData (h : CmdHdr) (space addr v : Nat)
  /-- CLP_READ (R454): CLP command returning a consistent set of CLP items. -/
  | clpRead (h : CmdHdr) (area first count : Nat)
  /-- CLP_CYCLE (R433): At S_k a lane snapshots its inputs, runs the program to END and publishes its output image. -/
  | clpCycle (l : Fin 3) (late : Bool)
  /-- CLP_WATCHDOG (R434): A program not at END by WD_MULT × P halts the lane's CLP. -/
  | clpWatchdog (l : Fin 3)
  /-- RETENTIVE_COPY (R431): Every 10 s the retentive CLP ranges are copied to eMRAM. -/
  | retentiveCopyEv
  /-- CLP_MINOFF_END (R451): The CLP's 1 ms minimum off time ends and a latched enable acts. -/
  | clpMinoffEnd
  /-- NOP_INSTR (R438): CLP instruction doing nothing. -/
  | iNopInstr (l : Fin 3)
  /-- LD (R438): CLP instruction loading BA with a bit operand. -/
  | iLd (l : Fin 3) (sp : Fin 16) (n : Bool) (qm : Fin 16) (a : Nat)
  /-- AND (R438): CLP instruction ANDing BA with a bit operand. -/
  | iAnd (l : Fin 3) (sp : Fin 16) (n : Bool) (qm : Fin 16) (a : Nat)
  /-- OR (R438): CLP instruction ORing BA with a bit operand. -/
  | iOr (l : Fin 3) (sp : Fin 16) (n : Bool) (qm : Fin 16) (a : Nat)
  /-- XOR (R438): CLP instruction XORing BA with a bit operand. -/
  | iXor (l : Fin 3) (sp : Fin 16) (n : Bool) (qm : Fin 16) (a : Nat)
  /-- NOT (R438): CLP instruction inverting BA. -/
  | iNot (l : Fin 3)
  /-- BOPEN (R439): CLP instruction pushing BA and a combine operation. -/
  | iBopen (l : Fin 3) (combine : Fin 4)
  /-- BCLOSE (R439): CLP instruction popping and combining with BA. -/
  | iBclose (l : Fin 3)
  /-- ST (R438): CLP instruction storing BA to a Q or M bit. -/
  | iSt (l : Fin 3) (sp : Fin 16) (n : Bool) (a : Nat)
  /-- SET (R438): CLP instruction setting a bit when BA is 1. -/
  | iSet (l : Fin 3) (sp : Fin 16) (a : Nat)
  /-- RST (R438): CLP instruction clearing a bit when BA is 1. -/
  | iRst (l : Fin 3) (sp : Fin 16) (a : Nat)
  /-- PEDGE (R438): CLP instruction detecting a rising edge of BA. -/
  | iPedge (l : Fin 3) (a : Nat)
  /-- NEDGE (R438): CLP instruction detecting a falling edge of BA. -/
  | iNedge (l : Fin 3) (a : Nat)
  /-- TON (R441): CLP on-delay timer instruction. -/
  | iTon (l : Fin 3) (t : Nat)
  /-- TOF (R441): CLP off-delay timer instruction. -/
  | iTof (l : Fin 3) (t : Nat)
  /-- TP (R441): CLP pulse timer instruction. -/
  | iTp (l : Fin 3) (t : Nat)
  /-- TPRE (R438): CLP instruction setting a timer preset from WA. -/
  | iTpre (l : Fin 3) (t : Nat)
  /-- TRST (R438): CLP instruction resetting a timer. -/
  | iTrst (l : Fin 3) (t : Nat)
  /-- CTU (R442): CLP up-counter instruction. -/
  | iCtu (l : Fin 3) (a : Nat)
  /-- CTD (R442): CLP down-counter instruction. -/
  | iCtd (l : Fin 3) (a : Nat)
  /-- CRST (R438): CLP instruction resetting a counter value. -/
  | iCrst (l : Fin 3) (a : Nat)
  /-- CLD (R438): CLP instruction loading a counter value from WA. -/
  | iCld (l : Fin 3) (a : Nat)
  /-- LDW (R438): CLP instruction loading WA with a word operand. -/
  | iLdw (l : Fin 3) (sp : Fin 16) (a : Nat)
  /-- LDKH (R438): CLP instruction loading the high half of WA. -/
  | iLdkh (l : Fin 3) (imm : Nat)
  /-- STW (R438): CLP instruction storing WA. -/
  | iStw (l : Fin 3) (sp : Fin 16) (a : Nat)
  /-- STWC (R438): CLP instruction storing WA when BA is 1. -/
  | iStwc (l : Fin 3) (sp : Fin 16) (a : Nat)
  /-- ADD (R440): CLP integer add instruction. -/
  | iAdd (l : Fin 3) (sp : Fin 16) (a : Nat)
  /-- SUB (R440): CLP integer subtract instruction. -/
  | iSub (l : Fin 3) (sp : Fin 16) (a : Nat)
  /-- MUL (R440): CLP integer multiply instruction. -/
  | iMul (l : Fin 3) (sp : Fin 16) (a : Nat)
  /-- DIV (R440): CLP integer divide instruction, setting ERR on division by zero or overflow. -/
  | iDiv (l : Fin 3) (sp : Fin 16) (a : Nat)
  /-- ANDW (R438): CLP bitwise AND word instruction. -/
  | iAndw (l : Fin 3) (sp : Fin 16) (a : Nat)
  /-- ORW (R438): CLP bitwise OR word instruction. -/
  | iOrw (l : Fin 3) (sp : Fin 16) (a : Nat)
  /-- XORW (R438): CLP bitwise XOR word instruction. -/
  | iXorw (l : Fin 3) (sp : Fin 16) (a : Nat)
  /-- SHL (R438): CLP shift-left instruction. -/
  | iShl (l : Fin 3) (k : Fin 32)
  /-- SHR (R438): CLP logical shift-right instruction. -/
  | iShr (l : Fin 3) (k : Fin 32)
  /-- CMP (R438): CLP signed integer compare instruction. -/
  | iCmp (l : Fin 3) (sp : Fin 16) (n : Bool) (rel : Fin 6) (a : Nat)
  /-- FADD (R440): CLP binary32 add instruction. -/
  | iFadd (l : Fin 3) (sp : Fin 16) (a : Nat)
  /-- FSUB (R440): CLP binary32 subtract instruction. -/
  | iFsub (l : Fin 3) (sp : Fin 16) (a : Nat)
  /-- FMUL (R440): CLP binary32 multiply instruction. -/
  | iFmul (l : Fin 3) (sp : Fin 16) (a : Nat)
  /-- FDIV (R440): CLP binary32 divide instruction. -/
  | iFdiv (l : Fin 3) (sp : Fin 16) (a : Nat)
  /-- FMIN (R440): CLP binary32 minimum instruction. -/
  | iFmin (l : Fin 3) (sp : Fin 16) (a : Nat)
  /-- FMAX (R440): CLP binary32 maximum instruction. -/
  | iFmax (l : Fin 3) (sp : Fin 16) (a : Nat)
  /-- FCMP (R440): CLP binary32 compare instruction. -/
  | iFcmp (l : Fin 3) (sp : Fin 16) (n : Bool) (rel : Fin 6) (a : Nat)
  /-- ITOF (R440): CLP integer-to-float conversion instruction. -/
  | iItof (l : Fin 3)
  /-- FTOI (R440): CLP float-to-integer conversion instruction, saturating. -/
  | iFtoi (l : Fin 3)
  /-- JMP (R438): CLP unconditional forward jump. -/
  | iJmp (l : Fin 3) (t : Nat)
  /-- JC (R438): CLP forward jump when BA is 1. -/
  | iJc (l : Fin 3) (t : Nat)
  /-- JNC (R438): CLP forward jump when BA is 0. -/
  | iJnc (l : Fin 3) (t : Nat)
  /-- END (R433): CLP instruction ending the cycle, after which the output image is published. -/
  | iEnd (l : Fin 3)
  /-- FCU_CLEAR (R489): FCU command acknowledging or clearing fault records. -/
  | fcuClear (h : CmdHdr) (det action : Nat)
  /-- FCU_ARM (R496): FCU command opening, replacing or ending an injection session with a grant. -/
  | fcuArm (h : CmdHdr) (secs : Nat)
  /-- FCU_INJECT (R497): FCU command requesting an injected fault at a detector. -/
  | fcuInject (h : CmdHdr) (det flags src : Nat)
  /-- FCU_READ (R501): FCU command returning fault records. -/
  | fcuRead (h : CmdHdr) (first count : Nat)
  /-- DETECTOR_RAISE (R485): A detector raises, opening its record and applying its class reaction, or is suppressed. -/
  | detectorRaise (d : Fin 192) (src detail loc : Nat) (f : DetFinding)
  /-- WINDOW_EXPIRY (R482): The 1 ms test finds a handling window run out and the record escalates to the next class. -/
  | windowExpiry (d : Fin 192)
  /-- CS_RAISE_UNACKNOWLEDGED (R493): The FCU does not acknowledge a CS raise within 20 µs, so CS applies the SAFE path itself. -/
  | csRaiseUnacknowledged (d : Fin 192)
  /-- HEARTBEAT_TIMEOUT (R494): An engine's heartbeat misses its timeout and CS raises its detector. -/
  | heartbeatTimeout (e : Fin 23)
  /-- CS_HEARTBEAT_TIMEOUT (R494): The FCU sees no CS heartbeat for 10 ms and raises FD69. -/
  | csHeartbeatTimeout
  /-- INJECTION_FIRE (R498): An injected fault takes effect at the next use of its path and opens its record. -/
  | injectionFire (d : Fin 192)
  /-- INJECTION_NO_PATH (R498): An injection finds no path use within 1 s and completes with INJ_NO_PATH. -/
  | injectionNoPath (d : Fin 192)
  /-- INJECTION_SESSION_END (R496): An injection session's time runs out, cancelling unfired injections. -/
  | injectionSessionEnd
  /-- EVR_READ (R519): EVR command returning recorder records from a sequence. -/
  | evrRead (h : CmdHdr) (area first count : Nat)
  /-- EVR_STREAM (R515): EVR command starting or stopping a recorder stream to a ring. -/
  | evrStream (h : CmdHdr) (ring area start first : Nat)
  /-- EVR_CLEAR (R516): EVR command clearing recorder areas or setting a new configuration with a grant. -/
  | evrClear (h : CmdHdr) (areas conf : Nat)
  /-- EVR_NOTE (R519): EVR command writing a host note record. -/
  | evrNote (h : CmdHdr) (w0 w1 : Nat)
  /-- RECORD_INTAKE (R507): The recorder takes an occurrence from its input queue, merging it or creating a record. -/
  | recordIntake
  /-- RECORD_MIRROR (R511): A full page or the MIRROR period writes recorder records to the flash mirror. -/
  | recordMirror (writeOkA writeOkB : Bool)
  /-- AREA_C_RELOAD_END (R512): The background rebuild of area C from the mirror ends and RELOADING clears. -/
  | areaCReloadEnd
  /-- WEAR_CHECK (R517): Once a day the recorder compares its wear forecast with the target and changes stage. -/
  | wearCheck (forecast : Nat)
  /-- KEY_UPDATE (R531): KEYS command checking and applying a signed key update message. -/
  | keyUpdate (h : CmdHdr)
  /-- KEY_PUB (R542): KEYS command returning a signed public key. -/
  | keyPub (h : CmdHdr) (slot : Nat) (nonce : List Byte)
  /-- KEY_OP (R542): KEYS command performing MAC, seal, unseal or sign with a slot key. -/
  | keyOp (h : CmdHdr) (slot op : Nat) (iv : List Byte)
  /-- KEY_READ (R542): KEYS command returning node or slot records. -/
  | keyRead (h : CmdHdr) (table first count : Nat)
  /-- KEY_JTAG (R540): KEYS command opening JTAG debug with a grant until the next reset. -/
  | keyJtag (h : CmdHdr)
  /-- UPD_OPEN (R550): UPDATE command checking a Tray header and manifest and opening staging. -/
  | updOpen (h : CmdHdr) (source : Nat)
  /-- UPD_DATA (R551): UPDATE command writing Tray payload bytes to the pool. -/
  | updData (h : CmdHdr) (part offset : Nat) (badA badB : Bool)
  /-- UPD_CLOSE (R551): UPDATE command checking every part and writing the inactive directory. -/
  | updClose (h : CmdHdr) (parts : List PartIn) (badA badB : Bool)
  /-- UPD_ACTIVATE (R553): UPDATE command arming the staged set for activation at an epoch. -/
  | updActivate (h : CmdHdr) (sec tick : Nat)
  /-- UPD_REVERT (R559): UPDATE command activating the previous set at an epoch. -/
  | updRevert (h : CmdHdr) (sec tick : Nat)
  /-- UPD_CANCEL (R555): UPDATE command abandoning staging or aborting an activation before commit. -/
  | updCancel (h : CmdHdr)
  /-- UPD_RECOVER (R560): UPDATE command making the staged or previous set active from the next reset. -/
  | updRecover (h : CmdHdr) (source : Nat)
  /-- UPD_REPORT (R561): UPDATE command returning the activation report. -/
  | updReport (h : CmdHdr)
  /-- RECIPE_EXPORT (R565): UPDATE command writing a signed Recipe of the configuration. -/
  | recipeExport (h : CmdHdr) (flags : Nat) (target : List Byte) (badB : Bool)
  /-- RECIPE_IMPORT (R566): UPDATE command staging a Recipe with its further checks. -/
  | recipeImport (h : CmdHdr) (source : Nat)
  /-- STAGING_TIMEOUT (R552): A staging receives no UPD_DATA for 600 s and is abandoned. -/
  | stagingTimeout
  /-- PART_ARMED (R554): A part finishes loading into its shadow area and reports ARMED. -/
  | partArmed (part : Nat)
  /-- COLLECT (R555): At epoch minus 50 ms BT commits the activation or aborts it. -/
  | collect (ok : Bool)
  /-- PART_SWITCH (R549): An engine switches to its new part at its switch point after the commit. -/
  | partSwitch (part : Nat)
  /-- TAP_RESET (R584): TRST_N low for 100 ns resets the JTAG TAP. -/
  | tapReset
  /-- IDCODE (R584): JTAG instruction reading the identification code in every state. -/
  | idcode
  /-- BYPASS (R584): JTAG instruction selecting the bypass register. -/
  | bypass
  /-- SAMPLE_PRELOAD (R584): JTAG instruction sampling or preloading the boundary-scan register. -/
  | samplePreload (pins preload : List Bool)
  /-- EXTEST (R584): JTAG instruction driving the balls from boundary scan in Rack state, else BYPASS. -/
  | extest
  /-- CLAMP (R584): JTAG instruction clamping the balls in Rack state, else BYPASS. -/
  | clamp
  /-- HIGHZ (R584): JTAG instruction floating the balls in Rack state, else BYPASS. -/
  | highz
  /-- PARTITION_MINOFF_END (R388): A solver partition's 1 ms minimum off time ends and a latched enable (PENDING_REARM) starts it. -/
  | partitionMinoffEnd (p : Fin 2)
  /-- CLOCK_RETURN (R75): A lost clock input other than REFCLK and CAN_CLK (SDREF, a PCIe REFCLK, MCLK, ADC_CLK, XTAL32) becomes valid again, so that its links retrain, its metering gap of cause 3 closes or its SARs restart. -/
  | clockReturn (clk : Fin 8)
  /-- PROTOCOL_EXCEPTION (R199): A CAN channel detects a protocol exception, sends no error frame, waits for 11 recessive bits and counts the event in PEXC. -/
  | protocolException (n : Fin 16)
  /-- CAN_RX_ERROR (R214): A CAN channel detects an error in a frame it is receiving, raising REC, setting LEC or DLEC and possibly changing ESTATE. -/
  | canRxError (n : Fin 16) (code : Fin 7) (dataPhase plus8 : Bool)
  /-- BASE_TICK (R262): At each 250 µs base tick of service time, the pulse words are updated and handed to the lanes, and a pending PIN_LOAD takes effect. -/
  | baseTick
  /-- METER_SAMPLE (R286): At each 8,000 samples/s boundary all 60 metering channels are sampled and corrected, and a pending DSP take-out or return hand-over is made. -/
  | meterSample (raw : List Int)
  /-- CALENDAR_END (R149): The RTC seconds count passes 2199-12-31 23:59:59 UTC, so the calendar holds its last value and CAL_RANGE is set. -/
  | calendarEnd
  /-- NODE_FORGET (R174): The 60 s node forget time or the 400 ms entry forget time of a PRP pair runs out, and the node or duplicate entry is dropped from the table. -/
  | nodeForget (pair : Fin 2) (src : Nat) (seq : Option Nat)
deriving DecidableEq, Repr

end Sys2Proof
end

