-- ==== Sys2Proof/Config.lean ====
section
/-! DEFINITION. What one part or one installation fixes and the manual does not give: free values. None of them has a body:
a statement holds whatever they are (log 1). -/
namespace Sys2Proof.Config
open Sys2Proof

/-- The n-th free value of the run: a value the manual leaves open, taken by a step (log 1). -/
opaque free : Nat → Nat

/-- Secrets and keys of one part and of its owner, which the manual cannot give: the Starter installed before the run (R522); the factory seed
(R523); Zoath's provisioning key (R529) and image signing key (R545), X then Y; and the certificate of the identity key (R523). -/
opaque starter : Nat
opaque factorySeed : Nat
opaque provisioningKey : List Byte
opaque imageKey : List Byte
opaque identityCert : List Byte

/-- The factory curve of the crystal, in 0.01 ppm at −45 °C + 10 °C × k, k = 0 to 17: die-specific fuses (R151). -/
opaque crystalCurve : Nat → Int

/-- The cell of a signal's ball in the boundary-scan register, by the signal's name and number: the BSDL file has it, not the manual (R584, log 1). -/
opaque scanCell : String → Nat → Nat
/-- The 32-bit JTAG identification code of the part: the manual gives no value (R584). -/
opaque idCode : Nat

/-- FMIN (false) and FMAX (true) of +0 and −0 in the given order: whether the first is the result (R440). -/
opaque zeroOf : Bool → Nat → Nat → Bool

/-- Factory coefficients fo and fg of SAR k at PGA setting g, binary32 patterns: die-specific fuses (R250). -/
opaque adcFo : Nat → Nat → Nat
opaque adcFg : Nat → Nat → Nat

/-- The bus time in ns that one poll slot takes in the estimate of R236: nominal bit time, data bit time (both in 12.5 ns cycles), whether the
channel runs FD, and the PDU lengths in bytes of POLL request, POLL response, OUT and confirmation. The manual names the estimate's inputs and
no formula (log 27). -/
opaque slotBusNs : Nat → Nat → Bool → List Nat → Nat

/-- Factory values fg and fp of a metering channel, binary32: die-specific fuses (R286). -/
opaque mtrFg : Nat → Nat
opaque mtrFp : Nat → Nat

/-- The fractional-delay interpolation of R286: the channel's input samples, newest first, shifted by an angle in degrees (binary32). The manual
gives its resolution, not its filter (log 30). -/
opaque mtrShift : List Nat → Nat → Nat

/-- How far, in 2⁻⁴⁰, the order of its binary64 operations takes the water property unit (R319) from one order of them, 128 standing for 0, at a
temperature in °C and a pressure in MPa, binary32: the manual does not give the order (log 30). -/
opaque waterOrder : Nat → Nat → Fin 257

/-- Whether e^x of a binary64 x is rounded up to the next binary64 rather than down: the manual states no rounding of the exponential (R338, R349;
log 30). -/
opaque expUp : Nat → Bool

/-- The memory in KiB that the factor of a network model needs in partition E: branch ends, measurement objects, and the ordering (R340, log 33). -/
opaque modelKiB : List (List Nat) → Nat

/-- The bytes of a SESS_SNAP body: the manual names its content, session, word, value, quality and receive stamp in ns, and no layout (log 33). -/
opaque sessSnapBody : List (List Nat) → List Byte

/-- The order in which the unknowns of a system are eliminated, where the manual leaves it to the application cores (AMD, R340) or does not give it
(R343, R373): for the unknowns of each equation, an order of all; one that is not counts as ascending (log 34). -/
opaque elimination : List (List Nat) → List Nat

/-- The nonzeros of the factor of a structure that carries no supernode tree: the application cores' own ordering decides (R364, log 33). -/
opaque factorNnz : List (List Nat) → Nat

/-- Zoath Controls' PCI-SIG vendor identifier, which the manual does not give (R107). -/
opaque vendorId : BitVec 16

/-- The multicast addresses that TE and the firmware keep for a port; 32 of them are used (R171). -/
opaque multicast : Nat → List Nat

/-- clockAccuracy and offsetScaledLogVariance of the device's own clock, which the manual does not give (R181). -/
opaque clockAccuracy : BitVec 8
opaque clockVariance : BitVec 16

/-- Time from t0 to the end of Proof step 6, in ns; R93 bounds it. -/
opaque proofStep6 : Nat

/-- The stepping of the part, which the manual gives to no register of BAR0 (R107, R550). -/
opaque stepping : Fin 16

/-- The public identity key of the part with an identity: an exporter uses it, and the manual does not say from where it has it (R567; log 45). -/
opaque peerKey : List Byte → List Byte

/-- The VDDC in mV that the ring oscillators call for at a pair of clock steps, solver and application cores (R66; log 81). -/
opaque vddcFor : Nat → Nat → Nat

/-- The bytes of parts whose payload layout the manual leaves to Zoath's tools: a unit's settings from (BAR0 address, value) pairs, and the CLP's
retentive data from markers, data words and counters (R564; log 42). -/
opaque settingsImage : Nat → List (Nat × Nat) → List Byte
opaque retentiveImage : List (Nat × Nat) → List (Nat × Nat) → List (Nat × Nat) → List Byte

end Sys2Proof.Config
end

