-- ==== Sys2Proof/Machine/Bits.lean ====
section
/-! DEFINITION. Bit fields, byte order, sign conversion, checks (CRC) and sparse tables: the helpers every unit uses. -/
namespace Sys2Proof.Machine

/-- Bits hi..lo of v (R5: bit 0 is the least significant). -/
def bitsOf (v hi lo : Nat) : Nat := v / 2 ^ lo % 2 ^ (hi + 1 - lo)

/-- Bit b of v. -/
def bitOf (v b : Nat) : Bool := v / 2 ^ b % 2 == 1

/-- v with bit b set or cleared. -/
def setBit (v b : Nat) (x : Bool) : Nat :=
  match x, bitOf v b with
  | true, false => v + 2 ^ b
  | false, true => v - 2 ^ b
  | _, _ => v

/-- A truth value as a bit. -/
def b2n (b : Bool) : Nat := if b then 1 else 0

/-- n as a value of w bits, two's complement. -/
def wrapI (w : Nat) (i : Int) : Nat := (i % (2 ^ w : Nat)).toNat

/-- A value of w bits read as two's complement. -/
def sgn (w v : Nat) : Int := if v % 2 ^ w < 2 ^ (w - 1) then (v % 2 ^ w : Nat) else (v % 2 ^ w : Nat) - (2 ^ w : Nat)

/-- The signed difference a − b of two w-bit counters (R10). -/
def sdiff (w a b : Nat) : Int := sgn w ((a % 2 ^ w + 2 ^ w - b % 2 ^ w) % 2 ^ w)

/-- A counter of w bits that saturates. -/
def satInc (w v : Nat) : Nat := if v + 1 < 2 ^ w then v + 1 else 2 ^ w - 1

/-- v limited to lo..hi: "fields outside their stated ranges act as the nearest limit". -/
def clampN (lo hi v : Nat) : Nat := if v < lo then lo else if hi < v then hi else v

/-- i limited to lo..hi. -/
def clampI (lo hi i : Int) : Int := if i < lo then lo else if hi < i then hi else i

/-- The n low bytes of v, little-endian (R5). -/
def toBytes : Nat → Nat → List Byte
  | 0, _ => []
  | n + 1, v => BitVec.ofNat 8 v :: toBytes n (v / 256)

/-- The value of a little-endian byte string (R5). -/
def ofBytes : List Byte → Nat
  | [] => 0
  | b :: t => b.toNat + 256 * ofBytes t

/-- Bytes off .. off + n − 1 of l, little-endian; bytes past the end read 0. -/
def fieldAt (l : List Byte) (off n : Nat) : Nat := ofBytes ((l.drop off).take n)

/-- Words of four bytes. -/
def wordsToBytes (ws : List Nat) : List Byte := ws.flatMap (toBytes 4)

/-- The first n little-endian 32-bit words of a byte string. -/
def bytesToWords : Nat → List Byte → List Nat
  | 0, _ => []
  | n + 1, l => ofBytes (l.take 4) :: bytesToWords n (l.drop 4)

/-- Split a byte string into n records of k bytes each. -/
def chunksOf (k : Nat) : Nat → List Byte → List (List Byte)
  | 0, _ => []
  | n + 1, l => l.take k :: chunksOf k n (l.drop k)

/-- One step of a reflected CRC over a bit. -/
def crcBitR (poly c : Nat) : Nat := if c % 2 = 1 then (c / 2) ^^^ poly else c / 2

/-- The CRC-32 of IEEE 802.3 (R27): reflected polynomial 0xEDB8_8320, initial and final value 0xFFFF_FFFF. -/
def crc32 (l : List Byte) : Nat :=
  (l.foldl (fun c b =>
    let c := c ^^^ b.toNat
    crcBitR 0xEDB88320 (crcBitR 0xEDB88320 (crcBitR 0xEDB88320 (crcBitR 0xEDB88320
      (crcBitR 0xEDB88320 (crcBitR 0xEDB88320 (crcBitR 0xEDB88320 (crcBitR 0xEDB88320 c)))))))) 0xFFFFFFFF) ^^^ 0xFFFFFFFF

/-- One step of the most-significant-bit-first CRC-16 with polynomial 0x1021. -/
def crc16Bit (c : Nat) : Nat := if c ≥ 0x8000 then ((2 * c) % 0x10000) ^^^ 0x1021 else 2 * c

/-- The CRC-16 of R504: polynomial 0x1021, initial value 0xFFFF. -/
def crc16 (l : List Byte) : Nat :=
  l.foldl (fun c b =>
    let c := c ^^^ (b.toNat * 256)
    crc16Bit (crc16Bit (crc16Bit (crc16Bit (crc16Bit (crc16Bit (crc16Bit (crc16Bit c)))))))) 0xFFFF

/-! Sparse tables -/

/-- The entry of key k. -/
def look {β : Type} : SMap β → Nat → Option β
  | [], _ => none
  | (a, v) :: t, k => if a = k then some v else look t k

/-- Put v at key k, keeping the keys strictly rising. -/
def ins {β : Type} (k : Nat) (v : β) : SMap β → SMap β
  | [] => [(k, v)]
  | (a, w) :: t => if k < a then (k, v) :: (a, w) :: t else if a = k then (k, v) :: t else (a, w) :: ins k v t

/-- Remove key k. -/
def del {β : Type} (k : Nat) : SMap β → SMap β
  | [] => []
  | (a, w) :: t => if a = k then del k t else (a, w) :: del k t

/-- Read with a default. -/
def lookD {β : Type} (m : SMap β) (k : Nat) (dflt : β) : β := (look m k).getD dflt

/-- Keep only the entries whose key satisfies p. -/
def keepKeys {β : Type} (p : Nat → Bool) (m : SMap β) : SMap β := m.filter fun e => p e.1

/-- The keys rise strictly. -/
def sortedKeys {β : Type} : SMap β → Bool
  | [] => true
  | [_] => true
  | (a, _) :: (b, w) :: t => decide (a < b) && sortedKeys ((b, w) :: t)

/-- Put every entry of the first table into the second. -/
def overlay {β : Type} (upper base : SMap β) : SMap β := upper.foldl (fun m e => ins e.1 e.2 m) base

/-- Replace element i of a list. -/
def setAt {α : Type} (l : List α) (i : Nat) (x : α) : List α := l.set i x

/-- Apply f to the numbers 0 .. n − 1 in order. -/
def forN {σ : Type} : Nat → (Nat → σ → σ) → σ → σ
  | 0, _, s => s
  | n + 1, f, s => f n (forN n f s)

end Sys2Proof.Machine
end

