-- ==== Sys2Proof/Machine/F32.lean ====
section
/-! DEFINITION. IEEE 754 binary32 on bit patterns, round to nearest even: the arithmetic of AQ (R250), the loop engine and the CLP
(R401, R440), metering and the estimator. Values are computed exactly and rounded once. `ftz` flushes subnormal operands and results to
zero (R401). Every NaN made is 0x7FC0_0000 (R594). -/
namespace Sys2Proof.Machine

/-- The canonical quiet NaN (R594). -/
abbrev f32NaN : Nat := 0x7FC00000
/-- Infinity with a sign. -/
def f32Inf (neg : Bool) : Nat := if neg then 0xFF800000 else 0x7F800000

/-- A binary32 pattern taken apart. -/
inductive FVal where
  | nan
  | inf (neg : Bool)
  /-- (−1)^neg × m × 2^e; m = 0 is a zero of that sign. -/
  | fin (neg : Bool) (m : Nat) (e : Int)
deriving DecidableEq, Repr

/-- The value of a pattern. -/
def f32Val (ftz : Bool) (p : Nat) : FVal :=
  let neg := bitOf p 31
  let ex := bitsOf p 30 23
  let man := bitsOf p 22 0
  if ex = 255 then (if man = 0 then .inf neg else .nan)
  else if ex = 0 then .fin neg (if ftz then 0 else man) (-149)
  else .fin neg (man + 2 ^ 23) ((ex : Int) - 150)

/-- n divided by 2^k, rounded to nearest even. -/
def shrRne (n k : Nat) : Nat :=
  let q := n / 2 ^ k
  let r := n % 2 ^ k
  if k = 0 then n
  else if 2 ^ (k - 1) < r ∨ (r = 2 ^ (k - 1) ∧ q % 2 = 1) then q + 1 else q

/-- Round (−1)^neg × m × 2^e to a pattern. -/
def f32Round (ftz neg : Bool) (m : Nat) (e : Int) : Nat :=
  let s := if neg then 2 ^ 31 else 0
  if m = 0 then s
  else
    let top : Int := (Nat.log2 m : Int) + e
    let quantum : Int := if top < -126 then -149 else top - 23
    let m' := if quantum ≤ e then m * 2 ^ (e - quantum).toNat else shrRne m (quantum - e).toNat
    -- m' < 2^24, or exactly 2^24 after a carry
    if m' < 2 ^ 23 then (if ftz then s else s + m')
    else
      let (m', quantum) := if m' = 2 ^ 24 then (2 ^ 23, quantum + 1) else (m', quantum)
      let ex := quantum + 150
      if 255 ≤ ex then s + 0x7F800000 else s + ex.toNat * 2 ^ 23 + (m' - 2 ^ 23)

/-- A finite value as an integer multiple of 2^e0, for an e0 not above its exponent. -/
def scaled (neg : Bool) (m : Nat) (e e0 : Int) : Int :=
  let v : Int := (m * 2 ^ (e - e0).toNat : Nat)
  if neg then -v else v

/-- Sum. An exact zero is +0 unless both operands are −0. -/
def f32Add (ftz : Bool) (a b : Nat) : Nat :=
  match f32Val ftz a, f32Val ftz b with
  | .nan, _ => f32NaN
  | _, .nan => f32NaN
  | .inf x, .inf y => if x = y then f32Inf x else f32NaN
  | .inf x, _ => f32Inf x
  | _, .inf y => f32Inf y
  | .fin n1 m1 e1, .fin n2 m2 e2 =>
    if m1 = 0 ∧ m2 = 0 then (if n1 && n2 then 2 ^ 31 else 0)
    else
      let e0 := min e1 e2
      let s := scaled n1 m1 e1 e0 + scaled n2 m2 e2 e0
      if s = 0 then 0 else f32Round ftz (decide (s < 0)) s.natAbs e0

/-- Negation: the sign of a number changes; a NaN is canonical. -/
def f32Neg (a : Nat) : Nat :=
  match f32Val false a with
  | .nan => f32NaN
  | _ => if bitOf a 31 then a % 2 ^ 31 else a % 2 ^ 31 + 2 ^ 31

/-- Difference. -/
def f32Sub (ftz : Bool) (a b : Nat) : Nat := f32Add ftz a (f32Neg b)

/-- Product. -/
def f32Mul (ftz : Bool) (a b : Nat) : Nat :=
  match f32Val ftz a, f32Val ftz b with
  | .nan, _ => f32NaN
  | _, .nan => f32NaN
  | .inf x, .inf y => f32Inf (x != y)
  | .inf x, .fin y m _ => if m = 0 then f32NaN else f32Inf (x != y)
  | .fin x m _, .inf y => if m = 0 then f32NaN else f32Inf (x != y)
  | .fin n1 m1 e1, .fin n2 m2 e2 => f32Round ftz (n1 != n2) (m1 * m2) (e1 + e2)

/-- Quotient: 64 more bits than the operands have, and a sticky bit, so that one rounding is exact. -/
def f32Div (ftz : Bool) (a b : Nat) : Nat :=
  match f32Val ftz a, f32Val ftz b with
  | .nan, _ => f32NaN
  | _, .nan => f32NaN
  | .inf _, .inf _ => f32NaN
  | .inf x, .fin y _ _ => f32Inf (x != y)
  | .fin x _ _, .inf y => if x != y then 2 ^ 31 else 0
  | .fin n1 m1 e1, .fin n2 m2 e2 =>
    if m2 = 0 then (if m1 = 0 then f32NaN else f32Inf (n1 != n2))
    else
      let q := m1 * 2 ^ 64 / m2
      let st := if m1 * 2 ^ 64 % m2 = 0 then 0 else 1
      f32Round ftz (n1 != n2) (2 * q + st) (e1 - e2 - 65)

/-- Three-way comparison of two patterns: none when a NaN is involved; zeros are equal. -/
def f32Cmp (ftz : Bool) (a b : Nat) : Option Ordering :=
  let key (v : FVal) : Option (Int × Int × Int) := match v with
    | .nan => none
    | .inf n => some (if n then (-1, 0, 0) else (1, 0, 0))
    | .fin n m e => some (0, (if n then -(m : Int) else m), e)
  match key (f32Val ftz a), key (f32Val ftz b) with
  | some (c1, m1, e1), some (c2, m2, e2) =>
    if c1 ≠ c2 then some (compare c1 c2)
    else if c1 ≠ 0 then some .eq
    else
      let e0 := min e1 e2
      some (compare (m1 * (2 ^ (e1 - e0).toNat : Nat)) (m2 * (2 ^ (e2 - e0).toNat : Nat)))
  | _, _ => none

/-- a < b. -/
def f32Lt (a b : Nat) : Bool := f32Cmp false a b == some .lt
/-- a ≤ b. -/
def f32Le (a b : Nat) : Bool := f32Cmp false a b == some .lt || f32Cmp false a b == some .eq
/-- A pattern is a NaN. -/
def f32IsNaN (a : Nat) : Bool := f32Val false a == .nan
/-- A pattern is finite. -/
def f32Finite (a : Nat) : Bool := bitsOf a 30 23 != 255
/-- Absolute value. -/
def f32Abs (a : Nat) : Nat := if f32IsNaN a then f32NaN else a % 2 ^ 31

/-- An integer as the nearest binary32. -/
def f32OfInt (i : Int) : Nat := f32Round false (decide (i < 0)) i.natAbs 0
/-- (n / dn) × 2^e as the nearest binary32: at least 64 bits of the quotient and a sticky bit, so that one rounding is exact. -/
def f32OfRatioE (n : Int) (dn : Nat) (e : Int) : Nat :=
  if dn = 0 then f32NaN
  else
    let k := 64 + Nat.log2 dn
    let q := n.natAbs * 2 ^ k / dn
    let st := if n.natAbs * 2 ^ k % dn = 0 then 0 else 1
    f32Round false (decide (n < 0)) (2 * q + st) (e - (k : Int) - 1)
/-- A ratio of integers as the nearest binary32. -/
def f32OfRatio (n : Int) (dn : Nat) : Nat := f32OfRatioE n dn 0

/-- The integer square root, bit by bit from bit k − 1 down. -/
def isqrtFrom (n : Nat) : Nat → Nat → Nat
  | 0, acc => acc
  | k + 1, acc => if (acc + 2 ^ k) * (acc + 2 ^ k) ≤ n then isqrtFrom n k (acc + 2 ^ k) else isqrtFrom n k acc
/-- The integer square root. -/
def isqrt (n : Nat) : Nat := isqrtFrom n (Nat.log2 n / 2 + 1) 0

/-- √((s / n) × 2^(2e)) as the nearest binary32. -/
def f32SqrtRatio (s n : Nat) (e : Int) : Nat :=
  if n = 0 then f32NaN
  else
    let v := s * 2 ^ 128 / n
    let q := isqrt v
    let st := if q * q = v ∧ s * 2 ^ 128 % n = 0 then 0 else 1
    f32Round false false (2 * q + st) (e - 65)

/-- The nearest integer of a finite value, ties to even; none for NaN and infinities. -/
def f32ToInt (ftz : Bool) (a : Nat) : Option Int :=
  match f32Val ftz a with
  | .fin n m e =>
    let v : Nat := if 0 ≤ e then m * 2 ^ e.toNat else shrRne m (-e).toNat
    some (if n then -(v : Int) else v)
  | _ => none

/-- A finite value exactly, as a numerator over 2^149. -/
def f32Exact (a : Nat) : Option Int :=
  match f32Val false a with
  | .fin n m e => some (scaled n m e (-149))
  | _ => none

/-- A subnormal flushed to zero, its sign kept (R401). -/
def f32Flush (a : Nat) : Nat := if bitsOf a 30 23 = 0 then (if bitOf a 31 then 2 ^ 31 else 0) else a
/-- a < b with subnormal operands flushed to zero (R401). -/
def f32LtZ (a b : Nat) : Bool := f32Cmp true a b == some .lt

/-- clamp(x, lo, hi) as a comparison chain; a NaN x is kept canonical. -/
def f32Clamp (x lo hi : Nat) : Nat := if f32IsNaN x then f32NaN else if f32Lt x lo then lo else if f32Lt hi x then hi else x

/-- clamp(x, lo, hi) with subnormal operands and results flushed to zero (R401). -/
def f32ClampZ (x lo hi : Nat) : Nat :=
  if f32IsNaN x then f32NaN else if f32LtZ x lo then f32Flush lo else if f32LtZ hi x then f32Flush hi else f32Flush x

end Sys2Proof.Machine
end

