-- ==== Sys2Proof/Machine/F64.lean ====
section
/-! DEFINITION. IEEE 754 binary64 on bit patterns, round to nearest even: the energy of heat meters (R320) and solution values (R389). Values are
computed exactly and rounded once. Every NaN made is 0x7FF8_0000_0000_0000. -/
namespace Sys2Proof.Machine

/-- The canonical quiet NaN. -/
abbrev f64NaN : Nat := 0x7FF8000000000000
/-- Infinity with a sign. -/
def f64Inf (neg : Bool) : Nat := if neg then 0xFFF0000000000000 else 0x7FF0000000000000

/-- The value of a pattern. -/
def f64Val (p : Nat) : FVal :=
  let neg := bitOf p 63
  let ex := bitsOf p 62 52
  let man := bitsOf p 51 0
  if ex = 2047 then (if man = 0 then .inf neg else .nan)
  else if ex = 0 then .fin neg man (-1074)
  else .fin neg (man + 2 ^ 52) ((ex : Int) - 1075)

/-- Round (−1)^neg × m × 2^e to a pattern. -/
def f64Round (neg : Bool) (m : Nat) (e : Int) : Nat :=
  let s := if neg then 2 ^ 63 else 0
  if m = 0 then s
  else
    let top : Int := (Nat.log2 m : Int) + e
    let quantum : Int := if top < -1022 then -1074 else top - 52
    let m' := if quantum ≤ e then m * 2 ^ (e - quantum).toNat else shrRne m (quantum - e).toNat
    if m' < 2 ^ 52 then s + m'
    else
      let (m', quantum) := if m' = 2 ^ 53 then (2 ^ 52, quantum + 1) else (m', quantum)
      let ex := quantum + 1075
      if 2047 ≤ ex then f64Inf neg else s + ex.toNat * 2 ^ 52 + (m' - 2 ^ 52)

/-- Sum. -/
def f64Add (a b : Nat) : Nat :=
  match f64Val a, f64Val b with
  | .nan, _ => f64NaN
  | _, .nan => f64NaN
  | .inf x, .inf y => if x = y then f64Inf x else f64NaN
  | .inf x, _ => f64Inf x
  | _, .inf y => f64Inf y
  | .fin n1 m1 e1, .fin n2 m2 e2 =>
    if m1 = 0 ∧ m2 = 0 then (if n1 && n2 then 2 ^ 63 else 0)
    else
      let e0 := min e1 e2
      let s := scaled n1 m1 e1 e0 + scaled n2 m2 e2 e0
      if s = 0 then 0 else f64Round (decide (s < 0)) s.natAbs e0

/-- Negation. -/
def f64Neg (a : Nat) : Nat :=
  match f64Val a with
  | .nan => f64NaN
  | _ => if bitOf a 63 then a % 2 ^ 63 else a % 2 ^ 63 + 2 ^ 63

/-- Difference. -/
def f64Sub (a b : Nat) : Nat := f64Add a (f64Neg b)

/-- Product. -/
def f64Mul (a b : Nat) : Nat :=
  match f64Val a, f64Val b with
  | .nan, _ => f64NaN
  | _, .nan => f64NaN
  | .inf x, .inf y => f64Inf (x != y)
  | .inf x, .fin y m _ => if m = 0 then f64NaN else f64Inf (x != y)
  | .fin x m _, .inf y => if m = 0 then f64NaN else f64Inf (x != y)
  | .fin n1 m1 e1, .fin n2 m2 e2 => f64Round (n1 != n2) (m1 * m2) (e1 + e2)

/-- Quotient. -/
def f64Div (a b : Nat) : Nat :=
  match f64Val a, f64Val b with
  | .nan, _ => f64NaN
  | _, .nan => f64NaN
  | .inf _, .inf _ => f64NaN
  | .inf x, .fin y _ _ => f64Inf (x != y)
  | .fin x _ _, .inf y => if x != y then 2 ^ 63 else 0
  | .fin n1 m1 e1, .fin n2 m2 e2 =>
    if m2 = 0 then (if m1 = 0 then f64NaN else f64Inf (n1 != n2))
    else
      let q := m1 * 2 ^ 128 / m2
      let st := if m1 * 2 ^ 128 % m2 = 0 then 0 else 1
      f64Round (n1 != n2) (2 * q + st) (e1 - e2 - 129)

/-- A binary32 as binary64. -/
def f64OfF32 (a : Nat) : Nat :=
  match f32Val false a with
  | .nan => f64NaN
  | .inf n => f64Inf n
  | .fin n m e => f64Round n m e
/-- A binary64 rounded to binary32. -/
def f32OfF64 (a : Nat) : Nat :=
  match f64Val a with
  | .nan => f32NaN
  | .inf n => f32Inf n
  | .fin n m e => f32Round false n m e
/-- An integer as the nearest binary64. -/
def f64OfInt (i : Int) : Nat := f64Round (decide (i < 0)) i.natAbs 0
/-- Absolute value. -/
def f64Abs (a : Nat) : Nat := if f64Val a = .nan then f64NaN else a % 2 ^ 63
/-- The integer part of a value that is not negative; none for NaN and infinities. -/
def f64Floor (a : Nat) : Option Nat :=
  match f64Val a with
  | .fin _ m e => some (if 0 ≤ e then m * 2 ^ e.toNat else m / 2 ^ (-e).toNat)
  | _ => none
/-- Three-way comparison: none when a NaN is involved. -/
def f64Cmp (a b : Nat) : Option Ordering :=
  match f64Val a, f64Val b with
  | .nan, _ => none
  | _, .nan => none
  | .inf x, .inf y => some (if x = y then .eq else if x then .lt else .gt)
  | .inf x, _ => some (if x then .lt else .gt)
  | _, .inf y => some (if y then .gt else .lt)
  | .fin n1 m1 e1, .fin n2 m2 e2 =>
    let e0 := min e1 e2
    some (compare (scaled n1 m1 e1 e0) (scaled n2 m2 e2 e0))
/-- a < b. -/
def f64Lt (a b : Nat) : Bool := f64Cmp a b == some .lt
/-- a ≤ b. -/
def f64Le (a b : Nat) : Bool := f64Cmp a b == some .lt || f64Cmp a b == some .eq
/-- The larger of two values; NaN when one is. -/
def f64Max (a b : Nat) : Nat := match f64Cmp a b with
  | none => f64NaN
  | some .lt => b
  | _ => a
/-- The smaller of two values; NaN when one is. -/
def f64Min (a b : Nat) : Nat := match f64Cmp a b with
  | none => f64NaN
  | some .gt => b
  | _ => a
/-- Square root. -/
def f64Sqrt (a : Nat) : Nat :=
  match f64Val a with
  | .nan => f64NaN
  | .inf n => if n then f64NaN else a
  | .fin n m e =>
    if m = 0 then a
    else if n then f64NaN
    else
      let v := (if e % 2 = 0 then m else 2 * m) * 2 ^ 128
      let h : Int := (if e % 2 = 0 then e else e - 1) / 2
      let q := isqrt v
      f64Round false (2 * q + (if q * q = v then 0 else 1)) (h - 65)
/-- Sum of a list from its first element on. -/
def f64Sum (l : List Nat) : Nat := l.foldl f64Add 0
/-- The largest absolute value of a list; 0 for none, NaN when one is no number. -/
def f64MaxAbs (l : List Nat) : Nat := l.foldl (fun a b => f64Max a (f64Abs b)) 0
/-- a / b as the nearest binary64. -/
def f64Ratio (a b : Int) : Nat := f64Div (f64OfInt a) (f64OfInt b)
/-- 1. -/
abbrev f64One : Nat := 0x3FF0000000000000
/-- Not a number. -/
def f64IsNaN (a : Nat) : Bool := f64Val a == .nan
/-- Neither infinite nor NaN. -/
def f64Finite (a : Nat) : Bool := bitsOf a 62 52 != 2047

end Sys2Proof.Machine
end

