-- ==== Sys2Proof/Machine/Fixed.lean ====
section
/-! DEFINITION. Elementary functions (R291, R338, R349, R354), computed on integers that count 2⁻¹⁹² and rounded once: π, e^x, sine, cosine, the
angle of a vector, and the fundamental of a run of samples. -/
namespace Sys2Proof.Machine

/-- The fractional bits, and 1. -/
abbrev fxBits : Nat := 192
abbrev fxOne : Int := ((2 ^ fxBits : Nat) : Int)

/-- Product and quotient. -/
def fxMul (a b : Int) : Int := a * b / fxOne
def fxDiv (a b : Int) : Int := a * fxOne / b
/-- Square root of a value that is not negative. -/
def fxSqrt (a : Int) : Int := isqrt (a.toNat * 2 ^ fxBits)

/-- t + next 0 t + next 1 (next 0 t) + …, of k terms. -/
def fxSeries (next : Nat → Int → Int) (k : Nat) (t : Int) : Int :=
  ((List.range k).foldl (fun (e : Int × Int) i => (next i e.1, e.2 + e.1)) (t, 0)).2

/-- Σ (−1)^i z^(2i+1) / (2i+1), of k terms; with `sg` 1 the sum without alternating signs. -/
def fxOdd (sg : Int) (k : Nat) (z : Int) : Int :=
  let z2 := fxMul z z
  ((List.range k).foldl (fun (e : Int × Int) i => (sg * fxMul e.1 z2, e.2 + e.1 / ((2 * i + 1 : Nat) : Int))) (z, 0)).2

/-- π = 16 arctan(1/5) − 4 arctan(1/239). -/
def fxPi : Int := 16 * fxOdd (-1) 48 (fxOne / 5) - 4 * fxOdd (-1) 16 (fxOne / 239)
/-- ln 2 = 2 artanh(1/3). -/
def fxLn2 : Int := 2 * fxOdd 1 64 (fxOne / 3)

/-- e^r for 0 ≤ r < 1. -/
def fxExp (r : Int) : Int := fxSeries (fun i t => fxMul t r / ((i + 1 : Nat) : Int)) 50 fxOne
/-- Sine and cosine of an angle from −π to π. -/
def fxSin (r : Int) : Int := let r2 := fxMul r r; fxSeries (fun i t => -(fxMul t r2) / (((2 * i + 2) * (2 * i + 3) : Nat) : Int)) 50 r
def fxCos (r : Int) : Int := let r2 := fxMul r r; fxSeries (fun i t => -(fxMul t r2) / (((2 * i + 1) * (2 * i + 2) : Nat) : Int)) 50 fxOne

/-- Arctangent of 0 ≤ z ≤ 1, the argument halved three times. -/
def fxAtan (z : Int) : Int :=
  let half (z : Int) : Int := fxDiv z (fxOne + fxSqrt (fxOne + fxMul z z))
  8 * fxOdd (-1) 34 (half (half (half z)))

/-- The angle of the vector (x, y), above −π and up to π; 0 of the zero vector. -/
def fxAngle (x y : Int) : Int :=
  let ax := (x.natAbs : Int)
  let ay := (y.natAbs : Int)
  if x = 0 ∧ y = 0 then 0
  else
    let a := if ay ≤ ax then fxAtan (fxDiv ay ax) else fxPi / 2 - fxAtan (fxDiv ax ay)
    let a := if x < 0 then fxPi - a else a
    if y < 0 then -a else a

/-- e^x in binary64: one of the two neighbours of the exact value, which one being free (log 30). -/
def f64Exp (a : Nat) : Nat :=
  match f64Val a with
  | .nan => f64NaN
  | .inf n => if n then 0 else f64Inf false
  | .fin n m e =>
    if m = 0 then f64One
    else if 10 ≤ (Nat.log2 m : Int) + e then (if n then 0 else f64Inf false)
    else
      let s := e + fxBits
      let v : Int := if 0 ≤ s then (m * 2 ^ s.toNat : Nat) else (m / 2 ^ (-s).toNat : Nat)
      let x := if n then -v else v
      let k := x / fxLn2
      let y := (fxExp (x - k * fxLn2)).toNat
      -- cut to 53 bits, or to the last place of a subnormal result; one more with the free bit
      let drop := (fxBits - 52 : Nat) + (max 0 (-1022 - k)).toNat
      f64Round false (y / 2 ^ drop + b2n (Config.expUp a)) (k - fxBits + drop)

/-! ### Fundamentals of samples (R291) -/

/-- Σ x e^(−jωt) over samples, newest first, at a frequency in Hz (binary32) and 8,000 samples/s, in 2⁻³⁴¹; none when a value is no number. The
time runs from the newest sample back, so that two runs of equal length have a common reference. -/
def dftAt (xs : List Nat) (freq : Nat) : Option (Int × Int) :=
  match f32Exact freq with
  | none => none
  | some f =>
    (xs.zip (List.range xs.length)).foldl (fun (acc : Option (Int × Int)) e =>
      match acc, f32Exact e.1 with
      | some (c, s), some x =>
        let turn := f * (e.2 : Int) * fxOne / (8000 * 2 ^ 149 : Nat) % fxOne
        let turn := if 2 * turn < fxOne then turn else turn - fxOne
        let r := fxMul (2 * fxPi) turn
        some (c + x * fxCos r, s + x * fxSin r)
      | _, _ => none) (some (0, 0))

/-- RMS magnitude of the fundamental: √2 |Σ x e^(−jωt)| / N. -/
def fundMag (xs : List Nat) (freq : Nat) : Nat :=
  match dftAt xs freq with
  | some (c, s) => if xs = [] then 0 else f32SqrtRatio (2 * (c * c + s * s)).natAbs (xs.length * xs.length) (-341)
  | none => f32NaN

/-- The second fundamental times the conjugate of the first, in 2⁻⁶⁸². -/
def fundCross (us xs : List Nat) (freq : Nat) : Option (Int × Int) :=
  match dftAt us freq, dftAt xs freq with
  | some (c, s), some (c', s') => some (c' * c + s' * s, s' * c - c' * s)
  | _, _ => none

/-- The angle of the fundamental of the second signal minus that of the first, in degrees, −180 to +180. -/
def fundAngle (us xs : List Nat) (freq : Nat) : Nat :=
  match fundCross us xs freq with
  | some (x, y) => f32OfRatioE (180 * fxAngle x y) fxPi.toNat 0
  | none => f32NaN

/-- |U1| × |I1| × sin(angle of U1 − angle of I1). -/
def fundQ (us is : List Nat) (freq : Nat) : Nat :=
  match fundCross us is freq with
  | some (_, y) => if us = [] then 0 else f32OfRatioE (-2 * y) (us.length * us.length) (-682)
  | none => f32NaN

end Sys2Proof.Machine
end

