-- ==== Sys2Proof/Machine/Crypto.lean ====
section
/-! DEFINITION. The algorithms of KE (R524): SHA-256, HMAC-SHA-256, the counter-mode KDF of SP 800-108, AES-256-GCM, and ECDSA and ECDH over
P-256 and P-384. Standard algorithms, as FIPS 180-4, 198-1, 197 and 186-5, SP 800-38D, 800-56A and 800-108 define them. -/
namespace Sys2Proof.Machine
open Sys2Proof

/-- Big-endian bytes of a number, and back. -/
def beBytes (n v : Nat) : List Byte := (toBytes n v).reverse
def ofBe (l : List Byte) : Nat := ofBytes l.reverse

/-! ### SHA-256 -/

/-- The round constants and the initial state, 32 bits each, the first lowest. -/
def shaK : Nat := 0xc67178f2bef9a3f7a4506ceb90befffa8cc7020884c8781478a5636f748f82ee682e6ff35b9cca4f4ed8aa4a391c0cb334b0bcb52748774c1e376c0819a4c116106aa070f40e3585d6990624d192e819c76c51a3c24b8b70a81a664ba2bfe8a192722c8581c2c92e766a0abb650a735453380d134d2c6dfc2e1b213827b70a851429296706ca6351d5a79147c6e00bf3bf597fc7b00327c8a831c66d983e515276f988da5cb0a9dc4a7484aa2de92c6f240ca1cc0fc19dc6efbe4786e49b69c1c19bf1749bdc06a780deb1fe72be5d74550c7dc3243185be12835b01d807aa98ab1c5ed5923f82a459f111f13956c25be9b5dba5b5c0fbcf71374491428a2f98
def shaH : Nat := 0x5be0cd191f83d9ab9b05688c510e527fa54ff53a3c6ef372bb67ae856a09e667

def rotr (n x : Nat) : Nat := x / 2 ^ n + x % 2 ^ n * 2 ^ (32 - n)
def shaS (a b c x : Nat) : Nat := Nat.xor (Nat.xor (rotr a x) (rotr b x)) (rotr c x)
/-- The message schedule's functions: two rotations and a shift. -/
def shaSm (a b c x : Nat) : Nat := Nat.xor (Nat.xor (rotr a x) (rotr b x)) (x / 2 ^ c)

/-- Extend the schedule, held newest first, by `n` words. -/
def shaExtend : Nat → List Nat → List Nat
  | 0, w => w
  | n + 1, w => shaExtend n (((shaSm 17 19 10 (w.getD 1 0) + w.getD 6 0 + shaSm 7 18 3 (w.getD 14 0) + w.getD 15 0) % 2 ^ 32) :: w)

/-- One round on (a, …, h). -/
def shaRound (s : List Nat) (kw : Nat) : List Nat :=
  match s with
  | [a, b, c, d, e, f, g, h] =>
    let ch := Nat.xor (Nat.land e f) (Nat.land (2 ^ 32 - 1 - e) g)
    let mj := Nat.xor (Nat.xor (Nat.land a b) (Nat.land a c)) (Nat.land b c)
    let t1 := h + shaS 6 11 25 e + ch + kw
    let t2 := shaS 2 13 22 a + mj
    [(t1 + t2) % 2 ^ 32, a, b, c, (d + t1) % 2 ^ 32, e, f, g]
  | l => l

/-- One block of 64 bytes. -/
def shaBlock (h : List Nat) (b : List Byte) : List Nat :=
  let w := (shaExtend 48 ((List.range 16).map fun i => ofBe ((b.drop (4 * i)).take 4)).reverse).reverse
  let s := (w.zipIdx).foldl (fun s e => shaRound s (e.1 + shaK / 2 ^ (32 * e.2) % 2 ^ 32)) h
  (h.zip s).map fun e => (e.1 + e.2) % 2 ^ 32

/-- SHA-256. -/
def sha256 (m : List Byte) : List Byte :=
  let pad := m ++ [0x80] ++ List.replicate ((119 - m.length % 64) % 64) 0 ++ beBytes 8 (8 * m.length)
  let h := (chunksOf 64 (pad.length / 64) pad).foldl shaBlock ((List.range 8).map fun i => shaH / 2 ^ (32 * i) % 2 ^ 32)
  h.flatMap (beBytes 4)

/-- HMAC-SHA-256. -/
def hmac (key m : List Byte) : List Byte :=
  let k := if 64 < key.length then sha256 key else key
  let k := k ++ List.replicate (64 - k.length) 0
  sha256 (k.map (fun b => b ^^^ 0x5C) ++ sha256 (k.map (fun b => b ^^^ 0x36) ++ m))

/-- The KDF of SP 800-108 in counter mode with HMAC-SHA-256, L in bits (R526). -/
def kdf (key label context : List Byte) (L : Nat) : List Byte :=
  (((List.range ((L + 255) / 256)).flatMap fun i => hmac key (beBytes 4 (i + 1) ++ label ++ [0] ++ context ++ beBytes 4 L)).take (L / 8))

/-! ### AES-256-GCM -/

/-- The S-box, one byte each, entry 0 lowest. -/
def aesSbox : Nat := 0x16bb54b00f2d99416842e6bf0d89a18cdf2855cee9871e9b948ed9691198f8e19e1dc186b95735610ef6034866b53e708a8bbd4b1f74dde8c6b4a61c2e2578ba08ae7a65eaf4566ca94ed58d6d37c8e779e4959162acd3c25c2406490a3a32e0db0b5ede14b8ee4688902a22dc4f816073195d643d7ea7c41744975fec130ccdd2f3ff1021dab6bcf5389d928f40a351a89f3c507f02f94585334d43fbaaefd0cf584c4a39becb6a5bb1fc20ed00d153842fe329b3d63b52a05a6e1b1a2c830975b227ebe28012079a059618c323c7041531d871f1e5a534ccf73f362693fdb7c072a49cafa2d4adf04759fa7dc982ca76abd7fe2b670130c56f6bf27b777c63
def subByte (x : Nat) : Nat := aesSbox / 2 ^ (8 * x) % 256
/-- Multiplication by x in GF(2⁸). -/
def xtime (x : Nat) : Nat := if x < 128 then 2 * x else Nat.xor (2 * x) 0x11B

/-- Expand the key, held newest word first (a word is four bytes), by the words i to i + n − 1. -/
def aesExpand : Nat → Nat → Nat → List (List Nat) → List (List Nat)
  | 0, _, _, w => w
  | n + 1, i, rc, w =>
    let t := w.headD []
    let rot := (t.drop 1 ++ t.take 1).map subByte
    let t' := if i % 8 = 0 then (match rot with
        | a :: r => Nat.xor a rc :: r
        | [] => []) else if i % 8 = 4 then t.map subByte else t
    let x := ((w.getD 7 []).zip t').map fun e => Nat.xor e.1 e.2
    aesExpand n (i + 1) (if i % 8 = 0 then xtime rc else rc) (x :: w)

/-- The 15 round keys of 16 bytes. -/
def aesKeys (key : List Byte) : List (List Nat) :=
  let w := (List.range 8).map fun i => ((key.drop (4 * i)).take 4).map BitVec.toNat
  let l := (aesExpand 52 8 1 w.reverse).reverse.flatten
  (List.range 15).map fun r => (l.drop (16 * r)).take 16

def xorL (a b : List Nat) : List Nat := (a.zip b).map fun e => Nat.xor e.1 e.2
def shiftRows (s : List Nat) : List Nat := (List.range 16).map fun i => s.getD ((i + 4 * (i % 4)) % 16) 0
def mixCol (c : List Nat) : List Nat :=
  (List.range 4).map fun i =>
    let g (j : Nat) := c.getD ((i + j) % 4) 0
    Nat.xor (Nat.xor (xtime (g 0)) (Nat.xor (xtime (g 1)) (g 1))) (Nat.xor (g 2) (g 3))
def mixCols (s : List Nat) : List Nat := (List.range 4).flatMap fun c => mixCol ((s.drop (4 * c)).take 4)

/-- One block under the round keys. -/
def aesBlock (ks : List (List Nat)) (b : List Nat) : List Nat :=
  let s := xorL b (ks.headD [])
  let s := ((ks.drop 1).take 13).foldl (fun s k => xorL (mixCols (shiftRows (s.map subByte))) k) s
  xorL (shiftRows (s.map subByte)) (ks.getD 14 [])

/-- The bytes of the encryption of a 128-bit number. -/
def aesNat (ks : List (List Nat)) (x : Nat) : Nat := (aesBlock ks ((beBytes 16 x).map BitVec.toNat)).foldl (fun a b => 256 * a + b) 0

/-- Multiplication in GF(2¹²⁸), bit 0 most significant: `n` bits of x remain. -/
def gfMul : Nat → Nat → Nat → Nat → Nat
  | 0, _, _, z => z
  | n + 1, x, v, z =>
    gfMul n x (if v % 2 = 0 then v / 2 else Nat.xor (v / 2) (0xE1 * 2 ^ 120)) (if x / 2 ^ n % 2 = 1 then Nat.xor z v else z)

/-- GHASH over whole blocks. -/
def ghash (h : Nat) (b : List Byte) : Nat :=
  (chunksOf 16 ((b.length + 15) / 16) b).foldl (fun y c => gfMul 128 (Nat.xor y (ofBe (c ++ List.replicate (16 - c.length) 0))) h 0) 0

/-- The counter-mode stream applied to data. -/
def gcmStream (ks : List (List Nat)) (j0 : Nat) (m : List Byte) : List Byte :=
  ((chunksOf 16 ((m.length + 15) / 16) m).zipIdx.map fun e =>
    let ctr := j0 / 2 ^ 32 * 2 ^ 32 + (j0 + 1 + e.2) % 2 ^ 32
    (e.1.zip (beBytes 16 (aesNat ks ctr))).map fun p => p.1 ^^^ p.2).flatten

/-- The tag of a ciphertext without additional data. -/
def gcmTag (ks : List (List Nat)) (j0 : Nat) (c : List Byte) : List Byte :=
  let h := aesNat ks 0
  let pad := c ++ List.replicate ((16 - c.length % 16) % 16) 0
  beBytes 16 (Nat.xor (ghash h (pad ++ beBytes 8 0 ++ beBytes 8 (8 * c.length))) (aesNat ks j0))

/-- AES-256-GCM with a 96-bit IV: ciphertext and tag. -/
def gcmSeal (key iv m : List Byte) : List Byte :=
  let ks := aesKeys key
  let j0 := ofBe iv * 2 ^ 32 + 1
  let c := gcmStream ks j0 m
  c ++ gcmTag ks j0 c

/-- The plaintext of a ciphertext with its tag; none when the tag fails. -/
def gcmOpen (key iv m : List Byte) : Option (List Byte) :=
  let ks := aesKeys key
  let j0 := ofBe iv * 2 ^ 32 + 1
  let c := m.take (m.length - 16)
  if 16 ≤ m.length ∧ gcmTag ks j0 c = m.drop (m.length - 16) then some (gcmStream ks j0 c) else none

/-! ### Elliptic curves y² = x³ − 3x + b -/

/-- A curve: field prime, b, order, base point, and its bits. -/
structure Curve where
  p : Nat
  b : Nat
  n : Nat
  gx : Nat
  gy : Nat
  bits : Nat
deriving DecidableEq, Repr

def p256 : Curve :=
  { p := 0xFFFFFFFF00000001000000000000000000000000FFFFFFFFFFFFFFFFFFFFFFFF,
    b := 0x5AC635D8AA3A93E7B3EBBD55769886BC651D06B0CC53B0F63BCE3C3E27D2604B,
    n := 0xFFFFFFFF00000000FFFFFFFFFFFFFFFFBCE6FAADA7179E84F3B9CAC2FC632551,
    gx := 0x6B17D1F2E12C4247F8BCE6E563A440F277037D812DEB33A0F4A13945D898C296,
    gy := 0x4FE342E2FE1A7F9B8EE7EB4A7C0F9E162BCE33576B315ECECBB6406837BF51F5, bits := 256 }

def p384 : Curve :=
  { p := 0xFFFFFFFFFFFFFFFFFFFFFFFFFFFFFFFFFFFFFFFFFFFFFFFFFFFFFFFFFFFFFFFEFFFFFFFF0000000000000000FFFFFFFF,
    b := 0xB3312FA7E23EE7E4988E056BE3F82D19181D9C6EFE8141120314088F5013875AC656398D8A2ED19D2A85C8EDD3EC2AEF,
    n := 0xFFFFFFFFFFFFFFFFFFFFFFFFFFFFFFFFFFFFFFFFFFFFFFFFC7634D81F4372DDF581A0DB248B0A77AECEC196ACCC52973,
    gx := 0xAA87CA22BE8B05378EB1C71EF320AD746E1D3B628BA79B9859F741E082542A385502F25DBF55296C3A545E3872760AB7,
    gy := 0x3617DE4A96262C6F5D9E98BF9292DC29F8F41DBD289A147CE9DA3113B5F0B8C00A60B1CE1D7E819D7A431D7C90EA0E5F, bits := 384 }

/-- x^e mod m over the low `n` bits of e. -/
def powMod (m : Nat) : Nat → Nat → Nat → Nat → Nat
  | 0, _, _, acc => acc
  | n + 1, x, e, acc => powMod m n (x * x % m) (e / 2) (if e % 2 = 1 then acc * x % m else acc)
/-- The inverse modulo a prime. -/
def invMod (m bits x : Nat) : Nat := powMod m bits (x % m) (m - 2) 1
def subMod (m a b : Nat) : Nat := (a % m + m - b % m) % m

/-- A point in Jacobian coordinates; Z = 0 is the point at infinity. -/
abbrev Jac := Nat × Nat × Nat

/-- Twice a point. -/
def Curve.dbl (c : Curve) (q : Jac) : Jac :=
  let (x, y, z) := q
  if y = 0 ∨ z = 0 then (1, 1, 0)
  else
    let p := c.p
    let dl := z * z % p
    let g := y * y % p
    let bt := x * g % p
    let al := 3 * subMod p x dl * (x + dl) % p
    let x3 := subMod p (al * al) (8 * bt)
    (x3, subMod p (al * subMod p (4 * bt) x3) (8 * g * g), subMod p ((y + z) * (y + z)) (g + dl))

/-- The sum of two points. -/
def Curve.add (c : Curve) (q r : Jac) : Jac :=
  let (x1, y1, z1) := q
  let (x2, y2, z2) := r
  if z1 = 0 then r
  else if z2 = 0 then q
  else
    let p := c.p
    let z11 := z1 * z1 % p
    let z22 := z2 * z2 % p
    let u1 := x1 * z22 % p
    let u2 := x2 * z11 % p
    let s1 := y1 * z2 * z22 % p
    let s2 := y2 * z1 * z11 % p
    if u1 = u2 then (if s1 = s2 then c.dbl q else (1, 1, 0))
    else
      let h := subMod p u2 u1
      let w := subMod p s2 s1
      let hh := h * h % p
      let v := u1 * hh % p
      let hhh := h * hh % p
      let x3 := subMod p (w * w) (hhh + 2 * v)
      (x3, subMod p (w * subMod p v x3) (s1 * hhh), h * z1 * z2 % p)

/-- k × a point, over the low `n` bits of k. -/
def Curve.mulN (c : Curve) : Nat → Nat → Jac → Jac → Jac
  | 0, _, _, acc => acc
  | n + 1, k, q, acc => c.mulN n (k / 2) (c.dbl q) (if k % 2 = 1 then c.add acc q else acc)
def Curve.mul (c : Curve) (k : Nat) (q : Jac) : Jac := c.mulN c.bits k q (1, 1, 0)

/-- Affine coordinates; none at infinity. -/
def Curve.affine (c : Curve) (q : Jac) : Option (Nat × Nat) :=
  if q.2.2 % c.p = 0 then none
  else
    let zi := invMod c.p c.bits q.2.2
    some (q.1 * zi * zi % c.p, q.2.1 * zi * zi % c.p * zi % c.p)

/-- A point lies on the curve. -/
def Curve.on (c : Curve) (x y : Nat) : Bool :=
  decide (x < c.p) && decide (y < c.p) && y * y % c.p == (x * x * x + (c.p - 3) * x + c.b) % c.p

/-- Bytes of a coordinate. -/
def Curve.len (c : Curve) : Nat := c.bits / 8

/-- The public key X then Y, big-endian, of a private value. -/
def Curve.pubKey (c : Curve) (d : Nat) : List Byte := match c.affine (c.mul d (c.gx, c.gy, 1)) with
  | some (x, y) => beBytes c.len x ++ beBytes c.len y
  | none => List.replicate (2 * c.len) 0

/-- The signature r then s, big-endian, of the SHA-256 of a message with the secret number k. -/
def Curve.sign (c : Curve) (d k : Nat) (m : List Byte) : List Byte :=
  let e := ofBe (sha256 m)
  let k := k % (c.n - 1) + 1
  let r := match c.affine (c.mul k (c.gx, c.gy, 1)) with
    | some (x, _) => x % c.n
    | none => 0
  beBytes c.len r ++ beBytes c.len (invMod c.n c.bits k * ((e + r * d) % c.n) % c.n)

/-- ECDSA verification with SHA-256: public key, message, signature. -/
def Curve.verify (c : Curve) (key m sig : List Byte) : Bool :=
  let x := ofBe (key.take c.len)
  let y := ofBe ((key.drop c.len).take c.len)
  let r := ofBe (sig.take c.len)
  let s := ofBe ((sig.drop c.len).take c.len)
  if key.length = 2 * c.len ∧ sig.length = 2 * c.len ∧ c.on x y ∧ 0 < r ∧ r < c.n ∧ 0 < s ∧ s < c.n then
    let e := ofBe (sha256 m)
    let w := invMod c.n c.bits s
    match c.affine (c.add (c.mul (e * w % c.n) (c.gx, c.gy, 1)) (c.mul (r * w % c.n) (x, y, 1))) with
    | some (vx, _) => vx % c.n == r
    | none => false
  else false

/-- The ECDH secret of a private value and a public key, big-endian; none when the key is not on the curve. -/
def Curve.ecdh (c : Curve) (d : Nat) (key : List Byte) : Option (List Byte) :=
  let x := ofBe (key.take c.len)
  let y := ofBe ((key.drop c.len).take c.len)
  if c.on x y then (c.affine (c.mul d (x, y, 1))).map fun q => beBytes c.len q.1 else none

end Sys2Proof.Machine
end

