-- ==== Sys2Proof/Machine/State.lean ====
section
/-! DEFINITION. The state of the IK9600 block: registers, host memory, rings, the Crust, the units' private state, the
recorder, the keys, the trays, the pins and the queue of waiting commands. Plain data throughout. -/
namespace Sys2Proof.Machine
open Sys2Proof

/-- A machine fault. The IK9600 block has no processor that could stop: every error the manual describes is a status, an
event, a fault record or a state change, which are NEXT states. -/
inductive Fault where
  /-- Raised by no command of this model; kept so that the type is inhabited. Safe: nothing reaches it. -/
  | none
deriving DecidableEq, Repr

/-- Why a command has no meaning here. -/
inductive Refusal where
  /-- Raised by `exec`'s arm of a command that is not modelled yet. Safe: the run stops. -/
  | notModelled (mnemonic : String)
deriving DecidableEq, Repr

/-! ### Event recorder (spec/19) -/

/-- An occurrence handed to the recorder's input queue (R507). -/
structure Occ where
  unit : Nat
  num : Nat
  w0 : Nat := 0
  w1 : Nat := 0
  /-- Source byte of R504. -/
  src : Nat := 0
  sec : Nat := 0
  ns : Nat := 0
  /-- Time quality (R504). -/
  qual : Nat := 0
  inj : Bool := false
  lastGasp : Bool := false
deriving DecidableEq, Repr

/-- A record (R504); `code` is the event code, `off` the last offset in ms. -/
structure Rec where
  seq : Nat
  sec : Nat
  ns : Nat
  qual : Nat
  code : Nat
  frozen : Bool
  isOpen : Bool
  lastGasp : Bool
  inj : Bool
  src : Nat
  rep : Nat
  w0 : Nat
  w1 : Nat
  off : Nat
deriving DecidableEq, Repr

/-- A recorder stream (R515): ring, area, next sequence, and the sequences already sent that a merge has changed since. -/
structure Stream where
  ring : Nat
  areaF : Bool
  next : Nat
  again : List Nat := []
deriving DecidableEq, Repr

/-- What the recorder holds beside its registers. -/
structure EvrSt where
  queue : List Occ := []
  /-- Drops since the last drop record (R507). -/
  dropped : Nat := 0
  /-- Area C and area F, oldest first. -/
  areaC : List Rec := []
  areaF : List Rec := []
  /-- The open records' sequences, oldest first, at most eight (R506). -/
  openSeqs : List Nat := []
  /-- Next sequence, and the end of the block reserved in eMRAM (R505). -/
  nextSeq : Nat := 0
  blockEnd : Nat := 4096
  /-- The flash mirror: records mirrored, and the close mark (R511). -/
  mirror : List Rec := []
  closeMark : Option Nat := none
  streams : List Stream := []
  /-- Size of the recorder partitions of flash ports A and B, MiB (R508, R516). -/
  partA : Nat := 1024
  partB : Nat := 1024
  /-- Device time (ns) of the last mirror time (R511). -/
  mirrorAt : Nat := 0
  /-- Days in a row the forecast exceeded the target by 10 % (R517). -/
  goodDays : Nat := 0
  /-- Powered days since provisioning (R517). -/
  ageDays : Nat := 0
  /-- The stage has changed and the comparison of that change is still due (R517). -/
  stageChk : Bool := false
deriving DecidableEq, Repr

/-! ### Host interface (spec/05): rings, completions, doorbells, ports -/

/-- A command fetched and not started (R121, R126): its unit, opcode and tag, whether IOC was asked, whether it is a chain, and the status it
completes with when it cannot execute (0 when it can). -/
structure Fetched where
  unit : Nat
  op : Nat
  tag : Nat
  ioc : Bool
  chained : Bool
  bad : Nat
deriving DecidableEq, Repr

/-- One ring's dynamic state beside its registers (R117 to R133). -/
structure RingSt where
  /-- The host's index, last seen in the doorbell entry (R119). -/
  hostIdx : Nat := 0
  /-- Commands fetched and not started, oldest first (R121, R126). -/
  fetched : List Fetched := []
  /-- Counted entries since the last message (R133). -/
  pend : Nat := 0
  /-- Time of the first counted entry, µs (R133). -/
  first : Nat := 0
  /-- Event sequence number last used on this ring (R135). -/
  evSeq : Nat := 0
  /-- Entries dropped since the last overflow entry (R116). -/
  overflow : Nat := 0
deriving DecidableEq, Repr

/-- What a command that has started and not completed waits for (R128). -/
inductive WaitKind where
  /-- ISLAND_POWER: island n reaches ON (on = true) or OFF (R132). -/
  | island (n : Nat) (on : Bool)
  /-- PORT_POWER: Ethernet port p reaches ON or OFF (R173). -/
  | ethPort (p : Nat) (on : Bool)
  /-- MODEL_LOAD until the analysis ends (R340). -/
  | modelLoad
  /-- STRUCT_LOAD of partition p until its analysis ends (R364). -/
  | structLoad (p : Nat)
  /-- PART_SET until the change is made (R372). -/
  | partSet
  /-- SOLV_CTRL on partition p reaching the state asked for (R388). -/
  | solvPart (p : Nat) (on : Bool)
  /-- MTR_SERVICE on DSP k (R306). -/
  | mtrService (k : Nat)
  /-- FCU_INJECT at detector d (R498). -/
  | inject (d : Nat)
  /-- SESS_CTRL or a session start or stop of session s (R235). -/
  | session (s : Nat) (on : Bool)
  /-- CAN_CTRL on channel n reaching the state asked for (R202). -/
  | can (n : Nat) (on : Bool)
  /-- SAR k reaching the state asked for (R255). -/
  | sar (k : Nat) (on : Bool)
  /-- CLP_RUN until the CLP stops or runs (R451). -/
  | clpRun (on : Bool)
  /-- ADC_CAL on SAR k until the calibration pass ends. -/
  | adcCal (k : Nat)
  /-- BENCH_READ of table t whose transfer has not ended (R29). -/
  | benchRead (t : Nat)
  /-- A command whose end is another unit's event, named by a tag of its own. -/
  | other (what arg : Nat)
  /-- A command that has ended with a status, until its completion ring has room for the completion (R116). -/
  | room (status : Nat)
deriving DecidableEq, Repr

/-- A command in execution that has not completed. -/
structure Wait where
  hdr : CmdHdr
  /-- Configuration sequence number, of a command marked C (R128). -/
  cseq : Option Nat
  kind : WaitKind
  /-- Result words given at completion with success. -/
  words : List Nat := []
  /-- Its port went, or its ring entered ERROR: the command completes inside the controller and no completion is written (R123, R138). -/
  lost : Bool := false
deriving DecidableEq, Repr

/-- What a port's configuration space holds beside what never changes (R106, R107): the address the host gave BAR0 and BAR1, the width (lanes) and
rate (1 to 4) that the link trained to, the power state, and AER's status word and header log. -/
structure PciSt where
  bar : Nat := 0
  width : Nat := 0
  rate : Nat := 0
  d3hot : Bool := false
  aer : Nat := 0
  hdrLog : List Nat := []
deriving DecidableEq, Repr

/-- An action that begins 100 µs after its completion is written (R132). -/
inductive Delayed where
  | warmReset
  | retryProof
  /-- HOST off with the return time in seconds. -/
  | hostOff (secs : Nat)
deriving DecidableEq, Repr

/-- The HOST unit (spec/05). -/
structure HostSt where
  /-- Host memory as the two ports' DMA sees it: key 2⁶⁴ × port + address; an absent byte is 0 (DESIGN CHOICE, log 5). -/
  mem : SMap Byte := []
  rings : SMap RingSt := []
  /-- Commands in execution, oldest first. -/
  waits : List Wait := []
  /-- Next configuration sequence number (R128). -/
  cseq : Nat := 0
  /-- The two MSI-X tables: key 256 × port + word; and the pending bits: key 64 × port + vector (R109, R133). -/
  msix : SMap Nat := []
  pba : SMap Bool := []
  /-- MSI-X messages sent: count per 64 × port + vector. -/
  msgs : SMap Nat := []
  /-- The 64-bit high-word shadows: key 2³² × port + register address (R4). -/
  shadow : SMap Nat := []
  /-- Ports that are gone (R138). -/
  gone : List Nat := []
  /-- The ports' configuration spaces (R106, R107). -/
  pci : SMap PciSt := []
  /-- PERST level per port: ports whose PERST is asserted. -/
  perst : List Nat := []
  /-- Last heartbeat value and the count of unchanged 100 ms readings, per port (R122). -/
  hbLast : SMap Nat := []
  hbSame : SMap Nat := []
  /-- Time (µs) of the last EV1, for its 1 ms limit (R115). -/
  ev1At : Option Nat := none
  /-- Rings whose entry and shadow writes fail on the link (R129): what the link does, not the device. -/
  ringDmaBad : List Nat := []
  /-- Ports whose writes the host's flow control holds back, so that a transfer does not end: what the link does. -/
  stalled : List Nat := []
  /-- Ports whose link training has started (R580). -/
  training : List Nat := []
  /-- The data of the last BAR0 read completion per port. -/
  rdata : SMap Nat := []
  /-- Actions waiting for their 100 µs (R132). -/
  delayed : List Delayed := []
  /-- Return time of a HOST off in progress, in seconds (R21). -/
  returnSecs : Option Nat := none
deriving DecidableEq, Repr

/-! ### The Bench (spec/01 R27 to R31) -/

/-- One buffer of a Bench table: header fields and body (R27). -/
structure BenchBuf where
  valid : Bool := false
  inputStale : Bool := false
  init : Bool := false
  seq : Nat := 0
  tempo : Nat := 0
  sec : Nat := 0
  ns : Nat := 0
  frac : Nat := 0
  body : List Byte := []
  check : Nat := 0
deriving DecidableEq, Repr

/-- A table: its two buffers, which one is current, the leases on them (consumer, and device time in µs at which the lease began), the publication
that waits for a lease, and whether the producer has started again since its last publication (R28, R29). -/
structure BenchTab where
  buf0 : BenchBuf := {}
  buf1 : BenchBuf := {}
  cur : Bool := false
  lease0 : List (Nat × Nat) := []
  lease1 : List (Nat × Nat) := []
  waiting : Option BenchBuf := none
  fresh : Bool := true
  /-- Device times (µs) of the leases lost within the last second, for FD90 (R29, R495). -/
  lost : List Nat := []
  /-- Consumers whose first read failed and who re-read once (R29). -/
  retry : List Nat := []
deriving DecidableEq, Repr

/-! ### Power, clocks, thermal (spec/03) -/

/-- What the power, clock and thermal units hold beside their registers. -/
structure PwrSt where
  /-- Holds on island n: a bit per source, bit 2 FCU, 3 CS, 4 thermal manager, 7 Rack state (R73, R100). -/
  holds : SMap Nat := []
  /-- Islands with an off request waiting for ON, with its CAUSE (R72). -/
  waitOff : SMap Nat := []
  /-- Solver and application throttle steps in effect (R83). -/
  solvSteps : Nat := 0
  appSteps : Nat := 0
  /-- TJ (0.5 °C) at the previous throttle step (R83). -/
  stepTj : Int := 0
  /-- Consecutive readings at or above T_KW (R85). -/
  kwRun : Nat := 0
  /-- Grade: true for IK9600-E (R1). Fixed per part; DESIGN CHOICE false = IK9600-A. -/
  gradeE : Bool := false
  /-- Consecutive AVSBus commands without a valid answer (R67). -/
  avsMiss : Nat := 0
  /-- VDDC level last read back, mV (R66). -/
  vRead : Nat := 750
  /-- What holds the control die in reset: the rail monitor (R61), the loss of REFCLK (R75), a second Proof hang (R92). A thermal trip's hold is
  `tripHold`. -/
  heldRail : Bool := false
  heldClk : Bool := false
  heldHang : Bool := false
  /-- The memory die is lost to its users until the next warm reset (R17, R61). -/
  memLost : Bool := false
  /-- The device is in the thermal-trip hold: only WRST_N or MPG restarts it (R86). -/
  tripHold : Bool := false
  /-- Dual-clock queues whose reader stopped: island of the reader (R77). -/
  dcqStopped : List Nat := []
deriving DecidableEq, Repr

/-! ### Pins (spec/02) -/

/-- Input pin levels and the levels the device drives that no register holds. -/
structure PinSt where
  mpg : Bool := true
  wrst : Bool := true
  pfail : Bool := true
  testmode : Bool := false
  /-- Strap levels, bits as GLB.STRAP.LIVE (R48). -/
  straps : Nat := 0
  /-- The straps have been latched since the last reset (R45). -/
  strapped : Bool := false
  /-- Boundary scan drives the balls: 0 no, 1 EXTEST, 2 CLAMP, 3 HIGHZ (R584). -/
  bscan : Nat := 0
  /-- JTAG instruction selected: 0 IDCODE, 1 BYPASS, 2 SAMPLE/PRELOAD, 3 EXTEST, 4 CLAMP, 5 HIGHZ (R584). -/
  tapInstr : Nat := 0
  /-- Contents of the boundary-scan register, one bit a cell. -/
  bsr : List Bool := []
  /-- Data register selected: 0 identification, 1 bypass, 2 boundary scan. -/
  tapDr : Nat := 0
  /-- What the selected data register captured: the identification code, the bypass bit 0, or the sampled cells. -/
  tapCapture : List Bool := []
  /-- Levels of TAMPER0 to TAMPER3, and the inputs whose present activation has been accepted (R158). -/
  tamper : Nat := 15
  tampAcc : Nat := 0
deriving DecidableEq, Repr

/-! ### Crust (spec/06) -/

/-- A pending RTC set (R152): mode 0 waits for the next RTC second boundary, mode 1 for the next whole second of service time. -/
structure RtcSet where
  hdr : CmdHdr
  cseq : Option Nat
  mode : Nat
  secs : Nat
deriving DecidableEq, Repr

/-- The Crust state that no register field holds. -/
structure CrustSt where
  /-- RTC seconds (48 bits) and sub-second count (15 bits) (R149). -/
  sec : Nat := 0
  sub : Nat := 0
  /-- RTC_HI, CAL0 and CAL1 as latched by the port's last RTC_LO read (R150): key 4 × port + 0, 1, 2. -/
  latch : SMap Nat := []
  /-- Sets admitted and not yet in effect, oldest first (R152). -/
  pendingSets : List RtcSet := []
  /-- A slew towards service time: what remains, in 0.0001 ns; 0 none (R152). -/
  slew : Int := 0
  /-- Fraction of a sub-second count, in units of 10⁻¹⁷ counts (R151). -/
  frac : Nat := 0
  /-- Calendar second at which the calendar stopped, once past its end (R149). -/
  calEnd : Bool := false
  /-- Tamper log, oldest first: seconds, input byte, actions byte (R160). -/
  tamperLog : List (Nat × Nat × Nat) := []
  /-- Last-gasp log: the record and whether it has been copied to the recorder (R162). -/
  lastGasp : List (Rec × Bool) := []
  /-- Sources that assert CRP_ALERT_N: bit 0 TAMPER, 1 ALM0, 2 ALM1, 3 LG_NEW, 4 PROOF_HUNG, 5 WIT_FAIL (R163). -/
  alert : Nat := 0
  /-- Supplies present in range. -/
  vaux : Bool := true
  vbat : Bool := true
  /-- PONCTL level (R157). -/
  ponctl : Bool := true
  /-- A wake has raised PONCTL and MPG has not risen since (R157). -/
  waking : Bool := false
  /-- A declared loss not yet reported by Proof (R94). -/
  lossUnreported : Bool := false
  /-- A declared loss whose EV21 waits for the next start (R147). -/
  lossEvent : Bool := false
  /-- Detectors of faults CS handled with a reset or hold of the control die, to be raised again at the next start (R488). -/
  restartDets : List Nat := []
  /-- The Starter (R522, R537, R538): none for the one the owner installed before the run, the free value `Config.starter`. -/
  starter : Option Nat := none
  /-- What the witness's words show (R143, R145, R146). -/
  wit : Witness := {}
  /-- The SMBus interface holds a transaction (R583). -/
  smbusBusy : Bool := false
  /-- Answer of the last Crust port transaction. -/
  answer : List Byte := []
  /-- Whether the last Crust port transaction was acknowledged. -/
  acked : Bool := false
deriving DecidableEq, Repr

/-! ### Ethernet and network time (spec/07) -/

/-- An entry of a transmit timestamp queue (R189): identifier, stamp in service-time ns and in 1/65,536 ns, whether its loss loses a
Follow_Up, and the same instant in the domain's time, in 0.25 ns. -/
structure TxStamp where
  ident : Nat
  ns : Nat
  frac : Nat := 0
  twoStep : Bool
  domAt : Int := 0
deriving DecidableEq, Repr

/-- What a sent frame is: a PTP message by its messageType, domain, sequenceId and the time it carries in 0.25 ns (R181, R187); Tyrid; an ARP or
neighbour-discovery answer; a PRP supervision frame; a diagnostic response; a frame of the application cores. -/
inductive TxKind where
  | ptp (type dnum seq : Nat) (time : Int)
  | tyrid (g : Datagram)
  | neighbour
  | supervision
  | diag (resp : List Byte)
  | app
deriving DecidableEq, Repr

/-- A frame to be sent (R171, R174, R189): its kind, its transmit queue, the VLAN tag inserted, the PRP trailer (true: LanId 0xA; sequence number),
the PTP domain that sends it, the identifier of the transmit stamp asked for, and whether a Follow_Up needs that stamp. -/
structure TxFrame where
  kind : TxKind
  queue : Nat := 0
  vlan : Option Nat := none
  trailer : Option (Bool × Nat) := none
  dom : Nat := 0
  stamp : Option Nat := none
  twoStep : Bool := false
deriving DecidableEq, Repr

/-- A trigger capture (R191): edge, seconds, nanoseconds. -/
structure Capture where
  rise : Bool
  sec : Nat
  ns : Nat
deriving DecidableEq, Repr

/-- One PTP domain's servo (R182, R183). -/
structure DomSt where
  /-- Domain time minus service time, in 2⁻³² ns. -/
  ofs : Int := 0
  /-- Domain rate, in 0.001 ppm. -/
  rate : Int := 0
  /-- Consecutive Sync messages within the lock threshold (ACQUIRING) or beyond ten times it (LOCKED). -/
  run : Nat := 0
  /-- The first Sync in ACQUIRING since the domain was enabled has been received. -/
  first : Bool := false
  /-- The data set last announced at each port (R181), and the port the best master clock algorithm chose (R175). -/
  ann : SMap AnnSet := []
  slave : Option Nat := none
  /-- sequenceId of the last Sync from that port (R192). -/
  seq : Option Nat := none
  /-- The last Sync's origin time and its receive time in domain time, in 0.25 ns (R181, R187). -/
  sync : Option (Int × Int) := none
  /-- Per port, the last Delay_Req or Pdelay_Req sent: sequenceId and transmit stamp in domain time; and the two-step Pdelay_Resp whose Follow_Up is
  awaited: sequenceId, the responder's receive time, its own receive time. All times in 0.25 ns (R181, R187). -/
  req : SMap (Nat × Int) := []
  resp : SMap (Nat × Int × Int) := []
  /-- The mean path delay measured at each port, in 0.25 ns (R181). -/
  path : SMap Int := []
deriving DecidableEq, Repr

/-- A port's frames (R171, R172): received ones by what became of them, sent ones, and what waits to be sent. -/
structure EthCount where
  ptp : Nat := 0
  tyrid : Nat := 0
  mgmt : Nat := 0
  diag : Nat := 0
  neighbour : Nat := 0
  dropped : Nat := 0
  tooLong : Nat := 0
  badSum : Nat := 0
  ptpDiscarded : Nat := 0
  duplicates : Nat := 0
  sent : Nat := 0
  /-- Service time of the last received frame's stamp, ns (R186). -/
  stamp : Nat := 0
  /-- Device time (ns) at which a frame was last received, and until which a received pause frame holds transmission (R171, R174). -/
  rxUp : Nat := 0
  paused : Nat := 0
  /-- Frames queued for transmission, oldest first, and the last frame sent. -/
  txq : List TxFrame := []
  lastSent : Option TxFrame := none
deriving DecidableEq, Repr

/-- A PRP pair (R174): the node table, as source address and the sequence numbers held for it. -/
structure PrpSt where
  nodes : List (Nat × List Nat) := []
  supervision : Nat := 0
  /-- Next sequence number of the redundancy control trailer. -/
  seq : Nat := 0
deriving DecidableEq, Repr

/-- Network time and Ethernet state that no register field holds. -/
structure TimeSt where
  /-- Service time in units of 2⁻³² ns (R177). -/
  svc : Nat := 0
  /-- The domain that service time follows (R184). -/
  following : Option Nat := none
  /-- The domain followed last. -/
  lastDom : Option Nat := none
  /-- Alignment term a, in 10⁻¹⁴ (R185). -/
  align : Int := 0
  /-- Rate frozen while no domain is followed, in 10⁻¹⁴ (R178). -/
  frozen : Int := 0
  /-- The correction summed over device time, in 10⁻¹⁴ ns, and what it was at device times (ns) of the last 64 s, oldest first (R178). -/
  rSum : Int := 0
  hist : List (Nat × Int) := []
  /-- Service time has reached LOCKED since the start (R179). -/
  everLocked : Bool := false
  /-- A domain has locked since the start, and the device time (ns) at which RUN was entered (R179). -/
  firstLock : Bool := false
  runAt : Nat := 0
  /-- Service-time seconds at which LOCKED was left, while VALID may hold (R178). -/
  lockedLeft : Option Nat := none
  dom : SMap DomSt := []
  /-- Fraction of TB[n]'s count with SRC 0, in 1/(5 × 2³²) counts (R190). -/
  tbFrac : SMap Nat := []
  /-- PPS outputs (R191): service time in ns until which the output is high; pulses given; armed compare targets. -/
  ppsUntil : SMap Nat := []
  ppsPulses : SMap Nat := []
  ppsArmed : List Nat := []
  /-- Trigger captures, oldest first, and what the port's last CAP_SEC_LO read latched: key 4 × port + trigger. -/
  trigQ : SMap (List Capture) := []
  capLatch : SMap Capture := []
  /-- SEC_HI, NS and FRAC as latched by the port's last SVC_SEC_LO read: key 4 × port + 0, 1, 2. -/
  svcLatch : SMap Nat := []
  /-- PORT_ADDR records, 384 bytes (R195). -/
  addrs : List Byte := []
  txts : SMap (List TxStamp) := []
  /-- Next sequenceId per message: key 64 × domain + 8 × kind + port. -/
  ptpSeq : SMap Nat := []
  eth : SMap EthCount := []
  prp : SMap PrpSt := []
  /-- Ethernet ports with an off request waiting for ON (R173). -/
  ethOff : List Nat := []
  /-- Last diagnostic response, the second it fell in and the responses given in that second (R193). -/
  diagResp : List Byte := []
  diagSec : Nat := 0
  diagCount : Nat := 0
  /-- MODEL_PHASE as it stood at the start: the one the tempos use (R24). -/
  phase : Nat := 0
deriving DecidableEq, Repr

/-! ### CAN (spec/08) -/

/-- A frame as the high-priority buffer holds it (R210): filter index and stamp. -/
structure HpbEntry where
  filter : Nat
  frame : CanFrame
  stamp : Nat
deriving DecidableEq, Repr

/-- A PDU received in part on CAN (R229): class and sequence, the segment expected next, whether it is already discarded, and its bytes. -/
structure SegBuf where
  cls : Nat
  seq : Nat
  next : Nat := 0
  bad : Bool := false
  data : List Byte := []
deriving DecidableEq, Repr

/-- One CAN channel's state beside its registers. -/
structure CanSt where
  hpb : List HpbEntry := []
  /-- Objects with a cancel latched whose frame is on the bus (R213). -/
  cancels : List Nat := []
  /-- A sleep request waits for bus idle (R217). -/
  sleepReq : Bool := false
  /-- The object of the last RXNEW, TXDONE or TXFAIL (R225). -/
  lastObj : Nat := 0
  /-- Elapsed device time at which the stamp counters started, later by what CAN_CLK has been absent since, ns; and at which CAN_CLK was lost (R211). -/
  since : Nat := 0
  lostAt : Option Nat := none
  /-- Device time (ns) at which the last frame on the bus ended (R207, R213). -/
  busAt : Nat := 0
  /-- Device time (ns) from which the channel starts no new frame, while it stops or a sleep request waits (R202, R217); and at which each object was last
  made pending. -/
  haltAt : Nat := 0
  reqAt : SMap Nat := []
  /-- Frames of the bus engine waiting for its transmit objects, by object (R229, R236). -/
  engQ : SMap (List CanFrame) := []
  /-- Frames in the bus engine's receive queue with the device time of their SOF, and the PDUs received in part, by station address (R229, R236). -/
  engIn : List (CanFrame × Nat) := []
  segs : SMap SegBuf := []
deriving DecidableEq, Repr

/-! ### Sessions (spec/09) -/

/-- One session context beside its registers (R228 to R242). Times are elapsed device time in ns. -/
structure SessSt where
  /-- Next PDU sequence of direction 0 (R228). -/
  txSeq : Nat := 0
  /-- The IP address learned from the accepted JOIN, and the joined station's identity (R230, R233). -/
  ip : Option Nat := none
  ident : Nat := 0
  /-- Poll sequence, time of the request that awaits its response, and repeats sent in this slot (R234). -/
  pollSeq : Nat := 0
  pollAt : Option Nat := none
  tries : Nat := 0
  /-- Time of the OUT that awaits its confirmation, whether it was the repeat, and the image bytes and CRC last sent (R240). -/
  outAt : Option Nat := none
  outRep : Bool := false
  lastOut : Option (List Byte) := none
  crc : Nat := 0
  /-- Setpoint sequence, the setpoints held in the session table, and whether they changed since they were last sent (R237, R239). -/
  spSeq : Nat := 0
  sp : SMap Nat := []
  spNew : Bool := false
  /-- Last valid input words and received input bits, by position in the slice (R237). -/
  inW : SMap Nat := []
  inB : SMap Bool := []
  /-- Time of the accepted join, of the last valid response, and of the LEAVE sent, then of IDLE reached (R235). -/
  joinAt : Nat := 0
  rxAt : Option Nat := none
  stopAt : Nat := 0
  /-- JOINING: the first slot, which sends the current image, is still to come (R234). -/
  firstSlot : Bool := false
  /-- A STATUS request is due after the first valid response of a return; the fallback seconds it reported last (R241). -/
  returned : Bool := false
  fallback : Nat := 0
  /-- The minimum off time of 10 ms runs (R235). -/
  minoff : Bool := false
  /-- Next PARAM request identifier. -/
  paramId : Nat := 0
  /-- The PARAM requests that await their answers, oldest first: identifier and time (R244). -/
  paramAt : List (Nat × Nat) := []
  /-- Time of the last STATUS request to the LOST session (R234). -/
  statusAt : Nat := 0
  /-- Service time in ns of the last poll slot (R236). -/
  slotAt : Option Nat := none
  /-- The last PDU sent of each class. -/
  sent : SMap (List Byte) := []
deriving DecidableEq, Repr

/-! ### Process inputs and outputs (spec/10) -/

/-- One SAR (R252 to R256, R258, R268): service time (ns) of its start, last due tick of its sequence, elapsed time (ns) until which the
converter is busy and until which the sequence's last pass runs, end of the last overranged conversion (elapsed, ps), whether it is out of
service, whether Proof found it failed, and whether a return waits for the self-calibration. -/
structure SarSt where
  start : Nat := 0
  last : Option Nat := none
  conv : Nat := 0
  seq : Nat := 0
  ovrEnd : Option Nat := none
  out : Bool := false
  failed : Bool := false
  /-- A stop has been requested and the running pass has yet to end (R255); elapsed time (ns) at which the SAR stopped. -/
  stopping : Bool := false
  offAt : Nat := 0
deriving DecidableEq, Repr

/-- One sequence entry (R263, R264): last clean value, elapsed time (ns) of the last result, the GOOD values of the past seconds with the
service time (ns) of their stamps, and the stamps of the SUBST results. -/
structure EntSt where
  clean : Nat := 0
  lastAt : Option Nat := none
  good : List (Nat × Nat) := []
  subst : List Nat := []
deriving DecidableEq, Repr

/-- A result that a running pass has still to write (R261): SAR, entry, pass number, HALF, the conversion's mean code, value, quantity under calibration and
flags, the stamp (service time, ns), the elapsed time (ns) at which the entry ends, and its effective tick (R262). -/
structure SarRes where
  k : Nat
  e : Nat
  pass : Nat
  half : Bool
  mean : Nat
  value : Nat
  raw : Nat
  ovr : Bool
  taint : Bool
  wire : Bool
  stamp : Nat
  fin : Nat
  tick : Nat
deriving DecidableEq, Repr

/-- A system calibration session (R265 to R267): 1 open, 2 averaging the low reference, 3 low taken, 4 averaging the high reference, 5 ready to
commit; results still to average, their exact sum in 2⁻¹⁴⁹ (none once a result was no number), the references and the measured values,
the new coefficients, and the elapsed time (ns) of the opening. -/
structure CalSess where
  step : Nat := 1
  left : Nat := 0
  sum : Option Int := some 0
  ref : Nat := 0
  zref : Nat := 0
  zmeas : Nat := 0
  gain : Nat := 0
  ofs : Nat := 0
  opened : Nat := 0
deriving DecidableEq, Repr

/-- Process I/O beside its registers. Keys: SAR k, entry 256 × k + e, pin n, DAC n. -/
structure PioSt where
  /-- DACs whose output stage is off though no safe state holds it off: after a safe state with the stage off, until the next drive (R44, R46,
  R470). -/
  dacOff : List Nat := []
  sar : SMap SarSt := []
  ent : SMap EntSt := []
  /-- Results of the running passes that are still to come, by the time at which their entries end. -/
  due : List SarRes := []
  cal : SMap CalSess := []
  /-- Elapsed time (ns) of each pulse input's last counted edge (R275). -/
  edge : SMap Nat := []
  /-- Counts loaded by PIN_LOAD that take effect at the next base tick (R275). -/
  loads : SMap Nat := []
  /-- Local words as last handed to the lanes, for the base-tick update of the pulse words (R262). -/
  handed : SMap Nat := []
  /-- Safe-value latches (R47, R272): DAC n's code and whether its stage is on, two bits per DIO pin, and whether the stored values failed. -/
  safeDac : SMap Nat := []
  safeDio : SMap Nat := []
  safeBad : Bool := false
  /-- Driven DIO pins (R261, R273): 0 low, 1 high, 2 released. -/
  dio : SMap Nat := []
deriving DecidableEq, Repr

/-! ### The network model (spec/13). Floating-point values are binary32 patterns unless a field says binary64. -/

/-- A node record (R335). -/
structure NodeRec where
  tag : Nat
  role : Nat
  addr : Nat
  elev : Nat
  dfltP : Nat
  dfltT : Nat
  /-- Bytes 5 and 20 to 31. -/
  rsvd : Bool := true
deriving DecidableEq, Repr

/-- A branch record (R336). -/
structure BranchRec where
  tag : Nat
  fr : Nat
  dst : Nat
  len : Nat
  area : Nat
  k : Nat
  u : Nat
  ground : Nat
  valve : Nat
  flags : Nat
  splitOf : Nat
  splitA : Nat
  splitB : Nat
  dflt : Nat
  rsvd : Bool := true
deriving DecidableEq, Repr

/-- A measurement record (R337). -/
structure MeasRec where
  tag : Nat
  kind : Nat
  source : Nat
  obj : Nat
  loc : Nat
  scale : Nat
  ofs : Nat
  sigma : Nat
  pseudo : Nat
  flags : Nat
  rsvd : Bool := true
deriving DecidableEq, Repr

/-- A network model: identifier, records in load order, and the ordering, empty when the application cores compute one (R334, R340). -/
structure NetModel where
  id : Nat := 0
  nodes : List NodeRec := []
  branches : List BranchRec := []
  meas : List MeasRec := []
  order : List Nat := []
deriving DecidableEq, Repr

/-- A state of the network as published: pressures, temperatures and injections by node, flows by branch (R338, R348). -/
structure NetState where
  p : List Nat := []
  t : List Nat := []
  g : List Nat := []
  m : List Nat := []
deriving DecidableEq, Repr

/-- A tick of the estimator (R343): the tick's service time in ns, the model it works on, whether the gather window has ended and when (elapsed,
ns), a stale snapshot, and by measurement its value (binary64) and whether it counts as SUBST; none where it is not usable (R339). -/
structure EstWin where
  tickNs : Nat
  model : NetModel
  gathered : Bool := false
  gatherUp : Nat := 0
  stale : Bool := false
  vals : List (Option (Nat × Bool)) := []
  /-- Tags in quarantine as the window began (R342). -/
  quar : List Nat := []
deriving DecidableEq, Repr

/-- A segment of the transport delay engine (R349 to R353). Parcels stand from the FROM end to the TO end: volume (binary64), temperature. -/
structure Seg where
  parcels : List (Nat × Nat) := []
  inlet : Nat := 0
  outlet : Nat := 0
  /-- Volume entered since seeding (binary64); none once it has reached V. -/
  fill : Option Nat := some 0
  /-- The TO end was the downstream end in the last step. -/
  fwd : Option Bool := none
  rev : Bool := false
  zero : Bool := false
  full : Bool := false
  poolMerge : Bool := false
deriving DecidableEq, Repr

/-- The estimator and the transport delay engine beside their registers. -/
structure ModelSt where
  active : Option NetModel := none
  staged : Option NetModel := none
  /-- A checked image whose symbolic analysis runs, and when it began (elapsed, ns) (R340). -/
  analysing : Option (NetModel × Nat) := none
  /-- The nodes, branches and parcels that the last activation carried, until the first EST_STATE of the new model (R341). -/
  carried : Option (Nat × Nat × Nat) := none
  /-- Number and service time (ns) of the last model tick. -/
  tick : Nat := 0
  tickNs : Option Nat := none
  /-- The start point of the next estimate, with its model (R343). -/
  point : Option (Nat × NetState) := none
  /-- Branch flows and unobservable states of the last publication. -/
  lastM : List Nat := []
  lastUnobs : List Nat := []
  /-- Tags in quarantine, and by tag the consecutive ticks flagged BAD (R346). -/
  quar : List Nat := []
  badRun : SMap Nat := []
  win : Option EstWin := none
  /-- A step of the transport delay engine that is due: its tick's service time, ns (R349). -/
  stepDue : Option Nat := none
  /-- EST_STATE of the present tick has been published. -/
  estDone : Bool := false
  segs : SMap Seg := []
  /-- Content of SESS_SNAP (R339), by 32 × session + word: value, quality (0 GOOD, 1 STALE, 2 SUBST, 3 FORCED), receive stamp in ns. -/
  sessSnap : SMap (Nat × Nat × Nat) := []
  /-- Ticks in a row whose status was EST_DIVERGED or EST_NO_INPUT. -/
  badEst : Nat := 0
  /-- Steps in a row with held flows, and the last flows used (R350). -/
  held : Nat := 0
  flows : List Nat := []
deriving DecidableEq, Repr

/-! ### The dispatch solver (spec/14). Values are binary64 patterns unless a field says binary32. -/

/-- A sparse matrix by compressed columns (R363). -/
structure Csc where
  start : List Nat := []
  idx : List Nat := []
  val : List Nat := []
deriving DecidableEq, Repr

/-- A feed link (R367). Gain and offset are binary32. -/
structure FeedLink where
  kind : Nat
  src : Nat
  idx : Nat
  row : Nat
  series : Nat
  kmin : Nat
  kmax : Nat
  gain : Nat
  ofs : Nat
  rsvd : Bool := true
  /-- The source value that the link applied last; none before any (R368). -/
  last : Option Nat := none
deriving DecidableEq, Repr

/-- A structure with the values it holds now (R360 to R364): P has its upper triangle with the diagonal. -/
structure QpStruct where
  part : Nat := 0
  id : Nat := 0
  horizon : Nat := 0
  stepS : Nat := 0
  dense : Bool := false
  factor : Nat := 0
  flops : Nat := 0
  /-- Variables: tag, initial value. -/
  vars : List (Nat × Nat) := []
  /-- Rows: tag, BOUND, initial dual. -/
  rows : List (Nat × Bool × Nat) := []
  q : List Nat := []
  l : List Nat := []
  u : List Nat := []
  p : Csc := {}
  a : Csc := {}
  order : List Nat := []
  tree : List (Nat × Nat × Nat) := []
  feeds : List FeedLink := []
deriving DecidableEq, Repr

/-- An iterate: x by variable; y, z, slacks and multipliers of the lower and the upper bound by row (R373). -/
structure QpIter where
  x : List Nat := []
  y : List Nat := []
  z : List Nat := []
  sl : List Nat := []
  su : List Nat := []
  ll : List Nat := []
  lu : List Nat := []
deriving DecidableEq, Repr

/-- A solution kept for warm starts, with the tags of its structure, its base and its step, and the number of its cycle (R376). -/
structure QpSol where
  vtags : List Nat
  rtags : List Nat
  it : QpIter
  base : Nat
  stepS : Nat
  cycle : Nat
deriving DecidableEq, Repr

/-- A cycle from its take to its delivery (R369, R376, R378, R382): tick and take (service time, ns), deadline (ns), base B, the scaled problem's
factors by variable and by row, the start iterate, and the delivery's counts and flags. -/
structure QpCycle where
  tickNs : Nat
  takeUp : Nat
  deadline : Nat
  base : Nat
  dvec : List Nat
  evec : List Nat
  start : QpIter
  shift : Nat := 0
  kept : Nat := 0
  new : Nat := 0
  vanished : Nat := 0
  records : Nat := 0
  delayOld : Bool := false
  delayClamp : Bool := false
  stateOld : Bool := false
  planBad : Bool := false
  noShift : Bool := false
  cold : Bool := false
  changed : Bool := false
deriving DecidableEq, Repr

/-- A partition beside its registers. -/
structure PartSt where
  staged : Option QpStruct := none
  active : Option QpStruct := none
  /-- A structure whose analysis runs, and since when (elapsed, ns). -/
  analysing : Option (QpStruct × Nat) := none
  actPend : Bool := false
  /-- Result words of the activation whose first delivery is awaited: kept, new, vanished come from the cycle; sets discarded (R365). -/
  actWait : Option Nat := none
  /-- Accepted delta sets, oldest first: structure, records (target, index, value) (R366). -/
  deltas : List (Nat × List (Nat × Nat × Nat)) := []
  good : Option QpSol := none
  inter : Option QpSol := none
  /-- SOLV_CTRL action 2: the next start is cold. -/
  coldNext : Bool := false
  cycle : Option QpCycle := none
  /-- Takes so far, and the number and service time (ns) of the last plan tick (D) or 100 ms tick (F). -/
  cycles : Nat := 0
  ticks : Nat := 0
  /-- A plan tick whose take is awaited: its service time, ns (R378). -/
  planTick : Option Nat := none
  /-- Last delivery: values as binary64, the summary bits DELAY_OLD, DELAY_CLAMP, STATE_OLD, its iterate's duals, and whether it left values. -/
  lastX : List Nat := []
  lastY : List Nat := []
  lastBits : Nat := 0
  /-- Deliveries in a row with DAYOLD, ILLPOSED or NO_SOLUTION. -/
  badRun : Nat := 0
deriving DecidableEq, Repr

/-- A map entry of the Setpoint Distributor (R383). Numbers are binary32. -/
structure SdEntry where
  source : Nat
  part : Nat
  kind : Nat
  target : Nat
  index : Nat
  en : Bool
  scale : Nat
  ofs : Nat
  lo : Nat
  hi : Nat
  rate : Nat
deriving DecidableEq, Repr

/-- What the Distributor holds of an entry (R384 to R386): target and issued value (binary32), whether one was ever issued, effective time in µs. -/
structure SdItem where
  e : SdEntry
  target : Nat := 0
  issued : Nat := 0
  started : Bool := false
  /-- A target has been taken since the map entry began. -/
  aimed : Bool := false
  eff : Nat := 0
  clamp : Bool := false
  held : Bool := false
  first : Bool := false
  off : Bool := false
deriving DecidableEq, Repr

/-- The solver and the Distributor beside their registers; partition 0 is D, 1 is F. -/
structure SolvSt where
  part : SMap PartSt := []
  /-- The PART_SETs that wait for idle partitions, oldest first: tiles E, D, F, SRAM E, D, F, BW_E, BW_F (R372). -/
  setReq : List (List Nat) := []
  /-- The Distributor's map, and one loaded that takes effect at the next delivery (R383). -/
  sd : List SdItem := []
  sdNext : Option (List SdEntry) := none
  /-- A publication of partition 0 or 1 that the Distributor has yet to take (R384), oldest first. -/
  sdDue : List Nat := []
  /-- DISP_TRAJ and FAST_SOL sequences used last (R386). -/
  seqD : Nat := 0
  seqF : Nat := 0
deriving DecidableEq, Repr

/-! ### Lanes: loop engine and cyclic logic (spec/15, spec/16, spec/17) -/

/-- An item of the process image: value and quality, 0 GOOD, 1 STALE, 2 SUBST, 3 FORCED (R427, R428). -/
structure Item where
  v : Nat := 0
  q : Nat := 1
deriving DecidableEq, Repr

/-- A change of a loop context that takes effect at an effective sample (R406, R409, R414, R416). -/
inductive LoopChange where
  /-- LOOP_MODE: new mode, new SP_SRC; none leaves it. -/
  | mode (m src : Option Nat)
  | lsp (v : Nat)
  | rsp (v : Nat)
  | man (v : Nat)
  | force (v : Option Nat)
  /-- Words written at context offsets; `coef` when a coefficient is among them (R405). -/
  | write (ws : List (Nat × Nat)) (coef : Bool)
  /-- The binding of a newly activated loop program; none when the loop leaves use (R396). -/
  | bind (b : Option LoopBind)
deriving DecidableEq, Repr

/-- What is handed to the lanes with one effective tick (R238, R262, R445, R448). -/
inductive HandOver where
  | inBit (a : Nat) (x : Item)
  | inWord (a : Nat) (x : Item)
  | force (space addr v : Nat)
  | unforce (space addr : Nat)
  | data (space addr v : Nat)
  | voted (bit : Nat) (v : Bool)
  | safe (on : Bool)
  | kw (on : Bool)
  /-- P follows MIN_TICKS (R448). -/
  | period (minTicks : Nat)
  | clpStop
  | clpRun
  /-- A CLP program switches; `keep` when its data are kept (R448, R449). -/
  | clpImage (img : ClpImage) (keep : Bool)
  /-- CLP retentive data of a Tray or Recipe: markers, data words, counter values. -/
  | clpData (m dw ctr : List (Nat × Nat))
deriving DecidableEq, Repr

/-- What a lane holds of a loop beside its context registers: FE_N and the full following-error count (R402, R415), the notch initialisation
due (R405), a HOLD made the process value unusable, a trip's action due at the next sample (1 HOLD, 2 MANUAL), and the last usable ep (R403); a start in AUTO goes through the preset (R420). -/
structure LoopHid where
  feN : Nat := 1
  feCnt : Nat := 0
  init : Bool := false
  unus : Bool := false
  trip : Nat := 0
  ep : Nat := 0
  preset : Bool := false
deriving DecidableEq, Repr

/-- A timer (R441): kind 0 none used yet, 1 TON, 2 TOF, 3 TP. -/
structure TimerSt where
  kind : Nat := 0
  run : Bool := false
  start : Nat := 0
  q : Bool := false
  last : Bool := false
  et : Nat := 0
deriving DecidableEq, Repr

/-- A counter (R442): CV as 32 bits, and the last BA that CTU and CTD saw. -/
structure CtrSt where
  cv : Nat := 0
  lastU : Bool := false
  lastD : Bool := false
deriving DecidableEq, Repr

/-- A lane's cyclic logic processor (R427 to R442). -/
structure ClpSt where
  img : ClpImage := {}
  m : SMap Bool := []
  dw : SMap Nat := []
  tim : SMap TimerSt := []
  /-- Presets in effect where they differ from the image's (TPRE). -/
  pt : SMap Nat := []
  ctr : SMap CtrSt := []
  /-- The CLP's own output image. -/
  outB : SMap Bool := []
  outW : SMap Nat := []
  /-- The snapshot of the present cycle: inputs and forces (R433). -/
  snapB : SMap Item := []
  snapW : SMap Item := []
  snapF : SMap Nat := []
  ba : Bool := true
  wa : Nat := 0
  /-- The branch stack, newest first: BA and combine operation (R439). -/
  stack : List (Bool × Nat) := []
  pc : Nat := 0
  /-- Execution time of the present cycle in 2.5 ns cycles (R438). -/
  cycles : Nat := 0
  /-- ERR of the present cycle and of the one before; address of its first setting (R440). -/
  err : Bool := false
  prevErr : Bool := false
  /-- Loop-owned word first written in the present cycle, and whether the cycle before had such a write (R429, R455). -/
  loopWr : Option Nat := none
  prevLoopWr : Bool := false
  /-- FIRST of the present cycle (R437). -/
  first : Bool := true
  /-- Start tick of the present cycle; index and start tick of the next (R432). -/
  cur : Nat := 0
  idx : Nat := 0
  next : Nat := 0
  /-- M, DW and the counters at the end of the last complete cycle, which the retentive copy takes (R431); none before one under these data. -/
  done : Option (SMap Bool × SMap Nat × SMap CtrSt) := none
deriving DecidableEq, Repr

/-- A publication (R458): source 0 to 7 a loop class, 8 the CLP; index, start tick, output bits and words (absent items are 0). -/
structure Pub where
  src : Nat
  idx : Nat
  tick : Nat
  bits : SMap Bool := []
  words : SMap Nat := []
deriving DecidableEq, Repr

/-- A sample of a class in progress (R398): class, index, start tick, the loops still to run, and the inputs, forces, interlock bits and SAFE state
that the lane applied for it (R262, R401). -/
structure LoopRun where
  cls : Nat
  idx : Nat
  tick : Nat
  rest : List Nat
  inW : SMap Item := []
  forces : SMap Nat := []
  voted : SMap Bool := []
  safe : Bool := false
deriving DecidableEq, Repr

/-- One lane's private state. -/
structure LaneSt where
  /-- The lane's LOOP and CLP register fields, in the same keys as the register bank. -/
  regs : SMap Nat := []
  /-- Input image as handed over: the values under any force (R427, R446). -/
  inB : SMap Item := []
  inW : SMap Item := []
  /-- Forces the lane applies: key 65,536 × space + address (R445). -/
  forces : SMap Nat := []
  safe : Bool := false
  kw : Bool := false
  /-- Voted output bits handed over as interlock bits (R413). -/
  voted : SMap Bool := []
  /-- Hand-overs with their effective ticks, oldest first. -/
  pend : List (Nat × HandOver) := []
  /-- Loop changes with their effective ticks, by loop, oldest first. -/
  lpend : SMap (List (Nat × LoopChange)) := []
  binds : SMap LoopBind := []
  hid : SMap LoopHid := []
  /-- Next sample index of classes 0 to 6 (R397). -/
  next : SMap Nat := []
  /-- Effective ticks of the accepted trigger edges not yet run, and the next class-7 index (R400). -/
  trig : List Nat := []
  trigIdx : Nat := 0
  /-- Samples in progress, fastest class first (R398). -/
  runs : List LoopRun := []
  /-- The loop engine is taken until here, in evaluations of 0.5 µs since the common start (R397). -/
  busy : Nat := 0
  clp : ClpSt := {}
  /-- Publications on their way to the Output Gate. -/
  outbox : List Pub := []
deriving DecidableEq, Repr

/-- An entry of the CLP force table (R444): effective tick of its last setting. -/
structure ForceEnt where
  space : Nat
  addr : Nat
  v : Nat
  eff : Nat
deriving DecidableEq, Repr

/-- Forces, held in AON and copied to eMRAM (R414, R447). -/
structure FrcSt where
  clp : SMap ForceEnt := []
  /-- Forced loops and their FORCE_VAL. -/
  loop : SMap Nat := []
  /-- Effective tick of the last release (R447). -/
  relTick : Nat := 0
  /-- Forces that a reset ended, to be recorded at the start: space, address, value; space 16 stands for a loop (R414, R447). -/
  ended : List (Nat × Nat × Nat) := []
deriving DecidableEq, Repr

/-- A vote window (R460): source, index, start tick, the device time (ns) at which it opened, the lanes in service at its opening (R465), and the
publications by lane. -/
structure VoteWin where
  src : Nat
  idx : Nat
  tick : Nat := 0
  opened : Nat := 0
  voters : List Nat := []
  pubs : List (Nat × Pub) := []
deriving DecidableEq, Repr

/-- A finding record for CS (R464): first differing item, lanes in the minority and absent as masks, whether all lanes differ, and the first
differing value: majority (or first lane's), then minority. -/
structure Finding where
  idx : Nat
  src : Nat
  word : Bool := false
  item : Nat := 0
  minor : Nat := 0
  absent : Nat := 0
  differ : Bool := false
  val : Nat := 0
  val2 : Nat := 0
deriving DecidableEq, Repr

/-- A re-admission in progress (R472 to R474): lane, source, whether SHADOW found a difference or a missing publication, and the sources the lane
published in SHADOW. -/
structure Readmit where
  lane : Nat
  source : Nat
  /-- Elapsed time (ns) at which MIRRORING, then SHADOW began. -/
  since : Nat := 0
  bad : Bool := false
  seen : List Nat := []
deriving DecidableEq, Repr

/-- The Output Gate and CS's arbitration (spec/17). -/
structure GateSt where
  /-- Elapsed time (ns) of the lanes' common start (R26, R179); none before it. -/
  t0 : Option Nat := none
  wins : List VoteWin := []
  /-- Per source: indices below this have closed. -/
  closed : SMap Nat := []
  votedB : SMap Bool := []
  votedW : SMap Nat := []
  /-- Findings on their way to CS, oldest first. -/
  findings : List Finding := []
  /-- Device time (ns) at which the SAFE path was last applied, and its spans from application to release that ended within the last 10 ms, which
  no frame outlasts (R220). -/
  safeAt : Nat := 0
  spans : List (Nat × Nat) := []
  /-- Local outputs are driven from publications that start at or after this tick (R470). -/
  driveFrom : Nat := 0
  /-- Next place in the disagreement log (R479). -/
  logAt : Nat := 0
  readmit : Option Readmit := none
  /-- A re-admitted lane is voted from indices that start at or after this tick (R472). -/
  inFrom : SMap Nat := []
  /-- Effective tick of the last accepted trigger edge (R400). -/
  lastTrig : Option Nat := none
  /-- Elapsed time (ns) of the last periodic retentive copy, or of the lanes' start (R431). -/
  retAt : Nat := 0
deriving DecidableEq, Repr

/-- The active images of the update system that hold no register of their own (R545, R549), and the retentive copy of the CLP (R431). -/
structure ImgSt where
  loops : SMap LoopBind := []
  clp : ClpImage := {}
  retM : SMap Bool := []
  retDw : SMap Nat := []
  retC : SMap Nat := []
  retHas : Bool := false
deriving DecidableEq, Repr

/-! ### Metering (spec/11, spec/12) -/

/-- A voltage event in progress (R298): start (service time, ns), phases concerned, lowest or highest Urms(1/2). -/
structure VoltEvt where
  start : Nat
  mask : Nat := 0
  val : Nat := 0
deriving DecidableEq, Repr

/-- A busbar's cycles and windows (R290, R291). A position is 2³² × sample number (the first being 1) + fraction of the sample interval. -/
structure BusSt where
  /-- Sample number after which metering last started or stopped (R309). -/
  from_ : Nat := 0
  /-- Position at which the running cycle began, its service time in ns, and the samples of the last complete one; 0 before there is one. -/
  cyc : Nat := 0
  cycAt : Nat := 0
  cycN : Nat := 0
  /-- Position of the last zero crossing of the L1 fundamental, once there has been one. -/
  cross : Option Nat := none
  /-- Positions of the crossings of the past second, newest first, for the snapshot's frequency (R302). -/
  marks : List Nat := []
  /-- Position at which the running window began, and its complete cycles. -/
  win : Nat := 0
  winCyc : Nat := 0
  /-- The running 10 s of service time, position of its first cycle start when its cycles have been whole from there on, and their number. -/
  ten : Nat := 0
  tenPos : Option Nat := none
  tenCyc : Nat := 0
  /-- Events by kind: 1 dip, 2 swell, 3 interruption (R298). -/
  evt : SMap VoltEvt := []
deriving DecidableEq, Repr

/-- What an interval gathers for its record (R304): its start (service time, ns), gap time in ns, and the flags gap, calibration, carried, time not
VALID, wrap, first. -/
structure IvlAcc where
  start : Nat := 0
  gapNs : Nat := 0
  gap : Bool := false
  cal : Bool := false
  carried : Bool := false
  bad : Bool := false
  wrap : Bool := false
  first : Bool := true
deriving DecidableEq, Repr

/-- A feeder beside its registers. -/
structure FdrSt where
  /-- Residues of E[0] to E[7], in 1/(2880 × 2²⁹⁸) of their LSB (R295). -/
  res : SMap Nat := []
  /-- An open gap: cause, start (service time, ns), and from where its time is still to be added to the interval (R307). -/
  gap : Option (Nat × Nat × Nat) := none
  /-- Service time (ns) of the last gap opening or closing, for the snapshot's flag (R302). -/
  gapSeen : Option Nat := none
  ivl : IvlAcc := {}
  /-- Sequence of the last record, and the last 96 records, oldest first (R304, R305). -/
  seq : Nat := 0
  recs : List (List Byte) := []
  /-- Active, fundamental reactive and apparent power of the last cycle, for the test outputs (R300). -/
  pqs : Nat × Nat × Nat := (0, 0, 0)
  /-- P_VALID has been 0 in the running cycle (R294). -/
  lapse : Bool := false
deriving DecidableEq, Repr

/-- A calibration session of a channel (R310): new GAIN and PHASE, whether one has been measured, opening time (elapsed, ns), and a measurement
in progress: whether of the angle, reference, windows left, exact sum in 2⁻¹⁴⁹ (none once a value was no number). -/
structure MCal where
  gain : Nat
  phase : Nat
  got : Bool := false
  opened : Nat
  busy : Option (Bool × Nat × Nat × Option Int) := none
deriving DecidableEq, Repr

/-- The metering stream (R303, R116): ring, period, masks and flags, next sequence, the device buffer, entries dropped from it, and by busbar the
last second in which window entries went out with period 1. -/
structure MtrStream where
  ring : Nat
  perSec : Bool
  fmask : Nat
  bmask : Nat
  flags : Nat
  seq : Nat := 0
  buf : List (List Byte) := []
  lost : Nat := 0
  sent : SMap Nat := []
deriving DecidableEq, Repr

/-- A record that waits for its signature (R305, R327): 0 electrical, 1 heat interval, 2 heat billing; feeder or meter; its 128 bytes. -/
structure SignRec where
  kind : Nat
  idx : Nat
  body : List Byte
deriving DecidableEq, Repr

/-- What a heat meter gathers over an interval or a billing period (R325): error time in ns, reversals, ERRBITS, flags, highest absolute 1 s mean
power, sums of TS and TR over the computed samples in 2⁻¹⁴⁹, their number, and the period's start (service time, s). -/
structure HeatAcc where
  errNs : Nat := 0
  revs : Nat := 0
  bits : Nat := 0
  carried : Bool := false
  bad : Bool := false
  forced : Bool := false
  first : Bool := true
  gap : Bool := false
  changed : Bool := false
  maxP : Nat := 0
  sumTs : Int := 0
  sumTr : Int := 0
  n : Nat := 0
  start : Option Nat := none
deriving DecidableEq, Repr

/-- A heat sample of the past second, for HEAT_SNAP (R324): time, flow, TS, TR, power, mass flow, dh as binary32, computed or not, its flags. -/
structure HeatSmp where
  at_ : Nat
  flow : Nat
  ts : Nat
  tr : Nat
  power : Nat
  mass : Nat
  dh : Nat
  ok : Bool
  flags : Nat
  bits : Nat
deriving DecidableEq, Repr

/-- A heat meter beside its registers (R317 to R330). Residues are binary64: res[0] to res[3], then the volumes' in litres. -/
structure HeatSt where
  res : SMap Nat := []
  /-- Count at the previous sample; none before the first and after a gap or a change of source. -/
  prev : Option Nat := none
  /-- The previous sample fell into a metering gap (R330). -/
  inGap : Bool := false
  /-- Elapsed time (ns) of the last sample. -/
  lastUp : Nat := 0
  /-- Sign of the last non-zero dv: true reverse. -/
  lastRev : Option Bool := none
  running : Bool := false
  /-- The settings in effect until the next sample boundary, after a change, and whether a source changes then (R328). -/
  old : Option (SMap Nat) := none
  newSrc : Bool := false
  inErr : Bool := false
  errNs : Nat := 0
  lastAt : Option Nat := none
  /-- The running whole second, its power sum (binary64) and samples. -/
  sec : Nat := 0
  secSum : Nat := 0
  secN : Nat := 0
  ivl : HeatAcc := {}
  bill : HeatAcc := {}
  seqI : Nat := 0
  seqB : Nat := 0
  recI : List (List Byte) := []
  recB : List (List Byte) := []
  past : List HeatSmp := []
deriving DecidableEq, Repr

/-- The metering checkpoint in eMRAM (R308, R330): accumulators, residues, interval states, and its service time in ns; whether PFAIL_N made it. -/
structure MtrCkpt where
  e : SMap Nat := []
  he : SMap Nat := []
  pres : SMap Nat := []
  fdr : SMap FdrSt := []
  heat : SMap HeatSt := []
  at_ : Nat := 0
  loss : Bool := false
deriving DecidableEq, Repr

/-- Metering beside its registers. -/
structure MeterSt where
  /-- Samples taken (R286). -/
  n : Nat := 0
  /-- Per channel, newest first: input samples in volts (64 kept) and corrected samples (8,000 kept), binary32; and the elapsed time (ns) of the
  corrected ones. -/
  raw : SMap (List Nat) := []
  x : SMap (List Nat) := []
  xAt : List Nat := []
  bus : SMap BusSt := []
  fdr : SMap FdrSt := []
  /-- E[r] of feeder f at 8f + r, held in AON (R295). -/
  e : SMap Nat := []
  /-- Heat registers of meter m at 8m + r: E[0] to E[3], V[0] and V[1] at 4 and 5 (R321). -/
  he : SMap Nat := []
  heat : SMap HeatSt := []
  /-- POUT RES by output; elapsed time until which an output is busy; pulses sent (R299). -/
  pres : SMap Nat := []
  pBusy : SMap Nat := []
  pSent : SMap Nat := []
  /-- Test outputs: elapsed time (ps) of the last pulse, and pulses sent (R300). -/
  dtfAt : SMap Nat := []
  dtfSent : SMap Nat := []
  /-- Correction tables as accepted, and by channel the points, GAIN and PHASE still in effect until its window boundary (R287, R310). -/
  tabs : SMap (List (Nat × Nat × Nat)) := []
  oldTab : SMap (List (Nat × Nat × Nat)) := []
  oldCal : SMap (Nat × Nat) := []
  /-- Last GOOD source temperature of a table and when it was seen (elapsed, ns) (R288). -/
  ttemp : SMap (Nat × Nat) := []
  /-- Elapsed time (ns) at which each table last took its temperature, and of the last checkpoint (R288, R308). -/
  ttAt : SMap Nat := []
  ckptUp : Nat := 0
  /-- Front-end tiles that failed. -/
  tileBad : List Nat := []
  cal : SMap MCal := []
  /-- A DSP hand-over that waits for the next sample boundary: DSP, and whether it is a return (R306). -/
  svc : Option (Nat × Bool) := none
  /-- A return that waits for the self-test (R306). -/
  retWait : Option Nat := none
  stream : Option MtrStream := none
  /-- Records that wait for KE (R21, R305). -/
  recQ : List SignRec := []
  ckpt : Option MtrCkpt := none
  /-- WRAPCNT as latched by the port's last SNAP read, for its next WRAPCNT read: key 256 × port + 8f + r (R296). -/
  wrapLatch : SMap Nat := []
  /-- Elapsed times (ns) at which the PIN_LOADs of the last two seconds reach METER's copy, by pulse input (R315, R317). -/
  loadAt : SMap (List Nat) := []
  /-- Service seconds of the last interval, heat interval and billing close, so that none closes twice at one instant. -/
  ivlAt : Option Nat := none
  hIvlAt : Option Nat := none
  billAt : Option Nat := none
  /-- METER's own copy of the input side (R315); only its inputs, forces and waiting hand-overs are used. -/
  copy : LaneSt := {}
deriving DecidableEq, Repr

/-! ### Fault collection (spec/18) -/

/-- An injection requested and not fired (R497, R498). -/
structure Inj where
  det : Nat
  dry : Bool
  lane : Nat
  src : Nat
  port : Nat
  /-- Device time (ns) at which it was armed (R498). -/
  up : Nat := 0
deriving DecidableEq, Repr

/-- A raise of a detector that the FCU has yet to act on within the same step (R480, R483). -/
structure Raise where
  det : Nat
  src : Nat := 0
  detail : Nat := 0
  loc : Nat := 0xFFFFFFFF
  /-- Injected, and injected with DRY (R499). -/
  inj : Bool := false
  dry : Bool := false
deriving DecidableEq, Repr

/-- What the FCU holds beside its registers. -/
structure FcuSt where
  /-- The open injection session: scope bits and CNT[3] at its arming (R496, R499). -/
  session : Option (Nat × Nat) := none
  /-- Device time (ns) at which it ends. -/
  sessEnd : Nat := 0
  /-- Device times (ns) at which the running handling windows end, by detector (R480, R482). -/
  winEnd : SMap Nat := []
  injections : List Inj := []
  /-- Records whose island hold the FCU placed (R481, R490): detector and islands. -/
  holds : SMap (List Nat) := []
  /-- Detectors CS has raised that the FCU has not acknowledged (R493). -/
  csPending : List Nat := []
  /-- Detectors whose raise made CS act itself: clearing their record clears SAFE cause 3 (R491, R493). -/
  csActed : List Nat := []
  /-- Raises made during a step, acted on together at its end; empty between steps. The model's own field. -/
  todo : List Raise := []
deriving DecidableEq, Repr

/-! ### Start-up (spec/04) -/

/-- What start-up and Proof hold beside GLB's registers. -/
structure BootSt where
  /-- Boot count (32 bits), kept in the Crust (R97). -/
  bootCount : Nat := 0
  /-- Consecutive Proof hangs, kept in the Crust (R92). -/
  hangs : Nat := 0
  /-- The Proof report, 2,112 bytes; empty until step 12 (R97). -/
  report : List Byte := []
  /-- Proof has started and not reached its verdict. -/
  proofRun : Bool := false
  /-- Findings of the present Proof and raises held back in PROOF, for the entry to RUN (R95, R488, R500). -/
  findings : List Raise := []
  /-- Islands that failed Proof, held on entry (R95, R100). -/
  failedIslands : List Nat := []
  /-- Device time (ns) at t0 (R93). -/
  t0 : Nat := 0
  /-- RTC seconds at t0 (R97). -/
  startSec : Nat := 0
  /-- The settings in eMRAM were committed under GLB.LOCK (R105). -/
  committedLocked : Bool := false
  /-- A lock commit is running (R113). -/
  committing : Bool := false
  /-- DEGRADED_RUN as stored before t0 (R96). -/
  degradedAtT0 : Bool := true
  /-- Functions that Proof found faulty and that stay disabled, by the code of their finding (R95). -/
  badFuncs : List Nat := []
  /-- A remote-setpoint freeze of Keep-Warm that waits for the first DISP_TRAJ after the exit (R103). -/
  frozenRsp : Bool := false
  /-- After the Keep-Warm exit: a plan tick has passed, so the next DISP_TRAJ ends the freeze (R103). -/
  exitPlan : Bool := false
deriving DecidableEq, Repr

/-! ### Keys (spec/20) -/

/-- The key store beside its registers, held in eMRAM: the owner anchor (X then Y, empty while none is installed), the labels of the nodes in use, and
the public keys of public slots (R525, R528, R529). -/
structure KeySt where
  anchor : List Byte := []
  labels : SMap (List Byte) := []
  pubs : SMap (List Byte) := []
deriving DecidableEq, Repr

/-! ### Trays (spec/21) -/

/-- A part of a set: its manifest entry (R548), its payload in the image pool, and what the payload stands for. -/
structure UpdPart where
  kind : Nat
  target : Nat := 0
  fmt : Nat := 0
  id : Nat := 0
  off : Nat := 0
  len : Nat := 0
  hash : List Byte := []
  bytes : List Byte := []
  content : PartContent := .none
deriving DecidableEq, Repr

/-- A set of parts (R547, R551): Tray identifier, rollback value, ALLOW_DEFAULTS, RECIPE, range of levels, exporter identity and counter, the parts
the Tray carries, and the whole directory that it makes. -/
structure TraySet where
  id : Nat := 0
  rb : Nat := 0
  defaults : Bool := false
  recipe : Bool := false
  lo : Nat := 0
  hi : Nat := 255
  exporter : List Byte := []
  expCnt : Nat := 0
  parts : List UpdPart := []
  dir : List UpdPart := []
deriving DecidableEq, Repr

/-- A staging in progress (R551, R552): header, manifest, wrap block, payload bytes received by offset, elapsed time (ns) of the last UPD_DATA,
and whether a write failed on one port. -/
structure Staging where
  header : List Byte
  man : List UpdPart
  wrap : List Byte := []
  got : SMap Byte := []
  last : Nat := 0
  single : Bool := false
deriving DecidableEq, Repr

/-- A part in an activation (R554, R561): 0 loading, 1 armed, 2 deferred, 3 switched, 4 discarded, 5 differing firmware of a Recipe; its switch index and status. -/
structure ArmPart where
  part : UpdPart
  st : Nat := 0
  idx : Nat := 0
  status : Nat := 0
deriving DecidableEq, Repr

/-- An activation from its command to its last switch (R553 to R556): epoch, whether it is a revert, the set, its parts, whether it is committed,
the units reset to defaults, the forces carried, the lanes that have been in service since its start, and the units that a revert takes back. -/
structure Arming where
  sec : Nat
  tick : Nat
  revert : Bool := false
  set : TraySet
  parts : List ArmPart
  committed : Bool := false
  mask : Nat := 0
  forces : Nat := 0
  lanes : List Nat := [0, 1, 2]
  back : List Nat := []
deriving DecidableEq, Repr

/-- The update system beside its registers, in flash, eMRAM and AON. -/
structure UpdSt where
  staging : Option Staging := none
  staged : Option TraySet := none
  active : TraySet := {}
  /-- The previous set with the settings, their formats and the expected formats at its end (R559). -/
  prev : Option TraySet := none
  prevCfg : SMap Nat := []
  prevStored : SMap Nat := []
  prevFmt : SMap Nat := []
  arm : Option Arming := none
  /-- The last activation report (R561). -/
  report : List Byte := []
  /-- The last Recipe counter imported from each exporter identity (R566). -/
  imported : List (List Byte × Nat) := []
  /-- The drop areas of ports A (0) and B (1) (R545). -/
  drop : SMap (List Byte) := []
  /-- Format version of each unit's committed settings (R558). -/
  stored : SMap Nat := []
  /-- UPD_RECOVER: the set that the next reset makes active; true for the previous one (R560). -/
  forReset : Option Bool := none
  /-- Kind and target of parts whose island was off at their activation (R554). -/
  deferred : List (Nat × Nat) := []
  /-- Bytes of the image pools of ports A and B: the manual leaves the partition table to provisioning (log 43). -/
  poolA : Nat := 4294967296
  poolB : Nat := 4294967296
deriving DecidableEq, Repr

/-! ### The device and the queue -/

/-- Everything of the IK9600 but the queue of waiting commands. -/
structure Dev where
  /-- Every register field that differs from its reset value: key 32 × address + lowest bit (R3). -/
  regs : SMap Nat := []
  /-- The configuration committed to eMRAM, in the same keys (R113, R114). -/
  emram : SMap Nat := []
  /-- How many free values have been taken: the n-th is the opaque Config value at n. The model's own field. -/
  free : Nat := 0
  /-- Elapsed device time in ns (AON clock), advanced by the idle tick. The model's own field (log 2). -/
  up : Nat := 0
  boot : BootSt := {}
  pins : PinSt := {}
  pwr : PwrSt := {}
  host : HostSt := {}
  bench : SMap BenchTab := []
  crust : CrustSt := {}
  time : TimeSt := {}
  /-- The lanes' private state: 0 LANE_A, 1 LANE_B, 2 LANE_C. -/
  lane : SMap LaneSt := []
  /-- The CAN channels (spec/08). -/
  can : SMap CanSt := []
  /-- The session contexts (spec/09). -/
  sess : SMap SessSt := []
  /-- The sequence of the last PDU received from each station: its address, where it is, the sequence (R229). -/
  rxSeqs : List (Nat × (PduSrc × Nat) × Nat) := []
  /-- Device time (ns) of the last time broadcast (R244). -/
  timeSentAt : Nat := 0
  /-- Metering (spec/11, spec/12). -/
  meter : MeterSt := {}
  gate : GateSt := {}
  frc : FrcSt := {}
  img : ImgSt := {}
  /-- Process I/O (spec/10). -/
  pio : PioSt := {}
  /-- Estimator and transport delay (spec/13). -/
  model : ModelSt := {}
  /-- The dispatch solver (spec/14). -/
  solv : SolvSt := {}
  /-- The key store (spec/20). -/
  keys : KeySt := {}
  /-- Trays and Recipes (spec/21). -/
  upd : UpdSt := {}
  fcu : FcuSt := {}
  evr : EvrSt := {}
deriving DecidableEq, Repr

/-- The block: the device and the commands waiting for it, first in, first out. -/
structure State where
  dev : Dev := {}
  pending : List Instr := []
deriving DecidableEq, Repr

/-- The machine right after reset (R88): every register at its reset value, nothing placed, no command waiting. -/
def State.reset : State := { dev := {}, pending := [] }

end Sys2Proof.Machine
end

