-- ==== Sys2Proof/Machine/Bank.lean ====
section
/-! DEFINITION. Register fields: where a field lies, how it is read and written in the register bank, and how a whole
register is put together from its fields (R3, R5, R6, R7). -/
namespace Sys2Proof.Machine

/-- A register field: BAR0 address of its register, highest and lowest bit, reset value. -/
structure FRef where
  addr : Nat
  hi : Nat
  lo : Nat
  rst : Nat := 0
deriving DecidableEq, Repr

/-- The key under which the bank holds the field. -/
def FRef.key (f : FRef) : Nat := 32 * f.addr + f.lo

/-- The width of the field in bits. -/
def FRef.width (f : FRef) : Nat := f.hi + 1 - f.lo

/-- The access codes of R7. -/
inductive Acc where
  | RW | RO | W1C | W1S | RC | WO | RWL | RWO
deriving DecidableEq, Repr

/-- A register, or an array of registers of one layout: base address, (count, stride) per dimension, whether it is a 64-bit
quantity (R4), and its fields for given indices. -/
structure RegDesc where
  base : Nat
  dims : List (Nat × Nat)
  wide : Bool
  flds : Nat → Nat → Nat → List (FRef × Acc)

/-- The value of a field in a bank: the value held, or its reset value. -/
def bankRd (m : SMap Nat) (f : FRef) : Nat := lookD m f.key f.rst

/-- Write a field into a bank: the value is cut to the field's width, and a value equal to the reset value is not listed. -/
def bankWr (m : SMap Nat) (f : FRef) (v : Nat) : SMap Nat :=
  if v % 2 ^ f.width = f.rst then del f.key m else ins f.key (v % 2 ^ f.width) m

/-- The value of a register field. -/
def Dev.rd (d : Dev) (f : FRef) : Nat := bankRd d.regs f

/-- Write a register field. -/
def Dev.wr (d : Dev) (f : FRef) (v : Nat) : Dev := { d with regs := bankWr d.regs f v }

/-- A one-bit field as a truth value. -/
def Dev.flag (d : Dev) (f : FRef) : Bool := d.rd f != 0

/-- Write a one-bit field. -/
def Dev.put (d : Dev) (f : FRef) (b : Bool) : Dev := d.wr f (b2n b)

/-- Count up a field that saturates at its width. -/
def Dev.bump (d : Dev) (f : FRef) : Dev := d.wr f (satInc f.width (d.rd f))

/-- Add to a field that saturates. -/
def Dev.addSat (d : Dev) (f : FRef) (n : Nat) : Dev := d.wr f (min (d.rd f + n) (2 ^ f.width - 1))

/-- Drop every field of addresses a .. b − 1 to its reset value. -/
def Dev.resetRange (d : Dev) (a b : Nat) : Dev :=
  { d with regs := keepKeys (fun k => decide (k < 32 * a) || decide (32 * b ≤ k)) d.regs }

/-- Put the committed settings of addresses a .. b − 1 back into the registers (R105). -/
def Dev.reloadRange (d : Dev) (a b : Nat) : Dev :=
  { d with regs := overlay (keepKeys (fun k => decide (32 * a ≤ k) && decide (k < 32 * b)) d.emram) d.regs }

/-- The indices that offset `off` names in an array of the given dimensions; none if it names no element. -/
def indexOf : List (Nat × Nat) → Nat → Option (List Nat)
  | [], off => if off = 0 then some [] else none
  | (n, s) :: t, off =>
    if off / s < n then (indexOf t (off % s)).map (off / s :: ·) else none

/-- The fields of the register at an address, with `high` true for the upper word of a 64-bit quantity; none when the address
names no register of the description. -/
def RegDesc.at? (r : RegDesc) (a : Nat) : Option (List (FRef × Acc) × Bool) :=
  let go (off : Nat) (high : Bool) := (indexOf r.dims off).map fun ix =>
    (r.flds (ix.getD 0 0) (ix.getD 1 0) (ix.getD 2 0), high)
  if a < r.base then none
  else match go (a - r.base) false with
    | some x => some x
    | none => if r.wide && decide (r.base + 4 ≤ a) then go (a - r.base - 4) true else none

/-- Find the register at an address in a list of descriptions. -/
def findReg : List RegDesc → Nat → Option (List (FRef × Acc) × Bool)
  | [], _ => none
  | r :: t, a => match r.at? a with
    | some x => some x
    | none => findReg t a

/-- The register word its fields make up: 32 bits, the upper word of a 64-bit quantity when `high` (R4, R6). -/
def wordOf (m : SMap Nat) (fs : List (FRef × Acc)) (high : Bool) : Nat :=
  let v := fs.foldl (fun acc e => if e.2 = .WO then acc else acc + bankRd m e.1 * 2 ^ e.1.lo) 0
  if high then v / 2 ^ 32 % 2 ^ 32 else v % 2 ^ 32

end Sys2Proof.Machine
end

