-- ==== Sys2Proof/Machine/RegsCrust.lean ====
section
/-! DEFINITION. The register fields of the blocks CRUST, TIME, ETH: each field under the name BLOCK.REGISTER.FIELD of the
manual, with its BAR0 address, its bits and its reset value, and the register descriptions built from them. -/
namespace Sys2Proof.Machine

-- R169, spec/06_crust_and_rtc.md
def CRUST.STATUS.STATE : FRef := ⟨0x500000, 31, 29, 0⟩
def CRUST.STATUS.PROOF_HUNG : FRef := ⟨0x500000, 28, 28, 0⟩
def CRUST.STATUS.TRIP_SEEN : FRef := ⟨0x500000, 27, 27, 0⟩
def CRUST.STATUS.SAFE_ACT : FRef := ⟨0x500000, 26, 26, 0⟩
def CRUST.STATUS.TIME_LOST : FRef := ⟨0x500000, 23, 23, 1⟩
def CRUST.STATUS.KEY_LOST : FRef := ⟨0x500000, 22, 22, 1⟩
def CRUST.STATUS.COUNT_LOST : FRef := ⟨0x500000, 21, 21, 1⟩
def CRUST.STATUS.WIT_FAIL : FRef := ⟨0x500000, 20, 20, 1⟩
def CRUST.STATUS.LOW_RET : FRef := ⟨0x500000, 19, 19, 0⟩
def CRUST.STATUS.ON_VBAT : FRef := ⟨0x500000, 18, 18, 0⟩
def CRUST.STATUS.BAT_LOW : FRef := ⟨0x500000, 17, 17, 0⟩
def CRUST.STATUS.BAT_ABSENT : FRef := ⟨0x500000, 16, 16, 0⟩
def CRUST.STATUS.TAMPER : FRef := ⟨0x500000, 15, 15, 0⟩
def CRUST.STATUS.ALM1 : FRef := ⟨0x500000, 14, 14, 0⟩
def CRUST.STATUS.ALM0 : FRef := ⟨0x500000, 13, 13, 0⟩
def CRUST.STATUS.LG_NEW : FRef := ⟨0x500000, 12, 12, 0⟩
def CRUST.STATUS.LG_COUNT : FRef := ⟨0x500000, 11, 8, 0⟩
def CRUST.STATUS.KEY_CAUSE : FRef := ⟨0x500000, 1, 0, 1⟩

-- R169, spec/06_crust_and_rtc.md
def CRUST.RTC_LO.SEC_LO : FRef := ⟨0x500010, 31, 0, 0⟩

-- R169, spec/06_crust_and_rtc.md
def CRUST.RTC_HI.SUB : FRef := ⟨0x500014, 31, 17, 0⟩
def CRUST.RTC_HI.VALID : FRef := ⟨0x500014, 16, 16, 0⟩
def CRUST.RTC_HI.SEC_HI : FRef := ⟨0x500014, 15, 0, 0⟩

-- R169, spec/06_crust_and_rtc.md
def CRUST.CAL0.YEAR : FRef := ⟨0x500018, 23, 16, 0⟩
def CRUST.CAL0.MONTH : FRef := ⟨0x500018, 15, 12, 0⟩
def CRUST.CAL0.DAY : FRef := ⟨0x500018, 11, 7, 0⟩
def CRUST.CAL0.WDAY : FRef := ⟨0x500018, 6, 4, 0⟩

-- R169, spec/06_crust_and_rtc.md
def CRUST.CAL1.HOUR : FRef := ⟨0x50001C, 16, 12, 0⟩
def CRUST.CAL1.MIN : FRef := ⟨0x50001C, 11, 6, 0⟩
def CRUST.CAL1.SEC : FRef := ⟨0x50001C, 5, 0, 0⟩

-- R169, spec/06_crust_and_rtc.md
def CRUST.RTC_CFG.UTC_OFFSET : FRef := ⟨0x500020, 31, 24, 0⟩
def CRUST.RTC_CFG.DISC_EN : FRef := ⟨0x500020, 16, 16, 1⟩
def CRUST.RTC_CFG.PON_TIMEOUT : FRef := ⟨0x500020, 15, 12, 5⟩
def CRUST.RTC_CFG.PORT_WAKE : FRef := ⟨0x500020, 9, 9, 0⟩
def CRUST.RTC_CFG.AUX_WAKE : FRef := ⟨0x500020, 8, 8, 0⟩
def CRUST.RTC_CFG.PON_MODE : FRef := ⟨0x500020, 0, 0, 0⟩

-- R169, spec/06_crust_and_rtc.md
def CRUST.COMP.AGING : FRef := ⟨0x500024, 31, 16, 0⟩
def CRUST.COMP.CORR : FRef := ⟨0x500024, 15, 0, 0⟩

-- R169, spec/06_crust_and_rtc.md
def CRUST.RTC_STAT.TEMP : FRef := ⟨0x500028, 31, 24, 0⟩
def CRUST.RTC_STAT.PON_CAUSE : FRef := ⟨0x500028, 23, 20, 0⟩
def CRUST.RTC_STAT.CAL_RANGE : FRef := ⟨0x500028, 19, 19, 0⟩
def CRUST.RTC_STAT.PON_FAIL : FRef := ⟨0x500028, 17, 17, 0⟩
def CRUST.RTC_STAT.DISC_LIMIT : FRef := ⟨0x500028, 16, 16, 0⟩
def CRUST.RTC_STAT.STEPS : FRef := ⟨0x500028, 7, 0, 0⟩

-- R169, spec/06_crust_and_rtc.md
def CRUST.ALM.MATCH.WDAY (i : Nat) : FRef := ⟨0x500040 + 0x20 * i, 28, 26, 0⟩
def CRUST.ALM.MATCH.MONTH (i : Nat) : FRef := ⟨0x500040 + 0x20 * i, 25, 22, 0⟩
def CRUST.ALM.MATCH.DAY (i : Nat) : FRef := ⟨0x500040 + 0x20 * i, 21, 17, 0⟩
def CRUST.ALM.MATCH.HOUR (i : Nat) : FRef := ⟨0x500040 + 0x20 * i, 16, 12, 0⟩
def CRUST.ALM.MATCH.MIN (i : Nat) : FRef := ⟨0x500040 + 0x20 * i, 11, 6, 0⟩
def CRUST.ALM.MATCH.SEC (i : Nat) : FRef := ⟨0x500040 + 0x20 * i, 5, 0, 0⟩

-- R169, spec/06_crust_and_rtc.md
def CRUST.ALM.CTRL.EN (i : Nat) : FRef := ⟨0x500044 + 0x20 * i, 31, 31, 0⟩
def CRUST.ALM.CTRL.ACT (i : Nat) : FRef := ⟨0x500044 + 0x20 * i, 30, 28, 0⟩
def CRUST.ALM.CTRL.MASK (i : Nat) : FRef := ⟨0x500044 + 0x20 * i, 5, 0, 0⟩

-- R169, spec/06_crust_and_rtc.md
def CRUST.ALM.NEXT_LO (i : Nat) : FRef := ⟨0x50004C + 0x20 * i, 31, 0, 0⟩

-- R169, spec/06_crust_and_rtc.md
def CRUST.ALM.NEXT_HI (i : Nat) : FRef := ⟨0x500050 + 0x20 * i, 15, 0, 0⟩

-- R169, spec/06_crust_and_rtc.md
def CRUST.ALM.STAT.SKIPCNT (i : Nat) : FRef := ⟨0x500048 + 0x20 * i, 31, 24, 0⟩
def CRUST.ALM.STAT.NEVER (i : Nat) : FRef := ⟨0x500048 + 0x20 * i, 3, 3, 0⟩
def CRUST.ALM.STAT.BACKSTEP (i : Nat) : FRef := ⟨0x500048 + 0x20 * i, 2, 2, 0⟩
def CRUST.ALM.STAT.SKIPPED (i : Nat) : FRef := ⟨0x500048 + 0x20 * i, 1, 1, 0⟩
def CRUST.ALM.STAT.FIRED (i : Nat) : FRef := ⟨0x500048 + 0x20 * i, 0, 0, 0⟩

-- R169, spec/06_crust_and_rtc.md
def CRUST.TAMP_CFG.EN0 : FRef := ⟨0x500080, 7, 7, 0⟩
def CRUST.TAMP_CFG.POL0 : FRef := ⟨0x500080, 6, 6, 0⟩
def CRUST.TAMP_CFG.FILT0 : FRef := ⟨0x500080, 5, 4, 0⟩
def CRUST.TAMP_CFG.ZERO0 : FRef := ⟨0x500080, 3, 3, 0⟩
def CRUST.TAMP_CFG.SAFE0 : FRef := ⟨0x500080, 2, 2, 0⟩
def CRUST.TAMP_CFG.WAKE0 : FRef := ⟨0x500080, 1, 1, 0⟩
def CRUST.TAMP_CFG.EN1 : FRef := ⟨0x500080, 15, 15, 0⟩
def CRUST.TAMP_CFG.POL1 : FRef := ⟨0x500080, 14, 14, 0⟩
def CRUST.TAMP_CFG.FILT1 : FRef := ⟨0x500080, 13, 12, 0⟩
def CRUST.TAMP_CFG.ZERO1 : FRef := ⟨0x500080, 11, 11, 0⟩
def CRUST.TAMP_CFG.SAFE1 : FRef := ⟨0x500080, 10, 10, 0⟩
def CRUST.TAMP_CFG.WAKE1 : FRef := ⟨0x500080, 9, 9, 0⟩
def CRUST.TAMP_CFG.EN2 : FRef := ⟨0x500080, 23, 23, 0⟩
def CRUST.TAMP_CFG.POL2 : FRef := ⟨0x500080, 22, 22, 0⟩
def CRUST.TAMP_CFG.FILT2 : FRef := ⟨0x500080, 21, 20, 0⟩
def CRUST.TAMP_CFG.ZERO2 : FRef := ⟨0x500080, 19, 19, 0⟩
def CRUST.TAMP_CFG.SAFE2 : FRef := ⟨0x500080, 18, 18, 0⟩
def CRUST.TAMP_CFG.WAKE2 : FRef := ⟨0x500080, 17, 17, 0⟩
def CRUST.TAMP_CFG.EN3 : FRef := ⟨0x500080, 31, 31, 0⟩
def CRUST.TAMP_CFG.POL3 : FRef := ⟨0x500080, 30, 30, 0⟩
def CRUST.TAMP_CFG.FILT3 : FRef := ⟨0x500080, 29, 28, 0⟩
def CRUST.TAMP_CFG.ZERO3 : FRef := ⟨0x500080, 27, 27, 0⟩
def CRUST.TAMP_CFG.SAFE3 : FRef := ⟨0x500080, 26, 26, 0⟩
def CRUST.TAMP_CFG.WAKE3 : FRef := ⟨0x500080, 25, 25, 0⟩

-- R169, spec/06_crust_and_rtc.md
def CRUST.TAMP_STAT.LOG_COUNT : FRef := ⟨0x500084, 20, 16, 0⟩
def CRUST.TAMP_STAT.LOG_OVF : FRef := ⟨0x500084, 15, 15, 0⟩
def CRUST.TAMP_STAT.ACTIVE : FRef := ⟨0x500084, 11, 8, 0⟩
def CRUST.TAMP_STAT.LATCH : FRef := ⟨0x500084, 3, 0, 0⟩

-- R169, spec/06_crust_and_rtc.md
def CRUST.CNT.VALUE (i : Nat) : FRef := ⟨0x500100 + 4 * i, 31, 0, 0⟩

-- R198, spec/07_network_and_time.md
def TIME.SVC.SEC_LO : FRef := ⟨0x600000, 31, 0, 0⟩

-- R198, spec/07_network_and_time.md
def TIME.SVC.SEC_HI : FRef := ⟨0x600004, 15, 0, 0⟩

-- R198, spec/07_network_and_time.md
def TIME.SVC.NS : FRef := ⟨0x600008, 29, 0, 0⟩

-- R198, spec/07_network_and_time.md
def TIME.SVC.FRAC : FRef := ⟨0x60000C, 15, 0, 0⟩

-- R198, spec/07_network_and_time.md
def TIME.SVC.CFG.AUTO : FRef := ⟨0x600010, 31, 31, 1⟩
def TIME.SVC.CFG.REVERT : FRef := ⟨0x600010, 30, 30, 1⟩
def TIME.SVC.CFG.PREF : FRef := ⟨0x600010, 29, 29, 0⟩
def TIME.SVC.CFG.STEP_EN : FRef := ⟨0x600010, 28, 28, 1⟩
def TIME.SVC.CFG.ACQ_WAIT : FRef := ⟨0x600010, 27, 16, 30⟩
def TIME.SVC.CFG.HOLD_VALID : FRef := ⟨0x600010, 15, 0, 3600⟩

-- R198, spec/07_network_and_time.md
def TIME.SVC.STAT.STATE : FRef := ⟨0x600014, 31, 29, 0⟩
def TIME.SVC.STAT.VALID : FRef := ⟨0x600014, 28, 28, 0⟩
def TIME.SVC.STAT.SEL : FRef := ⟨0x600014, 27, 27, 0⟩
def TIME.SVC.STAT.TEMPOS_RUN : FRef := ⟨0x600014, 26, 26, 0⟩
def TIME.SVC.STAT.STEPPED : FRef := ⟨0x600014, 25, 25, 0⟩
def TIME.SVC.STAT.RATE_CLAMP : FRef := ⟨0x600014, 24, 24, 0⟩
def TIME.SVC.STAT.SWITCHES : FRef := ⟨0x600014, 23, 16, 0⟩

-- R198, spec/07_network_and_time.md
def TIME.SVC.RES : FRef := ⟨0x600018, 31, 0, 0⟩

-- R198, spec/07_network_and_time.md
def TIME.SVC.RATE : FRef := ⟨0x60001C, 31, 0, 0⟩

-- R198, spec/07_network_and_time.md
def TIME.DOM.CFG.EN (i : Nat) : FRef := ⟨0x600100 + 0x40 * i, 31, 31, 0⟩
def TIME.DOM.CFG.PROFILE (i : Nat) : FRef := ⟨0x600100 + 0x40 * i, 30, 28, 0⟩
def TIME.DOM.CFG.ROLE (i : Nat) : FRef := ⟨0x600100 + 0x40 * i, 27, 26, 0⟩
def TIME.DOM.CFG.TRANSPORT (i : Nat) : FRef := ⟨0x600100 + 0x40 * i, 25, 24, 0⟩
def TIME.DOM.CFG.TWO_STEP (i : Nat) : FRef := ⟨0x600100 + 0x40 * i, 23, 23, 0⟩
def TIME.DOM.CFG.PORTS (i : Nat) : FRef := ⟨0x600100 + 0x40 * i, 21, 16, 0⟩
def TIME.DOM.CFG.DNUM (i : Nat) : FRef := ⟨0x600100 + 0x40 * i, 15, 8, 0⟩
def TIME.DOM.CFG.LOCK_NS (i : Nat) : FRef := ⟨0x600100 + 0x40 * i, 7, 0, 50⟩

-- R198, spec/07_network_and_time.md
def TIME.DOM.BMCA.PRIO1 (i : Nat) : FRef := ⟨0x600104 + 0x40 * i, 31, 24, 128⟩
def TIME.DOM.BMCA.PRIO2 (i : Nat) : FRef := ⟨0x600104 + 0x40 * i, 23, 16, 128⟩
def TIME.DOM.BMCA.CLASS (i : Nat) : FRef := ⟨0x600104 + 0x40 * i, 15, 8, 248⟩

-- R198, spec/07_network_and_time.md
def TIME.DOM.STAT.STATE (i : Nat) : FRef := ⟨0x600108 + 0x40 * i, 31, 29, 0⟩
def TIME.DOM.STAT.CFG_ERR (i : Nat) : FRef := ⟨0x600108 + 0x40 * i, 28, 28, 0⟩
def TIME.DOM.STAT.UTC_RX (i : Nat) : FRef := ⟨0x600108 + 0x40 * i, 23, 16, 0⟩
def TIME.DOM.STAT.LOST_FUP (i : Nat) : FRef := ⟨0x600108 + 0x40 * i, 15, 8, 0⟩
def TIME.DOM.STAT.STEPS (i : Nat) : FRef := ⟨0x600108 + 0x40 * i, 7, 0, 0⟩

-- R198, spec/07_network_and_time.md
def TIME.DOM.GM (i : Nat) : FRef := ⟨0x600118 + 0x40 * i, 63, 0, 0⟩

-- R198, spec/07_network_and_time.md
def TIME.DOM.OFS (i : Nat) : FRef := ⟨0x60010C + 0x40 * i, 31, 0, 0⟩

-- R198, spec/07_network_and_time.md
def TIME.DOM.PDELAY (i : Nat) : FRef := ⟨0x600110 + 0x40 * i, 31, 0, 0⟩

-- R198, spec/07_network_and_time.md
def TIME.DOM.DRATE (i : Nat) : FRef := ⟨0x600114 + 0x40 * i, 31, 0, 0⟩

-- R198, spec/07_network_and_time.md
def TIME.TB.CNT (i : Nat) : FRef := ⟨0x600200 + 0x10 * i, 63, 0, 0⟩

-- R198, spec/07_network_and_time.md
def TIME.TB.TRIM (i : Nat) : FRef := ⟨0x600208 + 0x10 * i, 31, 0, 0⟩

-- R198, spec/07_network_and_time.md
def TIME.TB.CFG.EN (i : Nat) : FRef := ⟨0x60020C + 0x10 * i, 31, 31, 0⟩
def TIME.TB.CFG.SRC (i : Nat) : FRef := ⟨0x60020C + 0x10 * i, 30, 29, 0⟩
def TIME.TB.CFG.STEPPED (i : Nat) : FRef := ⟨0x60020C + 0x10 * i, 1, 1, 0⟩

-- R198, spec/07_network_and_time.md
def TIME.PPS.CFG.EN (i : Nat) : FRef := ⟨0x600300 + 0x10 * i, 31, 31, 0⟩
def TIME.PPS.CFG.MODE (i : Nat) : FRef := ⟨0x600300 + 0x10 * i, 30, 30, 0⟩
def TIME.PPS.CFG.SRC (i : Nat) : FRef := ⟨0x600300 + 0x10 * i, 29, 28, 0⟩
def TIME.PPS.CFG.LATE (i : Nat) : FRef := ⟨0x600300 + 0x10 * i, 25, 25, 0⟩
def TIME.PPS.CFG.WIDTH_MS (i : Nat) : FRef := ⟨0x600300 + 0x10 * i, 23, 14, 100⟩

-- R198, spec/07_network_and_time.md
def TIME.PPS.TGT_SEC_LO.SEC_LO (i : Nat) : FRef := ⟨0x600304 + 0x10 * i, 31, 0, 0⟩

-- R198, spec/07_network_and_time.md
def TIME.PPS.TGT_SEC_HI.SEC_HI (i : Nat) : FRef := ⟨0x600308 + 0x10 * i, 15, 0, 0⟩

-- R198, spec/07_network_and_time.md
def TIME.PPS.TGT_NS.NS (i : Nat) : FRef := ⟨0x60030C + 0x10 * i, 29, 0, 0⟩

-- R198, spec/07_network_and_time.md
def TIME.TRIG.CFG.EN (i : Nat) : FRef := ⟨0x600340 + 0x10 * i, 31, 31, 0⟩
def TIME.TRIG.CFG.EDGE (i : Nat) : FRef := ⟨0x600340 + 0x10 * i, 30, 29, 1⟩
def TIME.TRIG.CFG.LEVEL (i : Nat) : FRef := ⟨0x600340 + 0x10 * i, 19, 16, 0⟩
def TIME.TRIG.CFG.OVF (i : Nat) : FRef := ⟨0x600340 + 0x10 * i, 15, 8, 0⟩

-- R198, spec/07_network_and_time.md
def TIME.TRIG.CAP_SEC_LO.SEC_LO (i : Nat) : FRef := ⟨0x600344 + 0x10 * i, 31, 0, 0⟩

-- R198, spec/07_network_and_time.md
def TIME.TRIG.CAP_SEC_HI.RISE (i : Nat) : FRef := ⟨0x600348 + 0x10 * i, 31, 31, 0⟩
def TIME.TRIG.CAP_SEC_HI.SEC_HI (i : Nat) : FRef := ⟨0x600348 + 0x10 * i, 15, 0, 0⟩

-- R198, spec/07_network_and_time.md
def TIME.TRIG.CAP_NS.NS (i : Nat) : FRef := ⟨0x60034C + 0x10 * i, 29, 0, 0⟩

-- R198, spec/07_network_and_time.md
def ETH.PORT.CFG.EN (i : Nat) : FRef := ⟨0xA00000 + 0x100 * i, 31, 31, 0⟩
def ETH.PORT.CFG.MODE (i : Nat) : FRef := ⟨0xA00000 + 0x100 * i, 30, 28, 0⟩
def ETH.PORT.CFG.ROLE (i : Nat) : FRef := ⟨0xA00000 + 0x100 * i, 27, 24, 0⟩
def ETH.PORT.CFG.PAUSE_EN (i : Nat) : FRef := ⟨0xA00000 + 0x100 * i, 23, 23, 0⟩
def ETH.PORT.CFG.AN_EN (i : Nat) : FRef := ⟨0xA00000 + 0x100 * i, 22, 22, 1⟩
def ETH.PORT.CFG.MTU (i : Nat) : FRef := ⟨0xA00000 + 0x100 * i, 13, 0, 1522⟩

-- R198, spec/07_network_and_time.md
def ETH.PORT.STAT.LINK (i : Nat) : FRef := ⟨0xA00004 + 0x100 * i, 31, 31, 0⟩
def ETH.PORT.STAT.SPEED (i : Nat) : FRef := ⟨0xA00004 + 0x100 * i, 30, 29, 0⟩
def ETH.PORT.STAT.PENDING_REARM (i : Nat) : FRef := ⟨0xA00004 + 0x100 * i, 28, 28, 0⟩
def ETH.PORT.STAT.PSTATE (i : Nat) : FRef := ⟨0xA00004 + 0x100 * i, 27, 26, 0⟩
def ETH.PORT.STAT.MINOFF (i : Nat) : FRef := ⟨0xA00004 + 0x100 * i, 25, 25, 0⟩
def ETH.PORT.STAT.CFG_ERR (i : Nat) : FRef := ⟨0xA00004 + 0x100 * i, 24, 24, 0⟩
def ETH.PORT.STAT.LINK_CHG (i : Nat) : FRef := ⟨0xA00004 + 0x100 * i, 15, 8, 0⟩

-- R198, spec/07_network_and_time.md
def ETH.PORT.LAT.EGRESS_LAT (i : Nat) : FRef := ⟨0xA00008 + 0x100 * i, 31, 16, 0⟩
def ETH.PORT.LAT.INGRESS_LAT (i : Nat) : FRef := ⟨0xA00008 + 0x100 * i, 15, 0, 0⟩

-- R198, spec/07_network_and_time.md
def ETH.PORT.ASYM (i : Nat) : FRef := ⟨0xA0000C + 0x100 * i, 31, 0, 0⟩

-- R198, spec/07_network_and_time.md
def ETH.PORT.TXTS.DROPS (i : Nat) : FRef := ⟨0xA00010 + 0x100 * i, 23, 16, 0⟩
def ETH.PORT.TXTS.STALE (i : Nat) : FRef := ⟨0xA00010 + 0x100 * i, 15, 8, 0⟩
def ETH.PORT.TXTS.LEVEL (i : Nat) : FRef := ⟨0xA00010 + 0x100 * i, 5, 0, 0⟩

-- R198, spec/07_network_and_time.md
def ETH.PRP.CFG.EN (i : Nat) : FRef := ⟨0xA00800 + 0x20 * i, 31, 31, 0⟩
def ETH.PRP.CFG.LIFE_MS (i : Nat) : FRef := ⟨0xA00800 + 0x20 * i, 13, 0, 2000⟩

-- R198, spec/07_network_and_time.md
def ETH.PRP.STAT.LAN_A_OK (i : Nat) : FRef := ⟨0xA00804 + 0x20 * i, 31, 31, 0⟩
def ETH.PRP.STAT.LAN_B_OK (i : Nat) : FRef := ⟨0xA00804 + 0x20 * i, 30, 30, 0⟩
def ETH.PRP.STAT.WRONG_LAN (i : Nat) : FRef := ⟨0xA00804 + 0x20 * i, 15, 8, 0⟩
def ETH.PRP.STAT.NODES (i : Nat) : FRef := ⟨0xA00804 + 0x20 * i, 7, 0, 0⟩

/-- The registers of this file, part 0: base address, array dimensions and fields with their access codes (R7). -/
def regsCrust0 : List RegDesc := [
  { base := 0x500000, dims := [], wide := false,
    flds := fun _ _ _ => [(CRUST.STATUS.STATE, .RO), (CRUST.STATUS.PROOF_HUNG, .RO), (CRUST.STATUS.TRIP_SEEN, .RO), (CRUST.STATUS.SAFE_ACT, .RO), (CRUST.STATUS.TIME_LOST, .RO), (CRUST.STATUS.KEY_LOST, .RO), (CRUST.STATUS.COUNT_LOST, .RO), (CRUST.STATUS.WIT_FAIL, .W1C), (CRUST.STATUS.LOW_RET, .RO), (CRUST.STATUS.ON_VBAT, .RO), (CRUST.STATUS.BAT_LOW, .RO), (CRUST.STATUS.BAT_ABSENT, .RO), (CRUST.STATUS.TAMPER, .W1C), (CRUST.STATUS.ALM1, .W1C), (CRUST.STATUS.ALM0, .W1C), (CRUST.STATUS.LG_NEW, .RO), (CRUST.STATUS.LG_COUNT, .RO), (CRUST.STATUS.KEY_CAUSE, .RO)] },
  { base := 0x500010, dims := [], wide := false,
    flds := fun _ _ _ => [(CRUST.RTC_LO.SEC_LO, .RO)] },
  { base := 0x500014, dims := [], wide := false,
    flds := fun _ _ _ => [(CRUST.RTC_HI.SUB, .RO), (CRUST.RTC_HI.VALID, .RO), (CRUST.RTC_HI.SEC_HI, .RO)] },
  { base := 0x500018, dims := [], wide := false,
    flds := fun _ _ _ => [(CRUST.CAL0.YEAR, .RO), (CRUST.CAL0.MONTH, .RO), (CRUST.CAL0.DAY, .RO), (CRUST.CAL0.WDAY, .RO)] },
  { base := 0x50001C, dims := [], wide := false,
    flds := fun _ _ _ => [(CRUST.CAL1.HOUR, .RO), (CRUST.CAL1.MIN, .RO), (CRUST.CAL1.SEC, .RO)] },
  { base := 0x500020, dims := [], wide := false,
    flds := fun _ _ _ => [(CRUST.RTC_CFG.UTC_OFFSET, .RWL), (CRUST.RTC_CFG.DISC_EN, .RWL), (CRUST.RTC_CFG.PON_TIMEOUT, .RWL), (CRUST.RTC_CFG.PORT_WAKE, .RWL), (CRUST.RTC_CFG.AUX_WAKE, .RWL), (CRUST.RTC_CFG.PON_MODE, .RWL)] },
  { base := 0x500024, dims := [], wide := false,
    flds := fun _ _ _ => [(CRUST.COMP.AGING, .RWL), (CRUST.COMP.CORR, .RO)] },
  { base := 0x500028, dims := [], wide := false,
    flds := fun _ _ _ => [(CRUST.RTC_STAT.TEMP, .RO), (CRUST.RTC_STAT.PON_CAUSE, .RO), (CRUST.RTC_STAT.CAL_RANGE, .RO), (CRUST.RTC_STAT.PON_FAIL, .W1C), (CRUST.RTC_STAT.DISC_LIMIT, .W1C), (CRUST.RTC_STAT.STEPS, .RC)] },
  { base := 0x500040, dims := [(2, 0x20)], wide := false,
    flds := fun i _ _ => [(CRUST.ALM.MATCH.WDAY i, .RWL), (CRUST.ALM.MATCH.MONTH i, .RWL), (CRUST.ALM.MATCH.DAY i, .RWL), (CRUST.ALM.MATCH.HOUR i, .RWL), (CRUST.ALM.MATCH.MIN i, .RWL), (CRUST.ALM.MATCH.SEC i, .RWL)] },
  { base := 0x500044, dims := [(2, 0x20)], wide := false,
    flds := fun i _ _ => [(CRUST.ALM.CTRL.EN i, .RWL), (CRUST.ALM.CTRL.ACT i, .RWL), (CRUST.ALM.CTRL.MASK i, .RWL)] },
  { base := 0x50004C, dims := [(2, 0x20)], wide := false,
    flds := fun i _ _ => [(CRUST.ALM.NEXT_LO i, .RO)] },
  { base := 0x500050, dims := [(2, 0x20)], wide := false,
    flds := fun i _ _ => [(CRUST.ALM.NEXT_HI i, .RO)] },
  { base := 0x500048, dims := [(2, 0x20)], wide := false,
    flds := fun i _ _ => [(CRUST.ALM.STAT.SKIPCNT i, .RO), (CRUST.ALM.STAT.NEVER i, .RO), (CRUST.ALM.STAT.BACKSTEP i, .W1C), (CRUST.ALM.STAT.SKIPPED i, .W1C), (CRUST.ALM.STAT.FIRED i, .W1C)] },
  { base := 0x500080, dims := [], wide := false,
    flds := fun _ _ _ => [(CRUST.TAMP_CFG.EN0, .RO), (CRUST.TAMP_CFG.POL0, .RO), (CRUST.TAMP_CFG.FILT0, .RO), (CRUST.TAMP_CFG.ZERO0, .RO), (CRUST.TAMP_CFG.SAFE0, .RO), (CRUST.TAMP_CFG.WAKE0, .RO), (CRUST.TAMP_CFG.EN1, .RO), (CRUST.TAMP_CFG.POL1, .RO), (CRUST.TAMP_CFG.FILT1, .RO), (CRUST.TAMP_CFG.ZERO1, .RO), (CRUST.TAMP_CFG.SAFE1, .RO), (CRUST.TAMP_CFG.WAKE1, .RO), (CRUST.TAMP_CFG.EN2, .RO), (CRUST.TAMP_CFG.POL2, .RO), (CRUST.TAMP_CFG.FILT2, .RO), (CRUST.TAMP_CFG.ZERO2, .RO), (CRUST.TAMP_CFG.SAFE2, .RO), (CRUST.TAMP_CFG.WAKE2, .RO), (CRUST.TAMP_CFG.EN3, .RO), (CRUST.TAMP_CFG.POL3, .RO), (CRUST.TAMP_CFG.FILT3, .RO), (CRUST.TAMP_CFG.ZERO3, .RO), (CRUST.TAMP_CFG.SAFE3, .RO), (CRUST.TAMP_CFG.WAKE3, .RO)] },
  { base := 0x500084, dims := [], wide := false,
    flds := fun _ _ _ => [(CRUST.TAMP_STAT.LOG_COUNT, .RO), (CRUST.TAMP_STAT.LOG_OVF, .W1C), (CRUST.TAMP_STAT.ACTIVE, .RO), (CRUST.TAMP_STAT.LATCH, .W1C)] },
  { base := 0x500100, dims := [(16, 0x4)], wide := false,
    flds := fun i _ _ => [(CRUST.CNT.VALUE i, .RO)] },
  { base := 0x600000, dims := [], wide := false,
    flds := fun _ _ _ => [(TIME.SVC.SEC_LO, .RO)] },
  { base := 0x600004, dims := [], wide := false,
    flds := fun _ _ _ => [(TIME.SVC.SEC_HI, .RO)] },
  { base := 0x600008, dims := [], wide := false,
    flds := fun _ _ _ => [(TIME.SVC.NS, .RO)] },
  { base := 0x60000C, dims := [], wide := false,
    flds := fun _ _ _ => [(TIME.SVC.FRAC, .RO)] } ]

/-- The registers of this file, part 1: base address, array dimensions and fields with their access codes (R7). -/
def regsCrust1 : List RegDesc := [
  { base := 0x600010, dims := [], wide := false,
    flds := fun _ _ _ => [(TIME.SVC.CFG.AUTO, .RWL), (TIME.SVC.CFG.REVERT, .RWL), (TIME.SVC.CFG.PREF, .RWL), (TIME.SVC.CFG.STEP_EN, .RWL), (TIME.SVC.CFG.ACQ_WAIT, .RWL), (TIME.SVC.CFG.HOLD_VALID, .RWL)] },
  { base := 0x600014, dims := [], wide := false,
    flds := fun _ _ _ => [(TIME.SVC.STAT.STATE, .RO), (TIME.SVC.STAT.VALID, .RO), (TIME.SVC.STAT.SEL, .RO), (TIME.SVC.STAT.TEMPOS_RUN, .RO), (TIME.SVC.STAT.STEPPED, .W1C), (TIME.SVC.STAT.RATE_CLAMP, .W1C), (TIME.SVC.STAT.SWITCHES, .RC)] },
  { base := 0x600018, dims := [], wide := false,
    flds := fun _ _ _ => [(TIME.SVC.RES, .RO)] },
  { base := 0x60001C, dims := [], wide := false,
    flds := fun _ _ _ => [(TIME.SVC.RATE, .RO)] },
  { base := 0x600100, dims := [(2, 0x40)], wide := false,
    flds := fun i _ _ => [(TIME.DOM.CFG.EN i, .RWL), (TIME.DOM.CFG.PROFILE i, .RWL), (TIME.DOM.CFG.ROLE i, .RWL), (TIME.DOM.CFG.TRANSPORT i, .RWL), (TIME.DOM.CFG.TWO_STEP i, .RWL), (TIME.DOM.CFG.PORTS i, .RWL), (TIME.DOM.CFG.DNUM i, .RWL), (TIME.DOM.CFG.LOCK_NS i, .RWL)] },
  { base := 0x600104, dims := [(2, 0x40)], wide := false,
    flds := fun i _ _ => [(TIME.DOM.BMCA.PRIO1 i, .RWL), (TIME.DOM.BMCA.PRIO2 i, .RWL), (TIME.DOM.BMCA.CLASS i, .RWL)] },
  { base := 0x600108, dims := [(2, 0x40)], wide := false,
    flds := fun i _ _ => [(TIME.DOM.STAT.STATE i, .RO), (TIME.DOM.STAT.CFG_ERR i, .RO), (TIME.DOM.STAT.UTC_RX i, .RO), (TIME.DOM.STAT.LOST_FUP i, .RC), (TIME.DOM.STAT.STEPS i, .RC)] },
  { base := 0x600118, dims := [(2, 0x40)], wide := true,
    flds := fun i _ _ => [(TIME.DOM.GM i, .RO)] },
  { base := 0x60010C, dims := [(2, 0x40)], wide := false,
    flds := fun i _ _ => [(TIME.DOM.OFS i, .RO)] },
  { base := 0x600110, dims := [(2, 0x40)], wide := false,
    flds := fun i _ _ => [(TIME.DOM.PDELAY i, .RO)] },
  { base := 0x600114, dims := [(2, 0x40)], wide := false,
    flds := fun i _ _ => [(TIME.DOM.DRATE i, .RO)] },
  { base := 0x600200, dims := [(4, 0x10)], wide := true,
    flds := fun i _ _ => [(TIME.TB.CNT i, .RO)] },
  { base := 0x600208, dims := [(4, 0x10)], wide := false,
    flds := fun i _ _ => [(TIME.TB.TRIM i, .RWL)] },
  { base := 0x60020C, dims := [(4, 0x10)], wide := false,
    flds := fun i _ _ => [(TIME.TB.CFG.EN i, .RWL), (TIME.TB.CFG.SRC i, .RWL), (TIME.TB.CFG.STEPPED i, .W1C)] },
  { base := 0x600300, dims := [(2, 0x10)], wide := false,
    flds := fun i _ _ => [(TIME.PPS.CFG.EN i, .RWL), (TIME.PPS.CFG.MODE i, .RWL), (TIME.PPS.CFG.SRC i, .RWL), (TIME.PPS.CFG.LATE i, .W1C), (TIME.PPS.CFG.WIDTH_MS i, .RWL)] },
  { base := 0x600304, dims := [(2, 0x10)], wide := false,
    flds := fun i _ _ => [(TIME.PPS.TGT_SEC_LO.SEC_LO i, .RWL)] },
  { base := 0x600308, dims := [(2, 0x10)], wide := false,
    flds := fun i _ _ => [(TIME.PPS.TGT_SEC_HI.SEC_HI i, .RWL)] },
  { base := 0x60030C, dims := [(2, 0x10)], wide := false,
    flds := fun i _ _ => [(TIME.PPS.TGT_NS.NS i, .RWL)] },
  { base := 0x600340, dims := [(2, 0x10)], wide := false,
    flds := fun i _ _ => [(TIME.TRIG.CFG.EN i, .RWL), (TIME.TRIG.CFG.EDGE i, .RWL), (TIME.TRIG.CFG.LEVEL i, .RO), (TIME.TRIG.CFG.OVF i, .RC)] },
  { base := 0x600344, dims := [(2, 0x10)], wide := false,
    flds := fun i _ _ => [(TIME.TRIG.CAP_SEC_LO.SEC_LO i, .RO)] } ]

/-- The registers of this file, part 2: base address, array dimensions and fields with their access codes (R7). -/
def regsCrust2 : List RegDesc := [
  { base := 0x600348, dims := [(2, 0x10)], wide := false,
    flds := fun i _ _ => [(TIME.TRIG.CAP_SEC_HI.RISE i, .RO), (TIME.TRIG.CAP_SEC_HI.SEC_HI i, .RO)] },
  { base := 0x60034C, dims := [(2, 0x10)], wide := false,
    flds := fun i _ _ => [(TIME.TRIG.CAP_NS.NS i, .RO)] },
  { base := 0xA00000, dims := [(6, 0x100)], wide := false,
    flds := fun i _ _ => [(ETH.PORT.CFG.EN i, .RWL), (ETH.PORT.CFG.MODE i, .RWO), (ETH.PORT.CFG.ROLE i, .RWL), (ETH.PORT.CFG.PAUSE_EN i, .RWL), (ETH.PORT.CFG.AN_EN i, .RWL), (ETH.PORT.CFG.MTU i, .RWL)] },
  { base := 0xA00004, dims := [(6, 0x100)], wide := false,
    flds := fun i _ _ => [(ETH.PORT.STAT.LINK i, .RO), (ETH.PORT.STAT.SPEED i, .RO), (ETH.PORT.STAT.PENDING_REARM i, .RO), (ETH.PORT.STAT.PSTATE i, .RO), (ETH.PORT.STAT.MINOFF i, .RO), (ETH.PORT.STAT.CFG_ERR i, .RO), (ETH.PORT.STAT.LINK_CHG i, .RC)] },
  { base := 0xA00008, dims := [(6, 0x100)], wide := false,
    flds := fun i _ _ => [(ETH.PORT.LAT.EGRESS_LAT i, .RWL), (ETH.PORT.LAT.INGRESS_LAT i, .RWL)] },
  { base := 0xA0000C, dims := [(6, 0x100)], wide := false,
    flds := fun i _ _ => [(ETH.PORT.ASYM i, .RWL)] },
  { base := 0xA00010, dims := [(6, 0x100)], wide := false,
    flds := fun i _ _ => [(ETH.PORT.TXTS.DROPS i, .RC), (ETH.PORT.TXTS.STALE i, .RC), (ETH.PORT.TXTS.LEVEL i, .RO)] },
  { base := 0xA00800, dims := [(2, 0x20)], wide := false,
    flds := fun i _ _ => [(ETH.PRP.CFG.EN i, .RWO), (ETH.PRP.CFG.LIFE_MS i, .RWL)] },
  { base := 0xA00804, dims := [(2, 0x20)], wide := false,
    flds := fun i _ _ => [(ETH.PRP.STAT.LAN_A_OK i, .RO), (ETH.PRP.STAT.LAN_B_OK i, .RO), (ETH.PRP.STAT.WRONG_LAN i, .RC), (ETH.PRP.STAT.NODES i, .RO)] } ]

end Sys2Proof.Machine
end

