-- ==== Sys2Proof/Machine/RegsField.lean ====
section
/-! DEFINITION. The register fields of the blocks CAN, SESS, PIO: each field under the name BLOCK.REGISTER.FIELD of the
manual, with its BAR0 address, its bits and its reset value, and the register descriptions built from them. -/
namespace Sys2Proof.Machine

-- R227, spec/08_can_fd_channels.md
def CAN.CTRL.EN (i : Nat) : FRef := ⟨0x800000 + 0x10000 * i, 31, 31, 0⟩
def CAN.CTRL.MODE (i : Nat) : FRef := ⟨0x800000 + 0x10000 * i, 30, 28, 0⟩
def CAN.CTRL.FD_EN (i : Nat) : FRef := ⟨0x800000 + 0x10000 * i, 27, 27, 0⟩
def CAN.CTRL.BO_AUTO (i : Nat) : FRef := ⟨0x800000 + 0x10000 * i, 26, 26, 1⟩
def CAN.CTRL.LONELY_ACT (i : Nat) : FRef := ⟨0x800000 + 0x10000 * i, 25, 25, 0⟩
def CAN.CTRL.TDC_EN (i : Nat) : FRef := ⟨0x800000 + 0x10000 * i, 24, 24, 1⟩
def CAN.CTRL.WAKE_MODE (i : Nat) : FRef := ⟨0x800000 + 0x10000 * i, 23, 22, 0⟩
def CAN.CTRL.TS_SRC (i : Nat) : FRef := ⟨0x800000 + 0x10000 * i, 21, 21, 0⟩
def CAN.CTRL.LONELY_N (i : Nat) : FRef := ⟨0x800000 + 0x10000 * i, 15, 8, 64⟩

-- R227, spec/08_can_fd_channels.md
def CAN.NBT.NSJW (i : Nat) : FRef := ⟨0x800004 + 0x10000 * i, 31, 25, 31⟩
def CAN.NBT.NTSEG1 (i : Nat) : FRef := ⟨0x800004 + 0x10000 * i, 24, 17, 126⟩
def CAN.NBT.NTSEG2 (i : Nat) : FRef := ⟨0x800004 + 0x10000 * i, 16, 10, 31⟩
def CAN.NBT.NBRP (i : Nat) : FRef := ⟨0x800004 + 0x10000 * i, 7, 0, 0⟩

-- R227, spec/08_can_fd_channels.md
def CAN.DBT.DSJW (i : Nat) : FRef := ⟨0x800008 + 0x10000 * i, 31, 28, 9⟩
def CAN.DBT.DTSEG1 (i : Nat) : FRef := ⟨0x800008 + 0x10000 * i, 27, 23, 28⟩
def CAN.DBT.DTSEG2 (i : Nat) : FRef := ⟨0x800008 + 0x10000 * i, 22, 19, 9⟩
def CAN.DBT.DBRP (i : Nat) : FRef := ⟨0x800008 + 0x10000 * i, 12, 8, 0⟩
def CAN.DBT.TDCO (i : Nat) : FRef := ⟨0x800008 + 0x10000 * i, 7, 0, 30⟩

-- R227, spec/08_can_fd_channels.md
def CAN.TSCFG.TS_PRE (i : Nat) : FRef := ⟨0x80000C + 0x10000 * i, 15, 0, 80⟩

-- R227, spec/08_can_fd_channels.md
def CAN.TSCNT.COUNT (i : Nat) : FRef := ⟨0x800010 + 0x10000 * i, 31, 0, 0⟩

-- R227, spec/08_can_fd_channels.md
def CAN.TDC.TDCV (i : Nat) : FRef := ⟨0x800034 + 0x10000 * i, 7, 0, 0⟩

-- R227, spec/08_can_fd_channels.md
def CAN.STAT.CSTATE (i : Nat) : FRef := ⟨0x800014 + 0x10000 * i, 31, 29, 0⟩
def CAN.STAT.PENDING_REARM (i : Nat) : FRef := ⟨0x800014 + 0x10000 * i, 28, 28, 0⟩
def CAN.STAT.MINOFF (i : Nat) : FRef := ⟨0x800014 + 0x10000 * i, 27, 27, 0⟩
def CAN.STAT.CFG_ERR (i : Nat) : FRef := ⟨0x800014 + 0x10000 * i, 26, 26, 0⟩
def CAN.STAT.LONELY (i : Nat) : FRef := ⟨0x800014 + 0x10000 * i, 25, 25, 0⟩
def CAN.STAT.FORCED_LO (i : Nat) : FRef := ⟨0x800014 + 0x10000 * i, 24, 24, 0⟩
def CAN.STAT.ESTATE (i : Nat) : FRef := ⟨0x800014 + 0x10000 * i, 23, 22, 0⟩
def CAN.STAT.BO_WAIT (i : Nat) : FRef := ⟨0x800014 + 0x10000 * i, 21, 21, 0⟩
def CAN.STAT.BO_COUNT (i : Nat) : FRef := ⟨0x800014 + 0x10000 * i, 15, 8, 0⟩

-- R227, spec/08_can_fd_channels.md
def CAN.ERR.TEC (i : Nat) : FRef := ⟨0x800018 + 0x10000 * i, 24, 16, 0⟩
def CAN.ERR.REC (i : Nat) : FRef := ⟨0x800018 + 0x10000 * i, 15, 8, 0⟩
def CAN.ERR.LEC (i : Nat) : FRef := ⟨0x800018 + 0x10000 * i, 6, 4, 0⟩
def CAN.ERR.DLEC (i : Nat) : FRef := ⟨0x800018 + 0x10000 * i, 2, 0, 0⟩

-- R227, spec/08_can_fd_channels.md
def CAN.CNT.ACK_RUN (i : Nat) : FRef := ⟨0x80001C + 0x10000 * i, 31, 16, 0⟩
def CAN.CNT.PEXC (i : Nat) : FRef := ⟨0x80001C + 0x10000 * i, 15, 8, 0⟩
def CAN.CNT.RX_LOST (i : Nat) : FRef := ⟨0x80001C + 0x10000 * i, 7, 0, 0⟩

-- R227, spec/08_can_fd_channels.md
def CAN.EVT.PEXC (i : Nat) : FRef := ⟨0x800020 + 0x10000 * i, 11, 11, 0⟩
def CAN.EVT.CFG_ERR (i : Nat) : FRef := ⟨0x800020 + 0x10000 * i, 10, 10, 0⟩
def CAN.EVT.HPB_FULL (i : Nat) : FRef := ⟨0x800020 + 0x10000 * i, 9, 9, 0⟩
def CAN.EVT.RX_LOST (i : Nat) : FRef := ⟨0x800020 + 0x10000 * i, 8, 8, 0⟩
def CAN.EVT.WAKE (i : Nat) : FRef := ⟨0x800020 + 0x10000 * i, 7, 7, 0⟩
def CAN.EVT.LONELY (i : Nat) : FRef := ⟨0x800020 + 0x10000 * i, 6, 6, 0⟩
def CAN.EVT.BO_REC (i : Nat) : FRef := ⟨0x800020 + 0x10000 * i, 5, 5, 0⟩
def CAN.EVT.BUSOFF (i : Nat) : FRef := ⟨0x800020 + 0x10000 * i, 4, 4, 0⟩
def CAN.EVT.ESTATE (i : Nat) : FRef := ⟨0x800020 + 0x10000 * i, 3, 3, 0⟩
def CAN.EVT.TXFAIL (i : Nat) : FRef := ⟨0x800020 + 0x10000 * i, 2, 2, 0⟩
def CAN.EVT.TXDONE (i : Nat) : FRef := ⟨0x800020 + 0x10000 * i, 1, 1, 0⟩
def CAN.EVT.RXNEW (i : Nat) : FRef := ⟨0x800020 + 0x10000 * i, 0, 0, 0⟩

-- R227, spec/08_can_fd_channels.md
def CAN.EVT_EN.PEXC (i : Nat) : FRef := ⟨0x800024 + 0x10000 * i, 11, 11, 0⟩
def CAN.EVT_EN.CFG_ERR (i : Nat) : FRef := ⟨0x800024 + 0x10000 * i, 10, 10, 0⟩
def CAN.EVT_EN.HPB_FULL (i : Nat) : FRef := ⟨0x800024 + 0x10000 * i, 9, 9, 0⟩
def CAN.EVT_EN.RX_LOST (i : Nat) : FRef := ⟨0x800024 + 0x10000 * i, 8, 8, 0⟩
def CAN.EVT_EN.WAKE (i : Nat) : FRef := ⟨0x800024 + 0x10000 * i, 7, 7, 0⟩
def CAN.EVT_EN.LONELY (i : Nat) : FRef := ⟨0x800024 + 0x10000 * i, 6, 6, 0⟩
def CAN.EVT_EN.BO_REC (i : Nat) : FRef := ⟨0x800024 + 0x10000 * i, 5, 5, 0⟩
def CAN.EVT_EN.BUSOFF (i : Nat) : FRef := ⟨0x800024 + 0x10000 * i, 4, 4, 0⟩
def CAN.EVT_EN.ESTATE (i : Nat) : FRef := ⟨0x800024 + 0x10000 * i, 3, 3, 0⟩
def CAN.EVT_EN.TXFAIL (i : Nat) : FRef := ⟨0x800024 + 0x10000 * i, 2, 2, 0⟩
def CAN.EVT_EN.TXDONE (i : Nat) : FRef := ⟨0x800024 + 0x10000 * i, 1, 1, 0⟩
def CAN.EVT_EN.RXNEW (i : Nat) : FRef := ⟨0x800024 + 0x10000 * i, 0, 0, 0⟩

-- R227, spec/08_can_fd_channels.md
def CAN.WAKE_ID.IDE (i : Nat) : FRef := ⟨0x800028 + 0x10000 * i, 31, 31, 0⟩
def CAN.WAKE_ID.ID (i : Nat) : FRef := ⟨0x800028 + 0x10000 * i, 28, 0, 0⟩

-- R227, spec/08_can_fd_channels.md
def CAN.WAKE_MASK.MASK (i : Nat) : FRef := ⟨0x80002C + 0x10000 * i, 28, 0, 0⟩

-- R227, spec/08_can_fd_channels.md
def CAN.WAKE_TIM.STBY_DLY (i : Nat) : FRef := ⟨0x800030 + 0x10000 * i, 15, 8, 50⟩
def CAN.WAKE_TIM.WAKE_FILT (i : Nat) : FRef := ⟨0x800030 + 0x10000 * i, 7, 0, 5⟩

-- R227, spec/08_can_fd_channels.md
def CAN.HPF.ID.EN (i j : Nat) : FRef := ⟨0x800040 + 0x10000 * i + 8 * j, 31, 31, 0⟩
def CAN.HPF.ID.IDE (i j : Nat) : FRef := ⟨0x800040 + 0x10000 * i + 8 * j, 30, 30, 0⟩
def CAN.HPF.ID.ID (i j : Nat) : FRef := ⟨0x800040 + 0x10000 * i + 8 * j, 28, 0, 0⟩

-- R227, spec/08_can_fd_channels.md
def CAN.HPF.MASK (i j : Nat) : FRef := ⟨0x800044 + 0x10000 * i + 8 * j, 28, 0, 0⟩

-- R227, spec/08_can_fd_channels.md
def CAN.HPB_STAT.FULL (i : Nat) : FRef := ⟨0x800100 + 0x10000 * i, 15, 8, 0⟩
def CAN.HPB_STAT.LEVEL (i : Nat) : FRef := ⟨0x800100 + 0x10000 * i, 2, 0, 0⟩

-- R227, spec/08_can_fd_channels.md
def CAN.OBJ.CFG.USE (i j : Nat) : FRef := ⟨0x801000 + 0x10000 * i + 0x80 * j, 31, 31, 0⟩
def CAN.OBJ.CFG.DIR (i j : Nat) : FRef := ⟨0x801000 + 0x10000 * i + 0x80 * j, 30, 30, 0⟩
def CAN.OBJ.CFG.OWNER (i j : Nat) : FRef := ⟨0x801000 + 0x10000 * i + 0x80 * j, 29, 29, 0⟩
def CAN.OBJ.CFG.OVW (i j : Nat) : FRef := ⟨0x801000 + 0x10000 * i + 0x80 * j, 28, 28, 0⟩
def CAN.OBJ.CFG.RXIE (i j : Nat) : FRef := ⟨0x801000 + 0x10000 * i + 0x80 * j, 27, 27, 0⟩
def CAN.OBJ.CFG.TXIE (i j : Nat) : FRef := ⟨0x801000 + 0x10000 * i + 0x80 * j, 26, 26, 0⟩
def CAN.OBJ.CFG.ONE_SHOT (i j : Nat) : FRef := ⟨0x801000 + 0x10000 * i + 0x80 * j, 25, 25, 0⟩
def CAN.OBJ.CFG.FDF (i j : Nat) : FRef := ⟨0x801000 + 0x10000 * i + 0x80 * j, 24, 24, 0⟩
def CAN.OBJ.CFG.BRS (i j : Nat) : FRef := ⟨0x801000 + 0x10000 * i + 0x80 * j, 23, 23, 0⟩
def CAN.OBJ.CFG.IDE (i j : Nat) : FRef := ⟨0x801000 + 0x10000 * i + 0x80 * j, 22, 22, 0⟩
def CAN.OBJ.CFG.RTR (i j : Nat) : FRef := ⟨0x801000 + 0x10000 * i + 0x80 * j, 21, 21, 0⟩

-- R227, spec/08_can_fd_channels.md
def CAN.OBJ.ID (i j : Nat) : FRef := ⟨0x801004 + 0x10000 * i + 0x80 * j, 28, 0, 0⟩

-- R227, spec/08_can_fd_channels.md
def CAN.OBJ.MASK (i j : Nat) : FRef := ⟨0x801008 + 0x10000 * i + 0x80 * j, 28, 0, 0⟩

-- R227, spec/08_can_fd_channels.md
def CAN.OBJ.STAT.TXREQ (i j : Nat) : FRef := ⟨0x80100C + 0x10000 * i + 0x80 * j, 31, 31, 0⟩
def CAN.OBJ.STAT.NEWDAT (i j : Nat) : FRef := ⟨0x80100C + 0x10000 * i + 0x80 * j, 30, 30, 0⟩
def CAN.OBJ.STAT.MSGLOST (i j : Nat) : FRef := ⟨0x80100C + 0x10000 * i + 0x80 * j, 29, 29, 0⟩
def CAN.OBJ.STAT.SUSPENDED (i j : Nat) : FRef := ⟨0x80100C + 0x10000 * i + 0x80 * j, 28, 28, 0⟩
def CAN.OBJ.STAT.CXL_LATE (i j : Nat) : FRef := ⟨0x80100C + 0x10000 * i + 0x80 * j, 27, 27, 0⟩
def CAN.OBJ.STAT.TXOK (i j : Nat) : FRef := ⟨0x80100C + 0x10000 * i + 0x80 * j, 26, 26, 0⟩
def CAN.OBJ.STAT.TXERR (i j : Nat) : FRef := ⟨0x80100C + 0x10000 * i + 0x80 * j, 25, 25, 0⟩
def CAN.OBJ.STAT.DLC (i j : Nat) : FRef := ⟨0x80100C + 0x10000 * i + 0x80 * j, 19, 16, 0⟩
def CAN.OBJ.STAT.RX_FDF (i j : Nat) : FRef := ⟨0x80100C + 0x10000 * i + 0x80 * j, 7, 7, 0⟩
def CAN.OBJ.STAT.RX_BRS (i j : Nat) : FRef := ⟨0x80100C + 0x10000 * i + 0x80 * j, 6, 6, 0⟩
def CAN.OBJ.STAT.RX_ESI (i j : Nat) : FRef := ⟨0x80100C + 0x10000 * i + 0x80 * j, 5, 5, 0⟩
def CAN.OBJ.STAT.RX_IDE (i j : Nat) : FRef := ⟨0x80100C + 0x10000 * i + 0x80 * j, 4, 4, 0⟩
def CAN.OBJ.STAT.RX_RTR (i j : Nat) : FRef := ⟨0x80100C + 0x10000 * i + 0x80 * j, 3, 3, 0⟩

-- R227, spec/08_can_fd_channels.md
def CAN.OBJ.RXID (i j : Nat) : FRef := ⟨0x801010 + 0x10000 * i + 0x80 * j, 28, 0, 0⟩

-- R227, spec/08_can_fd_channels.md
def CAN.OBJ.STAMP (i j : Nat) : FRef := ⟨0x801014 + 0x10000 * i + 0x80 * j, 31, 0, 0⟩

-- R227, spec/08_can_fd_channels.md
def CAN.OBJ.DATA (i j k : Nat) : FRef := ⟨0x801020 + 0x10000 * i + 0x80 * j + 4 * k, 31, 0, 0⟩

-- R247, spec/09_substation_sessions.md
def SESS.CFG.UDP_PORT : FRef := ⟨0xB00000, 31, 16, 47700⟩
def SESS.CFG.LOST_POLL : FRef := ⟨0xB00000, 15, 8, 10⟩

-- R247, spec/09_substation_sessions.md
def SESS.SUM.LIVE : FRef := ⟨0xB00004, 28, 16, 0⟩
def SESS.SUM.DOWN : FRef := ⟨0xB00004, 12, 0, 0⟩

-- R247, spec/09_substation_sessions.md
def SESS.ENG.SLOTS (i : Nat) : FRef := ⟨0xB00010 + 4 * i, 31, 16, 0⟩
def SESS.ENG.SEG_ERR (i : Nat) : FRef := ⟨0xB00010 + 4 * i, 15, 8, 0⟩

-- R247, spec/09_substation_sessions.md
def SESS.CTX.CFG.EN (i : Nat) : FRef := ⟨0xB10000 + 0x40 * i, 31, 31, 0⟩
def SESS.CTX.CFG.TRANSPORT (i : Nat) : FRef := ⟨0xB10000 + 0x40 * i, 30, 30, 0⟩
def SESS.CTX.CFG.ENGINE (i : Nat) : FRef := ⟨0xB10000 + 0x40 * i, 29, 29, 0⟩
def SESS.CTX.CFG.OUT_IMMED (i : Nat) : FRef := ⟨0xB10000 + 0x40 * i, 28, 28, 0⟩
def SESS.CTX.CFG.CHAN (i : Nat) : FRef := ⟨0xB10000 + 0x40 * i, 27, 24, 0⟩
def SESS.CTX.CFG.PERIOD (i : Nat) : FRef := ⟨0xB10000 + 0x40 * i, 23, 21, 3⟩
def SESS.CTX.CFG.PHASE (i : Nat) : FRef := ⟨0xB10000 + 0x40 * i, 20, 13, 0⟩
def SESS.CTX.CFG.STALE_N (i : Nat) : FRef := ⟨0xB10000 + 0x40 * i, 12, 9, 3⟩
def SESS.CTX.CFG.RETRY (i : Nat) : FRef := ⟨0xB10000 + 0x40 * i, 8, 7, 1⟩
def SESS.CTX.CFG.SUBST_ZERO (i : Nat) : FRef := ⟨0xB10000 + 0x40 * i, 6, 6, 0⟩
def SESS.CTX.CFG.SPCOUNT (i : Nat) : FRef := ⟨0xB10000 + 0x40 * i, 4, 0, 0⟩

-- R247, spec/09_substation_sessions.md
def SESS.CTX.IN.WBASE (i : Nat) : FRef := ⟨0xB10004 + 0x40 * i, 31, 17, 0⟩
def SESS.CTX.IN.WCOUNT (i : Nat) : FRef := ⟨0xB10004 + 0x40 * i, 16, 11, 0⟩

-- R247, spec/09_substation_sessions.md
def SESS.CTX.OUT.WBASE (i : Nat) : FRef := ⟨0xB1000C + 0x40 * i, 31, 17, 0⟩
def SESS.CTX.OUT.WCOUNT (i : Nat) : FRef := ⟨0xB1000C + 0x40 * i, 16, 11, 0⟩

-- R247, spec/09_substation_sessions.md
def SESS.CTX.INB.BBASE (i : Nat) : FRef := ⟨0xB10008 + 0x40 * i, 31, 16, 0⟩
def SESS.CTX.INB.BCOUNT (i : Nat) : FRef := ⟨0xB10008 + 0x40 * i, 8, 0, 0⟩

-- R247, spec/09_substation_sessions.md
def SESS.CTX.OUTB.BBASE (i : Nat) : FRef := ⟨0xB10010 + 0x40 * i, 31, 16, 0⟩
def SESS.CTX.OUTB.BCOUNT (i : Nat) : FRef := ⟨0xB10010 + 0x40 * i, 8, 0, 0⟩

-- R247, spec/09_substation_sessions.md
def SESS.CTX.ID (i : Nat) : FRef := ⟨0xB10014 + 0x40 * i, 63, 0, 0⟩

-- R247, spec/09_substation_sessions.md
def SESS.CTX.TMO.LOST_TMO (i : Nat) : FRef := ⟨0xB1001C + 0x40 * i, 31, 16, 100⟩
def SESS.CTX.TMO.RESP_TMO (i : Nat) : FRef := ⟨0xB1001C + 0x40 * i, 15, 8, 20⟩
def SESS.CTX.TMO.JOIN_TMO (i : Nat) : FRef := ⟨0xB1001C + 0x40 * i, 7, 0, 50⟩

-- R247, spec/09_substation_sessions.md
def SESS.CTX.STAT.STATE (i : Nat) : FRef := ⟨0xB10020 + 0x40 * i, 31, 29, 0⟩
def SESS.CTX.STAT.PENDING_REARM (i : Nat) : FRef := ⟨0xB10020 + 0x40 * i, 28, 28, 0⟩
def SESS.CTX.STAT.STOPPING (i : Nat) : FRef := ⟨0xB10020 + 0x40 * i, 27, 27, 0⟩
def SESS.CTX.STAT.UNDELIVERED (i : Nat) : FRef := ⟨0xB10020 + 0x40 * i, 26, 26, 0⟩
def SESS.CTX.STAT.UNCONF (i : Nat) : FRef := ⟨0xB10020 + 0x40 * i, 25, 25, 0⟩
def SESS.CTX.STAT.DUP_ADDR (i : Nat) : FRef := ⟨0xB10020 + 0x40 * i, 24, 24, 0⟩
def SESS.CTX.STAT.MISS_RUN (i : Nat) : FRef := ⟨0xB10020 + 0x40 * i, 23, 20, 0⟩
def SESS.CTX.STAT.REJOINS (i : Nat) : FRef := ⟨0xB10020 + 0x40 * i, 15, 8, 0⟩
def SESS.CTX.STAT.EPOCH (i : Nat) : FRef := ⟨0xB10020 + 0x40 * i, 7, 0, 0⟩

-- R247, spec/09_substation_sessions.md
def SESS.CTX.LAST_RX (i : Nat) : FRef := ⟨0xB10024 + 0x40 * i, 31, 0, 0⟩

-- R247, spec/09_substation_sessions.md
def SESS.CTX.OUTSEQ.CONF (i : Nat) : FRef := ⟨0xB10028 + 0x40 * i, 31, 24, 0⟩
def SESS.CTX.OUTSEQ.SENT (i : Nat) : FRef := ⟨0xB10028 + 0x40 * i, 23, 16, 0⟩
def SESS.CTX.OUTSEQ.CONF_FAIL (i : Nat) : FRef := ⟨0xB10028 + 0x40 * i, 15, 0, 0⟩

-- R281, spec/10_process_io.md
def PIO.SAR.CTRL.EN (i : Nat) : FRef := ⟨0xC00000 + 0x40 * i, 31, 31, 1⟩
def PIO.SAR.CTRL.OVRGAP (i : Nat) : FRef := ⟨0xC00000 + 0x40 * i, 27, 27, 0⟩
def PIO.SAR.CTRL.PERIOD (i : Nat) : FRef := ⟨0xC00000 + 0x40 * i, 25, 14, 4⟩
def PIO.SAR.CTRL.PHASE (i : Nat) : FRef := ⟨0xC00000 + 0x40 * i, 13, 2, 0⟩

-- R281, spec/10_process_io.md
def PIO.SAR.STAT.SSTATE (i : Nat) : FRef := ⟨0xC00004 + 0x40 * i, 31, 30, 0⟩
def PIO.SAR.STAT.CARRYING (i : Nat) : FRef := ⟨0xC00004 + 0x40 * i, 29, 29, 0⟩
def PIO.SAR.STAT.CFG_ERR (i : Nat) : FRef := ⟨0xC00004 + 0x40 * i, 28, 28, 0⟩
def PIO.SAR.STAT.PENDING_REARM (i : Nat) : FRef := ⟨0xC00004 + 0x40 * i, 27, 27, 0⟩
def PIO.SAR.STAT.MINOFF (i : Nat) : FRef := ⟨0xC00004 + 0x40 * i, 26, 26, 0⟩
def PIO.SAR.STAT.ENTRIES (i : Nat) : FRef := ⟨0xC00004 + 0x40 * i, 23, 16, 0⟩
def PIO.SAR.STAT.PASS_US (i : Nat) : FRef := ⟨0xC00004 + 0x40 * i, 15, 0, 0⟩

-- R281, spec/10_process_io.md
def PIO.SAR.CNT.SKIPS (i : Nat) : FRef := ⟨0xC00008 + 0x40 * i, 31, 24, 0⟩
def PIO.SAR.CNT.INJ_DROP (i : Nat) : FRef := ⟨0xC00008 + 0x40 * i, 23, 16, 0⟩
def PIO.SAR.CNT.OVR_CNT (i : Nat) : FRef := ⟨0xC00008 + 0x40 * i, 15, 8, 0⟩
def PIO.SAR.CNT.TAINT_CNT (i : Nat) : FRef := ⟨0xC00008 + 0x40 * i, 7, 0, 0⟩

-- R281, spec/10_process_io.md
def PIO.EXC.CFG.OPEN (i : Nat) : FRef := ⟨0xC00100 + 8 * i, 2, 2, 0⟩
def PIO.EXC.CFG.CUR (i : Nat) : FRef := ⟨0xC00100 + 8 * i, 1, 0, 0⟩

-- R281, spec/10_process_io.md
def PIO.EXC.RREF (i : Nat) : FRef := ⟨0xC00104 + 8 * i, 31, 0, 0⟩

-- R281, spec/10_process_io.md
def PIO.DAC.CFG.MODE (i : Nat) : FRef := ⟨0xC00200 + 0x20 * i, 31, 30, 0⟩
def PIO.DAC.CFG.NAN (i : Nat) : FRef := ⟨0xC00200 + 0x20 * i, 29, 29, 0⟩
def PIO.DAC.CFG.CLAMP (i : Nat) : FRef := ⟨0xC00200 + 0x20 * i, 28, 28, 0⟩
def PIO.DAC.CFG.OPEN (i : Nat) : FRef := ⟨0xC00200 + 0x20 * i, 27, 27, 0⟩
def PIO.DAC.CFG.CODE (i : Nat) : FRef := ⟨0xC00200 + 0x20 * i, 15, 0, 0⟩

-- R281, spec/10_process_io.md
def PIO.DAC.GAIN (i : Nat) : FRef := ⟨0xC00204 + 0x20 * i, 31, 0, 0x3F800000⟩

-- R281, spec/10_process_io.md
def PIO.DAC.OFS (i : Nat) : FRef := ⟨0xC00208 + 0x20 * i, 31, 0, 0⟩

-- R281, spec/10_process_io.md
def PIO.DAC.SAFE (i : Nat) : FRef := ⟨0xC0020C + 0x20 * i, 31, 0, 0⟩

-- R281, spec/10_process_io.md
def PIO.DIO.DIR (i : Nat) : FRef := ⟨0xC00800 + 4 * i, 31, 0, 0⟩

-- R281, spec/10_process_io.md
def PIO.DIO.OD (i : Nat) : FRef := ⟨0xC00810 + 4 * i, 31, 0, 0⟩

-- R281, spec/10_process_io.md
def PIO.DIO.FILT (i : Nat) : FRef := ⟨0xC00820 + 4 * i, 31, 0, 0x01010101⟩

-- R281, spec/10_process_io.md
def PIO.DIO.SAFE (i : Nat) : FRef := ⟨0xC00830 + 4 * i, 31, 0, 0⟩

-- R281, spec/10_process_io.md
def PIO.DIO.LVL (i : Nat) : FRef := ⟨0xC00850 + 4 * i, 31, 0, 0⟩

-- R281, spec/10_process_io.md
def PIO.DIO.MISM (i : Nat) : FRef := ⟨0xC00860 + 4 * i, 31, 0, 0⟩

-- R281, spec/10_process_io.md
def PIO.PIN.CFG.EN (i : Nat) : FRef := ⟨0xC01000 + 0x10 * i, 31, 31, 0⟩
def PIO.PIN.CFG.EDGE (i : Nat) : FRef := ⟨0xC01000 + 0x10 * i, 30, 29, 1⟩
def PIO.PIN.CFG.GAP (i : Nat) : FRef := ⟨0xC01000 + 0x10 * i, 28, 28, 0⟩
def PIO.PIN.CFG.FILT (i : Nat) : FRef := ⟨0xC01000 + 0x10 * i, 15, 8, 1⟩
def PIO.PIN.CFG.RATE_TMO (i : Nat) : FRef := ⟨0xC01000 + 0x10 * i, 7, 0, 10⟩

-- R281, spec/10_process_io.md
def PIO.PIN.COUNT (i : Nat) : FRef := ⟨0xC01004 + 0x10 * i, 31, 0, 0⟩

-- R281, spec/10_process_io.md
def PIO.PIN.STAMP (i : Nat) : FRef := ⟨0xC01008 + 0x10 * i, 31, 0, 0⟩

-- R281, spec/10_process_io.md
def PIO.PIN.RATE (i : Nat) : FRef := ⟨0xC0100C + 0x10 * i, 31, 0, 0⟩

-- R281, spec/10_process_io.md
def PIO.ENTRY.CFG.USE (i j : Nat) : FRef := ⟨0xC10000 + 0x2000 * i + 0x20 * j, 31, 31, 0⟩
def PIO.ENTRY.CFG.INP (i j : Nat) : FRef := ⟨0xC10000 + 0x2000 * i + 0x20 * j, 30, 24, 0⟩
def PIO.ENTRY.CFG.DIFF (i j : Nat) : FRef := ⟨0xC10000 + 0x2000 * i + 0x20 * j, 23, 23, 0⟩
def PIO.ENTRY.CFG.PGA (i j : Nat) : FRef := ⟨0xC10000 + 0x2000 * i + 0x20 * j, 22, 20, 0⟩
def PIO.ENTRY.CFG.KIND (i j : Nat) : FRef := ⟨0xC10000 + 0x2000 * i + 0x20 * j, 19, 17, 0⟩
def PIO.ENTRY.CFG.EXC (i j : Nat) : FRef := ⟨0xC10000 + 0x2000 * i + 0x20 * j, 16, 13, 0⟩
def PIO.ENTRY.CFG.REFP (i j : Nat) : FRef := ⟨0xC10000 + 0x2000 * i + 0x20 * j, 12, 7, 0⟩
def PIO.ENTRY.CFG.LIM (i j : Nat) : FRef := ⟨0xC10000 + 0x2000 * i + 0x20 * j, 6, 6, 0⟩

-- R281, spec/10_process_io.md
def PIO.ENTRY.TIM.AVG (i j : Nat) : FRef := ⟨0xC10004 + 0x2000 * i + 0x20 * j, 31, 24, 0⟩
def PIO.ENTRY.TIM.DIV (i j : Nat) : FRef := ⟨0xC10004 + 0x2000 * i + 0x20 * j, 23, 16, 0⟩
def PIO.ENTRY.TIM.SETTLE (i j : Nat) : FRef := ⟨0xC10004 + 0x2000 * i + 0x20 * j, 15, 0, 0⟩

-- R281, spec/10_process_io.md
def PIO.ENTRY.GAIN (i j : Nat) : FRef := ⟨0xC10008 + 0x2000 * i + 0x20 * j, 31, 0, 0x3F800000⟩

-- R281, spec/10_process_io.md
def PIO.ENTRY.OFS (i j : Nat) : FRef := ⟨0xC1000C + 0x2000 * i + 0x20 * j, 31, 0, 0⟩

-- R281, spec/10_process_io.md
def PIO.ENTRY.PARAM (i j : Nat) : FRef := ⟨0xC10010 + 0x2000 * i + 0x20 * j, 31, 0, 0⟩

-- R281, spec/10_process_io.md
def PIO.RESULT.STAT.OVR (i j : Nat) : FRef := ⟨0xC20000 + 0x1000 * i + 0x10 * j, 31, 31, 0⟩
def PIO.RESULT.STAT.TAINT (i j : Nat) : FRef := ⟨0xC20000 + 0x1000 * i + 0x10 * j, 30, 30, 0⟩
def PIO.RESULT.STAT.WIRE (i j : Nat) : FRef := ⟨0xC20000 + 0x1000 * i + 0x10 * j, 29, 29, 0⟩
def PIO.RESULT.STAT.HALF (i j : Nat) : FRef := ⟨0xC20000 + 0x1000 * i + 0x10 * j, 28, 28, 0⟩
def PIO.RESULT.STAT.CAL (i j : Nat) : FRef := ⟨0xC20000 + 0x1000 * i + 0x10 * j, 27, 27, 0⟩
def PIO.RESULT.STAT.STALE (i j : Nat) : FRef := ⟨0xC20000 + 0x1000 * i + 0x10 * j, 26, 26, 1⟩
def PIO.RESULT.STAT.CODE (i j : Nat) : FRef := ⟨0xC20000 + 0x1000 * i + 0x10 * j, 15, 0, 0⟩

-- R281, spec/10_process_io.md
def PIO.RESULT.VALUE (i j : Nat) : FRef := ⟨0xC20004 + 0x1000 * i + 0x10 * j, 31, 0, 0⟩

-- R281, spec/10_process_io.md
def PIO.RESULT.STAMP (i j : Nat) : FRef := ⟨0xC20008 + 0x1000 * i + 0x10 * j, 31, 0, 0⟩

-- R281, spec/10_process_io.md
def PIO.RESULT.PASS (i j : Nat) : FRef := ⟨0xC2000C + 0x1000 * i + 0x10 * j, 31, 16, 0⟩

/-- The registers of this file, part 0: base address, array dimensions and fields with their access codes (R7). -/
def regsField0 : List RegDesc := [
  { base := 0x800000, dims := [(16, 0x10000)], wide := false,
    flds := fun i _ _ => [(CAN.CTRL.EN i, .RWL), (CAN.CTRL.MODE i, .RWO), (CAN.CTRL.FD_EN i, .RWO), (CAN.CTRL.BO_AUTO i, .RWL), (CAN.CTRL.LONELY_ACT i, .RWL), (CAN.CTRL.TDC_EN i, .RWO), (CAN.CTRL.WAKE_MODE i, .RWL), (CAN.CTRL.TS_SRC i, .RWO), (CAN.CTRL.LONELY_N i, .RWL)] },
  { base := 0x800004, dims := [(16, 0x10000)], wide := false,
    flds := fun i _ _ => [(CAN.NBT.NSJW i, .RWO), (CAN.NBT.NTSEG1 i, .RWO), (CAN.NBT.NTSEG2 i, .RWO), (CAN.NBT.NBRP i, .RWO)] },
  { base := 0x800008, dims := [(16, 0x10000)], wide := false,
    flds := fun i _ _ => [(CAN.DBT.DSJW i, .RWO), (CAN.DBT.DTSEG1 i, .RWO), (CAN.DBT.DTSEG2 i, .RWO), (CAN.DBT.DBRP i, .RWO), (CAN.DBT.TDCO i, .RWO)] },
  { base := 0x80000C, dims := [(16, 0x10000)], wide := false,
    flds := fun i _ _ => [(CAN.TSCFG.TS_PRE i, .RWO)] },
  { base := 0x800010, dims := [(16, 0x10000)], wide := false,
    flds := fun i _ _ => [(CAN.TSCNT.COUNT i, .RO)] },
  { base := 0x800034, dims := [(16, 0x10000)], wide := false,
    flds := fun i _ _ => [(CAN.TDC.TDCV i, .RO)] },
  { base := 0x800014, dims := [(16, 0x10000)], wide := false,
    flds := fun i _ _ => [(CAN.STAT.CSTATE i, .RO), (CAN.STAT.PENDING_REARM i, .RO), (CAN.STAT.MINOFF i, .RO), (CAN.STAT.CFG_ERR i, .RO), (CAN.STAT.LONELY i, .RO), (CAN.STAT.FORCED_LO i, .RO), (CAN.STAT.ESTATE i, .RO), (CAN.STAT.BO_WAIT i, .RO), (CAN.STAT.BO_COUNT i, .RC)] },
  { base := 0x800018, dims := [(16, 0x10000)], wide := false,
    flds := fun i _ _ => [(CAN.ERR.TEC i, .RO), (CAN.ERR.REC i, .RO), (CAN.ERR.LEC i, .RO), (CAN.ERR.DLEC i, .RO)] },
  { base := 0x80001C, dims := [(16, 0x10000)], wide := false,
    flds := fun i _ _ => [(CAN.CNT.ACK_RUN i, .RO), (CAN.CNT.PEXC i, .RC), (CAN.CNT.RX_LOST i, .RC)] },
  { base := 0x800020, dims := [(16, 0x10000)], wide := false,
    flds := fun i _ _ => [(CAN.EVT.PEXC i, .W1C), (CAN.EVT.CFG_ERR i, .W1C), (CAN.EVT.HPB_FULL i, .W1C), (CAN.EVT.RX_LOST i, .W1C), (CAN.EVT.WAKE i, .W1C), (CAN.EVT.LONELY i, .W1C), (CAN.EVT.BO_REC i, .W1C), (CAN.EVT.BUSOFF i, .W1C), (CAN.EVT.ESTATE i, .W1C), (CAN.EVT.TXFAIL i, .W1C), (CAN.EVT.TXDONE i, .W1C), (CAN.EVT.RXNEW i, .W1C)] },
  { base := 0x800024, dims := [(16, 0x10000)], wide := false,
    flds := fun i _ _ => [(CAN.EVT_EN.PEXC i, .RWL), (CAN.EVT_EN.CFG_ERR i, .RWL), (CAN.EVT_EN.HPB_FULL i, .RWL), (CAN.EVT_EN.RX_LOST i, .RWL), (CAN.EVT_EN.WAKE i, .RWL), (CAN.EVT_EN.LONELY i, .RWL), (CAN.EVT_EN.BO_REC i, .RWL), (CAN.EVT_EN.BUSOFF i, .RWL), (CAN.EVT_EN.ESTATE i, .RWL), (CAN.EVT_EN.TXFAIL i, .RWL), (CAN.EVT_EN.TXDONE i, .RWL), (CAN.EVT_EN.RXNEW i, .RWL)] },
  { base := 0x800028, dims := [(16, 0x10000)], wide := false,
    flds := fun i _ _ => [(CAN.WAKE_ID.IDE i, .RWL), (CAN.WAKE_ID.ID i, .RWL)] },
  { base := 0x80002C, dims := [(16, 0x10000)], wide := false,
    flds := fun i _ _ => [(CAN.WAKE_MASK.MASK i, .RWL)] },
  { base := 0x800030, dims := [(16, 0x10000)], wide := false,
    flds := fun i _ _ => [(CAN.WAKE_TIM.STBY_DLY i, .RWL), (CAN.WAKE_TIM.WAKE_FILT i, .RWL)] },
  { base := 0x800040, dims := [(16, 0x10000), (8, 0x8)], wide := false,
    flds := fun i j _ => [(CAN.HPF.ID.EN i j, .RWL), (CAN.HPF.ID.IDE i j, .RWL), (CAN.HPF.ID.ID i j, .RWL)] },
  { base := 0x800044, dims := [(16, 0x10000), (8, 0x8)], wide := false,
    flds := fun i j _ => [(CAN.HPF.MASK i j, .RWL)] },
  { base := 0x800100, dims := [(16, 0x10000)], wide := false,
    flds := fun i _ _ => [(CAN.HPB_STAT.FULL i, .RC), (CAN.HPB_STAT.LEVEL i, .RO)] },
  { base := 0x801000, dims := [(16, 0x10000), (128, 0x80)], wide := false,
    flds := fun i j _ => [(CAN.OBJ.CFG.USE i j, .RWO), (CAN.OBJ.CFG.DIR i j, .RWO), (CAN.OBJ.CFG.OWNER i j, .RWL), (CAN.OBJ.CFG.OVW i j, .RWO), (CAN.OBJ.CFG.RXIE i j, .RWO), (CAN.OBJ.CFG.TXIE i j, .RWO), (CAN.OBJ.CFG.ONE_SHOT i j, .RWO), (CAN.OBJ.CFG.FDF i j, .RWO), (CAN.OBJ.CFG.BRS i j, .RWO), (CAN.OBJ.CFG.IDE i j, .RWO), (CAN.OBJ.CFG.RTR i j, .RWO)] },
  { base := 0x801004, dims := [(16, 0x10000), (128, 0x80)], wide := false,
    flds := fun i j _ => [(CAN.OBJ.ID i j, .RWO)] },
  { base := 0x801008, dims := [(16, 0x10000), (128, 0x80)], wide := false,
    flds := fun i j _ => [(CAN.OBJ.MASK i j, .RWO)] } ]

/-- The registers of this file, part 1: base address, array dimensions and fields with their access codes (R7). -/
def regsField1 : List RegDesc := [
  { base := 0x80100C, dims := [(16, 0x10000), (128, 0x80)], wide := false,
    flds := fun i j _ => [(CAN.OBJ.STAT.TXREQ i j, .RO), (CAN.OBJ.STAT.NEWDAT i j, .RO), (CAN.OBJ.STAT.MSGLOST i j, .W1C), (CAN.OBJ.STAT.SUSPENDED i j, .RO), (CAN.OBJ.STAT.CXL_LATE i j, .W1C), (CAN.OBJ.STAT.TXOK i j, .W1C), (CAN.OBJ.STAT.TXERR i j, .W1C), (CAN.OBJ.STAT.DLC i j, .RO), (CAN.OBJ.STAT.RX_FDF i j, .RO), (CAN.OBJ.STAT.RX_BRS i j, .RO), (CAN.OBJ.STAT.RX_ESI i j, .RO), (CAN.OBJ.STAT.RX_IDE i j, .RO), (CAN.OBJ.STAT.RX_RTR i j, .RO)] },
  { base := 0x801010, dims := [(16, 0x10000), (128, 0x80)], wide := false,
    flds := fun i j _ => [(CAN.OBJ.RXID i j, .RO)] },
  { base := 0x801014, dims := [(16, 0x10000), (128, 0x80)], wide := false,
    flds := fun i j _ => [(CAN.OBJ.STAMP i j, .RO)] },
  { base := 0x801020, dims := [(16, 0x10000), (128, 0x80), (16, 0x4)], wide := false,
    flds := fun i j k => [(CAN.OBJ.DATA i j k, .RO)] },
  { base := 0xB00000, dims := [], wide := false,
    flds := fun _ _ _ => [(SESS.CFG.UDP_PORT, .RWL), (SESS.CFG.LOST_POLL, .RWL)] },
  { base := 0xB00004, dims := [], wide := false,
    flds := fun _ _ _ => [(SESS.SUM.LIVE, .RO), (SESS.SUM.DOWN, .RO)] },
  { base := 0xB00010, dims := [(2, 0x4)], wide := false,
    flds := fun i _ _ => [(SESS.ENG.SLOTS i, .RO), (SESS.ENG.SEG_ERR i, .RC)] },
  { base := 0xB10000, dims := [(4096, 0x40)], wide := false,
    flds := fun i _ _ => [(SESS.CTX.CFG.EN i, .RWL), (SESS.CTX.CFG.TRANSPORT i, .RWO), (SESS.CTX.CFG.ENGINE i, .RWO), (SESS.CTX.CFG.OUT_IMMED i, .RWO), (SESS.CTX.CFG.CHAN i, .RWO), (SESS.CTX.CFG.PERIOD i, .RWO), (SESS.CTX.CFG.PHASE i, .RWO), (SESS.CTX.CFG.STALE_N i, .RWO), (SESS.CTX.CFG.RETRY i, .RWO), (SESS.CTX.CFG.SUBST_ZERO i, .RWO), (SESS.CTX.CFG.SPCOUNT i, .RWO)] },
  { base := 0xB10004, dims := [(4096, 0x40)], wide := false,
    flds := fun i _ _ => [(SESS.CTX.IN.WBASE i, .RWO), (SESS.CTX.IN.WCOUNT i, .RWO)] },
  { base := 0xB1000C, dims := [(4096, 0x40)], wide := false,
    flds := fun i _ _ => [(SESS.CTX.OUT.WBASE i, .RWO), (SESS.CTX.OUT.WCOUNT i, .RWO)] },
  { base := 0xB10008, dims := [(4096, 0x40)], wide := false,
    flds := fun i _ _ => [(SESS.CTX.INB.BBASE i, .RWO), (SESS.CTX.INB.BCOUNT i, .RWO)] },
  { base := 0xB10010, dims := [(4096, 0x40)], wide := false,
    flds := fun i _ _ => [(SESS.CTX.OUTB.BBASE i, .RWO), (SESS.CTX.OUTB.BCOUNT i, .RWO)] },
  { base := 0xB10014, dims := [(4096, 0x40)], wide := true,
    flds := fun i _ _ => [(SESS.CTX.ID i, .RWO)] },
  { base := 0xB1001C, dims := [(4096, 0x40)], wide := false,
    flds := fun i _ _ => [(SESS.CTX.TMO.LOST_TMO i, .RWO), (SESS.CTX.TMO.RESP_TMO i, .RWO), (SESS.CTX.TMO.JOIN_TMO i, .RWO)] },
  { base := 0xB10020, dims := [(4096, 0x40)], wide := false,
    flds := fun i _ _ => [(SESS.CTX.STAT.STATE i, .RO), (SESS.CTX.STAT.PENDING_REARM i, .RO), (SESS.CTX.STAT.STOPPING i, .RO), (SESS.CTX.STAT.UNDELIVERED i, .RO), (SESS.CTX.STAT.UNCONF i, .RO), (SESS.CTX.STAT.DUP_ADDR i, .W1C), (SESS.CTX.STAT.MISS_RUN i, .RO), (SESS.CTX.STAT.REJOINS i, .RC), (SESS.CTX.STAT.EPOCH i, .RO)] },
  { base := 0xB10024, dims := [(4096, 0x40)], wide := false,
    flds := fun i _ _ => [(SESS.CTX.LAST_RX i, .RO)] },
  { base := 0xB10028, dims := [(4096, 0x40)], wide := false,
    flds := fun i _ _ => [(SESS.CTX.OUTSEQ.CONF i, .RO), (SESS.CTX.OUTSEQ.SENT i, .RO), (SESS.CTX.OUTSEQ.CONF_FAIL i, .RC)] },
  { base := 0xC00000, dims := [(2, 0x40)], wide := false,
    flds := fun i _ _ => [(PIO.SAR.CTRL.EN i, .RWL), (PIO.SAR.CTRL.OVRGAP i, .RWL), (PIO.SAR.CTRL.PERIOD i, .RWL), (PIO.SAR.CTRL.PHASE i, .RWL)] },
  { base := 0xC00004, dims := [(2, 0x40)], wide := false,
    flds := fun i _ _ => [(PIO.SAR.STAT.SSTATE i, .RO), (PIO.SAR.STAT.CARRYING i, .RO), (PIO.SAR.STAT.CFG_ERR i, .RO), (PIO.SAR.STAT.PENDING_REARM i, .RO), (PIO.SAR.STAT.MINOFF i, .RO), (PIO.SAR.STAT.ENTRIES i, .RO), (PIO.SAR.STAT.PASS_US i, .RO)] },
  { base := 0xC00008, dims := [(2, 0x40)], wide := false,
    flds := fun i _ _ => [(PIO.SAR.CNT.SKIPS i, .RC), (PIO.SAR.CNT.INJ_DROP i, .RC), (PIO.SAR.CNT.OVR_CNT i, .RC), (PIO.SAR.CNT.TAINT_CNT i, .RC)] } ]

/-- The registers of this file, part 2: base address, array dimensions and fields with their access codes (R7). -/
def regsField2 : List RegDesc := [
  { base := 0xC00100, dims := [(16, 0x8)], wide := false,
    flds := fun i _ _ => [(PIO.EXC.CFG.OPEN i, .RO), (PIO.EXC.CFG.CUR i, .RWL)] },
  { base := 0xC00104, dims := [(16, 0x8)], wide := false,
    flds := fun i _ _ => [(PIO.EXC.RREF i, .RWL)] },
  { base := 0xC00200, dims := [(32, 0x20)], wide := false,
    flds := fun i _ _ => [(PIO.DAC.CFG.MODE i, .RWL), (PIO.DAC.CFG.NAN i, .W1C), (PIO.DAC.CFG.CLAMP i, .W1C), (PIO.DAC.CFG.OPEN i, .RO), (PIO.DAC.CFG.CODE i, .RO)] },
  { base := 0xC00204, dims := [(32, 0x20)], wide := false,
    flds := fun i _ _ => [(PIO.DAC.GAIN i, .RWL)] },
  { base := 0xC00208, dims := [(32, 0x20)], wide := false,
    flds := fun i _ _ => [(PIO.DAC.OFS i, .RWL)] },
  { base := 0xC0020C, dims := [(32, 0x20)], wide := false,
    flds := fun i _ _ => [(PIO.DAC.SAFE i, .RWL)] },
  { base := 0xC00800, dims := [(4, 0x4)], wide := false,
    flds := fun i _ _ => [(PIO.DIO.DIR i, .RWL)] },
  { base := 0xC00810, dims := [(4, 0x4)], wide := false,
    flds := fun i _ _ => [(PIO.DIO.OD i, .RWL)] },
  { base := 0xC00820, dims := [(4, 0x4)], wide := false,
    flds := fun i _ _ => [(PIO.DIO.FILT i, .RWL)] },
  { base := 0xC00830, dims := [(8, 0x4)], wide := false,
    flds := fun i _ _ => [(PIO.DIO.SAFE i, .RWL)] },
  { base := 0xC00850, dims := [(4, 0x4)], wide := false,
    flds := fun i _ _ => [(PIO.DIO.LVL i, .RO)] },
  { base := 0xC00860, dims := [(4, 0x4)], wide := false,
    flds := fun i _ _ => [(PIO.DIO.MISM i, .W1C)] },
  { base := 0xC01000, dims := [(64, 0x10)], wide := false,
    flds := fun i _ _ => [(PIO.PIN.CFG.EN i, .RWL), (PIO.PIN.CFG.EDGE i, .RWL), (PIO.PIN.CFG.GAP i, .W1C), (PIO.PIN.CFG.FILT i, .RWL), (PIO.PIN.CFG.RATE_TMO i, .RWL)] },
  { base := 0xC01004, dims := [(64, 0x10)], wide := false,
    flds := fun i _ _ => [(PIO.PIN.COUNT i, .RO)] },
  { base := 0xC01008, dims := [(64, 0x10)], wide := false,
    flds := fun i _ _ => [(PIO.PIN.STAMP i, .RO)] },
  { base := 0xC0100C, dims := [(64, 0x10)], wide := false,
    flds := fun i _ _ => [(PIO.PIN.RATE i, .RO)] },
  { base := 0xC10000, dims := [(2, 0x2000), (256, 0x20)], wide := false,
    flds := fun i j _ => [(PIO.ENTRY.CFG.USE i j, .RO), (PIO.ENTRY.CFG.INP i j, .RO), (PIO.ENTRY.CFG.DIFF i j, .RO), (PIO.ENTRY.CFG.PGA i j, .RO), (PIO.ENTRY.CFG.KIND i j, .RO), (PIO.ENTRY.CFG.EXC i j, .RO), (PIO.ENTRY.CFG.REFP i j, .RO), (PIO.ENTRY.CFG.LIM i j, .RO)] },
  { base := 0xC10004, dims := [(2, 0x2000), (256, 0x20)], wide := false,
    flds := fun i j _ => [(PIO.ENTRY.TIM.AVG i j, .RO), (PIO.ENTRY.TIM.DIV i j, .RO), (PIO.ENTRY.TIM.SETTLE i j, .RO)] },
  { base := 0xC10008, dims := [(2, 0x2000), (256, 0x20)], wide := false,
    flds := fun i j _ => [(PIO.ENTRY.GAIN i j, .RWL)] },
  { base := 0xC1000C, dims := [(2, 0x2000), (256, 0x20)], wide := false,
    flds := fun i j _ => [(PIO.ENTRY.OFS i j, .RWL)] } ]

/-- The registers of this file, part 3: base address, array dimensions and fields with their access codes (R7). -/
def regsField3 : List RegDesc := [
  { base := 0xC10010, dims := [(2, 0x2000), (256, 0x20)], wide := false,
    flds := fun i j _ => [(PIO.ENTRY.PARAM i j, .RWL)] },
  { base := 0xC20000, dims := [(2, 0x1000), (256, 0x10)], wide := false,
    flds := fun i j _ => [(PIO.RESULT.STAT.OVR i j, .RO), (PIO.RESULT.STAT.TAINT i j, .RO), (PIO.RESULT.STAT.WIRE i j, .RO), (PIO.RESULT.STAT.HALF i j, .RO), (PIO.RESULT.STAT.CAL i j, .RO), (PIO.RESULT.STAT.STALE i j, .RO), (PIO.RESULT.STAT.CODE i j, .RO)] },
  { base := 0xC20004, dims := [(2, 0x1000), (256, 0x10)], wide := false,
    flds := fun i j _ => [(PIO.RESULT.VALUE i j, .RO)] },
  { base := 0xC20008, dims := [(2, 0x1000), (256, 0x10)], wide := false,
    flds := fun i j _ => [(PIO.RESULT.STAMP i j, .RO)] },
  { base := 0xC2000C, dims := [(2, 0x1000), (256, 0x10)], wide := false,
    flds := fun i j _ => [(PIO.RESULT.PASS i j, .RO)] } ]

end Sys2Proof.Machine
end

