-- ==== Sys2Proof/Machine/RegsGlb.lean ====
section
/-! DEFINITION. The register fields of the blocks GLB, PWR: each field under the name BLOCK.REGISTER.FIELD of the
manual, with its BAR0 address, its bits and its reset value, and the register descriptions built from them. -/
namespace Sys2Proof.Machine

-- R24, spec/01_architecture.md
def GLB.TEMPO.MODEL_PHASE : FRef := ⟨0x78, 9, 0, 0⟩

-- R48, spec/02_package_and_balls.md
def GLB.STRAP.LIVE : FRef := ⟨0x40, 11, 7, 0⟩
def GLB.STRAP.UNSTABLE : FRef := ⟨0x40, 6, 6, 0⟩
def GLB.STRAP.INVALID : FRef := ⟨0x40, 5, 5, 0⟩
def GLB.STRAP.BIF : FRef := ⟨0x40, 4, 3, 0⟩
def GLB.STRAP.XPROOF : FRef := ⟨0x40, 2, 2, 0⟩
def GLB.STRAP.SAFE : FRef := ⟨0x40, 1, 0, 0⟩

-- R63, spec/03_supplies_clocks_thermal.md
def PWR.RAIL_STAT.VIOL : FRef := ⟨0x200010, 27, 16, 0⟩
def PWR.RAIL_STAT.GOOD : FRef := ⟨0x200010, 11, 0, 0xFFF⟩

-- R68, spec/03_supplies_clocks_thermal.md
def PWR.AVS_CTRL.VMAX : FRef := ⟨0x200020, 25, 16, 850⟩
def PWR.AVS_CTRL.VMIN : FRef := ⟨0x200020, 15, 6, 700⟩
def PWR.AVS_CTRL.ADAPT : FRef := ⟨0x200020, 0, 0, 1⟩

-- R68, spec/03_supplies_clocks_thermal.md
def PWR.AVS_STAT.NO_RESP : FRef := ⟨0x200024, 31, 31, 0⟩
def PWR.AVS_STAT.CFG_ERR : FRef := ⟨0x200024, 30, 30, 0⟩
def PWR.AVS_STAT.CAP : FRef := ⟨0x200024, 29, 29, 0⟩
def PWR.AVS_STAT.VCMD : FRef := ⟨0x200024, 25, 16, 750⟩
def PWR.AVS_STAT.IOUT : FRef := ⟨0x200024, 15, 8, 0⟩
def PWR.AVS_STAT.RSTAT : FRef := ⟨0x200024, 7, 0, 0⟩

-- R74, spec/03_supplies_clocks_thermal.md
def PWR.ISL_CTRL.EN (i : Nat) : FRef := ⟨0x200100 + 4 * i, 0, 0, 1⟩

-- R74, spec/03_supplies_clocks_thermal.md
def PWR.ISL_STAT.OFF_COUNT (i : Nat) : FRef := ⟨0x200140 + 4 * i, 31, 24, 0⟩
def PWR.ISL_STAT.CAUSE (i : Nat) : FRef := ⟨0x200140 + 4 * i, 23, 20, 0⟩
def PWR.ISL_STAT.HELD (i : Nat) : FRef := ⟨0x200140 + 4 * i, 11, 11, 0⟩
def PWR.ISL_STAT.MINOFF (i : Nat) : FRef := ⟨0x200140 + 4 * i, 10, 10, 0⟩
def PWR.ISL_STAT.PENDING_REARM (i : Nat) : FRef := ⟨0x200140 + 4 * i, 9, 9, 0⟩
def PWR.ISL_STAT.REFUSED (i : Nat) : FRef := ⟨0x200140 + 4 * i, 8, 8, 0⟩
def PWR.ISL_STAT.STATE (i : Nat) : FRef := ⟨0x200140 + 4 * i, 2, 0, 1⟩

-- R79, spec/03_supplies_clocks_thermal.md
def PWR.CLK_STAT.LOSS : FRef := ⟨0x200030, 23, 16, 0⟩
def PWR.CLK_STAT.LOCK : FRef := ⟨0x200030, 14, 8, 0x7F⟩
def PWR.CLK_STAT.PRESENT : FRef := ⟨0x200030, 7, 0, 0xFF⟩

-- R87, spec/03_supplies_clocks_thermal.md
def PWR.THERM_CFG.THR_DOWN : FRef := ⟨0x200040, 15, 8, 0⟩
def PWR.THERM_CFG.HYST : FRef := ⟨0x200040, 7, 4, 3⟩

-- R87, spec/03_supplies_clocks_thermal.md
def PWR.THERM_STAT.TJ : FRef := ⟨0x200044, 31, 22, 0⟩
def PWR.THERM_STAT.HOT : FRef := ⟨0x200044, 21, 18, 0⟩
def PWR.THERM_STAT.SOLV_STEP : FRef := ⟨0x200044, 17, 15, 0⟩
def PWR.THERM_STAT.APP_STEP : FRef := ⟨0x200044, 14, 12, 0⟩
def PWR.THERM_STAT.GRADE_CAP : FRef := ⟨0x200044, 11, 11, 0⟩
def PWR.THERM_STAT.THROT : FRef := ⟨0x200044, 10, 10, 0⟩
def PWR.THERM_STAT.KW_THERM : FRef := ⟨0x200044, 9, 9, 0⟩
def PWR.THERM_STAT.TRIP_SEEN : FRef := ⟨0x200044, 8, 8, 0⟩
def PWR.THERM_STAT.STEP_COUNT : FRef := ⟨0x200044, 7, 0, 0⟩

-- R104, spec/04_proof_and_operating_states.md
def GLB.STATE.KW_CAUSE : FRef := ⟨0x50, 27, 24, 0⟩
def GLB.STATE.RACK_CAUSE : FRef := ⟨0x50, 23, 20, 0⟩
def GLB.STATE.HANG_RETRY : FRef := ⟨0x50, 16, 16, 0⟩
def GLB.STATE.RESET_KIND : FRef := ⟨0x50, 11, 8, 1⟩
def GLB.STATE.STATE : FRef := ⟨0x50, 2, 0, 2⟩

-- R104, spec/04_proof_and_operating_states.md
def GLB.RESET_CAUSE.BOOT_COUNT : FRef := ⟨0x54, 31, 16, 0⟩
def GLB.RESET_CAUSE.CAUSE : FRef := ⟨0x54, 8, 0, 0x100⟩

-- R104, spec/04_proof_and_operating_states.md
def GLB.PROOF_SUM.DURATION_MS : FRef := ⟨0x58, 31, 18, 0⟩
def GLB.PROOF_SUM.VERDICT : FRef := ⟨0x58, 17, 16, 0⟩
def GLB.PROOF_SUM.FAILED : FRef := ⟨0x58, 15, 8, 0⟩
def GLB.PROOF_SUM.HELD : FRef := ⟨0x58, 7, 0, 0⟩

-- R104, spec/04_proof_and_operating_states.md
def GLB.START_POLICY.DEGRADED_RUN : FRef := ⟨0x5C, 0, 0, 1⟩

-- R115, spec/05_host_interface.md
def GLB.LOCK.COMMIT_ERR : FRef := ⟨0x60, 2, 2, 0⟩
def GLB.LOCK.BUSY : FRef := ⟨0x60, 1, 1, 0⟩
def GLB.LOCK.LOCK : FRef := ⟨0x60, 0, 0, 0⟩

-- R115, spec/05_host_interface.md
def GLB.IGN_WRITES.LAST_PORT : FRef := ⟨0x64, 31, 31, 0⟩
def GLB.IGN_WRITES.COUNT : FRef := ⟨0x64, 23, 0, 0⟩

-- R115, spec/05_host_interface.md
def GLB.IGN_ADDR.ADDR : FRef := ⟨0x68, 24, 0, 0⟩

-- R563, spec/21_trays_and_replacement.md
def GLB.COMPAT_LEVEL.REFUSED : FRef := ⟨0x70, 24, 24, 0⟩
def GLB.COMPAT_LEVEL.MAX : FRef := ⟨0x70, 23, 16, 1⟩
def GLB.COMPAT_LEVEL.REQ : FRef := ⟨0x70, 15, 8, 1⟩
def GLB.COMPAT_LEVEL.LEVEL : FRef := ⟨0x70, 7, 0, 1⟩

/-- The registers of this file, part 0: base address, array dimensions and fields with their access codes (R7). -/
def regsGlb0 : List RegDesc := [
  { base := 0x78, dims := [], wide := false,
    flds := fun _ _ _ => [(GLB.TEMPO.MODEL_PHASE, .RWL)] },
  { base := 0x40, dims := [], wide := false,
    flds := fun _ _ _ => [(GLB.STRAP.LIVE, .RO), (GLB.STRAP.UNSTABLE, .RO), (GLB.STRAP.INVALID, .RO), (GLB.STRAP.BIF, .RO), (GLB.STRAP.XPROOF, .RO), (GLB.STRAP.SAFE, .RO)] },
  { base := 0x200010, dims := [], wide := false,
    flds := fun _ _ _ => [(PWR.RAIL_STAT.VIOL, .W1C), (PWR.RAIL_STAT.GOOD, .RO)] },
  { base := 0x200020, dims := [], wide := false,
    flds := fun _ _ _ => [(PWR.AVS_CTRL.VMAX, .RWL), (PWR.AVS_CTRL.VMIN, .RWL), (PWR.AVS_CTRL.ADAPT, .RWL)] },
  { base := 0x200024, dims := [], wide := false,
    flds := fun _ _ _ => [(PWR.AVS_STAT.NO_RESP, .W1C), (PWR.AVS_STAT.CFG_ERR, .RO), (PWR.AVS_STAT.CAP, .RO), (PWR.AVS_STAT.VCMD, .RO), (PWR.AVS_STAT.IOUT, .RO), (PWR.AVS_STAT.RSTAT, .RO)] },
  { base := 0x200100, dims := [(14, 0x4)], wide := false,
    flds := fun i _ _ => [(PWR.ISL_CTRL.EN i, .RWL)] },
  { base := 0x200140, dims := [(14, 0x4)], wide := false,
    flds := fun i _ _ => [(PWR.ISL_STAT.OFF_COUNT i, .RO), (PWR.ISL_STAT.CAUSE i, .RO), (PWR.ISL_STAT.HELD i, .RO), (PWR.ISL_STAT.MINOFF i, .RO), (PWR.ISL_STAT.PENDING_REARM i, .RO), (PWR.ISL_STAT.REFUSED i, .W1C), (PWR.ISL_STAT.STATE i, .RO)] },
  { base := 0x200030, dims := [], wide := false,
    flds := fun _ _ _ => [(PWR.CLK_STAT.LOSS, .W1C), (PWR.CLK_STAT.LOCK, .RO), (PWR.CLK_STAT.PRESENT, .RO)] },
  { base := 0x200040, dims := [], wide := false,
    flds := fun _ _ _ => [(PWR.THERM_CFG.THR_DOWN, .RWL), (PWR.THERM_CFG.HYST, .RWL)] },
  { base := 0x200044, dims := [], wide := false,
    flds := fun _ _ _ => [(PWR.THERM_STAT.TJ, .RO), (PWR.THERM_STAT.HOT, .RO), (PWR.THERM_STAT.SOLV_STEP, .RO), (PWR.THERM_STAT.APP_STEP, .RO), (PWR.THERM_STAT.GRADE_CAP, .RO), (PWR.THERM_STAT.THROT, .RO), (PWR.THERM_STAT.KW_THERM, .RO), (PWR.THERM_STAT.TRIP_SEEN, .W1C), (PWR.THERM_STAT.STEP_COUNT, .RC)] },
  { base := 0x50, dims := [], wide := false,
    flds := fun _ _ _ => [(GLB.STATE.KW_CAUSE, .RO), (GLB.STATE.RACK_CAUSE, .RO), (GLB.STATE.HANG_RETRY, .RO), (GLB.STATE.RESET_KIND, .RO), (GLB.STATE.STATE, .RO)] },
  { base := 0x54, dims := [], wide := false,
    flds := fun _ _ _ => [(GLB.RESET_CAUSE.BOOT_COUNT, .RO), (GLB.RESET_CAUSE.CAUSE, .RO)] },
  { base := 0x58, dims := [], wide := false,
    flds := fun _ _ _ => [(GLB.PROOF_SUM.DURATION_MS, .RO), (GLB.PROOF_SUM.VERDICT, .RO), (GLB.PROOF_SUM.FAILED, .RO), (GLB.PROOF_SUM.HELD, .RO)] },
  { base := 0x5C, dims := [], wide := false,
    flds := fun _ _ _ => [(GLB.START_POLICY.DEGRADED_RUN, .RO)] },
  { base := 0x60, dims := [], wide := false,
    flds := fun _ _ _ => [(GLB.LOCK.COMMIT_ERR, .RO), (GLB.LOCK.BUSY, .RO), (GLB.LOCK.LOCK, .W1S)] },
  { base := 0x64, dims := [], wide := false,
    flds := fun _ _ _ => [(GLB.IGN_WRITES.LAST_PORT, .RO), (GLB.IGN_WRITES.COUNT, .RC)] },
  { base := 0x68, dims := [], wide := false,
    flds := fun _ _ _ => [(GLB.IGN_ADDR.ADDR, .RO)] },
  { base := 0x70, dims := [], wide := false,
    flds := fun _ _ _ => [(GLB.COMPAT_LEVEL.REFUSED, .RO), (GLB.COMPAT_LEVEL.MAX, .RO), (GLB.COMPAT_LEVEL.REQ, .RWL), (GLB.COMPAT_LEVEL.LEVEL, .RO)] } ]

end Sys2Proof.Machine
end

