-- ==== Sys2Proof/Machine/FcuTable.lean ====
section
/-! DEFINITION. The detector table of R495 (spec/18): class, reaction, injection mode and island of FD0 to FD191. -/
namespace Sys2Proof.Machine

/-- Table class of detector d (R495). Rails: bit order of PWR.RAIL_STAT.GOOD; the device rails are VDDIO18 (2),
VDDIO33 (4), VDDM (6) and VDDC (7), the memory rails VDD1 (1), VDD2H (9) and VDDQ (10). -/
def fdClass (d : Nat) : Nat :=
  if d ≤ 11 then (if d = 0 ∨ d = 11 then 1 else if d = 1 ∨ d = 9 ∨ d = 10 then 3 else 2)
  else if d ≤ 19 then 2
  else if d ≤ 24 then 3
  else if d ≤ 27 then 2
  else if d = 28 then 0
  else if d = 29 then 4
  else if d ≤ 31 then 2
  else if d ≤ 45 then (if d = 33 then 5 else 3)
  else if d ≤ 68 then (if d = 68 then 5 else 3)
  else if d = 69 then 4
  else if d ≤ 82 then (if d = 70 then 5 else 3)
  else if d = 83 then 1
  else if d = 84 then 3
  else if d = 85 then 1
  else if d = 86 then 4
  else if d = 87 then 1
  else if d ≤ 89 then 2
  else if d = 90 then 1
  else if d = 91 then 3
  else if d = 92 then 1
  else if d ≤ 95 then 3
  else if d ≤ 97 then 4
  else if d ≤ 100 then 2
  else if d = 101 then 1
  else if d ≤ 103 then 2
  else if d ≤ 105 then 1
  else if d ≤ 111 then 2
  else if d ≤ 114 then 1
  else if d ≤ 130 then 2
  else if d = 131 then 3
  else if d = 132 then 1
  else if d ≤ 134 then 2
  else if d = 135 then 3
  else if d ≤ 138 then 1
  else if d ≤ 142 then 2
  else if d = 143 then 3
  else if d ≤ 148 then 2
  else if d ≤ 151 then 1
  else if d ≤ 160 then 2
  else if d = 161 then 1
  else if d ≤ 164 then 3
  else if d ≤ 167 then 2
  else if d ≤ 169 then 1
  else if d = 170 then 5
  else 0

/-- The REACT code of detector d (R481, R495). -/
def fdReact (d : Nat) : Nat :=
  if d ≤ 11 then (if d = 2 ∨ d = 4 ∨ d = 6 ∨ d = 7 then 4 else if d = 1 ∨ d = 9 ∨ d = 10 then 2 else 1)
  else if d ≤ 19 then (if d = 12 then 4 else 1)
  else if d ≤ 21 then 2
  else if d ≤ 24 then 3
  else if d = 25 then 4
  else if d ≤ 27 then 1
  else if d = 28 then 0
  else if d = 29 then 2
  else if d = 30 then 4
  else if d = 31 then 1
  else if d ≤ 45 then (if d = 32 then 1 else if 35 ≤ d ∧ d ≤ 37 then 3 else 2)
  else if d ≤ 68 then
    (if 50 ≤ d ∧ d ≤ 55 then 3 else if 59 ≤ d ∧ d ≤ 62 then 1 else if d = 68 then 4 else 2)
  else if d = 69 then 0
  else if d ≤ 82 then (if 72 ≤ d ∧ d ≤ 74 then 3 else 2)
  else if d = 83 then 0
  else if d = 84 then 2
  else if d = 85 then 0
  else if d = 86 then 1
  else if d = 87 then 0
  else if d ≤ 89 then 1
  else if d = 90 then 0
  else if d = 91 then 2
  else if d = 92 then 0
  else if d ≤ 95 then 3
  else if d ≤ 97 then 4
  else if d ≤ 101 then 0
  else if d ≤ 103 then 1
  else if d = 104 then 0
  else if d = 105 then 1
  else if d ≤ 111 then 1
  else if d ≤ 114 then 0
  else if d ≤ 130 then 1
  else if d = 131 then 2
  else if d = 132 then 0
  else if d ≤ 134 then 1
  else if d = 135 then 2
  else if d ≤ 138 then 0
  else if d ≤ 142 then 1
  else if d = 143 then 2
  else if d ≤ 147 then 1
  else if d ≤ 151 then 0
  else if d ≤ 159 then 1
  else if d ≤ 161 then 0
  else if d ≤ 163 then 2
  else if d = 164 then 1
  else if d ≤ 167 then 1
  else 0

/-- The injection mode of detector d (R495): 0 N, 1 S, 2 L, 3 C. -/
def fdInj (d : Nat) : Nat :=
  if d ≤ 11 then 3
  else if d ≤ 19 then (if d = 12 ∨ d = 19 then 3 else 1)
  else if d ≤ 29 then 1
  else if d = 30 then 3
  else if d = 31 then 1
  else if d ≤ 45 then (if d = 32 then 3 else if 35 ≤ d ∧ d ≤ 37 then 2 else 1)
  else if d ≤ 68 then (if 50 ≤ d ∧ d ≤ 55 then 2 else 1)
  else if d = 69 then 3
  else if d ≤ 82 then (if 72 ≤ d ∧ d ≤ 74 then 2 else 1)
  else if d ≤ 92 then 1
  else if d ≤ 101 then 2
  else if d ≤ 163 then 1
  else if d = 164 then 3
  else if d ≤ 170 then 1
  else 0

/-- The engine of heartbeat detector FD46 + e, in R495's order: AC0–AC3, LE-A–C, CL-A–C, SQ0, SQ1, TS, MD0–MD3, AQ,
BE0, BE1, TE, KE, BT; the value is the engine's island (R19). -/
def engineIsland (e : Nat) : Nat :=
  if e ≤ 3 then 2
  else if e ≤ 6 then e - 1
  else if e ≤ 9 then e - 4
  else if e ≤ 11 then 6
  else if e = 12 then 7
  else if e ≤ 16 then 8
  else if e = 17 then 9
  else if e ≤ 19 then 11
  else if e = 20 then 10
  else if e = 21 then 13
  else 1

/-- The island (or islands) a HOLD or ISO reaction of detector d names (R495). FD91 names the reader's island in its detail word. -/
def fdIslands (d detail : Nat) : List Nat :=
  if d = 1 ∨ d = 9 ∨ d = 10 then [6, 2]
  else if d = 20 then [2]
  else if d = 21 then [6]
  else if 22 ≤ d ∧ d ≤ 24 then [d - 19]
  else if d = 29 then [6, 7]
  else if 32 ≤ d ∧ d ≤ 45 then [d - 32]
  else if 46 ≤ d ∧ d ≤ 68 then [engineIsland (d - 46)]
  else if 70 ≤ d ∧ d ≤ 82 then [d - 69]
  else if d = 84 then [6, 2]
  else if d = 91 then [detail % 16]
  else if 93 ≤ d ∧ d ≤ 95 then [d - 90]
  else if d = 131 then [11]
  else if d = 135 then [9]
  else if d = 143 then [8]
  else if d = 162 ∨ d = 163 then [13]
  else []

/-- The island in which the source of detector d lies, for the suppression of R487; none for sources of AON, CRUST or the
memory die. The PLLs of FD20 to FD24 clock their island alone and lock at its start (R76): they count as the island's (DEDUCED, log 91). -/
def fdSourceIsland (d detail : Nat) : Option Nat :=
  if d = 20 then some 2
  else if d = 21 then some 6
  else if 22 ≤ d ∧ d ≤ 24 then some (d - 19)
  else if 46 ≤ d ∧ d ≤ 67 then some (engineIsland (d - 46))
  else if 71 ≤ d ∧ d ≤ 82 then some (d - 69)
  else if d = 91 then some (detail % 16)
  else if 98 ≤ d ∧ d ≤ 100 then some (d - 95)
  else if d = 102 ∨ d = 103 ∨ d = 104 then some 12
  else if 106 ≤ d ∧ d ≤ 113 then some 10
  else if 115 ≤ d ∧ d ≤ 132 then some 11
  else if 133 ≤ d ∧ d ≤ 138 then some 9
  else if 139 ≤ d ∧ d ≤ 143 then some 8
  else if 144 ≤ d ∧ d ≤ 147 then some 9
  else if d = 150 then some 6
  else if d = 151 then some 7
  else if 152 ≤ d ∧ d ≤ 161 then some 6
  else if d = 162 ∨ d = 163 then some 13
  else none

end Sys2Proof.Machine
end

