-- ==== Sys2Proof/Machine/RegsHost.lean ====
section
/-! DEFINITION. The register fields of the blocks HOST, FCU, EVR: each field under the name BLOCK.REGISTER.FIELD of the
manual, with its BAR0 address, its bits and its reset value, and the register descriptions built from them. -/
namespace Sys2Proof.Machine

-- R124, spec/05_host_interface.md
def HOST.KICK.RING : FRef := ⟨0x100000, 4, 0, 0⟩

-- R124, spec/05_host_interface.md
def HOST.PORT_ID.PORT : FRef := ⟨0x100004, 0, 0, 0⟩

-- R124, spec/05_host_interface.md
def HOST.OWN.BLOCK : FRef := ⟨0x100200, 31, 0, 0⟩

-- R124, spec/05_host_interface.md
def HOST.LOSS_CFG.ACT : FRef := ⟨0x100204, 1, 0, 0⟩

-- R124, spec/05_host_interface.md
def HOST.PORT.DB_HI (i : Nat) : FRef := ⟨0x100104 + 0x40 * i, 31, 0, 0⟩

-- R124, spec/05_host_interface.md
def HOST.PORT.DB_LO.ADDR (i : Nat) : FRef := ⟨0x100100 + 0x40 * i, 31, 12, 0⟩

-- R124, spec/05_host_interface.md
def HOST.PORT.SH_HI (i : Nat) : FRef := ⟨0x10010C + 0x40 * i, 31, 0, 0⟩

-- R124, spec/05_host_interface.md
def HOST.PORT.SH_LO.ADDR (i : Nat) : FRef := ⟨0x100108 + 0x40 * i, 31, 12, 0⟩

-- R124, spec/05_host_interface.md
def HOST.PORT.CFG.DB_POLL (i : Nat) : FRef := ⟨0x100110 + 0x40 * i, 25, 16, 10⟩
def HOST.PORT.CFG.HB_TIMEOUT (i : Nat) : FRef := ⟨0x100110 + 0x40 * i, 15, 8, 0⟩

-- R124, spec/05_host_interface.md
def HOST.PORT.STAT.LOSSES (i : Nat) : FRef := ⟨0x100114 + 0x40 * i, 23, 16, 0⟩
def HOST.PORT.STAT.HB_LOST (i : Nat) : FRef := ⟨0x100114 + 0x40 * i, 3, 3, 0⟩
def HOST.PORT.STAT.BME (i : Nat) : FRef := ⟨0x100114 + 0x40 * i, 2, 2, 0⟩
def HOST.PORT.STAT.LINK_UP (i : Nat) : FRef := ⟨0x100114 + 0x40 * i, 1, 1, 0⟩
def HOST.PORT.STAT.PRESENT (i : Nat) : FRef := ⟨0x100114 + 0x40 * i, 0, 0, 0⟩

-- R124, spec/05_host_interface.md
def HOST.RING.BASE_HI (i : Nat) : FRef := ⟨0x101004 + 0x20 * i, 31, 0, 0⟩

-- R124, spec/05_host_interface.md
def HOST.RING.BASE_LO.ADDR (i : Nat) : FRef := ⟨0x101000 + 0x20 * i, 31, 6, 0⟩

-- R124, spec/05_host_interface.md
def HOST.RING.CFG.EN (i : Nat) : FRef := ⟨0x101008 + 0x20 * i, 31, 31, 0⟩
def HOST.RING.CFG.KIND (i : Nat) : FRef := ⟨0x101008 + 0x20 * i, 30, 28, 0⟩
def HOST.RING.CFG.LOG2SIZE (i : Nat) : FRef := ⟨0x101008 + 0x20 * i, 27, 23, 0⟩
def HOST.RING.CFG.CRING (i : Nat) : FRef := ⟨0x101008 + 0x20 * i, 22, 18, 0⟩
def HOST.RING.CFG.VECTOR (i : Nat) : FRef := ⟨0x101008 + 0x20 * i, 17, 12, 0⟩

-- R124, spec/05_host_interface.md
def HOST.RING.MOD.MOD_TIME (i : Nat) : FRef := ⟨0x10100C + 0x20 * i, 25, 16, 0⟩
def HOST.RING.MOD.MOD_COUNT (i : Nat) : FRef := ⟨0x10100C + 0x20 * i, 7, 0, 0⟩

-- R124, spec/05_host_interface.md
def HOST.RING.EPOCH (i : Nat) : FRef := ⟨0x101010 + 0x20 * i, 31, 0, 0⟩

-- R124, spec/05_host_interface.md
def HOST.RING.STAT.ERR_CODE (i : Nat) : FRef := ⟨0x101014 + 0x20 * i, 31, 24, 0⟩
def HOST.RING.STAT.DROPS (i : Nat) : FRef := ⟨0x101014 + 0x20 * i, 15, 8, 0⟩
def HOST.RING.STAT.STATE (i : Nat) : FRef := ⟨0x101014 + 0x20 * i, 1, 0, 0⟩

-- R124, spec/05_host_interface.md
def HOST.RING.INDEX (i : Nat) : FRef := ⟨0x101018 + 0x20 * i, 31, 0, 0⟩

-- R134, spec/05_host_interface.md
def HOST.ROUTE.EN (i j : Nat) : FRef := ⟨0x104000 + 0x400 * i + 4 * j, 31, 31, 0⟩
def HOST.ROUTE.URGENT (i j : Nat) : FRef := ⟨0x104000 + 0x400 * i + 4 * j, 30, 30, 0⟩
def HOST.ROUTE.ERING (i j : Nat) : FRef := ⟨0x104000 + 0x400 * i + 4 * j, 25, 21, 0⟩

-- R503, spec/18_fault_handling.md
def FCU.CFG.CE_LIMIT : FRef := ⟨0x300000, 23, 8, 100⟩
def FCU.CFG.ERRN_MASK : FRef := ⟨0x300000, 5, 0, 0x3C⟩

-- R503, spec/18_fault_handling.md
def FCU.SUM.OPEN : FRef := ⟨0x300004, 31, 24, 0⟩
def FCU.SUM.HIGH : FRef := ⟨0x300004, 23, 21, 0⟩
def FCU.SUM.UNACK : FRef := ⟨0x300004, 20, 20, 0⟩
def FCU.SUM.ESCALATIONS : FRef := ⟨0x300004, 15, 8, 0⟩
def FCU.SUM.SUPPRESSED : FRef := ⟨0x300004, 7, 0, 0⟩

-- R503, spec/18_fault_handling.md
def FCU.INJ.ARMED : FRef := ⟨0x300008, 31, 31, 0⟩
def FCU.INJ.LEFT : FRef := ⟨0x300008, 27, 16, 0⟩
def FCU.INJ.FIRED : FRef := ⟨0x300008, 7, 0, 0⟩

-- R503, spec/18_fault_handling.md
def FCU.WIN (i : Nat) : FRef := ⟨0x300010 + 4 * i, 15, 0, if i = 1 then 600 else 0⟩

-- R503, spec/18_fault_handling.md
def FCU.DET.CLASS (i : Nat) : FRef := ⟨0x300100 + 4 * i, 31, 29, fdClass i⟩
def FCU.DET.TCLASS (i : Nat) : FRef := ⟨0x300100 + 4 * i, 28, 26, fdClass i⟩
def FCU.DET.INJ (i : Nat) : FRef := ⟨0x300100 + 4 * i, 25, 24, fdInj i⟩
def FCU.DET.REACT (i : Nat) : FRef := ⟨0x300100 + 4 * i, 23, 20, fdReact i⟩
def FCU.DET.COUNT (i : Nat) : FRef := ⟨0x300100 + 4 * i, 15, 0, 0⟩

-- R503, spec/18_fault_handling.md
def FCU.REC.STATE.OPEN (i : Nat) : FRef := ⟨0x301000 + 0x20 * i, 31, 31, 0⟩
def FCU.REC.STATE.ACK (i : Nat) : FRef := ⟨0x301000 + 0x20 * i, 30, 30, 0⟩
def FCU.REC.STATE.ESC (i : Nat) : FRef := ⟨0x301000 + 0x20 * i, 29, 29, 0⟩
def FCU.REC.STATE.INJ (i : Nat) : FRef := ⟨0x301000 + 0x20 * i, 28, 28, 0⟩
def FCU.REC.STATE.DRY (i : Nat) : FRef := ⟨0x301000 + 0x20 * i, 27, 27, 0⟩
def FCU.REC.STATE.ACTIVE (i : Nat) : FRef := ⟨0x301000 + 0x20 * i, 26, 26, 0⟩
def FCU.REC.STATE.REPEAT (i : Nat) : FRef := ⟨0x301000 + 0x20 * i, 25, 25, 0⟩
def FCU.REC.STATE.CLASS (i : Nat) : FRef := ⟨0x301000 + 0x20 * i, 24, 22, 0⟩
def FCU.REC.STATE.WIN_LEFT (i : Nat) : FRef := ⟨0x301000 + 0x20 * i, 15, 0, 0⟩

-- R503, spec/18_fault_handling.md
def FCU.REC.SRC (i : Nat) : FRef := ⟨0x301004 + 0x20 * i, 31, 0, 0⟩

-- R503, spec/18_fault_handling.md
def FCU.REC.DETAIL (i : Nat) : FRef := ⟨0x301008 + 0x20 * i, 31, 0, 0⟩

-- R503, spec/18_fault_handling.md
def FCU.REC.MERGE (i : Nat) : FRef := ⟨0x30100C + 0x20 * i, 15, 0, 0⟩

-- R503, spec/18_fault_handling.md
def FCU.REC.FIRST_SEC (i : Nat) : FRef := ⟨0x301010 + 0x20 * i, 31, 0, 0⟩

-- R503, spec/18_fault_handling.md
def FCU.REC.FIRST_NS (i : Nat) : FRef := ⟨0x301014 + 0x20 * i, 29, 0, 0⟩

-- R503, spec/18_fault_handling.md
def FCU.REC.LAST_SEC (i : Nat) : FRef := ⟨0x301018 + 0x20 * i, 31, 0, 0⟩

-- R503, spec/18_fault_handling.md
def FCU.REC.LOC (i : Nat) : FRef := ⟨0x30101C + 0x20 * i, 31, 0, 0xFFFFFFFF⟩

-- R521, spec/19_event_recorder.md
def EVR.CFG.CONF : FRef := ⟨0x400000, 31, 30, 0⟩
def EVR.CFG.REPEAT_S : FRef := ⟨0x400000, 23, 16, 10⟩
def EVR.CFG.MIRROR : FRef := ⟨0x400000, 15, 8, 10⟩
def EVR.CFG.SERVICE_Y : FRef := ⟨0x400000, 7, 0, 25⟩

-- R521, spec/19_event_recorder.md
def EVR.STAT.RELOADING : FRef := ⟨0x400004, 31, 31, 1⟩
def EVR.STAT.FALLBACK : FRef := ⟨0x400004, 30, 30, 0⟩
def EVR.STAT.F_FULL : FRef := ⟨0x400004, 29, 29, 0⟩
def EVR.STAT.WEAR_LIMIT : FRef := ⟨0x400004, 28, 28, 0⟩
def EVR.STAT.MIRROR_ERR : FRef := ⟨0x400004, 27, 27, 0⟩
def EVR.STAT.WSTAGE : FRef := ⟨0x400004, 26, 24, 0⟩
def EVR.STAT.QDROP : FRef := ⟨0x400004, 15, 0, 0⟩

-- R521, spec/19_event_recorder.md
def EVR.SEQ.NEXT : FRef := ⟨0x400008, 31, 0, 0⟩

-- R521, spec/19_event_recorder.md
def EVR.OLD_C : FRef := ⟨0x40000C, 31, 0, 0⟩

-- R521, spec/19_event_recorder.md
def EVR.OLD_F : FRef := ⟨0x400010, 31, 0, 0⟩

-- R521, spec/19_event_recorder.md
def EVR.NEW_F : FRef := ⟨0x400014, 31, 0, 0⟩

-- R521, spec/19_event_recorder.md
def EVR.MIRR : FRef := ⟨0x400018, 31, 0, 0⟩

-- R521, spec/19_event_recorder.md
def EVR.WEAR.FORECAST : FRef := ⟨0x40001C, 31, 16, 0⟩
def EVR.WEAR.AGE : FRef := ⟨0x40001C, 15, 0, 0⟩

-- R521, spec/19_event_recorder.md
def EVR.CUR.AREA : FRef := ⟨0x400020, 31, 31, 0⟩
def EVR.CUR.NEXT : FRef := ⟨0x400020, 30, 30, 0⟩
def EVR.CUR.LATE : FRef := ⟨0x400020, 29, 29, 0⟩

-- R521, spec/19_event_recorder.md
def EVR.CUR_SEQ : FRef := ⟨0x400024, 31, 0, 0⟩

/-- The registers of this file, part 0: base address, array dimensions and fields with their access codes (R7). -/
def regsHost0 : List RegDesc := [
  { base := 0x100000, dims := [], wide := false,
    flds := fun _ _ _ => [(HOST.KICK.RING, .WO)] },
  { base := 0x100004, dims := [], wide := false,
    flds := fun _ _ _ => [(HOST.PORT_ID.PORT, .RO)] },
  { base := 0x100200, dims := [], wide := false,
    flds := fun _ _ _ => [(HOST.OWN.BLOCK, .RW)] },
  { base := 0x100204, dims := [], wide := false,
    flds := fun _ _ _ => [(HOST.LOSS_CFG.ACT, .RWL)] },
  { base := 0x100104, dims := [(2, 0x40)], wide := false,
    flds := fun i _ _ => [(HOST.PORT.DB_HI i, .RWL)] },
  { base := 0x100100, dims := [(2, 0x40)], wide := false,
    flds := fun i _ _ => [(HOST.PORT.DB_LO.ADDR i, .RWL)] },
  { base := 0x10010C, dims := [(2, 0x40)], wide := false,
    flds := fun i _ _ => [(HOST.PORT.SH_HI i, .RWL)] },
  { base := 0x100108, dims := [(2, 0x40)], wide := false,
    flds := fun i _ _ => [(HOST.PORT.SH_LO.ADDR i, .RWL)] },
  { base := 0x100110, dims := [(2, 0x40)], wide := false,
    flds := fun i _ _ => [(HOST.PORT.CFG.DB_POLL i, .RWL), (HOST.PORT.CFG.HB_TIMEOUT i, .RWL)] },
  { base := 0x100114, dims := [(2, 0x40)], wide := false,
    flds := fun i _ _ => [(HOST.PORT.STAT.LOSSES i, .RO), (HOST.PORT.STAT.HB_LOST i, .W1C), (HOST.PORT.STAT.BME i, .RO), (HOST.PORT.STAT.LINK_UP i, .RO), (HOST.PORT.STAT.PRESENT i, .RO)] },
  { base := 0x101004, dims := [(32, 0x20)], wide := false,
    flds := fun i _ _ => [(HOST.RING.BASE_HI i, .RWL)] },
  { base := 0x101000, dims := [(32, 0x20)], wide := false,
    flds := fun i _ _ => [(HOST.RING.BASE_LO.ADDR i, .RWL)] },
  { base := 0x101008, dims := [(32, 0x20)], wide := false,
    flds := fun i _ _ => [(HOST.RING.CFG.EN i, .RWL), (HOST.RING.CFG.KIND i, .RWL), (HOST.RING.CFG.LOG2SIZE i, .RWL), (HOST.RING.CFG.CRING i, .RWL), (HOST.RING.CFG.VECTOR i, .RWL)] },
  { base := 0x10100C, dims := [(32, 0x20)], wide := false,
    flds := fun i _ _ => [(HOST.RING.MOD.MOD_TIME i, .RWL), (HOST.RING.MOD.MOD_COUNT i, .RWL)] },
  { base := 0x101010, dims := [(32, 0x20)], wide := false,
    flds := fun i _ _ => [(HOST.RING.EPOCH i, .RWL)] },
  { base := 0x101014, dims := [(32, 0x20)], wide := false,
    flds := fun i _ _ => [(HOST.RING.STAT.ERR_CODE i, .RO), (HOST.RING.STAT.DROPS i, .RC), (HOST.RING.STAT.STATE i, .RO)] },
  { base := 0x101018, dims := [(32, 0x20)], wide := false,
    flds := fun i _ _ => [(HOST.RING.INDEX i, .RO)] },
  { base := 0x104000, dims := [(2, 0x400), (256, 0x4)], wide := false,
    flds := fun i j _ => [(HOST.ROUTE.EN i j, .RWL), (HOST.ROUTE.URGENT i j, .RWL), (HOST.ROUTE.ERING i j, .RWL)] },
  { base := 0x300000, dims := [], wide := false,
    flds := fun _ _ _ => [(FCU.CFG.CE_LIMIT, .RWL), (FCU.CFG.ERRN_MASK, .RWL)] },
  { base := 0x300004, dims := [], wide := false,
    flds := fun _ _ _ => [(FCU.SUM.OPEN, .RO), (FCU.SUM.HIGH, .RO), (FCU.SUM.UNACK, .RO), (FCU.SUM.ESCALATIONS, .RC), (FCU.SUM.SUPPRESSED, .RC)] } ]

/-- The registers of this file, part 1: base address, array dimensions and fields with their access codes (R7). -/
def regsHost1 : List RegDesc := [
  { base := 0x300008, dims := [], wide := false,
    flds := fun _ _ _ => [(FCU.INJ.ARMED, .RO), (FCU.INJ.LEFT, .RO), (FCU.INJ.FIRED, .RC)] },
  { base := 0x300010, dims := [(3, 0x4)], wide := false,
    flds := fun i _ _ => [(FCU.WIN i, .RWL)] },
  { base := 0x300100, dims := [(192, 0x4)], wide := false,
    flds := fun i _ _ => [(FCU.DET.CLASS i, .RWL), (FCU.DET.TCLASS i, .RO), (FCU.DET.INJ i, .RO), (FCU.DET.REACT i, .RO), (FCU.DET.COUNT i, .RC)] },
  { base := 0x301000, dims := [(192, 0x20)], wide := false,
    flds := fun i _ _ => [(FCU.REC.STATE.OPEN i, .RO), (FCU.REC.STATE.ACK i, .RO), (FCU.REC.STATE.ESC i, .RO), (FCU.REC.STATE.INJ i, .RO), (FCU.REC.STATE.DRY i, .RO), (FCU.REC.STATE.ACTIVE i, .RO), (FCU.REC.STATE.REPEAT i, .RO), (FCU.REC.STATE.CLASS i, .RO), (FCU.REC.STATE.WIN_LEFT i, .RO)] },
  { base := 0x301004, dims := [(192, 0x20)], wide := false,
    flds := fun i _ _ => [(FCU.REC.SRC i, .RO)] },
  { base := 0x301008, dims := [(192, 0x20)], wide := false,
    flds := fun i _ _ => [(FCU.REC.DETAIL i, .RO)] },
  { base := 0x30100C, dims := [(192, 0x20)], wide := false,
    flds := fun i _ _ => [(FCU.REC.MERGE i, .RO)] },
  { base := 0x301010, dims := [(192, 0x20)], wide := false,
    flds := fun i _ _ => [(FCU.REC.FIRST_SEC i, .RO)] },
  { base := 0x301014, dims := [(192, 0x20)], wide := false,
    flds := fun i _ _ => [(FCU.REC.FIRST_NS i, .RO)] },
  { base := 0x301018, dims := [(192, 0x20)], wide := false,
    flds := fun i _ _ => [(FCU.REC.LAST_SEC i, .RO)] },
  { base := 0x30101C, dims := [(192, 0x20)], wide := false,
    flds := fun i _ _ => [(FCU.REC.LOC i, .RO)] },
  { base := 0x400000, dims := [], wide := false,
    flds := fun _ _ _ => [(EVR.CFG.CONF, .RO), (EVR.CFG.REPEAT_S, .RWL), (EVR.CFG.MIRROR, .RWL), (EVR.CFG.SERVICE_Y, .RWL)] },
  { base := 0x400004, dims := [], wide := false,
    flds := fun _ _ _ => [(EVR.STAT.RELOADING, .RO), (EVR.STAT.FALLBACK, .RO), (EVR.STAT.F_FULL, .RO), (EVR.STAT.WEAR_LIMIT, .RO), (EVR.STAT.MIRROR_ERR, .W1C), (EVR.STAT.WSTAGE, .RO), (EVR.STAT.QDROP, .RC)] },
  { base := 0x400008, dims := [], wide := false,
    flds := fun _ _ _ => [(EVR.SEQ.NEXT, .RO)] },
  { base := 0x40000C, dims := [], wide := false,
    flds := fun _ _ _ => [(EVR.OLD_C, .RO)] },
  { base := 0x400010, dims := [], wide := false,
    flds := fun _ _ _ => [(EVR.OLD_F, .RO)] },
  { base := 0x400014, dims := [], wide := false,
    flds := fun _ _ _ => [(EVR.NEW_F, .RO)] },
  { base := 0x400018, dims := [], wide := false,
    flds := fun _ _ _ => [(EVR.MIRR, .RO)] },
  { base := 0x40001C, dims := [], wide := false,
    flds := fun _ _ _ => [(EVR.WEAR.FORECAST, .RO), (EVR.WEAR.AGE, .RO)] },
  { base := 0x400020, dims := [], wide := false,
    flds := fun _ _ _ => [(EVR.CUR.AREA, .RW), (EVR.CUR.NEXT, .WO), (EVR.CUR.LATE, .RO)] } ]

/-- The registers of this file, part 2: base address, array dimensions and fields with their access codes (R7). -/
def regsHost2 : List RegDesc := [
  { base := 0x400024, dims := [], wide := false,
    flds := fun _ _ _ => [(EVR.CUR_SEQ, .RW)] } ]

end Sys2Proof.Machine
end

