-- ==== Sys2Proof/Machine/RegsKeys.lean ====
section
/-! DEFINITION. The register fields of the blocks KEYS, UPD: each field under the name BLOCK.REGISTER.FIELD of the
manual, with its BAR0 address, its bits and its reset value, and the register descriptions built from them. -/
namespace Sys2Proof.Machine

-- R544, spec/20_keys.md
def KEYS.STAT.KEY_LOST : FRef := ⟨0x1300000, 31, 31, 0⟩
def KEYS.STAT.COUNT_LOST : FRef := ⟨0x1300000, 30, 30, 0⟩
def KEYS.STAT.ANCHOR : FRef := ⟨0x1300000, 29, 29, 0⟩
def KEYS.STAT.JTAG_OPEN : FRef := ⟨0x1300000, 28, 28, 0⟩
def KEYS.STAT.NODES : FRef := ⟨0x1300000, 15, 8, 0⟩
def KEYS.STAT.SLOTS : FRef := ⟨0x1300000, 6, 0, 0⟩

-- R544, spec/20_keys.md
def KEYS.KU.LAST_STATUS : FRef := ⟨0x1300004, 31, 16, 0⟩
def KEYS.KU.REFUSED : FRef := ⟨0x1300004, 15, 8, 0⟩
def KEYS.KU.LAST_KIND : FRef := ⟨0x1300004, 7, 0, 0⟩

-- R544, spec/20_keys.md
def KEYS.GRANT.REASON : FRef := ⟨0x1300008, 31, 24, 0⟩
def KEYS.GRANT.REFUSED : FRef := ⟨0x1300008, 23, 16, 0⟩
def KEYS.GRANT.LAST_SCOPE : FRef := ⟨0x1300008, 5, 0, 0⟩

-- R544, spec/20_keys.md
def KEYS.ID (i : Nat) : FRef := ⟨0x1300010 + 4 * i, 31, 0, (if i = 3 then 0x96000000 else 0)⟩

-- R544, spec/20_keys.md
def KEYS.FLOOR (i : Nat) : FRef := ⟨0x1300040 + 4 * i, 31, 0, 0⟩

-- R544, spec/20_keys.md
def KEYS.NODE.CFG.STATE (i : Nat) : FRef := ⟨0x1300100 + 8 * i, 31, 30, 0⟩
def KEYS.NODE.CFG.LEVEL (i : Nat) : FRef := ⟨0x1300100 + 8 * i, 29, 27, 0⟩
def KEYS.NODE.CFG.USE (i : Nat) : FRef := ⟨0x1300100 + 8 * i, 23, 16, 0⟩
def KEYS.NODE.CFG.PARENT (i : Nat) : FRef := ⟨0x1300100 + 8 * i, 15, 0, 0⟩

-- R544, spec/20_keys.md
def KEYS.NODE.GEN (i : Nat) : FRef := ⟨0x1300104 + 8 * i, 31, 0, 0⟩

-- R544, spec/20_keys.md
def KEYS.SLOT.CFG.TYPE (i : Nat) : FRef := ⟨0x1300800 + 0x10 * i, 31, 30, 0⟩
def KEYS.SLOT.CFG.READY (i : Nat) : FRef := ⟨0x1300800 + 0x10 * i, 29, 29, 0⟩
def KEYS.SLOT.CFG.USE (i : Nat) : FRef := ⟨0x1300800 + 0x10 * i, 23, 16, 0⟩
def KEYS.SLOT.CFG.NODE (i : Nat) : FRef := ⟨0x1300800 + 0x10 * i, 15, 0, 0xFFFF⟩

-- R544, spec/20_keys.md
def KEYS.SLOT.GEN (i : Nat) : FRef := ⟨0x1300804 + 0x10 * i, 31, 0, 0⟩

-- R544, spec/20_keys.md
def KEYS.SLOT.KCV (i : Nat) : FRef := ⟨0x1300808 + 0x10 * i, 31, 0, 0⟩

-- R570, spec/21_trays_and_replacement.md
def UPD.CFG.OWNER_REQ : FRef := ⟨0x1400000, 31, 31, 0⟩
def UPD.CFG.REPORT_SLOT : FRef := ⟨0x1400000, 13, 8, 0⟩

-- R570, spec/21_trays_and_replacement.md
def UPD.STAT.STATE : FRef := ⟨0x1400004, 31, 29, 0⟩
def UPD.STAT.ACTIVE_BANK : FRef := ⟨0x1400004, 28, 28, 0⟩
def UPD.STAT.PREV_VALID : FRef := ⟨0x1400004, 27, 27, 0⟩
def UPD.STAT.SINGLE_COPY : FRef := ⟨0x1400004, 26, 26, 0⟩
def UPD.STAT.RECIPE : FRef := ⟨0x1400004, 25, 25, 0⟩
def UPD.STAT.ABORTS : FRef := ⟨0x1400004, 15, 8, 0⟩

-- R570, spec/21_trays_and_replacement.md
def UPD.ACT_ID : FRef := ⟨0x1400008, 31, 0, 0⟩

-- R570, spec/21_trays_and_replacement.md
def UPD.STG_ID : FRef := ⟨0x140000C, 31, 0, 0⟩

-- R570, spec/21_trays_and_replacement.md
def UPD.ACT_RB : FRef := ⟨0x1400010, 31, 0, 0⟩

-- R570, spec/21_trays_and_replacement.md
def UPD.EPOCH_LO.SEC_LO : FRef := ⟨0x1400014, 31, 0, 0⟩

-- R570, spec/21_trays_and_replacement.md
def UPD.EPOCH_HI.TICK : FRef := ⟨0x1400018, 27, 16, 0⟩
def UPD.EPOCH_HI.SEC_HI : FRef := ⟨0x1400018, 15, 0, 0⟩

-- R570, spec/21_trays_and_replacement.md
def UPD.FMT.FMT_ODD (i : Nat) : FRef := ⟨0x1400020 + 4 * i, 31, 16, 0⟩
def UPD.FMT.FMT_EVEN (i : Nat) : FRef := ⟨0x1400020 + 4 * i, 15, 0, 0⟩

/-- The registers of this file, part 0: base address, array dimensions and fields with their access codes (R7). -/
def regsKeys0 : List RegDesc := [
  { base := 0x1300000, dims := [], wide := false,
    flds := fun _ _ _ => [(KEYS.STAT.KEY_LOST, .RO), (KEYS.STAT.COUNT_LOST, .RO), (KEYS.STAT.ANCHOR, .RO), (KEYS.STAT.JTAG_OPEN, .RO), (KEYS.STAT.NODES, .RO), (KEYS.STAT.SLOTS, .RO)] },
  { base := 0x1300004, dims := [], wide := false,
    flds := fun _ _ _ => [(KEYS.KU.LAST_STATUS, .RO), (KEYS.KU.REFUSED, .RC), (KEYS.KU.LAST_KIND, .RO)] },
  { base := 0x1300008, dims := [], wide := false,
    flds := fun _ _ _ => [(KEYS.GRANT.REASON, .RO), (KEYS.GRANT.REFUSED, .RC), (KEYS.GRANT.LAST_SCOPE, .RO)] },
  { base := 0x1300010, dims := [(4, 0x4)], wide := false,
    flds := fun i _ _ => [(KEYS.ID i, .RO)] },
  { base := 0x1300040, dims := [(16, 0x4)], wide := false,
    flds := fun i _ _ => [(KEYS.FLOOR i, .RO)] },
  { base := 0x1300100, dims := [(128, 0x8)], wide := false,
    flds := fun i _ _ => [(KEYS.NODE.CFG.STATE i, .RO), (KEYS.NODE.CFG.LEVEL i, .RO), (KEYS.NODE.CFG.USE i, .RO), (KEYS.NODE.CFG.PARENT i, .RO)] },
  { base := 0x1300104, dims := [(128, 0x8)], wide := false,
    flds := fun i _ _ => [(KEYS.NODE.GEN i, .RO)] },
  { base := 0x1300800, dims := [(64, 0x10)], wide := false,
    flds := fun i _ _ => [(KEYS.SLOT.CFG.TYPE i, .RO), (KEYS.SLOT.CFG.READY i, .RO), (KEYS.SLOT.CFG.USE i, .RO), (KEYS.SLOT.CFG.NODE i, .RO)] },
  { base := 0x1300804, dims := [(64, 0x10)], wide := false,
    flds := fun i _ _ => [(KEYS.SLOT.GEN i, .RO)] },
  { base := 0x1300808, dims := [(64, 0x10)], wide := false,
    flds := fun i _ _ => [(KEYS.SLOT.KCV i, .RO)] },
  { base := 0x1400000, dims := [], wide := false,
    flds := fun _ _ _ => [(UPD.CFG.OWNER_REQ, .RWL), (UPD.CFG.REPORT_SLOT, .RWL)] },
  { base := 0x1400004, dims := [], wide := false,
    flds := fun _ _ _ => [(UPD.STAT.STATE, .RO), (UPD.STAT.ACTIVE_BANK, .RO), (UPD.STAT.PREV_VALID, .RO), (UPD.STAT.SINGLE_COPY, .RO), (UPD.STAT.RECIPE, .RO), (UPD.STAT.ABORTS, .RC)] },
  { base := 0x1400008, dims := [], wide := false,
    flds := fun _ _ _ => [(UPD.ACT_ID, .RO)] },
  { base := 0x140000C, dims := [], wide := false,
    flds := fun _ _ _ => [(UPD.STG_ID, .RO)] },
  { base := 0x1400010, dims := [], wide := false,
    flds := fun _ _ _ => [(UPD.ACT_RB, .RO)] },
  { base := 0x1400014, dims := [], wide := false,
    flds := fun _ _ _ => [(UPD.EPOCH_LO.SEC_LO, .RO)] },
  { base := 0x1400018, dims := [], wide := false,
    flds := fun _ _ _ => [(UPD.EPOCH_HI.TICK, .RO), (UPD.EPOCH_HI.SEC_HI, .RO)] },
  { base := 0x1400020, dims := [(8, 0x4)], wide := false,
    flds := fun i _ _ => [(UPD.FMT.FMT_ODD i, .RO), (UPD.FMT.FMT_EVEN i, .RO)] } ]

end Sys2Proof.Machine
end

