-- ==== Sys2Proof/Machine/RegsLane.lean ====
section
/-! DEFINITION. The register fields of the blocks LOOP, CLP, LANES: each field under the name BLOCK.REGISTER.FIELD of the
manual, with its BAR0 address, its bits and its reset value, and the register descriptions built from them. -/
namespace Sys2Proof.Machine

-- R426, spec/15_loop_engine.md
def LOOP.CFG.TRIG_EN : FRef := ⟨0xE00000, 31, 31, 0⟩
def LOOP.CFG.TRIG_EDGE : FRef := ⟨0xE00000, 30, 29, 1⟩
def LOOP.CFG.TRIG_PIN : FRef := ⟨0xE00000, 6, 0, 0⟩

-- R426, spec/15_loop_engine.md
def LOOP.TRIG_H : FRef := ⟨0xE00004, 31, 0, 0x3C23D70A⟩

-- R426, spec/15_loop_engine.md
def LOOP.STAT.FORCES : FRef := ⟨0xE00008, 31, 21, 0⟩
def LOOP.STAT.TRIG_DROP : FRef := ⟨0xE00008, 15, 8, 0⟩

-- R426, spec/15_loop_engine.md
def LOOP.CLS.LOOPS (i : Nat) : FRef := ⟨0xE00040 + 4 * i, 31, 21, 0⟩
def LOOP.CLS.OVERRUNS (i : Nat) : FRef := ⟨0xE00040 + 4 * i, 7, 0, 0⟩

-- R426, spec/15_loop_engine.md
def LOOP.CTX.BIND0.EN (i : Nat) : FRef := ⟨0xE10000 + 0x100 * i, 31, 31, 0⟩
def LOOP.CTX.BIND0.CLASS (i : Nat) : FRef := ⟨0xE10000 + 0x100 * i, 30, 28, 0⟩
def LOOP.CTX.BIND0.FF_EN (i : Nat) : FRef := ⟨0xE10000 + 0x100 * i, 27, 27, 0⟩
def LOOP.CTX.BIND0.DIR (i : Nat) : FRef := ⟨0xE10000 + 0x100 * i, 26, 26, 0⟩
def LOOP.CTX.BIND0.CAS (i : Nat) : FRef := ⟨0xE10000 + 0x100 * i, 25, 25, 0⟩
def LOOP.CTX.BIND0.MASTER (i : Nat) : FRef := ⟨0xE10000 + 0x100 * i, 9, 0, 0⟩

-- R426, spec/15_loop_engine.md
def LOOP.CTX.BIND1.PV_WORD (i : Nat) : FRef := ⟨0xE10004 + 0x100 * i, 31, 17, 0⟩
def LOOP.CTX.BIND1.OUT_WORD (i : Nat) : FRef := ⟨0xE10004 + 0x100 * i, 16, 2, 0⟩

-- R426, spec/15_loop_engine.md
def LOOP.CTX.BIND2.FF_WORD (i : Nat) : FRef := ⟨0xE10008 + 0x100 * i, 31, 17, 0⟩
def LOOP.CTX.BIND2.ILK_EN (i : Nat) : FRef := ⟨0xE10008 + 0x100 * i, 16, 16, 0⟩
def LOOP.CTX.BIND2.ILK_BIT (i : Nat) : FRef := ⟨0xE10008 + 0x100 * i, 15, 0, 0⟩

-- R426, spec/15_loop_engine.md
def LOOP.CTX.CTRL.MODE (i : Nat) : FRef := ⟨0xE10010 + 0x100 * i, 31, 30, 0⟩
def LOOP.CTX.CTRL.SP_SRC (i : Nat) : FRef := ⟨0xE10010 + 0x100 * i, 29, 28, 0⟩
def LOOP.CTX.CTRL.START_MODE (i : Nat) : FRef := ⟨0xE10010 + 0x100 * i, 27, 26, 0⟩
def LOOP.CTX.CTRL.SPTRK (i : Nat) : FRef := ⟨0xE10010 + 0x100 * i, 25, 25, 0⟩
def LOOP.CTX.CTRL.SUBST_HOLD (i : Nat) : FRef := ⟨0xE10010 + 0x100 * i, 24, 24, 1⟩
def LOOP.CTX.CTRL.FE_ACT (i : Nat) : FRef := ⟨0xE10010 + 0x100 * i, 23, 22, 0⟩

-- R426, spec/15_loop_engine.md
def LOOP.CTX.STAT.HOLD_CAUSE (i : Nat) : FRef := ⟨0xE10014 + 0x100 * i, 31, 29, 0⟩
def LOOP.CTX.STAT.FORCED (i : Nat) : FRef := ⟨0xE10014 + 0x100 * i, 28, 28, 0⟩
def LOOP.CTX.STAT.ILK (i : Nat) : FRef := ⟨0xE10014 + 0x100 * i, 27, 27, 0⟩
def LOOP.CTX.STAT.FE_TRIP (i : Nat) : FRef := ⟨0xE10014 + 0x100 * i, 26, 26, 0⟩
def LOOP.CTX.STAT.LIM_HI (i : Nat) : FRef := ⟨0xE10014 + 0x100 * i, 25, 25, 0⟩
def LOOP.CTX.STAT.LIM_LO (i : Nat) : FRef := ⟨0xE10014 + 0x100 * i, 24, 24, 0⟩
def LOOP.CTX.STAT.RATE_LIM (i : Nat) : FRef := ⟨0xE10014 + 0x100 * i, 23, 23, 0⟩
def LOOP.CTX.STAT.RSP_WAIT (i : Nat) : FRef := ⟨0xE10014 + 0x100 * i, 22, 22, 1⟩
def LOOP.CTX.STAT.FF_STALE (i : Nat) : FRef := ⟨0xE10014 + 0x100 * i, 21, 21, 0⟩
def LOOP.CTX.STAT.SP_CLAMP (i : Nat) : FRef := ⟨0xE10014 + 0x100 * i, 20, 20, 0⟩
def LOOP.CTX.STAT.COEF_REFUSED (i : Nat) : FRef := ⟨0xE10014 + 0x100 * i, 19, 19, 0⟩
def LOOP.CTX.STAT.PV_Q (i : Nat) : FRef := ⟨0xE10014 + 0x100 * i, 18, 17, 1⟩

-- R426, spec/15_loop_engine.md
def LOOP.CTX.SAMPLE (i : Nat) : FRef := ⟨0xE10018 + 0x100 * i, 31, 0, 0⟩

-- R426, spec/15_loop_engine.md
def LOOP.CTX.FE_CNT (i : Nat) : FRef := ⟨0xE1001C + 0x100 * i, 31, 16, 0⟩

-- R426, spec/15_loop_engine.md
def LOOP.CTX.LSP (i : Nat) : FRef := ⟨0xE10020 + 0x100 * i, 31, 0, 0⟩

-- R426, spec/15_loop_engine.md
def LOOP.CTX.RSP (i : Nat) : FRef := ⟨0xE10024 + 0x100 * i, 31, 0, 0⟩

-- R426, spec/15_loop_engine.md
def LOOP.CTX.SP (i : Nat) : FRef := ⟨0xE10028 + 0x100 * i, 31, 0, 0⟩

-- R426, spec/15_loop_engine.md
def LOOP.CTX.PV (i : Nat) : FRef := ⟨0xE1002C + 0x100 * i, 31, 0, 0⟩

-- R426, spec/15_loop_engine.md
def LOOP.CTX.PVN (i : Nat) : FRef := ⟨0xE10030 + 0x100 * i, 31, 0, 0⟩

-- R426, spec/15_loop_engine.md
def LOOP.CTX.OUT (i : Nat) : FRef := ⟨0xE10034 + 0x100 * i, 31, 0, 0⟩

-- R426, spec/15_loop_engine.md
def LOOP.CTX.MAN_OUT (i : Nat) : FRef := ⟨0xE10038 + 0x100 * i, 31, 0, 0⟩

-- R426, spec/15_loop_engine.md
def LOOP.CTX.FORCE_VAL (i : Nat) : FRef := ⟨0xE1003C + 0x100 * i, 31, 0, 0⟩

-- R426, spec/15_loop_engine.md
def LOOP.CTX.START_SP (i : Nat) : FRef := ⟨0xE10040 + 0x100 * i, 31, 0, 0⟩

-- R426, spec/15_loop_engine.md
def LOOP.CTX.OUT_INIT (i : Nat) : FRef := ⟨0xE10044 + 0x100 * i, 31, 0, 0⟩

-- R426, spec/15_loop_engine.md
def LOOP.CTX.KP (i : Nat) : FRef := ⟨0xE10048 + 0x100 * i, 31, 0, 0x3F800000⟩

-- R426, spec/15_loop_engine.md
def LOOP.CTX.KI (i : Nat) : FRef := ⟨0xE1004C + 0x100 * i, 31, 0, 0⟩

-- R426, spec/15_loop_engine.md
def LOOP.CTX.KD (i : Nat) : FRef := ⟨0xE10050 + 0x100 * i, 31, 0, 0⟩

-- R426, spec/15_loop_engine.md
def LOOP.CTX.TF (i : Nat) : FRef := ⟨0xE10054 + 0x100 * i, 31, 0, 0⟩

-- R426, spec/15_loop_engine.md
def LOOP.CTX.BETA (i : Nat) : FRef := ⟨0xE10058 + 0x100 * i, 31, 0, 0x3F800000⟩

-- R426, spec/15_loop_engine.md
def LOOP.CTX.GAMMA (i : Nat) : FRef := ⟨0xE1005C + 0x100 * i, 31, 0, 0⟩

-- R426, spec/15_loop_engine.md
def LOOP.CTX.KFF (i : Nat) : FRef := ⟨0xE10060 + 0x100 * i, 31, 0, 0⟩

-- R426, spec/15_loop_engine.md
def LOOP.CTX.BIAS (i : Nat) : FRef := ⟨0xE10064 + 0x100 * i, 31, 0, 0⟩

-- R426, spec/15_loop_engine.md
def LOOP.CTX.B0 (i : Nat) : FRef := ⟨0xE10068 + 0x100 * i, 31, 0, 0x3F800000⟩

-- R426, spec/15_loop_engine.md
def LOOP.CTX.B1 (i : Nat) : FRef := ⟨0xE1006C + 0x100 * i, 31, 0, 0⟩

-- R426, spec/15_loop_engine.md
def LOOP.CTX.B2 (i : Nat) : FRef := ⟨0xE10070 + 0x100 * i, 31, 0, 0⟩

-- R426, spec/15_loop_engine.md
def LOOP.CTX.A1 (i : Nat) : FRef := ⟨0xE10074 + 0x100 * i, 31, 0, 0⟩

-- R426, spec/15_loop_engine.md
def LOOP.CTX.A2 (i : Nat) : FRef := ⟨0xE10078 + 0x100 * i, 31, 0, 0⟩

-- R426, spec/15_loop_engine.md
def LOOP.CTX.OUT_MIN (i : Nat) : FRef := ⟨0xE1007C + 0x100 * i, 31, 0, 0⟩

-- R426, spec/15_loop_engine.md
def LOOP.CTX.OUT_MAX (i : Nat) : FRef := ⟨0xE10080 + 0x100 * i, 31, 0, 0x42C80000⟩

-- R426, spec/15_loop_engine.md
def LOOP.CTX.RL (i : Nat) : FRef := ⟨0xE10084 + 0x100 * i, 31, 0, 0⟩

-- R426, spec/15_loop_engine.md
def LOOP.CTX.SP_MIN (i : Nat) : FRef := ⟨0xE10088 + 0x100 * i, 31, 0, 0xC9742400⟩

-- R426, spec/15_loop_engine.md
def LOOP.CTX.SP_MAX (i : Nat) : FRef := ⟨0xE1008C + 0x100 * i, 31, 0, 0x49742400⟩

-- R426, spec/15_loop_engine.md
def LOOP.CTX.FE_LIM (i : Nat) : FRef := ⟨0xE10090 + 0x100 * i, 31, 0, 0⟩

-- R426, spec/15_loop_engine.md
def LOOP.CTX.FE_TIME (i : Nat) : FRef := ⟨0xE10094 + 0x100 * i, 31, 0, 0x41200000⟩

-- R426, spec/15_loop_engine.md
def LOOP.CTX.ILK_OUT (i : Nat) : FRef := ⟨0xE10098 + 0x100 * i, 31, 0, 0⟩

-- R426, spec/15_loop_engine.md
def LOOP.CTX.FE_OUT (i : Nat) : FRef := ⟨0xE1009C + 0x100 * i, 31, 0, 0⟩

-- R426, spec/15_loop_engine.md
def LOOP.CTX.KIH (i : Nat) : FRef := ⟨0xE100A0 + 0x100 * i, 31, 0, 0⟩

-- R426, spec/15_loop_engine.md
def LOOP.CTX.AD (i : Nat) : FRef := ⟨0xE100A4 + 0x100 * i, 31, 0, 0⟩

-- R426, spec/15_loop_engine.md
def LOOP.CTX.BD (i : Nat) : FRef := ⟨0xE100A8 + 0x100 * i, 31, 0, 0⟩

-- R426, spec/15_loop_engine.md
def LOOP.CTX.RLH (i : Nat) : FRef := ⟨0xE100AC + 0x100 * i, 31, 0, 0⟩

-- R426, spec/15_loop_engine.md
def LOOP.CTX.I (i : Nat) : FRef := ⟨0xE100B0 + 0x100 * i, 31, 0, 0⟩

-- R426, spec/15_loop_engine.md
def LOOP.CTX.D (i : Nat) : FRef := ⟨0xE100B4 + 0x100 * i, 31, 0, 0⟩

-- R426, spec/15_loop_engine.md
def LOOP.CTX.ED_PREV (i : Nat) : FRef := ⟨0xE100B8 + 0x100 * i, 31, 0, 0⟩

-- R426, spec/15_loop_engine.md
def LOOP.CTX.FF (i : Nat) : FRef := ⟨0xE100BC + 0x100 * i, 31, 0, 0⟩

-- R426, spec/15_loop_engine.md
def LOOP.CTX.X1 (i : Nat) : FRef := ⟨0xE100C0 + 0x100 * i, 31, 0, 0⟩

-- R426, spec/15_loop_engine.md
def LOOP.CTX.X2 (i : Nat) : FRef := ⟨0xE100C4 + 0x100 * i, 31, 0, 0⟩

-- R426, spec/15_loop_engine.md
def LOOP.CTX.Y1 (i : Nat) : FRef := ⟨0xE100C8 + 0x100 * i, 31, 0, 0⟩

-- R426, spec/15_loop_engine.md
def LOOP.CTX.Y2 (i : Nat) : FRef := ⟨0xE100CC + 0x100 * i, 31, 0, 0⟩

-- R457, spec/16_cyclic_logic.md
def CLP.CFG.EN : FRef := ⟨0xF00000, 31, 31, 1⟩
def CLP.CFG.WD_MULT : FRef := ⟨0xF00000, 27, 24, 2⟩
def CLP.CFG.MIN_TICKS : FRef := ⟨0xF00000, 23, 12, 1⟩

-- R457, spec/16_cyclic_logic.md
def CLP.RET0.RET_M : FRef := ⟨0xF00004, 31, 16, 0⟩
def CLP.RET0.RET_DW : FRef := ⟨0xF00004, 15, 0, 0⟩

-- R457, spec/16_cyclic_logic.md
def CLP.RET1.RET_C : FRef := ⟨0xF00008, 10, 0, 0⟩

-- R457, spec/16_cyclic_logic.md
def CLP.STAT.STATE : FRef := ⟨0xF00010, 31, 29, 4⟩
def CLP.STAT.PENDING_REARM : FRef := ⟨0xF00010, 28, 28, 0⟩
def CLP.STAT.MINOFF : FRef := ⟨0xF00010, 27, 27, 0⟩
def CLP.STAT.PERIOD : FRef := ⟨0xF00010, 15, 0, 0⟩

-- R457, spec/16_cyclic_logic.md
def CLP.CYC_LAST : FRef := ⟨0xF00014, 31, 0, 0⟩

-- R457, spec/16_cyclic_logic.md
def CLP.CYC_MIN : FRef := ⟨0xF00018, 31, 0, 0xFFFFFFFF⟩

-- R457, spec/16_cyclic_logic.md
def CLP.CYC_MAX : FRef := ⟨0xF0001C, 31, 0, 0⟩

-- R457, spec/16_cyclic_logic.md
def CLP.CYC.CYCLE : FRef := ⟨0xF00020, 63, 0, 0⟩

-- R457, spec/16_cyclic_logic.md
def CLP.CNT.OVERRUNS : FRef := ⟨0xF00028, 31, 24, 0⟩
def CLP.CNT.LOOP_WR : FRef := ⟨0xF00028, 23, 16, 0⟩
def CLP.CNT.ARITH : FRef := ⟨0xF00028, 15, 8, 0⟩

-- R457, spec/16_cyclic_logic.md
def CLP.FSTAT.FORCES : FRef := ⟨0xF00030, 25, 16, 0⟩
def CLP.FSTAT.CARRIED : FRef := ⟨0xF00030, 1, 1, 0⟩
def CLP.FSTAT.ACTIVE : FRef := ⟨0xF00030, 0, 0, 0⟩

-- R457, spec/16_cyclic_logic.md
def CLP.IMG_ID : FRef := ⟨0xF00040, 31, 0, 0⟩

-- R457, spec/16_cyclic_logic.md
def CLP.DATA_ID : FRef := ⟨0xF00044, 31, 0, 0⟩

-- R457, spec/16_cyclic_logic.md
def CLP.WC.WC_TICKS : FRef := ⟨0xF00048, 15, 0, 0⟩

-- R457, spec/16_cyclic_logic.md
def CLP.LEN.LENGTH : FRef := ⟨0xF0004C, 18, 0, 0⟩

-- R457, spec/16_cyclic_logic.md
def CLP.FT.TGT.EN (i : Nat) : FRef := ⟨0xF10000 + 0x10 * i, 31, 31, 0⟩
def CLP.FT.TGT.SPACE (i : Nat) : FRef := ⟨0xF10000 + 0x10 * i, 30, 28, 0⟩
def CLP.FT.TGT.ADDR (i : Nat) : FRef := ⟨0xF10000 + 0x10 * i, 15, 0, 0⟩

-- R457, spec/16_cyclic_logic.md
def CLP.FT.VALUE (i : Nat) : FRef := ⟨0xF10004 + 0x10 * i, 31, 0, 0⟩

-- R457, spec/16_cyclic_logic.md
def CLP.FT.UNDER (i : Nat) : FRef := ⟨0xF10008 + 0x10 * i, 31, 0, 0⟩

-- R457, spec/16_cyclic_logic.md
def CLP.FT.EFF (i : Nat) : FRef := ⟨0xF1000C + 0x10 * i, 31, 0, 0⟩

-- R479, spec/17_lanes_and_voting.md
def LANES.CFG.VOTE_WIN : FRef := ⟨0x1500000, 31, 24, 50⟩
def LANES.CFG.PHASE_MAX : FRef := ⟨0x1500000, 23, 16, 15⟩
def LANES.CFG.ABSENT_N : FRef := ⟨0x1500000, 15, 8, 3⟩
def LANES.CFG.SHADOW : FRef := ⟨0x1500000, 7, 0, 20⟩

-- R479, spec/17_lanes_and_voting.md
def LANES.STAT.READMIT : FRef := ⟨0x1500004, 17, 17, 0⟩
def LANES.STAT.SAFE_ACT : FRef := ⟨0x1500004, 16, 16, 1⟩
def LANES.STAT.INSERV : FRef := ⟨0x1500004, 13, 12, 0⟩
def LANES.STAT.LSTATE_A : FRef := ⟨0x1500004, 2, 0, 0⟩
def LANES.STAT.LSTATE_B : FRef := ⟨0x1500004, 6, 4, 0⟩
def LANES.STAT.LSTATE_C : FRef := ⟨0x1500004, 10, 8, 0⟩

-- R479, spec/17_lanes_and_voting.md
def LANES.SAFE.CAUSE : FRef := ⟨0x1500008, 5, 0, 0⟩

-- R479, spec/17_lanes_and_voting.md
def LANES.WIN_SEL.PAGE : FRef := ⟨0x150000C, 3, 3, 0⟩
def LANES.WIN_SEL.BLOCK : FRef := ⟨0x150000C, 2, 2, 0⟩
def LANES.WIN_SEL.LANE : FRef := ⟨0x150000C, 1, 0, 0⟩

-- R479, spec/17_lanes_and_voting.md
def LANES.LANE.CNT.STRIKES (i : Nat) : FRef := ⟨0x1500010 + 0x10 * i, 31, 24, 0⟩
def LANES.LANE.CNT.MINORITY (i : Nat) : FRef := ⟨0x1500010 + 0x10 * i, 23, 16, 0⟩
def LANES.LANE.CNT.ABSENT (i : Nat) : FRef := ⟨0x1500010 + 0x10 * i, 15, 8, 0⟩
def LANES.LANE.CNT.ISO_CAUSE (i : Nat) : FRef := ⟨0x1500010 + 0x10 * i, 3, 0, 0⟩

-- R479, spec/17_lanes_and_voting.md
def LANES.LANE.OFFSET (i : Nat) : FRef := ⟨0x1500014 + 0x10 * i, 31, 0, 0⟩

-- R479, spec/17_lanes_and_voting.md
def LANES.DLOG.IDX.INDEX (i : Nat) : FRef := ⟨0x1500100 + 0x10 * i, 31, 0, 0⟩

-- R479, spec/17_lanes_and_voting.md
def LANES.DLOG.SRC.SOURCE (i : Nat) : FRef := ⟨0x1500104 + 0x10 * i, 31, 28, 0⟩
def LANES.DLOG.SRC.MINOR (i : Nat) : FRef := ⟨0x1500104 + 0x10 * i, 27, 25, 0⟩
def LANES.DLOG.SRC.ABS (i : Nat) : FRef := ⟨0x1500104 + 0x10 * i, 24, 22, 0⟩
def LANES.DLOG.SRC.WORD (i : Nat) : FRef := ⟨0x1500104 + 0x10 * i, 21, 21, 0⟩
def LANES.DLOG.SRC.ITEM (i : Nat) : FRef := ⟨0x1500104 + 0x10 * i, 15, 0, 0⟩

-- R479, spec/17_lanes_and_voting.md
def LANES.DLOG.VAL (i : Nat) : FRef := ⟨0x1500108 + 0x10 * i, 31, 0, 0⟩

-- R479, spec/17_lanes_and_voting.md
def LANES.DLOG.VAL2 (i : Nat) : FRef := ⟨0x150010C + 0x10 * i, 31, 0, 0⟩

/-- The registers of this file, part 0: base address, array dimensions and fields with their access codes (R7). -/
def regsLane0 : List RegDesc := [
  { base := 0xE00000, dims := [], wide := false,
    flds := fun _ _ _ => [(LOOP.CFG.TRIG_EN, .RWL), (LOOP.CFG.TRIG_EDGE, .RWL), (LOOP.CFG.TRIG_PIN, .RWL)] },
  { base := 0xE00004, dims := [], wide := false,
    flds := fun _ _ _ => [(LOOP.TRIG_H, .RWL)] },
  { base := 0xE00008, dims := [], wide := false,
    flds := fun _ _ _ => [(LOOP.STAT.FORCES, .RO), (LOOP.STAT.TRIG_DROP, .RC)] },
  { base := 0xE00040, dims := [(8, 0x4)], wide := false,
    flds := fun i _ _ => [(LOOP.CLS.LOOPS i, .RO), (LOOP.CLS.OVERRUNS i, .RC)] },
  { base := 0xE10000, dims := [(1024, 0x100)], wide := false,
    flds := fun i _ _ => [(LOOP.CTX.BIND0.EN i, .RO), (LOOP.CTX.BIND0.CLASS i, .RO), (LOOP.CTX.BIND0.FF_EN i, .RO), (LOOP.CTX.BIND0.DIR i, .RO), (LOOP.CTX.BIND0.CAS i, .RO), (LOOP.CTX.BIND0.MASTER i, .RO)] },
  { base := 0xE10004, dims := [(1024, 0x100)], wide := false,
    flds := fun i _ _ => [(LOOP.CTX.BIND1.PV_WORD i, .RO), (LOOP.CTX.BIND1.OUT_WORD i, .RO)] },
  { base := 0xE10008, dims := [(1024, 0x100)], wide := false,
    flds := fun i _ _ => [(LOOP.CTX.BIND2.FF_WORD i, .RO), (LOOP.CTX.BIND2.ILK_EN i, .RO), (LOOP.CTX.BIND2.ILK_BIT i, .RO)] },
  { base := 0xE10010, dims := [(1024, 0x100)], wide := false,
    flds := fun i _ _ => [(LOOP.CTX.CTRL.MODE i, .RO), (LOOP.CTX.CTRL.SP_SRC i, .RO), (LOOP.CTX.CTRL.START_MODE i, .RWL), (LOOP.CTX.CTRL.SPTRK i, .RWL), (LOOP.CTX.CTRL.SUBST_HOLD i, .RWL), (LOOP.CTX.CTRL.FE_ACT i, .RWL)] },
  { base := 0xE10014, dims := [(1024, 0x100)], wide := false,
    flds := fun i _ _ => [(LOOP.CTX.STAT.HOLD_CAUSE i, .RO), (LOOP.CTX.STAT.FORCED i, .RO), (LOOP.CTX.STAT.ILK i, .RO), (LOOP.CTX.STAT.FE_TRIP i, .W1C), (LOOP.CTX.STAT.LIM_HI i, .RO), (LOOP.CTX.STAT.LIM_LO i, .RO), (LOOP.CTX.STAT.RATE_LIM i, .RO), (LOOP.CTX.STAT.RSP_WAIT i, .RO), (LOOP.CTX.STAT.FF_STALE i, .RO), (LOOP.CTX.STAT.SP_CLAMP i, .W1C), (LOOP.CTX.STAT.COEF_REFUSED i, .W1C), (LOOP.CTX.STAT.PV_Q i, .RO)] },
  { base := 0xE10018, dims := [(1024, 0x100)], wide := false,
    flds := fun i _ _ => [(LOOP.CTX.SAMPLE i, .RO)] },
  { base := 0xE1001C, dims := [(1024, 0x100)], wide := false,
    flds := fun i _ _ => [(LOOP.CTX.FE_CNT i, .RO)] },
  { base := 0xE10020, dims := [(1024, 0x100)], wide := false,
    flds := fun i _ _ => [(LOOP.CTX.LSP i, .RO)] },
  { base := 0xE10024, dims := [(1024, 0x100)], wide := false,
    flds := fun i _ _ => [(LOOP.CTX.RSP i, .RO)] },
  { base := 0xE10028, dims := [(1024, 0x100)], wide := false,
    flds := fun i _ _ => [(LOOP.CTX.SP i, .RO)] },
  { base := 0xE1002C, dims := [(1024, 0x100)], wide := false,
    flds := fun i _ _ => [(LOOP.CTX.PV i, .RO)] },
  { base := 0xE10030, dims := [(1024, 0x100)], wide := false,
    flds := fun i _ _ => [(LOOP.CTX.PVN i, .RO)] },
  { base := 0xE10034, dims := [(1024, 0x100)], wide := false,
    flds := fun i _ _ => [(LOOP.CTX.OUT i, .RO)] },
  { base := 0xE10038, dims := [(1024, 0x100)], wide := false,
    flds := fun i _ _ => [(LOOP.CTX.MAN_OUT i, .RO)] },
  { base := 0xE1003C, dims := [(1024, 0x100)], wide := false,
    flds := fun i _ _ => [(LOOP.CTX.FORCE_VAL i, .RO)] },
  { base := 0xE10040, dims := [(1024, 0x100)], wide := false,
    flds := fun i _ _ => [(LOOP.CTX.START_SP i, .RWL)] } ]

/-- The registers of this file, part 1: base address, array dimensions and fields with their access codes (R7). -/
def regsLane1 : List RegDesc := [
  { base := 0xE10044, dims := [(1024, 0x100)], wide := false,
    flds := fun i _ _ => [(LOOP.CTX.OUT_INIT i, .RWL)] },
  { base := 0xE10048, dims := [(1024, 0x100)], wide := false,
    flds := fun i _ _ => [(LOOP.CTX.KP i, .RWO)] },
  { base := 0xE1004C, dims := [(1024, 0x100)], wide := false,
    flds := fun i _ _ => [(LOOP.CTX.KI i, .RWO)] },
  { base := 0xE10050, dims := [(1024, 0x100)], wide := false,
    flds := fun i _ _ => [(LOOP.CTX.KD i, .RWO)] },
  { base := 0xE10054, dims := [(1024, 0x100)], wide := false,
    flds := fun i _ _ => [(LOOP.CTX.TF i, .RWO)] },
  { base := 0xE10058, dims := [(1024, 0x100)], wide := false,
    flds := fun i _ _ => [(LOOP.CTX.BETA i, .RWO)] },
  { base := 0xE1005C, dims := [(1024, 0x100)], wide := false,
    flds := fun i _ _ => [(LOOP.CTX.GAMMA i, .RWO)] },
  { base := 0xE10060, dims := [(1024, 0x100)], wide := false,
    flds := fun i _ _ => [(LOOP.CTX.KFF i, .RWO)] },
  { base := 0xE10064, dims := [(1024, 0x100)], wide := false,
    flds := fun i _ _ => [(LOOP.CTX.BIAS i, .RWO)] },
  { base := 0xE10068, dims := [(1024, 0x100)], wide := false,
    flds := fun i _ _ => [(LOOP.CTX.B0 i, .RWO)] },
  { base := 0xE1006C, dims := [(1024, 0x100)], wide := false,
    flds := fun i _ _ => [(LOOP.CTX.B1 i, .RWO)] },
  { base := 0xE10070, dims := [(1024, 0x100)], wide := false,
    flds := fun i _ _ => [(LOOP.CTX.B2 i, .RWO)] },
  { base := 0xE10074, dims := [(1024, 0x100)], wide := false,
    flds := fun i _ _ => [(LOOP.CTX.A1 i, .RWO)] },
  { base := 0xE10078, dims := [(1024, 0x100)], wide := false,
    flds := fun i _ _ => [(LOOP.CTX.A2 i, .RWO)] },
  { base := 0xE1007C, dims := [(1024, 0x100)], wide := false,
    flds := fun i _ _ => [(LOOP.CTX.OUT_MIN i, .RWL)] },
  { base := 0xE10080, dims := [(1024, 0x100)], wide := false,
    flds := fun i _ _ => [(LOOP.CTX.OUT_MAX i, .RWL)] },
  { base := 0xE10084, dims := [(1024, 0x100)], wide := false,
    flds := fun i _ _ => [(LOOP.CTX.RL i, .RWL)] },
  { base := 0xE10088, dims := [(1024, 0x100)], wide := false,
    flds := fun i _ _ => [(LOOP.CTX.SP_MIN i, .RWL)] },
  { base := 0xE1008C, dims := [(1024, 0x100)], wide := false,
    flds := fun i _ _ => [(LOOP.CTX.SP_MAX i, .RWL)] },
  { base := 0xE10090, dims := [(1024, 0x100)], wide := false,
    flds := fun i _ _ => [(LOOP.CTX.FE_LIM i, .RWL)] } ]

/-- The registers of this file, part 2: base address, array dimensions and fields with their access codes (R7). -/
def regsLane2 : List RegDesc := [
  { base := 0xE10094, dims := [(1024, 0x100)], wide := false,
    flds := fun i _ _ => [(LOOP.CTX.FE_TIME i, .RWL)] },
  { base := 0xE10098, dims := [(1024, 0x100)], wide := false,
    flds := fun i _ _ => [(LOOP.CTX.ILK_OUT i, .RWL)] },
  { base := 0xE1009C, dims := [(1024, 0x100)], wide := false,
    flds := fun i _ _ => [(LOOP.CTX.FE_OUT i, .RWL)] },
  { base := 0xE100A0, dims := [(1024, 0x100)], wide := false,
    flds := fun i _ _ => [(LOOP.CTX.KIH i, .RO)] },
  { base := 0xE100A4, dims := [(1024, 0x100)], wide := false,
    flds := fun i _ _ => [(LOOP.CTX.AD i, .RO)] },
  { base := 0xE100A8, dims := [(1024, 0x100)], wide := false,
    flds := fun i _ _ => [(LOOP.CTX.BD i, .RO)] },
  { base := 0xE100AC, dims := [(1024, 0x100)], wide := false,
    flds := fun i _ _ => [(LOOP.CTX.RLH i, .RO)] },
  { base := 0xE100B0, dims := [(1024, 0x100)], wide := false,
    flds := fun i _ _ => [(LOOP.CTX.I i, .RO)] },
  { base := 0xE100B4, dims := [(1024, 0x100)], wide := false,
    flds := fun i _ _ => [(LOOP.CTX.D i, .RO)] },
  { base := 0xE100B8, dims := [(1024, 0x100)], wide := false,
    flds := fun i _ _ => [(LOOP.CTX.ED_PREV i, .RO)] },
  { base := 0xE100BC, dims := [(1024, 0x100)], wide := false,
    flds := fun i _ _ => [(LOOP.CTX.FF i, .RO)] },
  { base := 0xE100C0, dims := [(1024, 0x100)], wide := false,
    flds := fun i _ _ => [(LOOP.CTX.X1 i, .RO)] },
  { base := 0xE100C4, dims := [(1024, 0x100)], wide := false,
    flds := fun i _ _ => [(LOOP.CTX.X2 i, .RO)] },
  { base := 0xE100C8, dims := [(1024, 0x100)], wide := false,
    flds := fun i _ _ => [(LOOP.CTX.Y1 i, .RO)] },
  { base := 0xE100CC, dims := [(1024, 0x100)], wide := false,
    flds := fun i _ _ => [(LOOP.CTX.Y2 i, .RO)] },
  { base := 0xF00000, dims := [], wide := false,
    flds := fun _ _ _ => [(CLP.CFG.EN, .RWL), (CLP.CFG.WD_MULT, .RWL), (CLP.CFG.MIN_TICKS, .RWL)] },
  { base := 0xF00004, dims := [], wide := false,
    flds := fun _ _ _ => [(CLP.RET0.RET_M, .RWL), (CLP.RET0.RET_DW, .RWL)] },
  { base := 0xF00008, dims := [], wide := false,
    flds := fun _ _ _ => [(CLP.RET1.RET_C, .RWL)] },
  { base := 0xF00010, dims := [], wide := false,
    flds := fun _ _ _ => [(CLP.STAT.STATE, .RO), (CLP.STAT.PENDING_REARM, .RO), (CLP.STAT.MINOFF, .RO), (CLP.STAT.PERIOD, .RO)] },
  { base := 0xF00014, dims := [], wide := false,
    flds := fun _ _ _ => [(CLP.CYC_LAST, .RO)] } ]

/-- The registers of this file, part 3: base address, array dimensions and fields with their access codes (R7). -/
def regsLane3 : List RegDesc := [
  { base := 0xF00018, dims := [], wide := false,
    flds := fun _ _ _ => [(CLP.CYC_MIN, .RC)] },
  { base := 0xF0001C, dims := [], wide := false,
    flds := fun _ _ _ => [(CLP.CYC_MAX, .RC)] },
  { base := 0xF00020, dims := [], wide := true,
    flds := fun _ _ _ => [(CLP.CYC.CYCLE, .RO)] },
  { base := 0xF00028, dims := [], wide := false,
    flds := fun _ _ _ => [(CLP.CNT.OVERRUNS, .RC), (CLP.CNT.LOOP_WR, .RC), (CLP.CNT.ARITH, .RC)] },
  { base := 0xF00030, dims := [], wide := false,
    flds := fun _ _ _ => [(CLP.FSTAT.FORCES, .RO), (CLP.FSTAT.CARRIED, .W1C), (CLP.FSTAT.ACTIVE, .RO)] },
  { base := 0xF00040, dims := [], wide := false,
    flds := fun _ _ _ => [(CLP.IMG_ID, .RO)] },
  { base := 0xF00044, dims := [], wide := false,
    flds := fun _ _ _ => [(CLP.DATA_ID, .RO)] },
  { base := 0xF00048, dims := [], wide := false,
    flds := fun _ _ _ => [(CLP.WC.WC_TICKS, .RO)] },
  { base := 0xF0004C, dims := [], wide := false,
    flds := fun _ _ _ => [(CLP.LEN.LENGTH, .RO)] },
  { base := 0xF10000, dims := [(512, 0x10)], wide := false,
    flds := fun i _ _ => [(CLP.FT.TGT.EN i, .RO), (CLP.FT.TGT.SPACE i, .RO), (CLP.FT.TGT.ADDR i, .RO)] },
  { base := 0xF10004, dims := [(512, 0x10)], wide := false,
    flds := fun i _ _ => [(CLP.FT.VALUE i, .RO)] },
  { base := 0xF10008, dims := [(512, 0x10)], wide := false,
    flds := fun i _ _ => [(CLP.FT.UNDER i, .RO)] },
  { base := 0xF1000C, dims := [(512, 0x10)], wide := false,
    flds := fun i _ _ => [(CLP.FT.EFF i, .RO)] },
  { base := 0x1500000, dims := [], wide := false,
    flds := fun _ _ _ => [(LANES.CFG.VOTE_WIN, .RWL), (LANES.CFG.PHASE_MAX, .RWL), (LANES.CFG.ABSENT_N, .RWL), (LANES.CFG.SHADOW, .RWL)] },
  { base := 0x1500004, dims := [], wide := false,
    flds := fun _ _ _ => [(LANES.STAT.READMIT, .RO), (LANES.STAT.SAFE_ACT, .RO), (LANES.STAT.INSERV, .RO), (LANES.STAT.LSTATE_A, .RO), (LANES.STAT.LSTATE_B, .RO), (LANES.STAT.LSTATE_C, .RO)] },
  { base := 0x1500008, dims := [], wide := false,
    flds := fun _ _ _ => [(LANES.SAFE.CAUSE, .RO)] },
  { base := 0x150000C, dims := [], wide := false,
    flds := fun _ _ _ => [(LANES.WIN_SEL.PAGE, .RW), (LANES.WIN_SEL.BLOCK, .RW), (LANES.WIN_SEL.LANE, .RW)] },
  { base := 0x1500010, dims := [(3, 0x10)], wide := false,
    flds := fun i _ _ => [(LANES.LANE.CNT.STRIKES i, .RO), (LANES.LANE.CNT.MINORITY i, .RC), (LANES.LANE.CNT.ABSENT i, .RC), (LANES.LANE.CNT.ISO_CAUSE i, .RO)] },
  { base := 0x1500014, dims := [(3, 0x10)], wide := false,
    flds := fun i _ _ => [(LANES.LANE.OFFSET i, .RO)] },
  { base := 0x1500100, dims := [(16, 0x10)], wide := false,
    flds := fun i _ _ => [(LANES.DLOG.IDX.INDEX i, .RO)] } ]

/-- The registers of this file, part 4: base address, array dimensions and fields with their access codes (R7). -/
def regsLane4 : List RegDesc := [
  { base := 0x1500104, dims := [(16, 0x10)], wide := false,
    flds := fun i _ _ => [(LANES.DLOG.SRC.SOURCE i, .RO), (LANES.DLOG.SRC.MINOR i, .RO), (LANES.DLOG.SRC.ABS i, .RO), (LANES.DLOG.SRC.WORD i, .RO), (LANES.DLOG.SRC.ITEM i, .RO)] },
  { base := 0x1500108, dims := [(16, 0x10)], wide := false,
    flds := fun i _ _ => [(LANES.DLOG.VAL i, .RO)] },
  { base := 0x150010C, dims := [(16, 0x10)], wide := false,
    flds := fun i _ _ => [(LANES.DLOG.VAL2 i, .RO)] } ]

end Sys2Proof.Machine
end

