-- ==== Sys2Proof/Machine/RegsMeter.lean ====
section
/-! DEFINITION. The register fields of the blocks METER: each field under the name BLOCK.REGISTER.FIELD of the
manual, with its BAR0 address, its bits and its reset value, and the register descriptions built from them. -/
namespace Sys2Proof.Machine

-- R314, spec/11_electrical_metering.md
def METER.CFG.EN : FRef := ⟨0xD00000, 31, 31, 1⟩
def METER.CFG.SNAP_LSB : FRef := ⟨0xD00000, 27, 26, 0⟩
def METER.CFG.IVL : FRef := ⟨0xD00000, 25, 23, 2⟩
def METER.CFG.KEY_SLOT : FRef := ⟨0xD00000, 15, 10, 0⟩
def METER.CFG.SIGN : FRef := ⟨0xD00000, 0, 0, 1⟩

-- R314, spec/11_electrical_metering.md
def METER.DSP.FAIL : FRef := ⟨0xD00010, 15, 12, 0⟩
def METER.DSP.TEST : FRef := ⟨0xD00010, 11, 8, 0⟩
def METER.DSP.OUT : FRef := ⟨0xD00010, 7, 4, 0⟩
def METER.DSP.UP : FRef := ⟨0xD00010, 3, 0, 0xF⟩

-- R314, spec/11_electrical_metering.md
def METER.DSP_MAP.MAP : FRef := ⟨0xD00014, 31, 0, 0xFFAA5500⟩

-- R314, spec/11_electrical_metering.md
def METER.BUS.CFG.NOM_F (i : Nat) : FRef := ⟨0xD00100 + 0x40 * i, 31, 31, 0⟩
def METER.BUS.CFG.SAG_THR (i : Nat) : FRef := ⟨0xD00100 + 0x40 * i, 23, 16, 90⟩
def METER.BUS.CFG.SWELL_THR (i : Nat) : FRef := ⟨0xD00100 + 0x40 * i, 15, 8, 110⟩
def METER.BUS.CFG.INT_THR (i : Nat) : FRef := ⟨0xD00100 + 0x40 * i, 7, 4, 5⟩
def METER.BUS.CFG.HYST (i : Nat) : FRef := ⟨0xD00100 + 0x40 * i, 3, 0, 2⟩

-- R314, spec/11_electrical_metering.md
def METER.BUS.UDIN (i : Nat) : FRef := ⟨0xD00104 + 0x40 * i, 31, 0, 0⟩

-- R314, spec/11_electrical_metering.md
def METER.BUS.STAT.FREQ_VALID (i : Nat) : FRef := ⟨0xD00108 + 0x40 * i, 31, 31, 0⟩
def METER.BUS.STAT.SAG (i : Nat) : FRef := ⟨0xD00108 + 0x40 * i, 30, 30, 0⟩
def METER.BUS.STAT.SWELL (i : Nat) : FRef := ⟨0xD00108 + 0x40 * i, 29, 29, 0⟩
def METER.BUS.STAT.INT (i : Nat) : FRef := ⟨0xD00108 + 0x40 * i, 28, 28, 0⟩
def METER.BUS.STAT.INVALID (i : Nat) : FRef := ⟨0xD00108 + 0x40 * i, 27, 27, 0⟩
def METER.BUS.STAT.EVENTS (i : Nat) : FRef := ⟨0xD00108 + 0x40 * i, 23, 16, 0⟩

-- R314, spec/11_electrical_metering.md
def METER.BUS.URMS (i j : Nat) : FRef := ⟨0xD0010C + 0x40 * i + 4 * j, 31, 0, 0⟩

-- R314, spec/11_electrical_metering.md
def METER.BUS.FREQ (i : Nat) : FRef := ⟨0xD00118 + 0x40 * i, 31, 0, 0⟩

-- R314, spec/11_electrical_metering.md
def METER.BUS.FREQ10 (i : Nat) : FRef := ⟨0xD0011C + 0x40 * i, 31, 0, 0⟩

-- R314, spec/11_electrical_metering.md
def METER.BUS.ANG (i j : Nat) : FRef := ⟨0xD00120 + 0x40 * i + 4 * j, 31, 0, 0⟩

-- R314, spec/11_electrical_metering.md
def METER.CH.SCALE (i : Nat) : FRef := ⟨0xD00400 + 0x20 * i, 31, 0, 0⟩

-- R314, spec/11_electrical_metering.md
def METER.CH.GAIN (i : Nat) : FRef := ⟨0xD00404 + 0x20 * i, 31, 0, 0x3F800000⟩

-- R314, spec/11_electrical_metering.md
def METER.CH.PHASE (i : Nat) : FRef := ⟨0xD00408 + 0x20 * i, 31, 0, 0⟩

-- R314, spec/11_electrical_metering.md
def METER.CH.CFG.POL (i : Nat) : FRef := ⟨0xD0040C + 0x20 * i, 31, 31, 0⟩
def METER.CH.CFG.CAL (i : Nat) : FRef := ⟨0xD0040C + 0x20 * i, 30, 30, 0⟩
def METER.CH.CFG.INVALID (i : Nat) : FRef := ⟨0xD0040C + 0x20 * i, 29, 29, 0⟩
def METER.CH.CFG.TABLE (i : Nat) : FRef := ⟨0xD0040C + 0x20 * i, 5, 0, 63⟩

-- R314, spec/11_electrical_metering.md
def METER.FDR.CFG.EN (i : Nat) : FRef := ⟨0xD01000 + 0x100 * i, 31, 31, 0⟩
def METER.FDR.CFG.BUS (i : Nat) : FRef := ⟨0xD01000 + 0x100 * i, 27, 26, i / 4⟩

-- R314, spec/11_electrical_metering.md
def METER.FDR.ISTART (i : Nat) : FRef := ⟨0xD01004 + 0x100 * i, 31, 0, 0⟩

-- R314, spec/11_electrical_metering.md
def METER.FDR.STAT.P_VALID (i : Nat) : FRef := ⟨0xD01008 + 0x100 * i, 31, 31, 0⟩
def METER.FDR.STAT.CAL (i : Nat) : FRef := ⟨0xD01008 + 0x100 * i, 30, 30, 0⟩
def METER.FDR.STAT.CARRIED (i : Nat) : FRef := ⟨0xD01008 + 0x100 * i, 29, 29, 0⟩
def METER.FDR.STAT.GAP (i : Nat) : FRef := ⟨0xD01008 + 0x100 * i, 28, 28, 0⟩
def METER.FDR.STAT.WRAP (i : Nat) : FRef := ⟨0xD01008 + 0x100 * i, 27, 27, 0⟩
def METER.FDR.STAT.QUAD (i : Nat) : FRef := ⟨0xD01008 + 0x100 * i, 26, 24, 0⟩

-- R314, spec/11_electrical_metering.md
def METER.FDR.IRMS (i j : Nat) : FRef := ⟨0xD01010 + 0x100 * i + 4 * j, 31, 0, 0⟩

-- R314, spec/11_electrical_metering.md
def METER.FDR.P (i j : Nat) : FRef := ⟨0xD0101C + 0x100 * i + 4 * j, 31, 0, 0⟩

-- R314, spec/11_electrical_metering.md
def METER.FDR.PT (i : Nat) : FRef := ⟨0xD01028 + 0x100 * i, 31, 0, 0⟩

-- R314, spec/11_electrical_metering.md
def METER.FDR.QT (i : Nat) : FRef := ⟨0xD0102C + 0x100 * i, 31, 0, 0⟩

-- R314, spec/11_electrical_metering.md
def METER.FDR.ST (i : Nat) : FRef := ⟨0xD01030 + 0x100 * i, 31, 0, 0⟩

-- R314, spec/11_electrical_metering.md
def METER.FDR.PF (i : Nat) : FRef := ⟨0xD01034 + 0x100 * i, 31, 0, 0⟩

-- R314, spec/11_electrical_metering.md
def METER.FDR.ANG (i j : Nat) : FRef := ⟨0xD01038 + 0x100 * i + 4 * j, 31, 0, 0⟩

-- R314, spec/11_electrical_metering.md
def METER.FDR.E (i j : Nat) : FRef := ⟨0xD01048 + 0x100 * i + 8 * j, 63, 0, 0⟩

-- R314, spec/11_electrical_metering.md
def METER.FDR.SNAP (i j : Nat) : FRef := ⟨0xD01088 + 0x100 * i + 4 * j, 31, 0, 0⟩

-- R314, spec/11_electrical_metering.md
def METER.FDR.WRAPCNT (i j : Nat) : FRef := ⟨0xD010A8 + 0x100 * i + 4 * j, 15, 0, 0⟩

-- R314, spec/11_electrical_metering.md
def METER.CTT.CFG.CFG_ERR (i : Nat) : FRef := ⟨0xD03000 + 0x80 * i, 31, 31, 0⟩
def METER.CTT.CFG.TEMP_DEF (i : Nat) : FRef := ⟨0xD03000 + 0x80 * i, 30, 30, 0⟩
def METER.CTT.CFG.TEMP_RANGE (i : Nat) : FRef := ⟨0xD03000 + 0x80 * i, 29, 29, 0⟩
def METER.CTT.CFG.FIXED (i : Nat) : FRef := ⟨0xD03000 + 0x80 * i, 23, 23, 1⟩
def METER.CTT.CFG.SAR (i : Nat) : FRef := ⟨0xD03000 + 0x80 * i, 22, 22, 0⟩
def METER.CTT.CFG.ENTRY (i : Nat) : FRef := ⟨0xD03000 + 0x80 * i, 21, 14, 0⟩
def METER.CTT.CFG.N (i : Nat) : FRef := ⟨0xD03000 + 0x80 * i, 3, 0, 0⟩

-- R314, spec/11_electrical_metering.md
def METER.CTT.TDEF (i : Nat) : FRef := ⟨0xD03004 + 0x80 * i, 31, 0, 0x41C80000⟩

-- R314, spec/11_electrical_metering.md
def METER.CTT.TEMP (i : Nat) : FRef := ⟨0xD03008 + 0x80 * i, 31, 0, 0⟩

-- R314, spec/11_electrical_metering.md
def METER.CTT.POINT (i j k : Nat) : FRef := ⟨0xD03010 + 0x80 * i + 0xc * j + 4 * k, 31, 0, 0⟩

-- R314, spec/11_electrical_metering.md
def METER.POUT.CFG.EN (i : Nat) : FRef := ⟨0xD04000 + 0x10 * i, 31, 31, 0⟩
def METER.POUT.CFG.FDR (i : Nat) : FRef := ⟨0xD04000 + 0x10 * i, 30, 27, 0⟩
def METER.POUT.CFG.REG (i : Nat) : FRef := ⟨0xD04000 + 0x10 * i, 26, 24, 0⟩
def METER.POUT.CFG.WIDTH_MS (i : Nat) : FRef := ⟨0xD04000 + 0x10 * i, 23, 16, 10⟩

-- R314, spec/11_electrical_metering.md
def METER.POUT.CONST (i : Nat) : FRef := ⟨0xD04004 + 0x10 * i, 31, 0, 10000⟩

-- R314, spec/11_electrical_metering.md
def METER.POUT.RES (i : Nat) : FRef := ⟨0xD04008 + 0x10 * i, 31, 0, 0⟩

-- R314, spec/11_electrical_metering.md
def METER.POUT.STAT.OVF (i : Nat) : FRef := ⟨0xD0400C + 0x10 * i, 31, 31, 0⟩
def METER.POUT.STAT.BACKLOG (i : Nat) : FRef := ⟨0xD0400C + 0x10 * i, 15, 0, 0⟩

-- R314, spec/11_electrical_metering.md
def METER.DTF.CFG.EN (i : Nat) : FRef := ⟨0xD04200 + 0x10 * i, 31, 31, 0⟩
def METER.DTF.CFG.FDR (i : Nat) : FRef := ⟨0xD04200 + 0x10 * i, 30, 27, 0⟩
def METER.DTF.CFG.QTY (i : Nat) : FRef := ⟨0xD04200 + 0x10 * i, 26, 25, 0⟩
def METER.DTF.CFG.CLAMP (i : Nat) : FRef := ⟨0xD04200 + 0x10 * i, 24, 24, 0⟩

-- R314, spec/11_electrical_metering.md
def METER.DTF.CONST (i : Nat) : FRef := ⟨0xD04204 + 0x10 * i, 31, 0, 0x47C35000⟩

-- R314, spec/11_electrical_metering.md
def METER.DTF.FREQ (i : Nat) : FRef := ⟨0xD04208 + 0x10 * i, 31, 0, 0⟩

-- R333, spec/12_heat_metering.md
def METER.HEAT_CFG.EN : FRef := ⟨0xD08000, 31, 31, 1⟩
def METER.HEAT_CFG.SIGN : FRef := ⟨0xD08000, 30, 30, 1⟩
def METER.HEAT_CFG.IVL : FRef := ⟨0xD08000, 29, 27, 4⟩
def METER.HEAT_CFG.KEY_SLOT : FRef := ⟨0xD08000, 21, 16, 0⟩
def METER.HEAT_CFG.BILL_HOUR : FRef := ⟨0xD08000, 12, 8, 0⟩
def METER.HEAT_CFG.BILL_DAY : FRef := ⟨0xD08000, 4, 0, 1⟩

-- R333, spec/12_heat_metering.md
def METER.HEAT_STAT.RUNNING : FRef := ⟨0xD08004, 24, 16, 0⟩
def METER.HEAT_STAT.IN_ERROR : FRef := ⟨0xD08004, 8, 0, 0⟩

-- R333, spec/12_heat_metering.md
def METER.HM.CFG.EN (i : Nat) : FRef := ⟨0xD10000 + 0x80 * i, 31, 31, 0⟩
def METER.HM.CFG.FKIND (i : Nat) : FRef := ⟨0xD10000 + 0x80 * i, 30, 30, 0⟩
def METER.HM.CFG.LOC (i : Nat) : FRef := ⟨0xD10000 + 0x80 * i, 29, 29, 0⟩
def METER.HM.CFG.DIR_EN (i : Nat) : FRef := ⟨0xD10000 + 0x80 * i, 28, 28, 0⟩
def METER.HM.CFG.FORCED_OK (i : Nat) : FRef := ⟨0xD10000 + 0x80 * i, 27, 27, 0⟩
def METER.HM.CFG.PERIOD (i : Nat) : FRef := ⟨0xD10000 + 0x80 * i, 26, 25, 1⟩

-- R333, spec/12_heat_metering.md
def METER.HM.FSRC.DIRBIT (i : Nat) : FRef := ⟨0xD10004 + 0x80 * i, 31, 16, 0⟩
def METER.HM.FSRC.FWORD (i : Nat) : FRef := ⟨0xD10004 + 0x80 * i, 14, 0, 512⟩

-- R333, spec/12_heat_metering.md
def METER.HM.TSRC.TS_WORD (i : Nat) : FRef := ⟨0xD10008 + 0x80 * i, 30, 16, 0⟩
def METER.HM.TSRC.TR_WORD (i : Nat) : FRef := ⟨0xD10008 + 0x80 * i, 14, 0, 0⟩

-- R333, spec/12_heat_metering.md
def METER.HM.VPP (i : Nat) : FRef := ⟨0xD1000C + 0x80 * i, 31, 0, 0x3F800000⟩

-- R333, spec/12_heat_metering.md
def METER.HM.QCUT (i : Nat) : FRef := ⟨0xD10010 + 0x80 * i, 31, 0, 0⟩

-- R333, spec/12_heat_metering.md
def METER.HM.PRESS (i : Nat) : FRef := ⟨0xD10014 + 0x80 * i, 31, 0, 0x3FCCCCCD⟩

-- R333, spec/12_heat_metering.md
def METER.HM.DT_MIN (i : Nat) : FRef := ⟨0xD10018 + 0x80 * i, 31, 0, 0⟩

-- R333, spec/12_heat_metering.md
def METER.HM.TLIM.TMAX (i : Nat) : FRef := ⟨0xD1001C + 0x80 * i, 31, 16, 180⟩
def METER.HM.TLIM.TMIN (i : Nat) : FRef := ⟨0xD1001C + 0x80 * i, 15, 0, 0⟩

-- R333, spec/12_heat_metering.md
def METER.HM.STAT.VALID (i : Nat) : FRef := ⟨0xD10020 + 0x80 * i, 31, 31, 0⟩
def METER.HM.STAT.ERR (i : Nat) : FRef := ⟨0xD10020 + 0x80 * i, 30, 30, 0⟩
def METER.HM.STAT.FORCED (i : Nat) : FRef := ⟨0xD10020 + 0x80 * i, 29, 29, 0⟩
def METER.HM.STAT.CARRIED (i : Nat) : FRef := ⟨0xD10020 + 0x80 * i, 28, 28, 0⟩
def METER.HM.STAT.REVFLOW (i : Nat) : FRef := ⟨0xD10020 + 0x80 * i, 27, 27, 0⟩
def METER.HM.STAT.COLD (i : Nat) : FRef := ⟨0xD10020 + 0x80 * i, 26, 26, 0⟩
def METER.HM.STAT.CFG_ERR (i : Nat) : FRef := ⟨0xD10020 + 0x80 * i, 25, 25, 0⟩
def METER.HM.STAT.REVERSALS (i : Nat) : FRef := ⟨0xD10020 + 0x80 * i, 15, 8, 0⟩
def METER.HM.STAT.ERRBITS (i : Nat) : FRef := ⟨0xD10020 + 0x80 * i, 5, 0, 0⟩

-- R333, spec/12_heat_metering.md
def METER.HM.FLOW (i : Nat) : FRef := ⟨0xD10024 + 0x80 * i, 31, 0, 0⟩

-- R333, spec/12_heat_metering.md
def METER.HM.POWER (i : Nat) : FRef := ⟨0xD10028 + 0x80 * i, 31, 0, 0⟩

-- R333, spec/12_heat_metering.md
def METER.HM.TS (i : Nat) : FRef := ⟨0xD1002C + 0x80 * i, 31, 0, 0⟩

-- R333, spec/12_heat_metering.md
def METER.HM.TR (i : Nat) : FRef := ⟨0xD10030 + 0x80 * i, 31, 0, 0⟩

-- R333, spec/12_heat_metering.md
def METER.HM.DH (i : Nat) : FRef := ⟨0xD10034 + 0x80 * i, 31, 0, 0⟩

-- R333, spec/12_heat_metering.md
def METER.HM.RHO (i : Nat) : FRef := ⟨0xD10038 + 0x80 * i, 31, 0, 0⟩

-- R333, spec/12_heat_metering.md
def METER.HM.ERRTIME (i : Nat) : FRef := ⟨0xD1003C + 0x80 * i, 31, 0, 0⟩

-- R333, spec/12_heat_metering.md
def METER.HM.E (i j : Nat) : FRef := ⟨0xD10040 + 0x80 * i + 8 * j, 63, 0, 0⟩

-- R333, spec/12_heat_metering.md
def METER.HM.V (i j : Nat) : FRef := ⟨0xD10060 + 0x80 * i + 8 * j, 63, 0, 0⟩

/-- The registers of this file, part 0: base address, array dimensions and fields with their access codes (R7). -/
def regsMeter0 : List RegDesc := [
  { base := 0xD00000, dims := [], wide := false,
    flds := fun _ _ _ => [(METER.CFG.EN, .RWL), (METER.CFG.SNAP_LSB, .RWL), (METER.CFG.IVL, .RWL), (METER.CFG.KEY_SLOT, .RWL), (METER.CFG.SIGN, .RWL)] },
  { base := 0xD00010, dims := [], wide := false,
    flds := fun _ _ _ => [(METER.DSP.FAIL, .RO), (METER.DSP.TEST, .RO), (METER.DSP.OUT, .RO), (METER.DSP.UP, .RO)] },
  { base := 0xD00014, dims := [], wide := false,
    flds := fun _ _ _ => [(METER.DSP_MAP.MAP, .RO)] },
  { base := 0xD00100, dims := [(4, 0x40)], wide := false,
    flds := fun i _ _ => [(METER.BUS.CFG.NOM_F i, .RWL), (METER.BUS.CFG.SAG_THR i, .RWL), (METER.BUS.CFG.SWELL_THR i, .RWL), (METER.BUS.CFG.INT_THR i, .RWL), (METER.BUS.CFG.HYST i, .RWL)] },
  { base := 0xD00104, dims := [(4, 0x40)], wide := false,
    flds := fun i _ _ => [(METER.BUS.UDIN i, .RWL)] },
  { base := 0xD00108, dims := [(4, 0x40)], wide := false,
    flds := fun i _ _ => [(METER.BUS.STAT.FREQ_VALID i, .RO), (METER.BUS.STAT.SAG i, .RO), (METER.BUS.STAT.SWELL i, .RO), (METER.BUS.STAT.INT i, .RO), (METER.BUS.STAT.INVALID i, .RO), (METER.BUS.STAT.EVENTS i, .RC)] },
  { base := 0xD0010C, dims := [(4, 0x40), (3, 0x4)], wide := false,
    flds := fun i j _ => [(METER.BUS.URMS i j, .RO)] },
  { base := 0xD00118, dims := [(4, 0x40)], wide := false,
    flds := fun i _ _ => [(METER.BUS.FREQ i, .RO)] },
  { base := 0xD0011C, dims := [(4, 0x40)], wide := false,
    flds := fun i _ _ => [(METER.BUS.FREQ10 i, .RO)] },
  { base := 0xD00120, dims := [(4, 0x40), (3, 0x4)], wide := false,
    flds := fun i j _ => [(METER.BUS.ANG i j, .RO)] },
  { base := 0xD00400, dims := [(60, 0x20)], wide := false,
    flds := fun i _ _ => [(METER.CH.SCALE i, .RWL)] },
  { base := 0xD00404, dims := [(60, 0x20)], wide := false,
    flds := fun i _ _ => [(METER.CH.GAIN i, .RWL)] },
  { base := 0xD00408, dims := [(60, 0x20)], wide := false,
    flds := fun i _ _ => [(METER.CH.PHASE i, .RWL)] },
  { base := 0xD0040C, dims := [(60, 0x20)], wide := false,
    flds := fun i _ _ => [(METER.CH.CFG.POL i, .RWL), (METER.CH.CFG.CAL i, .RO), (METER.CH.CFG.INVALID i, .RO), (METER.CH.CFG.TABLE i, .RWL)] },
  { base := 0xD01000, dims := [(16, 0x100)], wide := false,
    flds := fun i _ _ => [(METER.FDR.CFG.EN i, .RWL), (METER.FDR.CFG.BUS i, .RWL)] },
  { base := 0xD01004, dims := [(16, 0x100)], wide := false,
    flds := fun i _ _ => [(METER.FDR.ISTART i, .RWL)] },
  { base := 0xD01008, dims := [(16, 0x100)], wide := false,
    flds := fun i _ _ => [(METER.FDR.STAT.P_VALID i, .RO), (METER.FDR.STAT.CAL i, .RO), (METER.FDR.STAT.CARRIED i, .RO), (METER.FDR.STAT.GAP i, .RO), (METER.FDR.STAT.WRAP i, .W1C), (METER.FDR.STAT.QUAD i, .RO)] },
  { base := 0xD01010, dims := [(16, 0x100), (3, 0x4)], wide := false,
    flds := fun i j _ => [(METER.FDR.IRMS i j, .RO)] },
  { base := 0xD0101C, dims := [(16, 0x100), (3, 0x4)], wide := false,
    flds := fun i j _ => [(METER.FDR.P i j, .RO)] },
  { base := 0xD01028, dims := [(16, 0x100)], wide := false,
    flds := fun i _ _ => [(METER.FDR.PT i, .RO)] } ]

/-- The registers of this file, part 1: base address, array dimensions and fields with their access codes (R7). -/
def regsMeter1 : List RegDesc := [
  { base := 0xD0102C, dims := [(16, 0x100)], wide := false,
    flds := fun i _ _ => [(METER.FDR.QT i, .RO)] },
  { base := 0xD01030, dims := [(16, 0x100)], wide := false,
    flds := fun i _ _ => [(METER.FDR.ST i, .RO)] },
  { base := 0xD01034, dims := [(16, 0x100)], wide := false,
    flds := fun i _ _ => [(METER.FDR.PF i, .RO)] },
  { base := 0xD01038, dims := [(16, 0x100), (3, 0x4)], wide := false,
    flds := fun i j _ => [(METER.FDR.ANG i j, .RO)] },
  { base := 0xD01048, dims := [(16, 0x100), (8, 0x8)], wide := true,
    flds := fun i j _ => [(METER.FDR.E i j, .RO)] },
  { base := 0xD01088, dims := [(16, 0x100), (8, 0x4)], wide := false,
    flds := fun i j _ => [(METER.FDR.SNAP i j, .RO)] },
  { base := 0xD010A8, dims := [(16, 0x100), (8, 0x4)], wide := false,
    flds := fun i j _ => [(METER.FDR.WRAPCNT i j, .RO)] },
  { base := 0xD03000, dims := [(32, 0x80)], wide := false,
    flds := fun i _ _ => [(METER.CTT.CFG.CFG_ERR i, .RO), (METER.CTT.CFG.TEMP_DEF i, .RO), (METER.CTT.CFG.TEMP_RANGE i, .RO), (METER.CTT.CFG.FIXED i, .RWL), (METER.CTT.CFG.SAR i, .RWL), (METER.CTT.CFG.ENTRY i, .RWL), (METER.CTT.CFG.N i, .RWL)] },
  { base := 0xD03004, dims := [(32, 0x80)], wide := false,
    flds := fun i _ _ => [(METER.CTT.TDEF i, .RWL)] },
  { base := 0xD03008, dims := [(32, 0x80)], wide := false,
    flds := fun i _ _ => [(METER.CTT.TEMP i, .RO)] },
  { base := 0xD03010, dims := [(32, 0x80), (8, 0xc), (3, 0x4)], wide := false,
    flds := fun i j k => [(METER.CTT.POINT i j k, .RWL)] },
  { base := 0xD04000, dims := [(32, 0x10)], wide := false,
    flds := fun i _ _ => [(METER.POUT.CFG.EN i, .RWL), (METER.POUT.CFG.FDR i, .RWL), (METER.POUT.CFG.REG i, .RWL), (METER.POUT.CFG.WIDTH_MS i, .RWL)] },
  { base := 0xD04004, dims := [(32, 0x10)], wide := false,
    flds := fun i _ _ => [(METER.POUT.CONST i, .RWL)] },
  { base := 0xD04008, dims := [(32, 0x10)], wide := false,
    flds := fun i _ _ => [(METER.POUT.RES i, .RO)] },
  { base := 0xD0400C, dims := [(32, 0x10)], wide := false,
    flds := fun i _ _ => [(METER.POUT.STAT.OVF i, .W1C), (METER.POUT.STAT.BACKLOG i, .RO)] },
  { base := 0xD04200, dims := [(4, 0x10)], wide := false,
    flds := fun i _ _ => [(METER.DTF.CFG.EN i, .RWL), (METER.DTF.CFG.FDR i, .RWL), (METER.DTF.CFG.QTY i, .RWL), (METER.DTF.CFG.CLAMP i, .W1C)] },
  { base := 0xD04204, dims := [(4, 0x10)], wide := false,
    flds := fun i _ _ => [(METER.DTF.CONST i, .RWL)] },
  { base := 0xD04208, dims := [(4, 0x10)], wide := false,
    flds := fun i _ _ => [(METER.DTF.FREQ i, .RO)] },
  { base := 0xD08000, dims := [], wide := false,
    flds := fun _ _ _ => [(METER.HEAT_CFG.EN, .RWL), (METER.HEAT_CFG.SIGN, .RWL), (METER.HEAT_CFG.IVL, .RWL), (METER.HEAT_CFG.KEY_SLOT, .RWL), (METER.HEAT_CFG.BILL_HOUR, .RWL), (METER.HEAT_CFG.BILL_DAY, .RWL)] },
  { base := 0xD08004, dims := [], wide := false,
    flds := fun _ _ _ => [(METER.HEAT_STAT.RUNNING, .RO), (METER.HEAT_STAT.IN_ERROR, .RO)] } ]

/-- The registers of this file, part 2: base address, array dimensions and fields with their access codes (R7). -/
def regsMeter2 : List RegDesc := [
  { base := 0xD10000, dims := [(256, 0x80)], wide := false,
    flds := fun i _ _ => [(METER.HM.CFG.EN i, .RWL), (METER.HM.CFG.FKIND i, .RWL), (METER.HM.CFG.LOC i, .RWL), (METER.HM.CFG.DIR_EN i, .RWL), (METER.HM.CFG.FORCED_OK i, .RWL), (METER.HM.CFG.PERIOD i, .RWL)] },
  { base := 0xD10004, dims := [(256, 0x80)], wide := false,
    flds := fun i _ _ => [(METER.HM.FSRC.DIRBIT i, .RWL), (METER.HM.FSRC.FWORD i, .RWL)] },
  { base := 0xD10008, dims := [(256, 0x80)], wide := false,
    flds := fun i _ _ => [(METER.HM.TSRC.TS_WORD i, .RWL), (METER.HM.TSRC.TR_WORD i, .RWL)] },
  { base := 0xD1000C, dims := [(256, 0x80)], wide := false,
    flds := fun i _ _ => [(METER.HM.VPP i, .RWL)] },
  { base := 0xD10010, dims := [(256, 0x80)], wide := false,
    flds := fun i _ _ => [(METER.HM.QCUT i, .RWL)] },
  { base := 0xD10014, dims := [(256, 0x80)], wide := false,
    flds := fun i _ _ => [(METER.HM.PRESS i, .RWL)] },
  { base := 0xD10018, dims := [(256, 0x80)], wide := false,
    flds := fun i _ _ => [(METER.HM.DT_MIN i, .RWL)] },
  { base := 0xD1001C, dims := [(256, 0x80)], wide := false,
    flds := fun i _ _ => [(METER.HM.TLIM.TMAX i, .RWL), (METER.HM.TLIM.TMIN i, .RWL)] },
  { base := 0xD10020, dims := [(256, 0x80)], wide := false,
    flds := fun i _ _ => [(METER.HM.STAT.VALID i, .RO), (METER.HM.STAT.ERR i, .RO), (METER.HM.STAT.FORCED i, .RO), (METER.HM.STAT.CARRIED i, .RO), (METER.HM.STAT.REVFLOW i, .RO), (METER.HM.STAT.COLD i, .RO), (METER.HM.STAT.CFG_ERR i, .RO), (METER.HM.STAT.REVERSALS i, .RC), (METER.HM.STAT.ERRBITS i, .RO)] },
  { base := 0xD10024, dims := [(256, 0x80)], wide := false,
    flds := fun i _ _ => [(METER.HM.FLOW i, .RO)] },
  { base := 0xD10028, dims := [(256, 0x80)], wide := false,
    flds := fun i _ _ => [(METER.HM.POWER i, .RO)] },
  { base := 0xD1002C, dims := [(256, 0x80)], wide := false,
    flds := fun i _ _ => [(METER.HM.TS i, .RO)] },
  { base := 0xD10030, dims := [(256, 0x80)], wide := false,
    flds := fun i _ _ => [(METER.HM.TR i, .RO)] },
  { base := 0xD10034, dims := [(256, 0x80)], wide := false,
    flds := fun i _ _ => [(METER.HM.DH i, .RO)] },
  { base := 0xD10038, dims := [(256, 0x80)], wide := false,
    flds := fun i _ _ => [(METER.HM.RHO i, .RO)] },
  { base := 0xD1003C, dims := [(256, 0x80)], wide := false,
    flds := fun i _ _ => [(METER.HM.ERRTIME i, .RO)] },
  { base := 0xD10040, dims := [(256, 0x80), (4, 0x8)], wide := true,
    flds := fun i j _ => [(METER.HM.E i j, .RO)] },
  { base := 0xD10060, dims := [(256, 0x80), (2, 0x8)], wide := true,
    flds := fun i j _ => [(METER.HM.V i j, .RO)] } ]

end Sys2Proof.Machine
end

