-- ==== Sys2Proof/Machine/RegsSolv.lean ====
section
/-! DEFINITION. The register fields of the blocks MODEL, SOLV: each field under the name BLOCK.REGISTER.FIELD of the
manual, with its BAR0 address, its bits and its reset value, and the register descriptions built from them. -/
namespace Sys2Proof.Machine

-- R359, spec/13_estimator_and_transport.md
def MODEL.EST_CFG.EN : FRef := ⟨0x1200000, 31, 31, 1⟩
def MODEL.EST_CFG.DEADLINE_MS : FRef := ⟨0x1200000, 30, 21, 600⟩
def MODEL.EST_CFG.GATHER_MS : FRef := ⟨0x1200000, 20, 12, 10⟩
def MODEL.EST_CFG.ITER_MAX : FRef := ⟨0x1200000, 11, 8, 8⟩
def MODEL.EST_CFG.SUBST_F : FRef := ⟨0x1200000, 7, 0, 10⟩

-- R359, spec/13_estimator_and_transport.md
def MODEL.EST_BD.BD_THR : FRef := ⟨0x1200004, 31, 24, 40⟩
def MODEL.EST_BD.BD_MAX : FRef := ⟨0x1200004, 23, 16, 8⟩
def MODEL.EST_BD.BD_PERSIST : FRef := ⟨0x1200004, 15, 8, 10⟩

-- R359, spec/13_estimator_and_transport.md
def MODEL.EST_AGE.STALE_MS : FRef := ⟨0x1200008, 31, 16, 1500⟩
def MODEL.EST_AGE.SESS_AGE : FRef := ⟨0x1200008, 15, 8, 5⟩

-- R359, spec/13_estimator_and_transport.md
def MODEL.TOL_X : FRef := ⟨0x120000C, 31, 0, 0x3A83126F⟩

-- R359, spec/13_estimator_and_transport.md
def MODEL.VIRT_SIGMA : FRef := ⟨0x1200010, 31, 0, 0x3A83126F⟩

-- R359, spec/13_estimator_and_transport.md
def MODEL.MIX_SIGMA : FRef := ⟨0x1200014, 31, 0, 0x3F800000⟩

-- R359, spec/13_estimator_and_transport.md
def MODEL.M_ZERO : FRef := ⟨0x1200018, 31, 0, 0x3C23D70A⟩

-- R359, spec/13_estimator_and_transport.md
def MODEL.RHO_REF : FRef := ⟨0x120001C, 31, 0, 0x44747333⟩

-- R359, spec/13_estimator_and_transport.md
def MODEL.C_VOL : FRef := ⟨0x1200020, 31, 0, 0x40833333⟩

-- R359, spec/13_estimator_and_transport.md
def MODEL.TGROUND : FRef := ⟨0x1200024, 31, 0, 0x41200000⟩

-- R359, spec/13_estimator_and_transport.md
def MODEL.EST_STAT.STATUS : FRef := ⟨0x1200040, 31, 16, 0⟩
def MODEL.EST_STAT.ITER : FRef := ⟨0x1200040, 15, 12, 0⟩
def MODEL.EST_STAT.SKIPS : FRef := ⟨0x1200040, 7, 0, 0⟩

-- R359, spec/13_estimator_and_transport.md
def MODEL.EST_INFO.BAD : FRef := ⟨0x1200044, 31, 24, 0⟩
def MODEL.EST_INFO.UNOBS : FRef := ⟨0x1200044, 15, 0, 0⟩

-- R359, spec/13_estimator_and_transport.md
def MODEL.EST_QUAR.NONCONV : FRef := ⟨0x1200048, 31, 16, 0⟩
def MODEL.EST_QUAR.QUAR : FRef := ⟨0x1200048, 15, 0, 0⟩

-- R359, spec/13_estimator_and_transport.md
def MODEL.MODEL_ID.ACTIVE : FRef := ⟨0x1200050, 31, 0, 0⟩

-- R359, spec/13_estimator_and_transport.md
def MODEL.STAGED_ID.STAGED : FRef := ⟨0x1200054, 31, 0, 0⟩

-- R359, spec/13_estimator_and_transport.md
def MODEL.MODEL_STAT.ANALYSING : FRef := ⟨0x1200058, 31, 31, 0⟩
def MODEL.MODEL_STAT.ACT_PENDING : FRef := ⟨0x1200058, 30, 30, 0⟩

-- R359, spec/13_estimator_and_transport.md
def MODEL.MODEL_CNT0.BRANCHES : FRef := ⟨0x120005C, 31, 16, 0⟩
def MODEL.MODEL_CNT0.NODES : FRef := ⟨0x120005C, 15, 0, 0⟩

-- R359, spec/13_estimator_and_transport.md
def MODEL.MODEL_CNT1.MEAS : FRef := ⟨0x1200060, 15, 0, 0⟩

-- R359, spec/13_estimator_and_transport.md
def MODEL.TDE_CFG.EN : FRef := ⟨0x1200080, 31, 31, 1⟩
def MODEL.TDE_CFG.MERGE_DT : FRef := ⟨0x1200080, 30, 24, 5⟩
def MODEL.TDE_CFG.FRONT_DT : FRef := ⟨0x1200080, 23, 16, 20⟩
def MODEL.TDE_CFG.HOLD_FLOW : FRef := ⟨0x1200080, 15, 8, 10⟩
def MODEL.TDE_CFG.WAIT : FRef := ⟨0x1200080, 7, 0, 70⟩

-- R359, spec/13_estimator_and_transport.md
def MODEL.TDE_STAT.STATE : FRef := ⟨0x1200084, 31, 29, 0⟩
def MODEL.TDE_STAT.POOL_EXH : FRef := ⟨0x1200084, 28, 28, 0⟩
def MODEL.TDE_STAT.POOL_LOW : FRef := ⟨0x1200084, 27, 27, 0⟩
def MODEL.TDE_STAT.REVERSALS : FRef := ⟨0x1200084, 15, 8, 0⟩
def MODEL.TDE_STAT.SKIPS : FRef := ⟨0x1200084, 7, 0, 0⟩

-- R359, spec/13_estimator_and_transport.md
def MODEL.TDE_POOL.IN_USE : FRef := ⟨0x1200088, 19, 0, 0⟩

-- R359, spec/13_estimator_and_transport.md
def MODEL.TDE_SEG.SEEDED : FRef := ⟨0x120008C, 31, 16, 0⟩
def MODEL.TDE_SEG.SEGMENTS : FRef := ⟨0x120008C, 15, 0, 0⟩

-- R392, spec/14_dispatch_solver.md
def SOLV.PART_CFG.E_TILES : FRef := ⟨0x1000000, 27, 24, 2⟩
def SOLV.PART_CFG.D_TILES : FRef := ⟨0x1000000, 23, 20, 5⟩
def SOLV.PART_CFG.F_TILES : FRef := ⟨0x1000000, 19, 16, 1⟩
def SOLV.PART_CFG.SRAM_E : FRef := ⟨0x1000000, 11, 8, 4⟩
def SOLV.PART_CFG.SRAM_D : FRef := ⟨0x1000000, 7, 4, 5⟩
def SOLV.PART_CFG.SRAM_F : FRef := ⟨0x1000000, 3, 0, 3⟩

-- R392, spec/14_dispatch_solver.md
def SOLV.BW_CFG.BW_E : FRef := ⟨0x1000004, 15, 8, 30⟩
def SOLV.BW_CFG.BW_F : FRef := ⟨0x1000004, 7, 0, 10⟩

-- R392, spec/14_dispatch_solver.md
def SOLV.TILE_STAT.OUT : FRef := ⟨0x1000008, 31, 24, 0⟩
def SOLV.TILE_STAT.OWNER : FRef := ⟨0x1000008, 15, 0, 0⟩

-- R392, spec/14_dispatch_solver.md
def SOLV.PLAN_CFG.PLAN_S : FRef := ⟨0x1000010, 31, 22, 60⟩
def SOLV.PLAN_CFG.PLAN_WAIT : FRef := ⟨0x1000010, 21, 16, 9⟩
def SOLV.PLAN_CFG.D_DL : FRef := ⟨0x1000010, 15, 0, 0⟩

-- R392, spec/14_dispatch_solver.md
def SOLV.F_CFG.F_DL : FRef := ⟨0x1000014, 31, 24, 80⟩

-- R392, spec/14_dispatch_solver.md
def SOLV.SD_CFG.EN : FRef := ⟨0x1000400, 31, 31, 1⟩
def SOLV.SD_CFG.USE_DAYOLD : FRef := ⟨0x1000400, 30, 30, 1⟩
def SOLV.SD_CFG.SD_LEAD : FRef := ⟨0x1000400, 15, 8, 1⟩
def SOLV.SD_CFG.RAMP_MS : FRef := ⟨0x1000400, 7, 0, 10⟩

-- R392, spec/14_dispatch_solver.md
def SOLV.SD_STAT.ENTRIES : FRef := ⟨0x1000404, 31, 20, 0⟩
def SOLV.SD_STAT.HOLDS : FRef := ⟨0x1000404, 15, 8, 0⟩
def SOLV.SD_STAT.CLAMPS : FRef := ⟨0x1000404, 7, 0, 0⟩

-- R392, spec/14_dispatch_solver.md
def SOLV.PART.CTRL.EN (i : Nat) : FRef := ⟨0x1000100 + 0x80 * i, 31, 31, 1⟩
def SOLV.PART.CTRL.WS_INTER (i : Nat) : FRef := ⟨0x1000100 + 0x80 * i, 30, 30, 1⟩
def SOLV.PART.CTRL.PUB_DUALS (i : Nat) : FRef := ⟨0x1000100 + 0x80 * i, 29, 29, 1⟩
def SOLV.PART.CTRL.ITER_MAX (i : Nat) : FRef := ⟨0x1000100 + 0x80 * i, 15, 8, 50⟩
def SOLV.PART.CTRL.REFINE_MAX (i : Nat) : FRef := ⟨0x1000100 + 0x80 * i, 7, 4, 3⟩

-- R392, spec/14_dispatch_solver.md
def SOLV.PART.TOL_P (i : Nat) : FRef := ⟨0x1000104 + 0x80 * i, 31, 0, 0x358637BD⟩

-- R392, spec/14_dispatch_solver.md
def SOLV.PART.TOL_D (i : Nat) : FRef := ⟨0x1000108 + 0x80 * i, 31, 0, 0x358637BD⟩

-- R392, spec/14_dispatch_solver.md
def SOLV.PART.TOL_GAP (i : Nat) : FRef := ⟨0x100010C + 0x80 * i, 31, 0, 0x358637BD⟩

-- R392, spec/14_dispatch_solver.md
def SOLV.PART.TOL_DELIVER (i : Nat) : FRef := ⟨0x1000110 + 0x80 * i, 31, 0, 0x38D1B717⟩

-- R392, spec/14_dispatch_solver.md
def SOLV.PART.TOL_INF (i : Nat) : FRef := ⟨0x1000114 + 0x80 * i, 31, 0, 0x322BCC77⟩

-- R392, spec/14_dispatch_solver.md
def SOLV.PART.REG_X (i : Nat) : FRef := ⟨0x1000118 + 0x80 * i, 31, 0, 0x3089705F⟩

-- R392, spec/14_dispatch_solver.md
def SOLV.PART.REG_Z (i : Nat) : FRef := ⟨0x100011C + 0x80 * i, 31, 0, 0x3089705F⟩

-- R392, spec/14_dispatch_solver.md
def SOLV.PART.STEP_FRAC (i : Nat) : FRef := ⟨0x1000120 + 0x80 * i, 31, 0, 0x3F7D70A4⟩

-- R392, spec/14_dispatch_solver.md
def SOLV.PART.WS_PUSH (i : Nat) : FRef := ⟨0x1000124 + 0x80 * i, 31, 0, 0x3A83126F⟩

-- R392, spec/14_dispatch_solver.md
def SOLV.PART.STAT.STATE (i : Nat) : FRef := ⟨0x1000140 + 0x80 * i, 31, 29, 0⟩
def SOLV.PART.STAT.PENDING_REARM (i : Nat) : FRef := ⟨0x1000140 + 0x80 * i, 28, 28, 0⟩
def SOLV.PART.STAT.MINOFF (i : Nat) : FRef := ⟨0x1000140 + 0x80 * i, 27, 27, 0⟩
def SOLV.PART.STAT.ITER (i : Nat) : FRef := ⟨0x1000140 + 0x80 * i, 15, 8, 0⟩
def SOLV.PART.STAT.PENDING (i : Nat) : FRef := ⟨0x1000140 + 0x80 * i, 7, 0, 0⟩

-- R392, spec/14_dispatch_solver.md
def SOLV.PART.LAST.STATUS (i : Nat) : FRef := ⟨0x1000144 + 0x80 * i, 31, 16, 0⟩
def SOLV.PART.LAST.REASON (i : Nat) : FRef := ⟨0x1000144 + 0x80 * i, 15, 8, 0⟩

-- R392, spec/14_dispatch_solver.md
def SOLV.PART.ACTIVE (i : Nat) : FRef := ⟨0x1000148 + 0x80 * i, 31, 0, 0⟩

-- R392, spec/14_dispatch_solver.md
def SOLV.PART.STAGED (i : Nat) : FRef := ⟨0x100014C + 0x80 * i, 31, 0, 0⟩

-- R392, spec/14_dispatch_solver.md
def SOLV.PART.CNT.EARLY_CNT (i : Nat) : FRef := ⟨0x1000150 + 0x80 * i, 31, 24, 0⟩
def SOLV.PART.CNT.DAYOLD_CNT (i : Nat) : FRef := ⟨0x1000150 + 0x80 * i, 23, 16, 0⟩
def SOLV.PART.CNT.ILL_CNT (i : Nat) : FRef := ⟨0x1000150 + 0x80 * i, 15, 8, 0⟩

-- R392, spec/14_dispatch_solver.md
def SOLV.PART.DUR (i : Nat) : FRef := ⟨0x1000154 + 0x80 * i, 31, 0, 0⟩

/-- The registers of this file, part 0: base address, array dimensions and fields with their access codes (R7). -/
def regsSolv0 : List RegDesc := [
  { base := 0x1200000, dims := [], wide := false,
    flds := fun _ _ _ => [(MODEL.EST_CFG.EN, .RWL), (MODEL.EST_CFG.DEADLINE_MS, .RWL), (MODEL.EST_CFG.GATHER_MS, .RWL), (MODEL.EST_CFG.ITER_MAX, .RWL), (MODEL.EST_CFG.SUBST_F, .RWL)] },
  { base := 0x1200004, dims := [], wide := false,
    flds := fun _ _ _ => [(MODEL.EST_BD.BD_THR, .RWL), (MODEL.EST_BD.BD_MAX, .RWL), (MODEL.EST_BD.BD_PERSIST, .RWL)] },
  { base := 0x1200008, dims := [], wide := false,
    flds := fun _ _ _ => [(MODEL.EST_AGE.STALE_MS, .RWL), (MODEL.EST_AGE.SESS_AGE, .RWL)] },
  { base := 0x120000C, dims := [], wide := false,
    flds := fun _ _ _ => [(MODEL.TOL_X, .RWL)] },
  { base := 0x1200010, dims := [], wide := false,
    flds := fun _ _ _ => [(MODEL.VIRT_SIGMA, .RWL)] },
  { base := 0x1200014, dims := [], wide := false,
    flds := fun _ _ _ => [(MODEL.MIX_SIGMA, .RWL)] },
  { base := 0x1200018, dims := [], wide := false,
    flds := fun _ _ _ => [(MODEL.M_ZERO, .RWL)] },
  { base := 0x120001C, dims := [], wide := false,
    flds := fun _ _ _ => [(MODEL.RHO_REF, .RWL)] },
  { base := 0x1200020, dims := [], wide := false,
    flds := fun _ _ _ => [(MODEL.C_VOL, .RWL)] },
  { base := 0x1200024, dims := [], wide := false,
    flds := fun _ _ _ => [(MODEL.TGROUND, .RWL)] },
  { base := 0x1200040, dims := [], wide := false,
    flds := fun _ _ _ => [(MODEL.EST_STAT.STATUS, .RO), (MODEL.EST_STAT.ITER, .RO), (MODEL.EST_STAT.SKIPS, .RC)] },
  { base := 0x1200044, dims := [], wide := false,
    flds := fun _ _ _ => [(MODEL.EST_INFO.BAD, .RO), (MODEL.EST_INFO.UNOBS, .RO)] },
  { base := 0x1200048, dims := [], wide := false,
    flds := fun _ _ _ => [(MODEL.EST_QUAR.NONCONV, .RC), (MODEL.EST_QUAR.QUAR, .RO)] },
  { base := 0x1200050, dims := [], wide := false,
    flds := fun _ _ _ => [(MODEL.MODEL_ID.ACTIVE, .RO)] },
  { base := 0x1200054, dims := [], wide := false,
    flds := fun _ _ _ => [(MODEL.STAGED_ID.STAGED, .RO)] },
  { base := 0x1200058, dims := [], wide := false,
    flds := fun _ _ _ => [(MODEL.MODEL_STAT.ANALYSING, .RO), (MODEL.MODEL_STAT.ACT_PENDING, .RO)] },
  { base := 0x120005C, dims := [], wide := false,
    flds := fun _ _ _ => [(MODEL.MODEL_CNT0.BRANCHES, .RO), (MODEL.MODEL_CNT0.NODES, .RO)] },
  { base := 0x1200060, dims := [], wide := false,
    flds := fun _ _ _ => [(MODEL.MODEL_CNT1.MEAS, .RO)] },
  { base := 0x1200080, dims := [], wide := false,
    flds := fun _ _ _ => [(MODEL.TDE_CFG.EN, .RWL), (MODEL.TDE_CFG.MERGE_DT, .RWL), (MODEL.TDE_CFG.FRONT_DT, .RWL), (MODEL.TDE_CFG.HOLD_FLOW, .RWL), (MODEL.TDE_CFG.WAIT, .RWL)] },
  { base := 0x1200084, dims := [], wide := false,
    flds := fun _ _ _ => [(MODEL.TDE_STAT.STATE, .RO), (MODEL.TDE_STAT.POOL_EXH, .W1C), (MODEL.TDE_STAT.POOL_LOW, .RO), (MODEL.TDE_STAT.REVERSALS, .RC), (MODEL.TDE_STAT.SKIPS, .RC)] } ]

/-- The registers of this file, part 1: base address, array dimensions and fields with their access codes (R7). -/
def regsSolv1 : List RegDesc := [
  { base := 0x1200088, dims := [], wide := false,
    flds := fun _ _ _ => [(MODEL.TDE_POOL.IN_USE, .RO)] },
  { base := 0x120008C, dims := [], wide := false,
    flds := fun _ _ _ => [(MODEL.TDE_SEG.SEEDED, .RO), (MODEL.TDE_SEG.SEGMENTS, .RO)] },
  { base := 0x1000000, dims := [], wide := false,
    flds := fun _ _ _ => [(SOLV.PART_CFG.E_TILES, .RWL), (SOLV.PART_CFG.D_TILES, .RWL), (SOLV.PART_CFG.F_TILES, .RWL), (SOLV.PART_CFG.SRAM_E, .RWL), (SOLV.PART_CFG.SRAM_D, .RWL), (SOLV.PART_CFG.SRAM_F, .RWL)] },
  { base := 0x1000004, dims := [], wide := false,
    flds := fun _ _ _ => [(SOLV.BW_CFG.BW_E, .RWL), (SOLV.BW_CFG.BW_F, .RWL)] },
  { base := 0x1000008, dims := [], wide := false,
    flds := fun _ _ _ => [(SOLV.TILE_STAT.OUT, .RO), (SOLV.TILE_STAT.OWNER, .RO)] },
  { base := 0x1000010, dims := [], wide := false,
    flds := fun _ _ _ => [(SOLV.PLAN_CFG.PLAN_S, .RWL), (SOLV.PLAN_CFG.PLAN_WAIT, .RWL), (SOLV.PLAN_CFG.D_DL, .RWL)] },
  { base := 0x1000014, dims := [], wide := false,
    flds := fun _ _ _ => [(SOLV.F_CFG.F_DL, .RWL)] },
  { base := 0x1000400, dims := [], wide := false,
    flds := fun _ _ _ => [(SOLV.SD_CFG.EN, .RWL), (SOLV.SD_CFG.USE_DAYOLD, .RWL), (SOLV.SD_CFG.SD_LEAD, .RWL), (SOLV.SD_CFG.RAMP_MS, .RWL)] },
  { base := 0x1000404, dims := [], wide := false,
    flds := fun _ _ _ => [(SOLV.SD_STAT.ENTRIES, .RO), (SOLV.SD_STAT.HOLDS, .RC), (SOLV.SD_STAT.CLAMPS, .RC)] },
  { base := 0x1000100, dims := [(2, 0x80)], wide := false,
    flds := fun i _ _ => [(SOLV.PART.CTRL.EN i, .RWL), (SOLV.PART.CTRL.WS_INTER i, .RWL), (SOLV.PART.CTRL.PUB_DUALS i, .RWL), (SOLV.PART.CTRL.ITER_MAX i, .RWL), (SOLV.PART.CTRL.REFINE_MAX i, .RWL)] },
  { base := 0x1000104, dims := [(2, 0x80)], wide := false,
    flds := fun i _ _ => [(SOLV.PART.TOL_P i, .RWL)] },
  { base := 0x1000108, dims := [(2, 0x80)], wide := false,
    flds := fun i _ _ => [(SOLV.PART.TOL_D i, .RWL)] },
  { base := 0x100010C, dims := [(2, 0x80)], wide := false,
    flds := fun i _ _ => [(SOLV.PART.TOL_GAP i, .RWL)] },
  { base := 0x1000110, dims := [(2, 0x80)], wide := false,
    flds := fun i _ _ => [(SOLV.PART.TOL_DELIVER i, .RWL)] },
  { base := 0x1000114, dims := [(2, 0x80)], wide := false,
    flds := fun i _ _ => [(SOLV.PART.TOL_INF i, .RWL)] },
  { base := 0x1000118, dims := [(2, 0x80)], wide := false,
    flds := fun i _ _ => [(SOLV.PART.REG_X i, .RWL)] },
  { base := 0x100011C, dims := [(2, 0x80)], wide := false,
    flds := fun i _ _ => [(SOLV.PART.REG_Z i, .RWL)] },
  { base := 0x1000120, dims := [(2, 0x80)], wide := false,
    flds := fun i _ _ => [(SOLV.PART.STEP_FRAC i, .RWL)] },
  { base := 0x1000124, dims := [(2, 0x80)], wide := false,
    flds := fun i _ _ => [(SOLV.PART.WS_PUSH i, .RWL)] },
  { base := 0x1000140, dims := [(2, 0x80)], wide := false,
    flds := fun i _ _ => [(SOLV.PART.STAT.STATE i, .RO), (SOLV.PART.STAT.PENDING_REARM i, .RO), (SOLV.PART.STAT.MINOFF i, .RO), (SOLV.PART.STAT.ITER i, .RO), (SOLV.PART.STAT.PENDING i, .RO)] } ]

/-- The registers of this file, part 2: base address, array dimensions and fields with their access codes (R7). -/
def regsSolv2 : List RegDesc := [
  { base := 0x1000144, dims := [(2, 0x80)], wide := false,
    flds := fun i _ _ => [(SOLV.PART.LAST.STATUS i, .RO), (SOLV.PART.LAST.REASON i, .RO)] },
  { base := 0x1000148, dims := [(2, 0x80)], wide := false,
    flds := fun i _ _ => [(SOLV.PART.ACTIVE i, .RO)] },
  { base := 0x100014C, dims := [(2, 0x80)], wide := false,
    flds := fun i _ _ => [(SOLV.PART.STAGED i, .RO)] },
  { base := 0x1000150, dims := [(2, 0x80)], wide := false,
    flds := fun i _ _ => [(SOLV.PART.CNT.EARLY_CNT i, .RC), (SOLV.PART.CNT.DAYOLD_CNT i, .RC), (SOLV.PART.CNT.ILL_CNT i, .RC)] },
  { base := 0x1000154, dims := [(2, 0x80)], wide := false,
    flds := fun i _ _ => [(SOLV.PART.DUR i, .RO)] } ]

end Sys2Proof.Machine
end

