-- ==== Sys2Proof/Machine/RegMap.lean ====
section
/-! DEFINITION. The register map of BAR0: every register the manual gives, as one list. -/
namespace Sys2Proof.Machine

/-- Every register of BAR0 that is stored field by field (R3, R37). Windows that show memory are read in Machine/Bar0.lean. -/
def regMap : List RegDesc :=
  regsGlb0 ++ regsHost0 ++ regsHost1 ++ regsHost2 ++ regsCrust0 ++ regsCrust1 ++ regsCrust2 ++ regsField0 ++ regsField1 ++ regsField2 ++ regsField3 ++ regsMeter0 ++ regsMeter1 ++ regsMeter2 ++ regsSolv0 ++ regsSolv1 ++ regsSolv2 ++ regsLane0 ++ regsLane1 ++ regsLane2 ++ regsLane3 ++ regsLane4 ++ regsKeys0

end Sys2Proof.Machine
end

