-- ==== Sys2Proof/Machine/Ops.lean ====
section
/-! DEFINITION. The named operations over the device that every unit uses: time stamps, free values, host memory,
recorder occurrences, events, ignored writes, rings, completions, interrupts, ring commands and Bench publications. -/
namespace Sys2Proof.Machine
open Sys2Proof

/-! ### Operating states and islands -/

/-- GLB.STATE.STATE: 1 STANDBY, 2 PROOF, 3 RUN, 4 KEEP-WARM, 5 RACK (R104). -/
def opState (d : Dev) : Nat := d.rd GLB.STATE.STATE

/-- The state of island n: 0 OFF, 1 STARTING, 2 ON, 3 STOPPING (R74). -/
def islState (d : Dev) (n : Nat) : Nat := d.rd (PWR.ISL_STAT.STATE n)

/-- CS holds the control die in reset: for a rail (R61), REFCLK (R75), a second Proof hang (R92) or a thermal trip (R86). -/
def PwrSt.heldDie (p : PwrSt) : Bool := p.heldRail || p.heldClk || p.heldHang || p.tripHold

/-- Island n works. CRUST always does; without main power, and while CS holds the control die in reset (R61, R75, R86, R92), nothing else
does; AON is not switched (R69), and any other island works only in ON (DEDUCED, log 6). -/
def islandOn (d : Dev) (n : Nat) : Bool :=
  n == 0 || (decide (2 ≤ opState d) && !d.pwr.heldDie && (n == 1 || islState d n == 2))

/-! ### Service time (R176, R177) -/

/-- Units of 2⁻³² ns in one second. -/
def secUnits : Nat := 1000000000 * 2 ^ 32

/-- Service-time seconds. -/
def svcSec (d : Dev) : Nat := d.time.svc / secUnits
/-- Service-time nanoseconds within the second. -/
def svcNs (d : Dev) : Nat := d.time.svc % secUnits / 2 ^ 32
/-- Service-time fraction in 1/65,536 ns. -/
def svcFrac (d : Dev) : Nat := d.time.svc % 2 ^ 32 / 2 ^ 16
/-- Service time in whole ns. -/
def svcTotalNs (d : Dev) : Nat := d.time.svc / 2 ^ 32
/-- Service time is VALID (R178). -/
def svcValid (d : Dev) : Bool := d.flag TIME.SVC.STAT.VALID
/-- Elapsed device time in µs. -/
def nowUs (d : Dev) : Nat := d.up / 1000

/-! ### Free values -/

/-- Take the next free value, cut to w bits: the value itself is unconstrained (log 1). -/
def takeFree (w : Nat) (d : Dev) : Nat × Dev := (Config.free d.free % 2 ^ w, { d with free := d.free + 1 })

/-! ### Host memory -/

/-- The key of address a in the memory port p reaches. -/
def memKey (p a : Nat) : Nat := p * 2 ^ 64 + a % 2 ^ 64

/-- Read one byte of host memory through port p. -/
def memByte (d : Dev) (p a : Nat) : Byte := lookD d.host.mem (memKey p a) 0

/-- Write one byte, keeping the canonical form (no entry holds 0). -/
def putByte (m : SMap Byte) (k : Nat) (b : Byte) : SMap Byte := if b = 0 then del k m else ins k b m

/-- Write bytes upwards from a key. -/
def putBytes : SMap Byte → Nat → Nat → List Byte → SMap Byte
  | m, _, _, [] => m
  | m, p, a, b :: t => putBytes (putByte m (memKey p a) b) p (a + 1) t

/-- Read n bytes from address a through port p. -/
def memRead (d : Dev) (p : Nat) : Nat → Nat → List Byte
  | _, 0 => []
  | a, n + 1 => memByte d p a :: memRead d p (a + 1) n

/-- Write bytes at address a through port p. -/
def memWrite (p a : Nat) (bs : List Byte) (d : Dev) : Dev :=
  { d with host := { d.host with mem := putBytes d.host.mem p a bs } }

/-! ### Recorder occurrences (R504, R507, R596) -/

/-- Hand an occurrence to the recorder's input queue, or drop and count it when the queue is full (R507). -/
def pushOcc (o : Occ) (d : Dev) : Dev :=
  if d.evr.queue.length < 1024 then { d with evr := { d.evr with queue := d.evr.queue ++ [o] } }
  else { d with evr := { d.evr with dropped := d.evr.dropped + 1 } }.bump EVR.STAT.QDROP

/-- An occurrence stamped with the present service time (R504). -/
def occOf (d : Dev) (unit num w0 w1 src : Nat) : Occ :=
  { unit := unit, num := num, w0 := w0 % 2 ^ 32, w1 := w1 % 2 ^ 32, src := src, sec := svcSec d % 2 ^ 48, ns := svcNs d,
    qual := if svcValid d then 0 else 1 }

/-- Record an occurrence of a unit (R596). -/
def record (unit num w0 w1 src : Nat) (d : Dev) : Dev := pushOcc (occOf d unit num w0 w1 src) d

/-! ### Ignored writes (R115) -/

/-- Count an ignored write of port p at address a, without its event. -/
def countIgn (p a : Nat) (d : Dev) : Dev :=
  (((d.bump GLB.IGN_WRITES.COUNT).wr GLB.IGN_WRITES.LAST_PORT p).wr GLB.IGN_ADDR.ADDR a)

/-! ### Rings -/

/-- Ring state: 0 STOPPED, 1 RUNNING, 2 STOPPING, 3 ERROR (R123). -/
def ringState (d : Dev) (n : Nat) : Nat := d.rd (HOST.RING.STAT.STATE n)
/-- Size in entries (R116). -/
def ringSize (d : Dev) (n : Nat) : Nat := 2 ^ d.rd (HOST.RING.CFG.LOG2SIZE n)
/-- Base address of ring n. -/
def ringBase (d : Dev) (n : Nat) : Nat := d.rd (HOST.RING.BASE_HI n) * 2 ^ 32 + d.rd (HOST.RING.BASE_LO.ADDR n) * 64
/-- The port that owns ring n (R110). -/
def ringPort (n : Nat) : Nat := n / 16
/-- KIND of ring n (R116). -/
def ringKind (d : Dev) (n : Nat) : Nat := d.rd (HOST.RING.CFG.KIND n)
/-- The controller's index of ring n (R117, R119). -/
def ringIdx (d : Dev) (n : Nat) : Nat := d.rd (HOST.RING.INDEX n)
/-- Dynamic state of ring n. -/
def ringSt (d : Dev) (n : Nat) : RingSt := lookD d.host.rings n {}
/-- Write the dynamic state of ring n. -/
def setRingSt (n : Nat) (r : RingSt) (d : Dev) : Dev := { d with host := { d.host with rings := ins n r d.host.rings } }
/-- The phase bit of entry i (R118). -/
def phaseOf (size i : Nat) : Nat := 1 - i / size % 2
/-- Entries the ring holds that the host has not consumed (R117). -/
def ringFill (d : Dev) (n : Nat) : Nat := (ringIdx d n + 2 ^ 32 - (ringSt d n).hostIdx % 2 ^ 32) % 2 ^ 32
/-- A ring the controller produces into has room for an entry. -/
def ringSpace (d : Dev) (n : Nat) : Bool := ringFill d n < ringSize d n
/-- Bytes of an entry of each kind (R116). -/
def entryBytes (kind : Nat) : Nat := if kind = 2 ∨ kind = 3 ∨ kind = 5 then 32 else 64
/-- Proof found the function of a code faulty, and it stays disabled until the next start (R95): the number of the function's detector, or 200 for TE. -/
def badFunc (d : Dev) (f : Nat) : Bool := d.boot.badFuncs.contains f
/-- Port p is enabled: STRAP_BIF 0b01 disables port 1, 0b11 port 0 (R47, R110), and Proof a port that fails (R95). -/
def portEnabled (d : Dev) (p : Nat) : Bool :=
  (if p = 0 then d.rd GLB.STRAP.BIF != 3 else d.rd GLB.STRAP.BIF != 1) && !badFunc d (102 + p)
/-- Port p is gone (R138). -/
def portIsGone (d : Dev) (p : Nat) : Bool := d.host.gone.contains p

/-- Send a message of vector v of port p, or set its pending bit while it is masked (R133). The table entry's words are
address low, address high, data and vector control, whose bit 0 masks; the mask is set until software clears it (PRESUMED, the
MSI-X standard; log 7). -/
def sendVector (p v : Nat) (d : Dev) : Dev :=
  let w (k : Nat) := lookD d.host.msix (256 * p + 4 * v + k) (if k = 3 then 1 else 0)
  if w 3 % 2 = 1 then { d with host := { d.host with pba := ins (64 * p + v) true d.host.pba } }
  else
    let d := memWrite p (w 0 + w 1 * 2 ^ 32) (toBytes 4 (w 2)) d
    { d with host := { d.host with msgs := ins (64 * p + v) (lookD d.host.msgs (64 * p + v) 0 + 1) d.host.msgs } }

/-- A counted entry was written to ring n: moderate its message (R133). A ring that the write has put into ERROR holds no entry to count (R129). -/
def moderate (n : Nat) (urgent : Bool) (d : Dev) : Dev :=
  if ringState d n = 3 then d else
  let r := ringSt d n
  let pend := r.pend + 1
  let first := if pend = 1 then nowUs d else r.first
  if d.rd (HOST.RING.MOD.MOD_COUNT n) + 1 ≤ pend ∨ urgent then
    sendVector (ringPort n) (d.rd (HOST.RING.CFG.VECTOR n)) (setRingSt n { r with pend := 0, first := first } d)
  else setRingSt n { r with pend := pend, first := first } d

/-- Address of the shadow page of port p (R119). -/
def shadowPage (d : Dev) (p : Nat) : Nat := d.rd (HOST.PORT.SH_HI p) * 2 ^ 32 + d.rd (HOST.PORT.SH_LO.ADDR p) * 4096
/-- Address of the doorbell page of port p (R119). -/
def doorbellPage (d : Dev) (p : Nat) : Nat := d.rd (HOST.PORT.DB_HI p) * 2 ^ 32 + d.rd (HOST.PORT.DB_LO.ADDR p) * 4096

/-- Write ring n's shadow entry: the controller's index and the epoch (R119). -/
def writeShadow (n : Nat) (d : Dev) : Dev :=
  memWrite (ringPort n) (shadowPage d (ringPort n) + 8 * n)
    (toBytes 4 (ringIdx d n) ++ toBytes 4 (d.rd (HOST.RING.EPOCH n))) d

/-- The unit that defines event source e (R14, and the event tables of each chapter). -/
def evUnit (e : Nat) : Nat :=
  if e ≤ 7 then 1 else if e ≤ 39 then 2 else if e ≤ 71 then 3 else if e ≤ 79 then 4 else if e ≤ 87 then 5
  else if e ≤ 103 then 6 else if e ≤ 111 then 7 else if e ≤ 119 then 8 else if e ≤ 127 then 9 else if e ≤ 135 then 11
  else if e ≤ 143 then 10 else if e ≤ 151 then 12 else if e ≤ 159 then 13 else if e ≤ 167 then 14 else 15

/-- Raise a detector: the FCU acts on it at the end of the step (R480, R483). -/
def raise (det detail : Nat) (d : Dev) : Dev :=
  { d with fcu := { d.fcu with todo := d.fcu.todo ++ [{ det := det, src := 1, detail := detail }] } }

/-- The commands in execution that `p` names complete inside the controller from here on: no completion is written (R123, R138). One that had ended
and only waited for room is over. -/
def loseWaits (p : Wait → Bool) (d : Dev) : Dev :=
  let room (w : Wait) : Bool := match w.kind with
    | .room _ => true
    | _ => false
  { d with host := { d.host with waits := (d.host.waits.filter fun w => !(p w && room w)).map fun w => if p w then { w with lost := true } else w } }

/-- A command of ring n, or one that waits for room in ring n. -/
def onRing (d : Dev) (n : Nat) (w : Wait) : Bool :=
  w.hdr.ring.val == n || match w.kind with
    | .room _ => d.rd (HOST.RING.CFG.CRING w.hdr.ring.val) == n
    | _ => false

/-- Ring n enters ERROR with a code; the event follows from the caller (R123). It writes nothing more. -/
def ringToError (n code : Nat) (d : Dev) : Dev :=
  loseWaits (onRing d n) (raise 104 n ((d.wr (HOST.RING.STAT.STATE n) 3).wr (HOST.RING.STAT.ERR_CODE n) code))

/-- Write an entry into ring n, in which the controller produces: the entry's bytes for its phase, the index, the shadow entry
(R117 to R119). A write that fails on the link puts the ring into ERROR with code 5 (R129). -/
def pushEntry (n : Nat) (mk : Nat → List Byte) (d : Dev) : Dev :=
  if d.host.ringDmaBad.contains n then ringToError n 5 d
  else
    let i := ringIdx d n
    let sz := ringSize d n
    let d := memWrite (ringPort n) (ringBase d n + i % sz * entryBytes (ringKind d n)) (mk (phaseOf sz i)) d
    writeShadow n (d.wr (HOST.RING.INDEX n) (i + 1))

/-- The bytes of an event entry (R135). -/
def eventBytes (d : Dev) (src unit seq w0 w1 : Nat) (overflow urgent : Bool) (phase : Nat) : List Byte :=
  toBytes 2 src ++ toBytes 1 unit ++ toBytes 1 (phase + 2 * b2n overflow + 4 * b2n urgent) ++ toBytes 4 seq ++
  toBytes 6 (svcSec d) ++ toBytes 2 (if overflow then 0 else unit % 16 * 4096 + 0x100 + src) ++ toBytes 4 (svcNs d) ++
  toBytes 4 0 ++ toBytes 4 w0 ++ toBytes 4 w1

/-- Deliver event source e to port p by its routing entry (R134). A drop on a full ring is counted in the ring; the answer
tells the caller that EV5 is due. A drop that counts in GLB.IGN_WRITES shows the routed port as LAST_PORT and its routing entry as IGN_ADDR: R134 names
neither (DESIGN CHOICE, log 87). -/
def deliverEvent (e w0 w1 p : Nat) (d : Dev) : Dev × Bool :=
  if ¬ d.flag (HOST.ROUTE.EN p e) ∨ ¬ islandOn d 12 then (d, false)
  else
    let n := d.rd (HOST.ROUTE.ERING p e)
    let urgent := d.flag (HOST.ROUTE.URGENT p e)
    if ringPort n ≠ p ∨ ringKind d n ≠ 3 ∨ ringState d n ≠ 1 then (countIgn p (0x104000 + 0x400 * p + 4 * e) d, false)
    else if ¬ ringSpace d n then
      let r := ringSt d n
      (setRingSt n { r with overflow := r.overflow + 1 } (d.bump (HOST.RING.STAT.DROPS n)), true)
    else
      let r := ringSt d n
      let d := setRingSt n { r with evSeq := r.evSeq + 1 } d
      (moderate n urgent (pushEntry n (eventBytes d e (evUnit e) (r.evSeq + 1) w0 w1 false urgent) d), false)

/-- The payload words of event source e that no rule gives: 1 word 0, 2 word 1, 3 both (log 10). -/
def evOpen (e : Nat) : Nat :=
  if e ≤ 39 then 3
  else if e ≤ 74 then 0
  else if e ≤ 79 then 3
  else if [84, 85, 88, 89, 95, 98, 105, 112, 113, 114, 116, 120, 122, 123, 124, 128, 130, 131, 136, 137, 139, 140, 144, 145, 147, 161, 168, 170].contains e then 0
  else if e = 107 then 1
  else if [152, 155, 156, 160, 169, 171, 173, 174].contains e then 3
  else 2

/-- The payload words of an event: each as the source's rule gives it, or a free value where none does (R135, R596). -/
def evWords (e w0 w1 : Nat) (d : Dev) : Nat × Nat × Dev :=
  let (x0, d) := if evOpen e % 2 = 1 then takeFree 32 d else (w0, d)
  let (x1, d) := if 2 ≤ evOpen e then takeFree 32 d else (w1, d)
  (x0, x1, d)

/-- An event that the delivery of another raises at one port: recorded and delivered, itself without a further one. -/
def sideEvent (e p : Nat) (d : Dev) : Dev :=
  let (x0, x1, d) := evWords e 0 0 d
  (deliverEvent e x0 x1 p (record 1 (0x100 + e) x0 x1 0 d)).1

/-- Deliver to port p (R134), with EV5 to the same port when an entry was dropped (R136), and EV0 when the write of the entry put its ring into
ERROR (R123, R129). -/
def deliver (e w0 w1 p : Nat) (d : Dev) : Dev :=
  let n := d.rd (HOST.ROUTE.ERING p e)
  match deliverEvent e w0 w1 p d with
  | (d', drop) =>
    let d' := if ringState d n = 1 ∧ ringState d' n = 3 then sideEvent 0 p d' else d'
    if drop then sideEvent 5 p d' else d'

/-- Raise event source e at the ports of the list: recorded under its unit with number 0x100 + e, and delivered (R134, R596). -/
def sendEv (ports : List Nat) (src e w0 w1 : Nat) (d : Dev) : Dev :=
  let (x0, x1, d) := evWords e w0 w1 d
  ports.foldl (fun d p => deliver e x0 x1 p d) (record (evUnit e) (0x100 + e) x0 x1 src d)

/-- The counter of ignored writes has risen: EV1, at most once per ms (R115). -/
def noteIgnored (d : Dev) : Dev :=
  let due := match d.host.ev1At with
    | none => true
    | some t => decide (t + 1000 ≤ nowUs d)
  if due then sendEv [0, 1] 0 1 0 0 { d with host := { d.host with ev1At := some (nowUs d) } } else d

/-- Raise event source e at the ports of the list; an event that an invalid route dropped counts as an ignored write (R115, R134). -/
def raiseEvAt (ports : List Nat) (src e w0 w1 : Nat) (d : Dev) : Dev :=
  let d' := sendEv ports src e w0 w1 d
  if d'.rd GLB.IGN_WRITES.COUNT = d.rd GLB.IGN_WRITES.COUNT then d' else noteIgnored d'

/-- Raise event source e at both ports, by hardware. -/
def raiseEv (e w0 w1 : Nat) (d : Dev) : Dev := raiseEvAt [0, 1] 0 e w0 w1 d

/-- Raise event source e at both ports with a source byte of R504. -/
def raiseEvFrom (src e w0 w1 : Nat) (d : Dev) : Dev := raiseEvAt [0, 1] src e w0 w1 d

/-- Ring n enters ERROR: EV0 at its port and FD104 (R123, R495). -/
def ringError (n code : Nat) (d : Dev) : Dev := raiseEvAt [ringPort n] 0 0 0 0 (ringToError n code d)

/-- Write an entry into ring n that is no event: EV0 too when the write puts the ring into ERROR (R123, R129). -/
def pushOrError (n : Nat) (mk : Nat → List Byte) (d : Dev) : Dev :=
  let d' := pushEntry n mk d
  if ringState d n ≠ 3 ∧ ringState d' n = 3 then raiseEvAt [ringPort n] 0 0 0 0 d' else d'

/-- An ignored write of port p at address a: counted, with EV1 at most once per ms (R115). -/
def ignoreWrite (p a : Nat) (d : Dev) : Dev := noteIgnored (countIgn p a d)

/-! ### Commands (R125 to R131) -/

/-- What the command tables give a ring command: unit, opcode, whether it is marked C, the islands it needs, and whether it is
accepted in PROOF, KEEP-WARM and RACK (R101, R102). -/
structure CmdSpec where
  unit : Nat
  op : Nat
  c : Bool := false
  isl : List Nat := []
  kw : Bool := false
  rack : Bool := false
  proof : Bool := false

/-- What executing a command's own part gives: it completes at once, or it goes on and completes later. -/
inductive CmdOut where
  | done (d : Dev) (status : Nat) (words : List Nat)
  | later (d : Dev) (kind : WaitKind) (words : List Nat)

/-- Common status codes (R137). -/
abbrev stOK : Nat := 0
abbrev stBadOpcode : Nat := 1
abbrev stBadUnit : Nat := 2
abbrev stBadParam : Nat := 3
abbrev stBadBuffer : Nat := 4
abbrev stDmaError : Nat := 5
abbrev stUnavailable : Nat := 6
abbrev stRefused : Nat := 7
abbrev stWrongState : Nat := 8
abbrev stNotOwner : Nat := 9
abbrev stChainError : Nat := 10
abbrev stLeaseLost : Nat := 11
abbrev stAborted : Nat := 12
abbrev stAuthFailed : Nat := 13
abbrev stBusy : Nat := 14

/-- Total buffer length of a command. -/
def bufLen (h : CmdHdr) : Nat := h.bufs.foldl (fun n b => n + b.2) 0
/-- The bytes of a command's buffers, concatenated in order (R126). -/
def inBuf (h : CmdHdr) (d : Dev) : List Byte := h.bufs.flatMap fun b => memRead d h.port.val b.1 b.2
/-- The longest buffer of a descriptor (R125). -/
def maxBuf : Nat := 67108864
/-- A buffer is usable: an address that is not 0, and a length that a descriptor may give (R125, R137). -/
def bufOk (h : CmdHdr) : Bool := h.bufs.all (fun b => b.1 != 0 && decide (b.2 ≤ maxBuf)) && h.bufs != []
/-- A receive buffer holds n bytes (R597). -/
def recvOk (h : CmdHdr) (n : Nat) : Bool := bufOk h && decide (n ≤ bufLen h)
/-- A send buffer holds exactly n bytes (R597). -/
def sendOk (h : CmdHdr) (n : Nat) : Bool := bufOk h && bufLen h == n
/-- Write result bytes to the start of a command's buffers, scattered in order; the rest is left unchanged (R597). -/
def outBufs (p : Nat) : List (Nat × Nat) → List Byte → Dev → Dev
  | [], _, d => d
  | (a, n) :: t, bs, d => if bs = [] then d else outBufs p t (bs.drop n) (memWrite p a (bs.take n) d)
/-- Write result bytes to a command's buffers; a port that is gone takes none (R138). -/
def outBuf (h : CmdHdr) (bs : List Byte) (d : Dev) : Dev := if portIsGone d h.port.val then d else outBufs h.port.val h.bufs bs d

/-- The bytes of a completion entry (R127). -/
def completionBytes (d : Dev) (h : CmdHdr) (status : Nat) (words : List Nat) (phase : Nat) : List Byte :=
  toBytes 4 h.tag ++ toBytes 2 status ++ toBytes 1 (phase + 2 * b2n h.chained + 4 * b2n h.ioc) ++ toBytes 1 h.ring.val ++
  toBytes 4 (words.getD 0 0) ++ toBytes 4 (words.getD 1 0) ++ toBytes 4 (words.getD 2 0) ++ toBytes 4 (words.getD 3 0) ++
  toBytes 4 (words.getD 4 0) ++ toBytes 4 (svcNs d)

/-- Result words with the configuration sequence number in word 4 for a command marked C (R128). -/
def resultWords (cseq : Option Nat) (words : List Nat) : List Nat :=
  match cseq with
  | none => words
  | some c => [words.getD 0 0, words.getD 1 0, words.getD 2 0, words.getD 3 0, c]

/-- The completion ring of ring n. -/
def cringOf (d : Dev) (n : Nat) : Nat := d.rd (HOST.RING.CFG.CRING n)

/-- Ring n writes completions: it is RUNNING or STOPPING (R123). -/
def ringLive (d : Dev) (n : Nat) : Bool := ringState d n == 1 || ringState d n == 2

/-- Write the completion of a command into completion ring c: the entry, the shadow entry, and the message when IOC was set or the status is
not success (R127, R128, R133). -/
def writeCompletion (h : CmdHdr) (cseq : Option Nat) (status : Nat) (words : List Nat) (c : Nat) (d : Dev) : Dev :=
  let d := pushOrError c (completionBytes d h status (resultWords cseq words)) d
  if h.ioc ∨ status ≠ 0 then moderate c false d else d

/-- A command of a ring ends: its completion is written when its completion ring has room. While that ring is full the command waits for room, and
its ring executes nothing else, so that no completion is lost (R116). Completions of a ring that no longer runs or stops, or into one that does
not, are not written (R123, R138). -/
def complete (h : CmdHdr) (cseq : Option Nat) (status : Nat) (words : List Nat) (d : Dev) : Dev :=
  let c := cringOf d h.ring.val
  if ¬ ringLive d h.ring.val ∨ ¬ ringLive d c then d
  else if ringSpace d c then writeCompletion h cseq status words c d
  else { d with host := { d.host with waits := d.host.waits ++ [{ hdr := h, cseq := cseq, kind := .room status, words := words }] } }

/-- A command of ring n is in execution. -/
def ringBusy (d : Dev) (n : Nat) : Bool := d.host.waits.any fun w => w.hdr.ring.val == n && !w.lost

/-- The header of a fetched command that completes without being executed. -/
def fetchedHdr (n : Nat) (f : Fetched) : CmdHdr :=
  { port := ⟨n / 16 % 2, Nat.mod_lt _ (by decide)⟩, ring := ⟨n % 32, Nat.mod_lt _ (by decide)⟩, tag := f.tag, ioc := f.ioc, chained := f.chained }

/-- Complete fetched commands of ring n from the front while `st` gives them a status, nothing is in execution on the ring, and its completion ring
has room. -/
def drainFetched (st : Fetched → Option Nat) : Nat → Nat → Dev → Dev
  | 0, _, d => d
  | k + 1, n, d =>
    let r := ringSt d n
    match r.fetched with
    | [] => d
    | f :: rest =>
      match st f with
      | none => d
      | some v =>
        if ringBusy d n ∨ (ringLive d (cringOf d n) ∧ ¬ ringSpace d (cringOf d n)) then d
        else drainFetched st k n (complete (fetchedHdr n f) none v [] (setRingSt n { r with fetched := rest } d))

/-- A STOPPING ring with no command in execution completes what it fetched with ABORTED, and is then STOPPED (R123). -/
def settleStopping (n : Nat) (d : Dev) : Dev :=
  if ringState d n = 2 ∧ ¬ ringBusy d n then
    let d := drainFetched (fun _ => some stAborted) (ringSt d n).fetched.length n d
    if (ringSt d n).fetched = [] then d.wr (HOST.RING.STAT.STATE n) 0 else d
  else d

/-- Ring n goes on after a command of it has completed, or after its completion ring got room: a STOPPING ring settles; a running one
completes, in their order, the commands at its front that cannot execute (R123, R125, R128). -/
def settleRing (n : Nat) (d : Dev) : Dev :=
  if ringState d n = 1 then drainFetched (fun f => if f.bad = 0 then none else some f.bad) (ringSt d n).fetched.length n d else settleStopping n d

/-- The commands that have ended and wait for room in completion ring c, oldest first, complete while there is room; the rings that complete into it
then go on (R116). -/
def roomIn : Nat → Nat → Dev → Dev
  | 0, _, d => d
  | k + 1, c, d =>
    match d.host.waits.find? fun w => (match w.kind with | .room _ => true | _ => false) && cringOf d w.hdr.ring.val == c with
    | none => (List.range 16).foldl (fun (d : Dev) i => if cringOf d (16 * ringPort c + i) = c then settleRing (16 * ringPort c + i) d else d) d
    | some w =>
      if ringSpace d c then
        let d : Dev := { d with host := { d.host with waits := d.host.waits.erase w } }
        roomIn k c (settleRing w.hdr.ring.val (match w.kind with | .room st => complete w.hdr w.cseq st w.words d | _ => d))
      else d

/-- A ring command may start: its ring runs, is a command or bulk ring of the sending port, holds no command in execution, and
its completion ring has room; and of the commands the ring has fetched it is the first (R116, R123, R128). -/
def canStart (h : CmdHdr) (unit op : Nat) (d : Dev) : Bool :=
  let n := h.ring.val
  ringState d n == 1 && ringPort n == h.port.val && decide (ringKind d n ≤ 1) && !ringBusy d n && islandOn d 12 &&
    ringSpace d (cringOf d n) && match (ringSt d n).fetched with
      | [] => true
      | f :: _ => f.bad == 0 && f.unit == unit && f.op == op && f.tag == h.tag

/-- Remove a started command from what its ring had fetched. -/
def popFetched (h : CmdHdr) (d : Dev) : Dev :=
  let r := ringSt d h.ring.val
  setRingSt h.ring.val { r with fetched := r.fetched.drop 1 } d

/-- Admission of a command marked C: its configuration sequence number, and its record under its unit with number 0x0FF, the
port in the source byte and opcode and ring in the payload (R128, R596). -/
def admitCmd (sp : CmdSpec) (h : CmdHdr) (d : Dev) : Option Nat × Dev :=
  if sp.c then
    let c := d.host.cseq
    (some c, record sp.unit 0x0FF c (sp.op + h.ring.val * 2 ^ 16) (1 + h.port.val)
      { d with host := { d.host with cseq := (c + 1) % 2 ^ 32 } })
  else (none, d)

/-- The common refusals of a command, in order: a reserved flag bit (R125), the operating state (R101, R102), an island that is
off (R137), a failed buffer transfer (R129), a chain that is not valid for the command (R137; which chain that is, the command's row says). -/
def cmdGate (sp : CmdSpec) (h : CmdHdr) (d : Dev) : Option Nat :=
  let st := opState d
  if h.flagsBad then some stBadParam
  else if (st = 5 ∧ ¬ sp.rack) ∨ (st = 4 ∧ ¬ sp.kw) ∨ (st = 2 ∧ ¬ sp.proof) ∨ st < 2 then some stWrongState
  else if ¬ sp.isl.all (islandOn d) then some stUnavailable
  else if h.chained ∧ ¬ h.chainOk then some stChainError
  else if h.bufs ≠ [] ∧ ¬ h.dmaOk then some stDmaError
  else none

/-- A buffer transfer failed on the link: AER of the port logs it (R106, R129). Which status bits and which header the standard logs is not in the
manual: free values. -/
def aerNote (p : Nat) (d : Dev) : Dev :=
  let c := lookD d.host.pci p {}
  let (x, d) := takeFree 32 d
  if c.hdrLog = [] then
    let (h0, d) := takeFree 32 d
    let (h1, d) := takeFree 32 d
    let (h2, d) := takeFree 32 d
    let (h3, d) := takeFree 32 d
    { d with host := { d.host with pci := ins p { c with aer := c.aer ||| x, hdrLog := [h0, h1, h2, h3] } d.host.pci } }
  else { d with host := { d.host with pci := ins p { c with aer := c.aer ||| x } d.host.pci } }

/-- Execute a ring command: admission, the common refusals, its own part, its completion or its wait (R128); a failed buffer transfer is reported
through AER too (R129). A command whose ring cannot start it leaves the device as it is (log 8). -/
def runCmd (sp : CmdSpec) (h : CmdHdr) (body : Dev → CmdOut) (d : Dev) : Dev :=
  if ¬ canStart h sp.unit sp.op d then d
  else
    match admitCmd sp h (popFetched h d) with
    | (cs, d) =>
      match cmdGate sp h d with
      | some st => settleRing h.ring.val (complete h cs st [] (if st = stDmaError then aerNote h.port.val d else d))
      | none =>
        match body d with
        | .done d st ws => settleRing h.ring.val (complete h cs st ws d)
        | .later d k ws => { d with host := { d.host with waits := d.host.waits ++ [{ hdr := h, cseq := cs, kind := k, words := ws }] } }

/-- Complete every waiting command that `f` gives a status and words, oldest first (R128); of one whose port is gone no completion is written
(R138). -/
def finishWaits (f : Wait → Option (Nat × List Nat)) (d : Dev) : Dev :=
  d.host.waits.foldl (fun d w =>
      match f w with
      | some (st, ws) => if w.lost then d else settleRing w.hdr.ring.val (complete w.hdr w.cseq st ws d)
      | none => d)
    { d with host := { d.host with waits := d.host.waits.filter fun w => (f w).isNone } }

/-- Complete the waiting commands of one kind with a status, giving the words kept with the wait. -/
def finishKind (k : WaitKind) (st : Nat) (d : Dev) : Dev :=
  finishWaits (fun w => if w.kind = k then some (st, w.words) else none) d

/-- Complete the oldest waiting command of one kind with a status and words. -/
def finishFirst (k : WaitKind) (st : Nat) (ws : List Nat) (d : Dev) : Dev :=
  match d.host.waits.find? fun w => w.kind == k with
  | some o => finishWaits (fun w => if w = o then some (st, ws) else none) d
  | none => d

/-- Complete the waiting commands of one kind with a status and words. -/
def finishKindWith (k : WaitKind) (st : Nat) (ws : List Nat) (d : Dev) : Dev :=
  finishWaits (fun w => if w.kind = k then some (st, ws) else none) d

/-! ### Bench (R27 to R31) -/

/-- Table t of the Bench. -/
def benchTab (d : Dev) (t : Nat) : BenchTab := lookD d.bench t {}
/-- The current buffer of a table. -/
def BenchTab.current (b : BenchTab) : BenchBuf := if b.cur then b.buf1 else b.buf0
/-- The leases on the buffer that is not current. -/
def BenchTab.otherLeases (b : BenchTab) : List (Nat × Nat) := if b.cur then b.lease0 else b.lease1
/-- Write the buffer that is not current and make it current in one step (R28). -/
def BenchTab.make (b : BenchTab) (x : BenchBuf) : BenchTab :=
  if b.cur then { b with buf0 := x, cur := false, waiting := none, fresh := false }
  else { b with buf1 := x, cur := true, waiting := none, fresh := false }

/-- The buffer that a publication builds: header and body whole, numbered on from the current one, stamped with the service time (R27, R28). -/
def builtBuf (d : Dev) (t tempo : Nat) (valid inputStale : Bool) (body : List Byte) : BenchBuf :=
  let b := benchTab d t
  let n := (if b.fresh then 0 else b.current.seq) + 1
  { valid := valid, inputStale := inputStale, init := b.fresh, seq := n % 2 ^ 32, tempo := tempo % 2 ^ 32, sec := svcSec d % 2 ^ 48, ns := svcNs d, frac := svcFrac d, body := body, check := crc32 body }

/-- Publish a body in table t: the header is set whole with it (R27, R28). A leased buffer makes the publication wait (R29). -/
def publish (t tempo : Nat) (valid inputStale : Bool) (body : List Byte) (d : Dev) : Dev :=
  let b := benchTab d t
  let x := builtBuf d t tempo valid inputStale body
  if b.otherLeases = [] then { d with bench := ins t (b.make x) d.bench }
  else { d with bench := ins t { b with waiting := some x } d.bench }

/-- The producer of table t has started: its next publication is number 1 with INIT set (R27). -/
def producerStart (t : Nat) (d : Dev) : Dev := { d with bench := ins t { benchTab d t with fresh := true } d.bench }

/-- The 32 header bytes of a buffer (R27). -/
def benchHeader (t producer : Nat) (x : BenchBuf) : List Byte :=
  toBytes 2 t ++ toBytes 1 producer ++ toBytes 1 (b2n x.valid + 2 * b2n x.inputStale + 4 * b2n x.init) ++ toBytes 4 x.seq ++
  toBytes 4 x.tempo ++ toBytes 6 x.sec ++ toBytes 4 x.ns ++ toBytes 2 x.frac ++ toBytes 4 x.body.length ++ toBytes 4 x.check

/-- The producer unit of a standard table (R31). Other tables are allocated by images; their producer is 0 here (log 9). -/
def benchProducer (t : Nat) : Nat :=
  if t = 1 then 5 else if t = 2 then 4 else if t = 3 ∨ t = 4 then 6 else if t = 0x10 ∨ t = 0x11 then 7
  else if t = 0x20 ∨ t = 0x21 ∨ t = 0x30 then 8 else if t = 0x40 then 10 else if t = 0x50 then 1 else 0

/-- The body check of the current snapshot fails (R27, R30); a table never published has none. -/
def benchBad (d : Dev) (t : Nat) : Bool :=
  let x := (benchTab d t).current
  x.seq != 0 && decide (x.check ≠ crc32 x.body)

/-- A consumer treats the current snapshot as stale (R30): VALID 0, a failed body check, or older than `limitNs`. -/
def benchStale (d : Dev) (t limitNs : Nat) : Bool :=
  let x := (benchTab d t).current
  !x.valid || benchBad d t || decide (x.sec * 1000000000 + x.ns + limitNs < svcTotalNs d)

/-- A consumer reads the tables of the list: each failed body check raises FD89, whose detail word is the table (R30). -/
def checkBodies (ts : List Nat) (d : Dev) : Dev := ts.foldl (fun d t => if benchBad d t then raise 89 t d else d) d

/-- The current snapshot is newer than the one with sequence number `seen` (R30): the first of a producer that has started, or ahead of it by the
signed difference of R10. -/
def benchNewer (d : Dev) (t seen : Nat) : Bool :=
  let x := (benchTab d t).current
  x.init || decide (0 < sdiff 32 x.seq seen)

end Sys2Proof.Machine
end

