-- ==== Sys2Proof/Machine/KeyOps.lean ====
section
/-! DEFINITION. The key store (spec/20): identity, derivation tree, slots, signing and sealing, the monotonic counters with their floors. -/
namespace Sys2Proof.Machine
open Sys2Proof

/-- The device identity, 16 bytes (R522, KEYS.ID). -/
def deviceId (d : Dev) : List Byte := wordsToBytes [d.rd (KEYS.ID 0), d.rd (KEYS.ID 1), d.rd (KEYS.ID 2), d.rd (KEYS.ID 3)]

/-- Crust flags as KE sees them (R544). -/
def noStarter (d : Dev) : Bool := d.flag CRUST.STATUS.KEY_LOST

/-- CNT[i] takes a value and FLOOR[i] follows (R534). -/
def setCnt (i v : Nat) (d : Dev) : Dev := (d.wr (CRUST.CNT.VALUE i) v).wr (KEYS.FLOOR i) v

/-! ### Derivation (R523 to R527) -/

/-- ASCII bytes. -/
def ascii (s : String) : List Byte := s.toList.map fun c => BitVec.ofNat 8 c.toNat
/-- L of a use (R526). -/
def useBits (use : Nat) : Nat := if use = 3 then 512 else if use = 2 ∨ use = 4 then 384 else 256
/-- The context of a derivation. -/
def keyContext (d : Dev) (gen use : Nat) : List Byte := deviceId d ++ toBytes 4 gen ++ toBytes 1 use
/-- A derived key (R526). -/
def childKey (d : Dev) (parent label : List Byte) (gen use : Nat) : List Byte := kdf parent label (keyContext d gen use) (useBits use)
/-- The Starter's bytes. -/
def starterKey (d : Dev) : List Byte := beBytes 32 (d.crust.starter.getD Config.starter)

def nodeState (d : Dev) (n : Nat) : Nat := d.rd (KEYS.NODE.CFG.STATE n)
def nodeParent (d : Dev) (n : Nat) : Nat := d.rd (KEYS.NODE.CFG.PARENT n)

/-- The ancestors of node n, nearest first, at most `fuel` of them (R525). -/
def ancestors (d : Dev) : Nat → Nat → List Nat
  | 0, _ => []
  | f + 1, n => if nodeParent d n < 128 then nodeParent d n :: ancestors d f (nodeParent d n) else []

/-- Node n can be derived (R527): it and every ancestor VALID, every ancestor of use 1, KEY_LOST 0. -/
def nodeOk (d : Dev) (n : Nat) : Bool :=
  decide (n < 128) && !noStarter d && nodeState d n == 1 && (ancestors d 6 n).all fun a => nodeState d a == 1 && d.rd (KEYS.NODE.CFG.USE a) == 1

/-- The key of a node (R526), through at most `fuel` levels. -/
def nodeKey (d : Dev) : Nat → Nat → List Byte
  | 0, _ => starterKey d
  | f + 1, n =>
    childKey d (if nodeParent d n < 128 then nodeKey d f (nodeParent d n) else starterKey d) (lookD d.keys.labels n []) (d.rd (KEYS.NODE.GEN n)) (d.rd (KEYS.NODE.CFG.USE n))

/-- The curve of a use, and a private value (R524, R526). -/
def curveOf (use : Nat) : Curve := if use = 3 then p384 else p256
def privOf (c : Curve) (k : List Byte) : Nat := ofBe k % (c.n - 1) + 1
/-- The identity key's private value (R523). -/
def identityPriv (d : Dev) : Nat := privOf p384 (childKey d (beBytes 32 Config.factorySeed) (ascii "IDENTITY") 0 3)

/-! ### Slots (R528) -/

def slotType (d : Dev) (s : Nat) : Nat := d.rd (KEYS.SLOT.CFG.TYPE s)
def slotUse (d : Dev) (s : Nat) : Nat := d.rd (KEYS.SLOT.CFG.USE s)
def slotNode (d : Dev) (s : Nat) : Nat := d.rd (KEYS.SLOT.CFG.NODE s)
/-- Slot s holds a derivable key of a use. -/
def slotOk (d : Dev) (s use : Nat) : Bool := slotType d s == 1 && slotUse d s == use && nodeOk d (slotNode d s)
/-- KE derives and caches the key of slot s at its first use. -/
def slotDerive (s : Nat) (d : Dev) : Dev :=
  if d.flag (KEYS.SLOT.CFG.READY s) then d
  else (d.wr (KEYS.SLOT.CFG.READY s) 1).wr (KEYS.SLOT.GEN s) (d.rd (KEYS.NODE.GEN (slotNode d s)))
/-- The key bytes of slot s. -/
def slotKey (d : Dev) (s : Nat) : List Byte := nodeKey d 6 (slotNode d s)
/-- The private value of slot s. -/
def slotPriv (d : Dev) (s : Nat) : Nat := privOf (curveOf (slotUse d s)) (slotKey d s)
/-- Sign with slot s; the secret number of the signature is free (FIPS 186-5; log 1). -/
def slotSign (s : Nat) (m : List Byte) (d : Dev) : List Byte × Dev :=
  let (k, d) := takeFree 512 d
  ((curveOf (slotUse d s)).sign (slotPriv d s) k m, d)
/-- Sign with the identity key (R523). -/
def identitySign (m : List Byte) (d : Dev) : List Byte × Dev :=
  let (k, d) := takeFree 512 d
  (p384.sign (identityPriv d) k m, d)
/-- The check value of node n's key for a use. -/
def checkValue (d : Dev) (n use : Nat) : Nat :=
  let k := nodeKey d 6 n
  let k := if 2 ≤ use ∧ use ≤ 4 then beBytes (curveOf use).len (privOf (curveOf use) k) else k
  fieldAt (hmac k (ascii "KCV")) 0 4
/-- The public keys in slots of a use, ascending. -/
def publicKeys (d : Dev) (use : Nat) : List (List Byte) :=
  ((List.range 64).filter fun s => slotType d s == 2 && slotUse d s == use).map fun s => lookD d.keys.pubs s []
/-- The first slot of a use that holds a derivable key. -/
def firstSlot (d : Dev) (use : Nat) : Option Nat := (List.range 64).find? fun s => slotOk d s use
/-- Zero the cached keys of the slots whose node `which` names. -/
def dropCaches (which : Nat → Bool) (d : Dev) : Dev :=
  (List.range 64).foldl (fun (d : Dev) s => if which (slotNode d s) then d.wr (KEYS.SLOT.CFG.READY s) 0 else d) d

/-- After a reset no key is cached and no generation is shown (R528, R544). -/
def keysAfterReset (d : Dev) : Dev := (List.range 64).foldl (fun (d : Dev) s => (d.wr (KEYS.SLOT.CFG.READY s) 0).wr (KEYS.SLOT.GEN s) 0) d

/-- The counts and the anchor flag of STAT (R544). -/
def keyCounts (d : Dev) : Dev :=
  ((d.wr KEYS.STAT.NODES ((List.range 128).filter fun n => nodeState d n == 1).length).wr KEYS.STAT.SLOTS ((List.range 64).filter fun s => slotType d s != 0).length).put
    KEYS.STAT.ANCHOR (d.keys.anchor != [])

/-- Every node in use is BLOCKED while an ancestor is REVOKED, VALID otherwise; a REVOKED one stays (R525). -/
def settleNodes (d : Dev) : Dev :=
  (List.range 128).foldl (fun (d : Dev) n =>
    if nodeState d n = 0 ∨ nodeState d n = 2 then d
    else d.wr (KEYS.NODE.CFG.STATE n) (if (ancestors d 6 n).any fun a => nodeState d a == 2 then 3 else 1)) d

end Sys2Proof.Machine
end

