-- ==== Sys2Proof/Machine/TimeOps.lean ====
section
/-! DEFINITION. Service time, PTP domains and the passing of time (R149, R151, R152, R176 to R185, R190), and the Ethernet ports'
states (R170, R173). -/
namespace Sys2Proof.Machine
open Sys2Proof

/-! ### Reading the clocks -/

/-- The servo state of a domain. -/
def domSt (d : Dev) (i : Nat) : DomSt := lookD d.time.dom i {}
/-- Write the servo state of a domain, and its OFS and DRATE registers (R198). -/
def setDom (i : Nat) (x : DomSt) (d : Dev) : Dev :=
  let d : Dev := { d with time := { d.time with dom := ins i x d.time.dom } }
  (d.wr (TIME.DOM.OFS i) (wrapI 32 (clampI (-2147483648) 2147483647 (x.ofs / (2 ^ 32 : Nat))))).wr (TIME.DOM.DRATE i) (wrapI 32 x.rate)
/-- State of a domain: 0 DISABLED, 1 LISTENING, 2 ACQUIRING, 3 LOCKED, 4 HOLDOVER, 5 MASTER (R198). -/
def domState (d : Dev) (i : Nat) : Nat := d.rd (TIME.DOM.STAT.STATE i)
/-- Change a domain's state with EV27 or EV28 (R196). -/
def setDomState (i st : Nat) (d : Dev) : Dev := if domState d i = st then d else raiseEv (27 + i) 0 0 (d.wr (TIME.DOM.STAT.STATE i) st)
/-- Domain time in whole ns. -/
def domNs (d : Dev) (i : Nat) : Nat := (((d.time.svc : Int) + (domSt d i).ofs) / (2 ^ 32 : Nat)).toNat

/-- SVC_STAT.STATE (R178). -/
def svcState (d : Dev) : Nat := d.rd TIME.SVC.STAT.STATE

/-- The total correction r in 10⁻¹⁴, limited to ±500 ppm (R177): the followed domain's rate plus the alignment term, or the frozen
rate. -/
def svcRate (d : Dev) : Int :=
  clampI (-50000000000) 50000000000 (match d.time.following with
    | some i => (domSt d i).rate * 100000 + d.time.align
    | none => d.time.frozen)

/-- Change SVC_STAT.STATE (R178, R196): VALID in LOCKED, and in HOLDOVER for HOLD_VALID seconds after LOCKED was left; EV24, EV26
and FD114. -/
def setSvcState (st : Nat) (d : Dev) : Dev :=
  let old := svcState d
  if old = st then d
  else
    let d : Dev := if old = 3 then { d with time := { d.time with lockedLeft := some (svcSec d) } } else d
    let d : Dev := if st = 3 then { d with time := { d.time with everLocked := true } } else d
    let within := match d.time.lockedLeft with
      | some t => decide (svcSec d < t + d.rd TIME.SVC.CFG.HOLD_VALID)
      | none => false
    let d := (d.wr TIME.SVC.STAT.STATE st).put TIME.SVC.STAT.VALID (st == 3 || (st == 4 && within))
    let d := raiseEv 24 0 0 d
    if st = 3 then raiseEv 26 0 0 d else if st = 4 then raise 114 0 d else d

/-- The residual e in 2⁻³² ns: service time minus the followed domain's time (R185); 0 when none is followed. -/
def residual (d : Dev) : Int := match d.time.following with
  | some i => -(domSt d i).ofs
  | none => 0

/-- RES and RATE follow, and a followed domain puts service time into ALIGNING or LOCKED by the residual (R178, R198). -/
def settleResidual (d : Dev) : Dev :=
  let e := residual d
  let d := (d.wr TIME.SVC.RES (wrapI 32 (clampI (-2147483648) 2147483647 (e / (2 ^ 32 : Nat))))).wr TIME.SVC.RATE (wrapI 32 (svcRate d / 100000))
  match d.time.following with
  | some _ => setSvcState (if e.natAbs ≤ 1000 * 2 ^ 32 then 3 else 2) d
  | none => d

/-- Service time follows domain x from now on (R184, R185): the alignment term starts where the rate is continuous, within ±10 ppm, and
an alignment in progress keeps its own. -/
def follow (x : Nat) (d : Dev) : Dev :=
  if d.time.following = some x then d
  else
    let aligning := svcState d == 2 && d.time.following.isSome
    let diff := svcRate d - (domSt d x).rate * 100000
    let d := if ¬ aligning ∧ 1000000000 < diff.natAbs then d.wr TIME.SVC.STAT.RATE_CLAMP 1 else d
    let a := if aligning then d.time.align else clampI (-1000000000) 1000000000 diff
    let changed := match d.time.lastDom with
      | some y => y != x
      | none => false
    let d : Dev := { d with time := { d.time with following := some x, lastDom := some x, align := a } }
    let d := d.wr TIME.SVC.STAT.SEL x
    let d := if changed then raiseEv 25 0 0 (d.bump TIME.SVC.STAT.SWITCHES) else d
    settleResidual d

/-- The summed correction 64 s ago: between two samples, by the line through them; the oldest sample where none is that old. -/
def rSumAt (t : Nat) : List (Nat × Int) → Option (Nat × Int)
  | [] => none
  | [x] => some x
  | x :: y :: l => if y.1 ≤ t then rSumAt t (y :: l) else if t ≤ x.1 then some x else some (t, x.2 + (y.2 - x.2) * ((t - x.1 : Nat) : Int) / ((y.1 - x.1 : Nat) : Int))

/-- The mean correction of the last 64 s, or of the time since the start while that is shorter (R178). -/
def meanRate (d : Dev) : Int := match rSumAt (d.up - 64000000000) (d.time.hist ++ [(d.up, d.time.rSum)]) with
  | some (t, x) => if t < d.up then (d.time.rSum - x) / ((d.up - t : Nat) : Int) else svcRate d
  | none => svcRate d

/-- No domain is followed any more (R178, R184): the rate freezes; ALIGNING and LOCKED become HOLDOVER. -/
def unfollow (d : Dev) : Dev :=
  let r := meanRate d
  let st := svcState d
  let d : Dev := { d with time := { d.time with following := none, frozen := r, align := 0 } }
  if st = 2 ∨ st = 3 then setSvcState 4 d else d

/-- Which domain service time follows after a change of a domain's state, of AUTO or of PREF (R184). -/
def reselect (d : Dev) : Dev :=
  let pref := d.rd TIME.SVC.CFG.PREF
  let locked (i : Nat) := domState d i == 3
  let target :=
    if ¬ d.flag TIME.SVC.CFG.AUTO then (if locked pref then some pref else none)
    else match d.time.following with
      | some x => if locked x then some x else if locked pref then some pref else if locked (1 - pref) then some (1 - pref) else none
      | none => if locked pref then some pref else if locked (1 - pref) then some (1 - pref) else none
  match target with
  | some x => follow x d
  | none => if d.time.following.isSome then unfollow d else d

/-- A domain that leaves or reaches LOCKED makes service time choose again. -/
def domTo (i st : Nat) (d : Dev) : Dev := reselect (setDomState i st d)

/-- The first lock of a domain, before the tempos start and with STEP_EN, sets service time to its time in one step (R179). -/
def acquisitionStep (i : Nat) (d : Dev) : Dev :=
  let was := d.time.firstLock
  let d : Dev := { d with time := { d.time with firstLock := true } }
  if d.flag TIME.SVC.STAT.TEMPOS_RUN ∨ ¬ d.flag TIME.SVC.CFG.STEP_EN ∨ was then d
  else
    let o := (domSt d i).ofs
    let d : Dev := { d with time := { d.time with svc := ((d.time.svc : Int) + o).toNat } }
    let d := setDom 0 { domSt d 0 with ofs := (domSt d 0).ofs - o } d
    let d := setDom 1 { domSt d 1 with ofs := (domSt d 1).ofs - o } d
    raiseEv 29 0 0 (d.wr TIME.SVC.STAT.STEPPED 1)

/-- A domain of the same number as the other enabled one: DOM[1] does not start (R182). -/
def domClash (d : Dev) : Bool := d.flag (TIME.DOM.CFG.EN 0) && d.flag (TIME.DOM.CFG.EN 1) && d.rd (TIME.DOM.CFG.DNUM 0) == d.rd (TIME.DOM.CFG.DNUM 1)

/-- Domains run in RUN and KEEP-WARM with NET on and TE sound (R95, R194). -/
def domainsOn (d : Dev) : Bool := islandOn d 10 && !badFunc d 200 && (opState d == 3 || opState d == 4)

/-- Start or stop a domain according to its EN (R182, R194). -/
def domEnable (i : Nat) (d : Dev) : Dev :=
  if ¬ d.flag (TIME.DOM.CFG.EN i) ∨ ¬ domainsOn d then domTo i 0 (d.wr (TIME.DOM.STAT.CFG_ERR i) 0)
  else if i = 1 ∧ domClash d then domTo i 0 (d.wr (TIME.DOM.STAT.CFG_ERR i) 1)
  else
    let d := d.wr (TIME.DOM.STAT.CFG_ERR i) 0
    if domState d i ≠ 0 then d else domTo i 1 (setDom i { domSt d i with run := 0, first := false, ann := [], slave := none, seq := none, sync := none, req := [], resp := [], path := [] } d)

/-! ### Ethernet ports and what they send (R170 to R174, R186 to R189) -/

/-- PSTATE: 0 OFF, 1 STARTING, 2 ON, 3 STOPPING. -/
def ethState (d : Dev) (q : Nat) : Nat := d.rd (ETH.PORT.STAT.PSTATE q)
/-- The PORT[q].STAT word. -/
def ethStatWord (d : Dev) (q : Nat) : Nat :=
  d.rd (ETH.PORT.STAT.LINK q) * 2 ^ 31 + d.rd (ETH.PORT.STAT.SPEED q) * 2 ^ 29 + d.rd (ETH.PORT.STAT.PENDING_REARM q) * 2 ^ 28 +
  ethState d q * 2 ^ 26 + d.rd (ETH.PORT.STAT.MINOFF q) * 2 ^ 25 + d.rd (ETH.PORT.STAT.CFG_ERR q) * 2 ^ 24 + d.rd (ETH.PORT.STAT.LINK_CHG q) * 2 ^ 8
/-- MODE is one the port supports (R170). -/
def ethModeOk (q mode : Nat) : Bool := if q ≤ 1 then decide (1 ≤ mode) && decide (mode ≤ 3) else mode == 3 || mode == 4
/-- PRP is on for the pair of a port. -/
def prpOn (d : Dev) (pair : Nat) : Bool := decide (pair < 2) && !badFunc d (112 + pair) && d.flag (ETH.PRP.CFG.EN pair)
/-- The port's configuration lets it start (R170, R174). -/
def ethCfgOk (d : Dev) (q : Nat) : Bool :=
  ethModeOk q (d.rd (ETH.PORT.CFG.MODE q)) &&
    (!prpOn d (q / 2) || d.rd (ETH.PORT.CFG.MODE (q / 2 * 2)) == d.rd (ETH.PORT.CFG.MODE (q / 2 * 2 + 1)))

/-- A port's frames. -/
def ethCount (d : Dev) (q : Nat) : EthCount := lookD d.time.eth q {}
/-- Write a port's frames. -/
def setEth (q : Nat) (x : EthCount) (d : Dev) : Dev := { d with time := { d.time with eth := ins q x d.time.eth } }
/-- The state of a PRP pair. -/
def prpSt (d : Dev) (k : Nat) : PrpSt := lookD d.time.prp k {}
/-- Write a PRP pair's state and its NODES field. -/
def setPrp (k : Nat) (x : PrpSt) (d : Dev) : Dev :=
  { d with time := { d.time with prp := ins k x d.time.prp } }.wr (ETH.PRP.STAT.NODES k) (min 255 x.nodes.length)

/-- The port whose MAC address and IP addresses port q uses: its own, or the first of its PRP pair, whose ports share one set (R174; which of the two
sets it is, is the model's choice: DESIGN CHOICE, log 88). -/
def ethOwner (d : Dev) (q : Nat) : Nat := if prpOn d (q / 2) then q / 2 * 2 else q
/-- MAC address of a port: the base address of the device identity, bytes 8 to 13, plus the port (R171, R522). -/
def ethMac (d : Dev) (q : Nat) : Nat := (ofBytes ((deviceId d).drop 8 |>.take 6).reverse + ethOwner d q) % 2 ^ 48
/-- The EUI-64 of a MAC address, which IPv6 link-local addresses and PTP clock identities are formed from (PRESUMED, log 88). -/
def eui64 (mac : Nat) (flip : Bool) : Nat := ((mac / 2 ^ 24).xor (if flip then 2 ^ 17 else 0)) * 2 ^ 40 + 0xFFFE * 2 ^ 24 + mac % 2 ^ 24
/-- A port's IPv6 link-local address, formed from its MAC address (R172). -/
def linkLocal (d : Dev) (q : Nat) : Nat := 0xFE80 * 2 ^ 112 + eui64 (ethMac d q) true
/-- The PORT_ADDR record in effect at a port (R172, R195). -/
def ethAddr (d : Dev) (q : Nat) : List Byte := (d.time.addrs.drop (64 * ethOwner d q)).take 64
/-- The VLAN tag that the address record of a port inserts: priority and identifier (R171, R195). -/
def ethVlan (d : Dev) (q : Nat) : Option Nat := if bitOf (fieldAt (ethAddr d q) 5 1) 2 then some (fieldAt (ethAddr d q) 6 2) else none

/-- Stamps have 1 ns resolution, and 8 ns with RGMII or at 100 Mbit/s (R188). -/
def stampRes (d : Dev) (q : Nat) : Nat := if d.rd (ETH.PORT.STAT.SPEED q) = 0 ∨ d.rd (ETH.PORT.CFG.MODE q) = 4 then 8 else 1
/-- The stamp of a frame that passes the capture point of port q now, in ns of service time (R186, R188). -/
def portStamp (d : Dev) (q : Nat) : Nat := svcTotalNs d / stampRes d q * stampRes d q

/-- Queue a transmit stamp of a port (R189): the older entry of the same identifier is discarded, a full queue drops the new one. -/
def pushTxStamp (q : Nat) (x : TxStamp) (dom : Nat) (d : Dev) : Dev :=
  let l := lookD d.time.txts q []
  let dup := l.find? fun y => y.ident == x.ident
  let l := l.filter fun y => y.ident != x.ident
  let d := match dup with
    | some y =>
      let d := d.bump (ETH.PORT.TXTS.STALE q)
      if y.twoStep then d.bump (TIME.DOM.STAT.LOST_FUP dom) else d
    | none => d
  if 32 ≤ l.length then
    let d := raiseEv 30 0 0 (d.bump (ETH.PORT.TXTS.DROPS q))
    if x.twoStep then d.bump (TIME.DOM.STAT.LOST_FUP dom) else d
  else { d with time := { d.time with txts := ins q (l ++ [x]) d.time.txts } }.wr (ETH.PORT.TXTS.LEVEL q) (l.length + 1)

/-- A service time in 0.25 ns as domain i's time (R182). -/
def domAt (d : Dev) (i : Nat) (t4 : Int) : Int := t4 + 4 * (domSt d i).ofs / (2 ^ 32 : Nat)

/-- The time at which a PTP event message passes the capture point of port q now, compensated, in 0.25 ns of service time: received and sent (R187). -/
def rxStamp4 (d : Dev) (q : Nat) : Int := 4 * (portStamp d q : Int) - d.rd (ETH.PORT.LAT.INGRESS_LAT q)
def txStamp4 (d : Dev) (q : Nat) : Nat := 4 * portStamp d q + d.rd (ETH.PORT.LAT.EGRESS_LAT q)

/-- A frame leaves port q: it is counted, and its transmit stamp is taken where its sender asks for it (R186, R189), a PTP message's compensated (R187).
A one-step Sync carries that time, and TE keeps the stamp of a Delay_Req or Pdelay_Req that its queue has taken (R181). -/
def ethOut (q : Nat) (f : TxFrame) (d : Dev) : Dev :=
  let t4 : Nat := match f.kind with
    | .ptp .. => txStamp4 d q
    | _ => 4 * portStamp d q
  let at4 := domAt d f.dom t4
  let kind := match f.kind with
    | .ptp 0 dn seq _ => TxKind.ptp 0 dn seq (if f.twoStep then 0 else at4)
    | k => k
  let d := setEth q { ethCount d q with sent := (ethCount d q).sent + 1, lastSent := some { f with kind := kind } } d
  match f.stamp with
  | some ident =>
    let d := pushTxStamp q { ident := ident, ns := t4 / 4, frac := t4 % 4 * 16384, twoStep := f.twoStep, domAt := at4 } f.dom d
    let kept := (lookD d.time.txts q []).any fun y => y.ident == ident
    match kind with
    | .ptp 1 _ seq _ => if kept then setDom f.dom { domSt d f.dom with req := ins q (seq, at4) (domSt d f.dom).req } d else d
    | .ptp 2 _ seq _ => if kept then setDom f.dom { domSt d f.dom with req := ins q (seq, at4) (domSt d f.dom).req } d else d
    | _ => d
  | none => d

/-- The queued frames of port q leave, unless a pause frame holds them: eight queues by strict priority, each in its order (R171). -/
def ethPump (q : Nat) (d : Dev) : Dev :=
  let x := ethCount d q
  if d.up < x.paused ∨ x.txq = [] then d
  else
    let l := (List.range 8).flatMap fun k => x.txq.filter fun f => f.queue == 7 - k
    l.foldl (fun (d : Dev) f => ethOut q f d) (setEth q { x with txq := [] } d)

/-- Proof step 6 has ended: a free value of the device within the bounds of R93, 700 ms to 1,000 ms after t0. -/
def proofStep6Over (d : Dev) : Bool := d.boot.proofRun && decide (d.boot.t0 + clampN 700000000 1000000000 Config.proofStep6 ≤ d.up)

/-- Port q carries frames: ON with its link up in RUN and KEEP-WARM; port 0 alone in Rack state and, from the end of Proof step 6, in PROOF (R193,
R194; there the port's EN and link do not count: DESIGN CHOICE, log 88). -/
def ethUp (d : Dev) (q : Nat) : Bool :=
  if opState d = 3 ∨ opState d = 4 then ethState d q == 2 && d.flag (ETH.PORT.STAT.LINK q)
  else q == 0 && (opState d == 5 || (opState d == 2 && proofStep6Over d))

/-- A frame of the diagnostic service and of the finding of its address: all that is sent in PROOF and Rack state (R172, R194). -/
def diagKind : TxKind → Bool
  | .diag _ => true
  | .neighbour => true
  | _ => false

/-- Queue a frame on port q, if it carries such frames; it leaves at once unless transmission is paused. -/
def ethPut (q : Nat) (f : TxFrame) (d : Dev) : Dev :=
  if ¬ ethUp d q ∨ ¬ (opState d = 3 ∨ opState d = 4 ∨ diagKind f.kind) then d
  else ethPump q (setEth q { ethCount d q with txq := (ethCount d q).txq ++ [f] } d)

/-- Port q sends a frame (R171, R174, R175): with the VLAN tag of its address record, PTP apart (DESIGN CHOICE, log 88); on a PRP pair every frame but
PTP goes out on both ports with the redundancy control trailer, LanId 0xA on LAN A and 0xB on LAN B, and one sequence number. -/
def ethSend (q : Nat) (f0 : TxFrame) (d : Dev) : Dev :=
  match f0.kind with
  | .ptp .. => ethPut q f0 d
  | _ =>
    let f : TxFrame := { f0 with vlan := ethVlan d q }
    if prpOn d (q / 2) ∧ (opState d = 3 ∨ opState d = 4) then
      let k := q / 2
      let n := (prpSt d k).seq
      let d := setPrp k { prpSt d k with seq := (n + 1) % 65536 } d
      ethPut (2 * k + 1) { f with trailer := some (false, n) } (ethPut (2 * k) { f with trailer := some (true, n) } d)
    else ethPut q f d

/-- Domain i sends a PTP message on port q (R171, R181): by queue 7 (general messages too: DESIGN CHOICE, log 88), with TE's transmit stamp where
`stamped` (R189), which a Follow_Up needs where `two`. -/
def ptpSend (q i type seq : Nat) (time : Int) (stamped two : Bool) (d : Dev) : Dev :=
  let dn := d.rd (TIME.DOM.CFG.DNUM i)
  ethSend q { kind := .ptp type dn (seq % 65536) time, queue := 7, dom := i, twoStep := two,
              stamp := if stamped then some (type * 2 ^ 28 + dn * 2 ^ 16 + seq % 65536) else none } d

/-! ### Time passes -/

/-- The alignment term a over dt ns (R185), and what it adds to service time, in 10⁻¹⁴ ns. The term moves by 5 ppm per second, within ±10 ppm, against the
residual e, and back towards 0 from the moment from which it so reaches 0 together with e (DEDUCED from the durations of R185). Units: a in 10⁻¹⁴ and
e in 10⁻¹⁴ ns, so that e changes by a each ns, and a by 1/2. `v` is the speed towards e = 0; each round ends where the movement changes, or with dt. -/
def alignRun : Nat → Nat → Int → Int → Int × Int
  | 0, dt, _, a => (a, a * dt)
  | k + 1, dt, e, a =>
    if dt = 0 ∨ (e = 0 ∧ a = 0) then (a, a * dt)
    else
      let neg : Int := if 0 < e ∨ (e = 0 ∧ a < 0) then -1 else 1
      let v := neg * a
      let x : Int := e.natAbs
      let (acc, t) : Int × Nat :=
        if 0 ≤ v ∧ x ≤ v * v then (-1, (2 * v).toNat)
        else if v < 1000000000 then (1, min (2 * (1000000000 - v)).toNat ((isqrt (2 * v * v + 2 * x).toNat : Int) - 2 * v).toNat)
        else (0, ((x - v * v) / v).toNat)
      let n := min dt (max 1 t)
      let v' := max (-1000000000) (min 1000000000 (v + acc * (n : Nat) / 2))
      let gone := (v + v') * (n : Nat) / 2
      let (aEnd, rest) := alignRun k (dt - n) (e + neg * gone) (neg * v')
      (aEnd, neg * gone + rest)

/-- TB[n] runs and counts service time or a domain's time (R190). -/
def tbLive (d : Dev) (n : Nat) : Bool := d.flag (TIME.TB.CFG.EN n) && d.rd (TIME.TB.CFG.SRC n) != 0
/-- What such a counter shows, in 10 ns units. -/
def tbValue (d : Dev) (n : Nat) : Nat :=
  (if d.rd (TIME.TB.CFG.SRC n) = 1 then svcTotalNs d else domNs d (d.rd (TIME.TB.CFG.SRC n) - 2)) / 10 % 2 ^ 64

/-- One TB counter's advance over n cycles of 4 ns with SRC 0: 100 MHz × (1 + TRIM × 2⁻³²), TRIM limited to ±1,000 ppm (R190). -/
def tbStep (n i : Nat) (d : Dev) : Dev :=
  if ¬ d.flag (TIME.TB.CFG.EN i) ∨ d.rd (TIME.TB.CFG.SRC i) ≠ 0 then d
  else
    let trim := clampI (-4294967) 4294967 (sgn 32 (d.rd (TIME.TB.TRIM i)))
    let acc := lookD d.time.tbFrac i 0 + n * (2 * ((2 ^ 32 : Nat) + trim)).toNat
    let whole := acc / (5 * 2 ^ 32)
    let d : Dev := { d with time := { d.time with tbFrac := ins i (acc % (5 * 2 ^ 32)) d.time.tbFrac } }
    d.wr (TIME.TB.CNT i) (d.rd (TIME.TB.CNT i) + whole)

/-- The RTC counts over n cycles of 4 ns with its correction and a slew of 200 ppm (R149, R151, R152). -/
def rtcStep (n : Nat) (d : Dev) : Dev :=
  let corr := sgn 16 (d.rd CRUST.COMP.CORR)
  let slewN := min n ((d.crust.slew.natAbs + 7) / 8)
  let sgnSlew : Int := if 0 < d.crust.slew then 1 else if d.crust.slew < 0 then -1 else 0
  let add : Int := 131072 * ((n : Int) * (100000000 + corr) + sgnSlew * (slewN : Nat) * 20000)
  let acc := d.crust.frac + add.toNat
  let subs := d.crust.sub + acc / 100000000000000000
  let left : Int := if d.crust.slew.natAbs ≤ 8 * n then 0 else d.crust.slew - sgnSlew * (8 * n : Nat)
  { d with crust := { d.crust with frac := acc % 100000000000000000, sub := subs % 32768, sec := d.crust.sec + subs / 32768, slew := left } }

/-- n cycles of the TIME PLL pass, 4 ns each (R177), in which no port sends: service time, the domains, the time bases and the RTC advance. The samples
of the correction are kept once a second, for 64 s (R178). -/
def advance (n : Nat) (d : Dev) : Dev :=
  let dt : Int := (4 * n : Nat)
  let (a, added) := match d.time.following with
    | some _ => alignRun 24 (4 * n) (residual d * 100000000000000 / (2 ^ 32 : Nat)) d.time.align
    | none => (d.time.align, 0)
  let base := match d.time.following with
    | some i => (domSt d i).rate * 100000
    | none => d.time.frozen
  let rdt := clampI (-50000000000 * dt) (50000000000 * dt) (base * dt + added)
  let inc : Int := (dt * 100000000000000 + rdt) * (2 ^ 32 : Nat) / 100000000000000
  let sec0 := svcSec d
  let at0 := (d.up, d.time.rSum)
  let d : Dev := { d with up := d.up + 4 * n, time := { d.time with svc := d.time.svc + inc.toNat, align := a, rSum := d.time.rSum + rdt } }
  let run (i : Nat) (d : Dev) : Dev :=
    let x := domSt d i
    if domState d i < 2 then d
    else if domState d i = 5 then setDom i { x with ofs := 0 } d
    else setDom i { x with ofs := x.ofs + dt * (1000000000 + x.rate) * (2 ^ 32 : Nat) / 1000000000 - inc } d
  let d := run 1 (run 0 d)
  let d : Dev :=
    if svcSec d ≠ sec0 then
      let l := d.time.hist ++ [at0]
      { d with time := { d.time with hist := l.drop ((l.filter fun x => x.1 + 64000000000 ≤ d.up).length - 1) } }
    else d
  let d := (List.range 4).foldl (fun (d : Dev) i => tbStep n i d) d
  settleResidual (rtcStep n d)

/-- The device time at which the next pause ends on a port that has frames waiting (R171). -/
def pauseEnd (d : Dev) : Option Nat :=
  (List.range 6).foldl (fun (b : Option Nat) q =>
    let x := ethCount d q
    if x.txq = [] then b else some (min x.paused (b.getD x.paused))) none

/-- n cycles of the TIME PLL pass (R177); the frames that a pause holds on a port leave when its time ends (R171). Each of the first k ends is an
event of its own: a port's queue is empty after its own, so six are enough. -/
def elapseBy : Nat → Nat → Dev → Dev
  | 0, n, d => advance n d
  | k + 1, n, d =>
    match pauseEnd d with
    | some t =>
      if d.up + 4 * n < t then advance n d
      else
        let m := (t - d.up + 3) / 4
        elapseBy k (n - m) ((List.range 6).foldl (fun (d : Dev) q => ethPump q d) (advance (min n m) d))
    | none => advance n d

/-- n cycles of the TIME PLL pass. -/
def elapse (n : Nat) (d : Dev) : Dev := elapseBy 6 n d

/-- Time passes until service time reaches t (2⁻³² ns): whole cycles, and service time stands at t in the last one (log 20). -/
def toSvc (t : Nat) (d : Dev) : Dev :=
  if t ≤ d.time.svc then d
  else
    let d := elapse ((((t - d.time.svc : Nat) : Int) * 100000000000000 / ((100000000000000 + svcRate d) * (4 * 2 ^ 32 : Nat))).toNat) d
    { d with time := { d.time with svc := max d.time.svc t } }

/-- An event that a rule places at the next whole second of service time happens there: service time stands at that second (log 20). -/
def atWholeSecond (d : Dev) : Dev := toSvc ((d.time.svc + secUnits - 1) / secUnits * secUnits) d

/-- Service time is loaded from the RTC in Proof step 9 (R178), or starts from 0 with TIME_LOST. -/
def seedService (d : Dev) : Dev :=
  if d.flag CRUST.STATUS.TIME_LOST then (({ d with time := { d.time with svc := 0 } } : Dev).wr TIME.SVC.STAT.STATE 0)
  else
    ({ d with time := { d.time with svc := (d.crust.sec * 1000000000 + d.crust.sub * 30517578125 / 1000000) * 2 ^ 32 } } : Dev).wr TIME.SVC.STAT.STATE 1

/-! ### Ethernet ports: links (R173) -/

/-- A link comes up or goes down (R173). -/
def setLink (q : Nat) (up : Bool) (d : Dev) : Dev :=
  if d.flag (ETH.PORT.STAT.LINK q) = up then d
  else raiseEv 32 0 0 ((d.put (ETH.PORT.STAT.LINK q) up).bump (ETH.PORT.STAT.LINK_CHG q))

/-- A port starts, or shows CFG_ERR and stays OFF (R170, R173); a port whose MAC failed Proof stays disabled (R95). -/
def ethStart (q : Nat) (d : Dev) : Dev :=
  let d := d.wr (ETH.PORT.STAT.PENDING_REARM q) 0
  if badFunc d (106 + q) then d
  else if ethCfgOk d q then (d.wr (ETH.PORT.STAT.CFG_ERR q) 0).wr (ETH.PORT.STAT.PSTATE q) 1 else d.wr (ETH.PORT.STAT.CFG_ERR q) 1

/-- A port stops (R173): STOPPING, queued frames discarded, the link forced down. -/
def ethStop (q : Nat) (d : Dev) : Dev :=
  setLink q false ({ setEth q { ethCount d q with txq := [] } d with time := { d.time with ethOff := d.time.ethOff.filter (· != q) } }.wr (ETH.PORT.STAT.PSTATE q) 3)

/-- A request to switch a port on or off (R173). -/
def ethRequest (q : Nat) (on : Bool) (d : Dev) : Dev :=
  let d := d.put (ETH.PORT.CFG.EN q) on
  if on then
    match ethState d q with
    | 0 => if ¬ islandOn d 10 then d else if d.flag (ETH.PORT.STAT.MINOFF q) then d.wr (ETH.PORT.STAT.PENDING_REARM q) 1 else ethStart q d
    | 3 => d.wr (ETH.PORT.STAT.PENDING_REARM q) 1
    | 1 => { d with time := { d.time with ethOff := d.time.ethOff.filter (· != q) } }
    | _ => d
  else
    match ethState d q with
    | 2 => ethStop q d
    | 1 => { d with time := { d.time with ethOff := if d.time.ethOff.contains q then d.time.ethOff else d.time.ethOff ++ [q] } }
    | _ => d.wr (ETH.PORT.STAT.PENDING_REARM q) 0

/-- The FCU's reaction to a MAC fault: the port goes down and stays off (FD106 to FD111). -/
def ethFault (q : Nat) (d : Dev) : Dev := if ethState d q = 0 then d else ethStop q (d.wr (ETH.PORT.CFG.EN q) 0)

/-- A port is off at once, with NET or by a fault: what it had queued is gone (R173, R189), and its waiting commands complete, an on request
as refused. -/
def ethGone (q : Nat) (d : Dev) : Dev :=
  let d := (((setLink q false (setEth q { ethCount d q with txq := [] } d)).wr (ETH.PORT.STAT.PSTATE q) 0).wr (ETH.PORT.STAT.PENDING_REARM q) 0).wr (ETH.PORT.TXTS.LEVEL q) 0
  finishKindWith (.ethPort q true) stRefused [ethStatWord d q] (finishKindWith (.ethPort q false) stOK [ethStatWord d q] d)

/-- NET has gone off (R21, R180): every port is down, PTP stops, service time goes on from the holdover counter. -/
def netOff (d : Dev) : Dev :=
  let d := (List.range 6).foldl (fun (d : Dev) q => ethGone q d) d
  let d := (d.wr (ETH.PRP.STAT.NODES 0) 0).wr (ETH.PRP.STAT.NODES 1) 0
  let st := svcState d
  let d := (setDomState 0 0 d)
  let d := (setDomState 1 0 d)
  let r := svcRate d
  let d : Dev := { d with time := { d.time with following := none, frozen := r, align := 0, txts := [], prp := [], ethOff := [] } }
  if st = 2 ∨ st = 3 then setSvcState 4 d else d

/-- NET is on again (R180), or RUN is entered: enabled ports start and the domains restart in LISTENING. -/
def netOn (d : Dev) : Dev :=
  let d := (List.range 6).foldl (fun (d : Dev) q => if d.flag (ETH.PORT.CFG.EN q) ∧ ethState d q = 0 then
    (if d.flag (ETH.PORT.STAT.MINOFF q) then d.wr (ETH.PORT.STAT.PENDING_REARM q) 1 else ethStart q d) else d) d
  domEnable 1 (domEnable 0 d)

/-- RACK is entered (R194): what the ports had queued is not sent, and the domains are off. -/
def netRack (d : Dev) : Dev :=
  domEnable 1 (domEnable 0 ((List.range 6).foldl (fun (d : Dev) q => setEth q { ethCount d q with txq := [] } d) d))

/-- The SerDes clock or supply is lost (R61, R75): every SerDes Ethernet link is down. -/
def ethSerdesDown (d : Dev) : Dev :=
  (List.range 6).foldl (fun (d : Dev) q => if d.rd (ETH.PORT.CFG.MODE q) ≤ 3 then setLink q false d else d) d

end Sys2Proof.Machine
end

