-- ==== Sys2Proof/Machine/CanOps.lean ====
section
/-! DEFINITION. The CAN channels' own operations: states, events, objects, filters, error counters (R199 to R222). -/
namespace Sys2Proof.Machine
open Sys2Proof

/-- Private state of channel n. -/
def canSt (d : Dev) (n : Nat) : CanSt := lookD d.can n {}
/-- Write it. -/
def setCan (n : Nat) (x : CanSt) (d : Dev) : Dev := { d with can := ins n x d.can }
/-- CSTATE: 0 OFF, 1 STARTING, 2 ACTIVE, 3 SLEEP, 4 STOPPING, 5 BUSOFF (R200). -/
def canState (d : Dev) (n : Nat) : Nat := d.rd (CAN.STAT.CSTATE n)
/-- Bus monitoring forced by R219 or R220. -/
def forcedLo (d : Dev) (n : Nat) : Bool := opState d == 2 || opState d == 5 || (d.flag LANES.STAT.SAFE_ACT && canState d n == 2)
/-- The same for a frame that began at device time t (R220): a frame in progress when the SAFE path is applied still counts, one in progress when it is
released does not yet. -/
def forcedAt (d : Dev) (t : Nat) : Bool :=
  opState d == 2 || opState d == 5 || (d.flag LANES.STAT.SAFE_ACT && decide (d.gate.safeAt ≤ t)) ||
    d.gate.spans.any fun e => decide (e.1 ≤ t) && decide (t < e.2)
/-- MODE in effect: values 3 to 7 act as 0 (R227). -/
def canMode (d : Dev) (n : Nat) : Nat := if d.rd (CAN.CTRL.MODE n) ≤ 2 then d.rd (CAN.CTRL.MODE n) else 0
/-- The channel only listens. -/
def listenOnly (d : Dev) (n : Nat) : Bool := canMode d n == 1 || forcedLo d n
/-- The STAT word of a channel (R227). -/
def canStatWord (d : Dev) (n : Nat) : Nat :=
  canState d n * 2 ^ 29 + d.rd (CAN.STAT.PENDING_REARM n) * 2 ^ 28 + d.rd (CAN.STAT.MINOFF n) * 2 ^ 27 + d.rd (CAN.STAT.CFG_ERR n) * 2 ^ 26 +
  d.rd (CAN.STAT.LONELY n) * 2 ^ 25 + b2n (forcedLo d n) * 2 ^ 24 + d.rd (CAN.STAT.ESTATE n) * 2 ^ 22 + d.rd (CAN.STAT.BO_WAIT n) * 2 ^ 21 + d.rd (CAN.STAT.BO_COUNT n) * 2 ^ 8
/-- The EVT and EVT_EN bits by number (R227). -/
def canEvt (n b : Nat) : FRef := ⟨0x800020 + 0x10000 * n, b, b, 0⟩
def canEvtEn (n b : Nat) : FRef := ⟨0x800024 + 0x10000 * n, b, b, 0⟩
/-- The EVT word. -/
def canEvtWord (d : Dev) (n : Nat) : Nat := (List.range 12).foldl (fun a b => a + d.rd (canEvt n b) * 2 ^ b) 0

/-- Set an EVT bit; an enabled bit that changes from 0 raises EV40 + n (R225). -/
def setEvt (n b : Nat) (d : Dev) : Dev :=
  if d.flag (canEvt n b) then d
  else
    let d := d.wr (canEvt n b) 1
    if d.flag (canEvtEn n b) then raiseEv (40 + n) (canEvtWord d n) (canSt d n).lastObj d else d

/-- Set an EVT bit that belongs to an object. -/
def setEvtObj (n b k : Nat) (d : Dev) : Dev := setEvt n b (setCan n { canSt d n with lastObj := k } d)

/-- The value of the stamp counter (R211) at device time t, not after now: service time in µs, or CAN_CLK cycles since the start of FIELD by TS_PRE, of
which there are none while the clock is lost. -/
def canStampAt (d : Dev) (n t : Nat) : Nat :=
  (if d.flag (CAN.CTRL.TS_SRC n) then (svcTotalNs d - (d.up - t)) / 1000
   else (min t ((canSt d n).lostAt.getD t) - (canSt d n).since) * 2 / (25 * max 1 (d.rd (CAN.TSCFG.TS_PRE n)))) % 2 ^ 32
/-- Its value now. -/
def canStamp (d : Dev) (n : Nat) : Nat := canStampAt d n d.up

/-! ### Bit timing (R204) -/

/-- The bit timing is valid. -/
def canTimingOk (d : Dev) (n : Nat) : Bool :=
  let nbrp := d.rd (CAN.NBT.NBRP n) + 1
  let s1 := d.rd (CAN.NBT.NTSEG1 n) + 1
  let s2 := d.rd (CAN.NBT.NTSEG2 n) + 1
  let sjw := d.rd (CAN.NBT.NSJW n) + 1
  let nbit := nbrp * (1 + s1 + s2)
  let dbit := (d.rd (CAN.DBT.DBRP n) + 1) * (1 + (d.rd (CAN.DBT.DTSEG1 n) + 1) + (d.rd (CAN.DBT.DTSEG2 n) + 1))
  decide (2 ≤ s1) && decide (2 ≤ s2) && decide (80 ≤ nbit) && decide (nbit ≤ 640) && decide (sjw ≤ s2) && decide (sjw ≤ s1) &&
    (!d.flag (CAN.CTRL.FD_EN n) ||
      (decide (2 ≤ d.rd (CAN.DBT.DTSEG1 n) + 1) && decide (10 ≤ dbit) && decide (dbit ≤ nbit) && decide (d.rd (CAN.DBT.DSJW n) ≤ d.rd (CAN.DBT.DTSEG2 n)) &&
        (d.flag (CAN.CTRL.TDC_EN n) || decide (80 ≤ dbit))))

/-! ### Objects -/

/-- Bytes of a DLC (R209). -/
def dlcBytes (fdf : Bool) (dlc : Nat) : Nat :=
  if dlc ≤ 8 then dlc
  else if ¬ fdf then 8
  else match dlc with
    | 9 => 12 | 10 => 16 | 11 => 20 | 12 => 24 | 13 => 32 | 14 => 48 | _ => 64

/-- Write an object's 64 data bytes, padded with zeros. -/
def objPutData (n k : Nat) (bs : List Byte) (d : Dev) : Dev :=
  (List.range 16).foldl (fun (d : Dev) w => d.wr (CAN.OBJ.DATA n k w) (fieldAt bs (4 * w) 4)) d
/-- An object's 64 data bytes. -/
def objData (d : Dev) (n k : Nat) : List Byte := (List.range 16).flatMap fun w => toBytes 4 (d.rd (CAN.OBJ.DATA n k w))
/-- The STAT word of an object. -/
def objStatWord (d : Dev) (n k : Nat) : Nat :=
  d.rd (CAN.OBJ.STAT.TXREQ n k) * 2 ^ 31 + d.rd (CAN.OBJ.STAT.NEWDAT n k) * 2 ^ 30 + d.rd (CAN.OBJ.STAT.MSGLOST n k) * 2 ^ 29 + d.rd (CAN.OBJ.STAT.SUSPENDED n k) * 2 ^ 28 +
  d.rd (CAN.OBJ.STAT.CXL_LATE n k) * 2 ^ 27 + d.rd (CAN.OBJ.STAT.TXOK n k) * 2 ^ 26 + d.rd (CAN.OBJ.STAT.TXERR n k) * 2 ^ 25 + d.rd (CAN.OBJ.STAT.DLC n k) * 2 ^ 16 +
  d.rd (CAN.OBJ.STAT.RX_FDF n k) * 2 ^ 7 + d.rd (CAN.OBJ.STAT.RX_BRS n k) * 2 ^ 6 + d.rd (CAN.OBJ.STAT.RX_ESI n k) * 2 ^ 5 + d.rd (CAN.OBJ.STAT.RX_IDE n k) * 2 ^ 4 + d.rd (CAN.OBJ.STAT.RX_RTR n k) * 2 ^ 3
/-- Object k is a transmit object in use. -/
def isTxObj (d : Dev) (n k : Nat) : Bool := d.flag (CAN.OBJ.CFG.USE n k) && d.flag (CAN.OBJ.CFG.DIR n k)
/-- Object k is a receive object in use. -/
def isRxObj (d : Dev) (n k : Nat) : Bool := d.flag (CAN.OBJ.CFG.USE n k) && !d.flag (CAN.OBJ.CFG.DIR n k)

/-- The frame a transmit object sends (R209, R214); a remote frame has no data. -/
def objFrame (d : Dev) (n k : Nat) : CanFrame :=
  let fdf := d.flag (CAN.OBJ.CFG.FDF n k)
  let dlc := d.rd (CAN.OBJ.STAT.DLC n k)
  { id := d.rd (CAN.OBJ.ID n k), ide := d.flag (CAN.OBJ.CFG.IDE n k), rtr := d.flag (CAN.OBJ.CFG.RTR n k), fdf := fdf, brs := fdf && d.flag (CAN.OBJ.CFG.BRS n k), esi := fdf && d.rd (CAN.STAT.ESTATE n) == 1, dlc := dlc, data := if d.flag (CAN.OBJ.CFG.RTR n k) then [] else (objData d n k).take (dlcBytes fdf dlc) }

/-- The arbitration key of R207: the base identifier, base data before base remote before extended, the extension, data before remote,
the object number. -/
def arbKey (d : Dev) (n k : Nat) : Nat :=
  let id := d.rd (CAN.OBJ.ID n k)
  let base := id / 2 ^ 18
  let rtr := d.rd (CAN.OBJ.CFG.RTR n k)
  let tail := if d.flag (CAN.OBJ.CFG.IDE n k) then 2 * 2 ^ 19 + id % 2 ^ 18 * 2 + rtr else rtr * 2 ^ 19
  (base * 2 ^ 22 + tail) * 128 + k

/-- Channel n starts a frame of its own at device time t (R202, R207, R217, R219, R220): not in listen-only, and not once a stop has begun or a sleep
request waits. -/
def canSends (d : Dev) (n t : Nat) : Bool :=
  (canState d n == 2 || canState d n == 4) && canMode d n != 1 && !forcedAt d t &&
    (!(canState d n == 4 || (canSt d n).sleepReq) || decide (t < (canSt d n).haltAt))

/-- The object offered at a start of frame at device time t (R207): of those pending by then the one of lowest key. -/
def canOffered (d : Dev) (n t : Nat) : Option Nat :=
  ((List.range 128).filter fun k => canSends d n t && isTxObj d n k && d.flag (CAN.OBJ.STAT.TXREQ n k) && !d.flag (CAN.OBJ.STAT.SUSPENDED n k) && decide (lookD (canSt d n).reqAt k 0 ≤ t)).foldl
    (fun b k => match b with
      | none => some k
      | some j => if arbKey d n k < arbKey d n j then some k else some j) none

/-- An identifier matches a filter (R208): the format is equal, and the bits the mask selects; a base frame compares bits 28–18 only. -/
def idMatches (fid mask id : Nat) (ide : Bool) : Bool :=
  let m := if ide then mask else mask / 2 ^ 18 * 2 ^ 18
  (fid &&& m) == (id &&& m)

/-- A 80-byte receive record (R224). -/
def rxRecord (num flags dlc id stamp : Nat) (data : List Byte) : List Byte :=
  toBytes 2 num ++ toBytes 1 flags ++ toBytes 1 dlc ++ toBytes 4 id ++ toBytes 4 stamp ++ toBytes 4 0 ++
    (data ++ List.replicate (64 - data.length) 0).take 64

/-- Flag bits 0 to 4 of a receive record. -/
def frameFlags (f : CanFrame) : Nat := b2n f.fdf + 2 * b2n f.brs + 4 * b2n f.esi + 8 * b2n f.ide + 16 * b2n f.rtr

/-- The data bytes of a frame: those of its DLC; none of a remote frame (R209). -/
def frameData (f : CanFrame) : List Byte := if f.rtr then [] else f.data.take (dlcBytes f.fdf f.dlc)

/-- The record of a buffered frame. -/
def hpbRecord (e : HpbEntry) : List Byte :=
  rxRecord (0x8000 + e.filter) (frameFlags e.frame) e.frame.dlc e.frame.id e.stamp (frameData e.frame)

/-- A frame that began at device time t enters the high-priority buffer, or is refused by a full one (R210, R211, R218): the answer says whether it
entered. -/
def hpbPut (n flt t : Nat) (f : CanFrame) (d : Dev) : Dev × Bool :=
  let x := canSt d n
  if x.hpb.length < 4 then
    let d := (setCan n { x with hpb := x.hpb ++ [{ filter := flt, frame := f, stamp := canStampAt d n t }] } d).wr (CAN.HPB_STAT.LEVEL n) (x.hpb.length + 1)
    (raiseEv (56 + n) (x.hpb.length + 1) flt d, true)
  else (setEvt n 9 (d.bump (CAN.HPB_STAT.FULL n)), false)

/-- Store a frame that began at device time t in a receive object at once (R208, R209, R211). -/
def objStore (n k t : Nat) (f : CanFrame) (d : Dev) : Dev :=
  let d := if d.flag (CAN.OBJ.STAT.NEWDAT n k) then d.wr (CAN.OBJ.STAT.MSGLOST n k) 1 else d
  let d := ((d.wr (CAN.OBJ.RXID n k) f.id).wr (CAN.OBJ.STAT.DLC n k) f.dlc).put (CAN.OBJ.STAT.RX_FDF n k) f.fdf
  let d := ((d.put (CAN.OBJ.STAT.RX_BRS n k) f.brs).put (CAN.OBJ.STAT.RX_ESI n k) f.esi).put (CAN.OBJ.STAT.RX_IDE n k) f.ide
  let d := (d.put (CAN.OBJ.STAT.RX_RTR n k) f.rtr).wr (CAN.OBJ.STAMP n k) (canStampAt d n t)
  let d := (objPutData n k (frameData f) d).wr (CAN.OBJ.STAT.NEWDAT n k) 1
  -- the bus engine takes a frame from its own objects at once (log 28)
  let d := if d.flag (CAN.OBJ.CFG.OWNER n k) then setCan n { canSt d n with engIn := (canSt d n).engIn ++ [(f, t)] } (d.wr (CAN.OBJ.STAT.NEWDAT n k) 0) else d
  if d.flag (CAN.OBJ.CFG.RXIE n k) then setEvtObj n 0 k d else d

/-- The receive object that takes a frame (R208). While the SAFE path forces bus monitoring the host's objects do not store (R220); the bus engine's take
what its sessions receive (R243; DEDUCED, log 90). -/
def rxTarget (d : Dev) (n t : Nat) (f : CanFrame) : Option Nat :=
  (List.range 128).find? fun k =>
    isRxObj d n k && (!forcedAt d t || d.flag (CAN.OBJ.CFG.OWNER n k)) && d.flag (CAN.OBJ.CFG.IDE n k) == f.ide && d.flag (CAN.OBJ.CFG.RTR n k) == f.rtr &&
    idMatches (d.rd (CAN.OBJ.ID n k)) (d.rd (CAN.OBJ.MASK n k)) f.id f.ide &&
    (!d.flag (CAN.OBJ.STAT.NEWDAT n k) || d.flag (CAN.OBJ.CFG.OVW n k))

/-- Test a frame against the receive objects (R208). -/
def rxObjects (n t : Nat) (f : CanFrame) (d : Dev) : Dev :=
  match rxTarget d n t f with
  | some k => objStore n k t f d
  | none => setEvt n 8 (d.bump (CAN.CNT.RX_LOST n))

/-- Test a frame that began at device time t: the high-priority filters first, then the objects (R208, R210). -/
def rxTest (n t : Nat) (f : CanFrame) (d : Dev) : Dev :=
  match (List.range 8).find? (fun k => d.flag (CAN.HPF.ID.EN n k) && d.flag (CAN.HPF.ID.IDE n k) == f.ide && idMatches (d.rd (CAN.HPF.ID.ID n k)) (d.rd (CAN.HPF.MASK n k)) f.id f.ide) with
  | some k =>
    let (d, took) := hpbPut n k t f d
    if took then d else rxObjects n t f d
  | none => rxObjects n t f d

/-! ### Error confinement (R214 to R216) -/

/-- ESTATE follows the counters, with EVT.ESTATE on a change between active and passive. -/
def settleEstate (n : Nat) (d : Dev) : Dev :=
  if canState d n = 5 then d.wr (CAN.STAT.ESTATE n) 2
  else
    let e := if 128 ≤ d.rd (CAN.ERR.TEC n) ∨ 128 ≤ d.rd (CAN.ERR.REC n) then 1 else 0
    let old := d.rd (CAN.STAT.ESTATE n)
    let d := d.wr (CAN.STAT.ESTATE n) e
    if old ≠ e ∧ old ≠ 2 then setEvt n 3 d else d

/-- Enter BUSOFF (R215). A stop that has begun runs to completion: the channel stays in STOPPING (R202). -/
def busOff (n : Nat) (d : Dev) : Dev :=
  let stopping := canState d n = 4
  let d := (d.wr (CAN.ERR.TEC n) 256).bump (CAN.STAT.BO_COUNT n)
  let d := if stopping then d else d.wr (CAN.STAT.CSTATE n) 5
  let d := if stopping ∨ d.flag (CAN.CTRL.BO_AUTO n) then d else d.wr (CAN.STAT.BO_WAIT n) 1
  setEvt n 4 (d.wr (CAN.STAT.ESTATE n) 2)

/-- Raise TEC by 8 (R214, R215), up to the bus-off that ends it. -/
def tecUp (n : Nat) (d : Dev) : Dev :=
  let t := d.rd (CAN.ERR.TEC n) + 8
  if 255 < d.rd (CAN.ERR.TEC n) then d else if 255 < t then busOff n d else settleEstate n (d.wr (CAN.ERR.TEC n) t)

/-- Resume every suspended object (R216): it is offered from the next start of frame on. -/
def resumeAll (n : Nat) (d : Dev) : Dev :=
  ((List.range 128).filter fun k => d.flag (CAN.OBJ.STAT.SUSPENDED n k)).foldl
    (fun (d : Dev) k => setCan n { canSt d n with reqAt := ins k d.up (canSt d n).reqAt } (d.wr (CAN.OBJ.STAT.SUSPENDED n k) 0)) d

/-- The first acknowledged or error-free frame clears LONELY, ACK_RUN and resumes suspended objects (R216). -/
def notLonely (n : Nat) (d : Dev) : Dev := resumeAll n ((d.wr (CAN.CNT.ACK_RUN n) 0).wr (CAN.STAT.LONELY n) 0)

/-- A frame was received without error: REC falls by 1, and from above 127 to a value between 119 and 127 that the standard leaves open (R214;
log 1); the node is not lonely (R216). -/
def recDown (n : Nat) (d : Dev) : Dev :=
  let r := d.rd (CAN.ERR.REC n)
  let (v, d) := if 127 < r then takeFree 32 d else (0, d)
  settleEstate n (notLonely n (d.wr (CAN.ERR.REC n) (if 127 < r then 119 + v % 9 else r - 1)))

/-! ### Ends of transmissions (R212, R213) -/

/-- Wait tags: a CAN_TX with WAIT, and a CAN_CANCEL, of an object. -/
def canTxTag (n k : Nat) : WaitKind := .other 30 (128 * n + k)
def canCancelTag (n k : Nat) : WaitKind := .other 31 (128 * n + k)
/-- A sleep request of a channel (R217). -/
def canSleepTag (n : Nat) : WaitKind := .other 32 n

/-- The DLC whose length holds n bytes (R209). -/
def dlcFor (n : Nat) : Nat :=
  if n ≤ 8 then n else if n ≤ 12 then 9 else if n ≤ 16 then 10 else if n ≤ 20 then 11 else if n ≤ 24 then 12 else if n ≤ 32 then 13 else if n ≤ 48 then 14 else 15

/-- Object k becomes pending now. -/
def setPending (n k : Nat) (d : Dev) : Dev := setCan n { canSt d n with reqAt := ins k d.up (canSt d n).reqAt } (d.wr (CAN.OBJ.STAT.TXREQ n k) 1)

/-- The bus engine puts its next waiting frame into its transmit object k (R229, R236). -/
def engLoad (n k : Nat) (d : Dev) : Dev :=
  match lookD (canSt d n).engQ k [] with
  | [] => d
  | f :: t =>
    if d.flag (CAN.OBJ.STAT.TXREQ n k) then d
    else
      let d := setCan n { canSt d n with engQ := if t = [] then del k (canSt d n).engQ else ins k t (canSt d n).engQ } d
      let d := ((d.wr (CAN.OBJ.CFG.USE n k) 1).wr (CAN.OBJ.CFG.DIR n k) 1).wr (CAN.OBJ.CFG.IDE n k) 1
      let d := (((d.put (CAN.OBJ.CFG.FDF n k) f.fdf).put (CAN.OBJ.CFG.BRS n k) f.brs).wr (CAN.OBJ.CFG.RTR n k) 0).wr (CAN.OBJ.ID n k) f.id
      setPending n k (objPutData n k f.data (d.wr (CAN.OBJ.STAT.DLC n k) f.dlc))

/-- The transmission of object k, whose frame began at device time t, ends with an outcome: TXREQ clears, TXOK or TXERR, EVT by TXIE, and the waiting
commands complete. -/
def txDone (n k t outcome : Nat) (ok : Bool) (d : Dev) : Dev :=
  let st := canStampAt d n t
  let d := (d.wr (CAN.OBJ.STAT.TXREQ n k) 0).wr (CAN.OBJ.STAT.SUSPENDED n k) 0
  let d := if ok then (d.wr (CAN.OBJ.STAT.TXOK n k) 1).wr (CAN.OBJ.STAMP n k) st else if outcome = 2 then d else d.wr (CAN.OBJ.STAT.TXERR n k) 1
  let d := if d.flag (CAN.OBJ.CFG.TXIE n k) then setEvtObj n (if ok then 1 else 2) k d else d
  let d := setCan n { canSt d n with cancels := (canSt d n).cancels.filter (· != k) } d
  let d := finishKindWith (canTxTag n k) stOK [outcome, if ok then st else 0, objStatWord d n k] d
  let d := finishKindWith (canCancelTag n k) stOK [outcome, if ok then st else 0] d
  if outcome = 7 then setCan n { canSt d n with engQ := del k (canSt d n).engQ } d else engLoad n k d

/-! ### States (R201 to R203, R217 to R222) -/

/-- The channel is error active again, with EVT.ESTATE if it was error passive (R214). -/
def toActive (n : Nat) (d : Dev) : Dev :=
  if d.rd (CAN.STAT.ESTATE n) = 1 then setEvt n 3 (d.wr (CAN.STAT.ESTATE n) 0) else d.wr (CAN.STAT.ESTATE n) 0

/-- Start a channel (R201): STARTING with the error counters at 0, or CFG_ERR; without CAN_CLK it stays OFF until the clock is back (R75, R203), and a channel
that failed Proof stays disabled (R95). -/
def canBegin (n : Nat) (d : Dev) : Dev :=
  let d := d.wr (CAN.STAT.PENDING_REARM n) 0
  if ¬ bitOf (d.rd PWR.CLK_STAT.PRESENT) 4 ∨ badFunc d (115 + n) then d
  else if ¬ canTimingOk d n then setEvt n 10 (d.wr (CAN.STAT.CFG_ERR n) 1)
  else
    let d := ((d.wr (CAN.STAT.CFG_ERR n) 0).wr (CAN.ERR.TEC n) 0).wr (CAN.ERR.REC n) 0
    (toActive n (d.wr (CAN.CNT.ACK_RUN n) 0)).wr (CAN.STAT.CSTATE n) 1

/-- A wake (R218): EVT.WAKE, then STARTING. -/
def canWakeUp (n : Nat) (d : Dev) : Dev := setEvt n 7 (d.wr (CAN.STAT.CSTATE n) 1)

/-- A stop begins (R202): a channel that drives nothing stops as well; BUSOFF, SLEEP and STARTING go through STOPPING too. -/
def canHalt (n : Nat) (d : Dev) : Dev :=
  let d := finishKindWith (.can n true) stOK [canStatWord d n] (finishKindWith (canSleepTag n) stOK [canStatWord d n] d)
  setCan n { canSt d n with sleepReq := false, haltAt := if (canSt d n).sleepReq then (canSt d n).haltAt else d.up } ((d.wr (CAN.STAT.CSTATE n) 4).wr (CAN.STAT.BO_WAIT n) 0)

/-- Clear every pending transmission with TXERR: outcome FLUSHED (R202). -/
def canFlush (n : Nat) (d : Dev) : Dev :=
  (List.range 128).foldl (fun (d : Dev) k => if d.flag (CAN.OBJ.STAT.TXREQ n k) then txDone n k d.up 7 false d else d) d

/-- STOPPING ends (R202): OFF, the minimum off time starts. -/
def canStopped (n : Nat) (d : Dev) : Dev :=
  let d := canFlush n d
  let d := ((setCan n { canSt d n with segs := [] } d).wr (CAN.STAT.CSTATE n) 0).wr (CAN.STAT.MINOFF n) 1
  finishKindWith (.can n false) stOK [canStatWord d n] d

/-- Request a channel on or off (R201, R202). -/
def canRequest (n : Nat) (on : Bool) (d : Dev) : Dev :=
  let d := d.put (CAN.CTRL.EN n) on
  if on then
    match canState d n with
    | 0 => if ¬ islandOn d 11 then d else if d.flag (CAN.STAT.MINOFF n) then d.wr (CAN.STAT.PENDING_REARM n) 1 else canBegin n d
    | 4 => d.wr (CAN.STAT.PENDING_REARM n) 1
    | _ => d
  else
    match canState d n with
    | 0 => d.wr (CAN.STAT.PENDING_REARM n) 0
    | 4 => d.wr (CAN.STAT.PENDING_REARM n) 0
    | _ => canHalt n d

/-- CAN_CLK is lost (R203): every channel OFF at once, TXREQ, NEWDAT and the error counters cleared. -/
def canClockLost (d : Dev) : Dev :=
  (List.range 16).foldl (fun (d : Dev) n =>
    let d := (List.range 128).foldl (fun (d : Dev) k =>
      let d := if d.flag (CAN.OBJ.STAT.TXREQ n k) then finishKindWith (canCancelTag n k) stOK [7, 0] (finishKindWith (canTxTag n k) stOK [7, 0, objStatWord d n k] d) else d
      ((d.wr (CAN.OBJ.STAT.TXREQ n k) 0).wr (CAN.OBJ.STAT.NEWDAT n k) 0).wr (CAN.OBJ.STAT.SUSPENDED n k) 0) d
    let d := setCan n { canSt d n with sleepReq := false, cancels := [], engQ := [], engIn := [], segs := [], lostAt := some ((canSt d n).lostAt.getD d.up) } d
    let d := finishKindWith (.can n false) stOK [canStatWord d n] (finishKindWith (canSleepTag n) stOK [canStatWord d n] d)
    let d := ((d.wr (CAN.ERR.TEC n) 0).wr (CAN.ERR.REC n) 0).wr (CAN.STAT.BO_WAIT n) 0
    (toActive n d).wr (CAN.STAT.CSTATE n) 0) d

/-- CAN_CLK has been valid for 1 ms (R203, R211): its counters have run on for that time, and stood still while it was absent. -/
def canClockBack (d : Dev) : Dev :=
  (List.range 16).foldl (fun (d : Dev) n =>
    let x := canSt d n
    setCan n { x with since := x.since + (d.up - x.lostAt.getD d.up - 1000000), lostAt := none } d) d

/-- Every channel with EN at 1 that is OFF starts (R203, R222). -/
def canStartEnabled (d : Dev) : Dev :=
  (List.range 16).foldl (fun (d : Dev) n => if d.flag (CAN.CTRL.EN n) ∧ canState d n = 0 then
    (if d.flag (CAN.STAT.MINOFF n) then d.wr (CAN.STAT.PENDING_REARM n) 1 else canBegin n d) else d) d

/-- FIELD stops (R222): each running channel goes through STOPPING. -/
def canFieldStop (d : Dev) : Dev := (List.range 16).foldl (fun (d : Dev) n => if canState d n = 0 then d else canHalt n d) d

/-- FIELD is off (R222): objects, buffers, counters and stamps are lost; the registers hold their committed values. -/
def canFieldOff (d : Dev) : Dev :=
  let d := (List.range 16).foldl (fun (d : Dev) n => finishKindWith (.can n false) stOK [0] (canFlush n d)) d
  (({ d with can := [] } : Dev).resetRange 0x800000 0x900000).reloadRange 0x800000 0x900000

/-- FIELD is on (R211, R222): the stamp counters start together and the enabled channels start. -/
def canFieldOn (d : Dev) : Dev :=
  canStartEnabled ((List.range 16).foldl (fun (d : Dev) n => setCan n { canSt d n with since := d.up, lostAt := if bitOf (d.rd PWR.CLK_STAT.PRESENT) 4 then none else some d.up } d) d)

/-- The FCU's reaction to a controller fault (FD115 to FD130): the channel is OFF. -/
def canFault (n : Nat) (d : Dev) : Dev := if canState d n = 0 then d else canHalt n (d.wr (CAN.CTRL.EN n) 0)

end Sys2Proof.Machine
end

