-- ==== Sys2Proof/Machine/LaneOps.lean ====
section
/-! DEFINITION. What every user of the lanes needs: base ticks and effective ticks (R26, R238, R262, R416, R445), hand-overs, the lanes' process
image with its forces (R427, R428, R446), the fields of a loop context, and how a lane starts from the active images (R402, R420, R431). -/
namespace Sys2Proof.Machine
open Sys2Proof

/-! ### Ticks -/

/-- One base tick in ns. -/
abbrev tickNs : Nat := 250000

/-- The first base tick that starts at least `lead` ns from now, counted from the common start; 0 before it (R26, R262). -/
def effTick (lead : Nat) (d : Dev) : Nat :=
  match d.gate.t0 with
  | none => 0
  | some t => (d.up + lead - t + tickNs - 1) / tickNs

/-- The first base tick after the present instant. -/
def nextTick (d : Dev) : Nat :=
  match d.gate.t0 with
  | none => 0
  | some t => (d.up - t) / tickNs + 1

/-! ### Lanes -/

/-- The private state of lane l. -/
def laneSt (d : Dev) (l : Nat) : LaneSt := lookD d.lane l {}
/-- Write it. -/
def setLane (l : Nat) (x : LaneSt) (d : Dev) : Dev := { d with lane := ins l x d.lane }
/-- LSTATE of lane l (R479). -/
def laneLState (d : Dev) (l : Nat) : Nat := d.rd ⟨0x1500004, 4 * l + 2, 4 * l, 0⟩
/-- Lane l runs: it is voted, or shadows (R472). -/
def laneRuns (d : Dev) (l : Nat) : Bool := laneLState d l == 5 || laneLState d l == 4
/-- Lane l takes hand-overs: from MIRRORING on (R472). -/
def laneTakes (d : Dev) (l : Nat) : Bool := laneRuns d l || laneLState d l == 3
/-- The lowest-lettered lane in service. -/
def lowLane (d : Dev) : Option Nat := if laneLState d 0 = 5 then some 0 else if laneLState d 1 = 5 then some 1 else if laneLState d 2 = 5 then some 2 else none
/-- Its private state. -/
def lowSt (d : Dev) : LaneSt := match lowLane d with
  | some l => laneSt d l
  | none => {}

/-- A lane's register field. -/
def LaneSt.rd (x : LaneSt) (f : FRef) : Nat := bankRd x.regs f
/-- A one-bit field of a lane. -/
def LaneSt.flag (x : LaneSt) (f : FRef) : Bool := x.rd f != 0
/-- Write a lane's field. -/
def LaneSt.wr (x : LaneSt) (f : FRef) (v : Nat) : LaneSt := { x with regs := bankWr x.regs f v }
/-- Write a one-bit field of a lane. -/
def LaneSt.put (x : LaneSt) (f : FRef) (b : Bool) : LaneSt := x.wr f (b2n b)
/-- Count up a saturating field of a lane. -/
def LaneSt.bump (x : LaneSt) (f : FRef) : LaneSt := x.wr f (satInc f.width (x.rd f))

/-- The source byte of a record that the lowest-lettered lane in service makes (R424, R455, R504). -/
def laneSrc (d : Dev) : Nat := match lowLane d with
  | some l => 4 + l
  | none => 0

/-- A field of LOOP or CLP as the lowest-lettered lane in service holds it (R38). -/
def lrd (d : Dev) (f : FRef) : Nat := (lowSt d).rd f
/-- A one-bit field of LOOP or CLP. -/
def lflag (d : Dev) (f : FRef) : Bool := lrd d f != 0
/-- Change every lane that takes hand-overs. -/
def eachLane (f : LaneSt → LaneSt) (d : Dev) : Dev :=
  { d with lane := d.lane.map fun e => if laneTakes d e.1 then (e.1, f e.2) else e }

/-- A hand-over that METER's copy of the input side takes too (R315, R446). -/
def HandOver.isInput : HandOver → Bool
  | .inBit .. => true
  | .inWord .. => true
  | .force .. => true
  | .unforce .. => true
  | _ => false

/-- Hand changes over to the lanes with one effective tick (R238, R262, R445), and inputs to METER's copy (R315). -/
def handAt (eff : Nat) (hs : List HandOver) (d : Dev) : Dev :=
  let c := d.meter.copy
  let d : Dev := { d with meter := { d.meter with copy := { c with pend := c.pend ++ (hs.filter HandOver.isInput).map fun h => (eff, h) } } }
  eachLane (fun x => { x with pend := x.pend ++ hs.map fun h => (eff, h) }) d

/-- Hand over at the first base tick at least 20 µs away (R262). -/
def handOver (hs : List HandOver) (d : Dev) : Dev := handAt (effTick 20000 d) hs d

/-- Hand a change of loop n over (R416). -/
def handLoop (eff n : Nat) (c : LoopChange) (d : Dev) : Dev :=
  eachLane (fun x => { x with lpend := ins n (lookD x.lpend n [] ++ [(eff, c)]) x.lpend }) d

/-! ### The process image in a lane (R427, R428, R446) -/

/-- The key of a forced item. -/
def forceKey (space a : Nat) : Nat := 65536 * space + a
/-- An input bit as a reader sees it. -/
def LaneSt.inBit (x : LaneSt) (a : Nat) : Item :=
  match look x.forces (forceKey 0 a) with
  | some v => { v := v % 2, q := 3 }
  | none => lookD x.inB a {}
/-- An input word as a reader sees it. -/
def LaneSt.inWord (x : LaneSt) (a : Nat) : Item :=
  match look x.forces (forceKey 5 a) with
  | some v => { v := v, q := 3 }
  | none => lookD x.inW a {}
/-! ### Loop contexts -/

/-- The word of a loop context at an offset, with its reset value (R426). -/
def ctxWord (n off : Nat) : FRef :=
  ⟨0xE10000 + 0x100 * n + off, 31, 0, match off with
    | 0x48 => 0x3F800000 | 0x58 => 0x3F800000 | 0x68 => 0x3F800000 | 0x80 => 0x42C80000
    | 0x88 => 0xC9742400 | 0x8C => 0x49742400 | 0x94 => 0x41200000 | _ => 0⟩

/-- Write words of a context: CTRL's settings, STAT's W1C bits, and the whole-word fields (R426). -/
def writeCtx (n : Nat) (ws : List (Nat × Nat)) (x : LaneSt) : LaneSt :=
  ws.foldl (fun (x : LaneSt) w =>
    if w.1 = 0x10 then
      (((x.wr (LOOP.CTX.CTRL.START_MODE n) (bitsOf w.2 27 26)).wr (LOOP.CTX.CTRL.SPTRK n) (bitsOf w.2 25 25)).wr (LOOP.CTX.CTRL.SUBST_HOLD n) (bitsOf w.2 24 24)).wr (LOOP.CTX.CTRL.FE_ACT n) (bitsOf w.2 23 22)
    else if w.1 = 0x14 then
      let clr (x : LaneSt) (f : FRef) : LaneSt := if bitOf w.2 f.lo then x.wr f 0 else x
      clr (clr (clr x (LOOP.CTX.STAT.FE_TRIP n)) (LOOP.CTX.STAT.SP_CLAMP n)) (LOOP.CTX.STAT.COEF_REFUSED n)
    else x.wr (ctxWord n w.1) w.2) x

/-- Periods of the sample classes in base ticks; class 7 has none (R397). -/
def clsTicks (c : Nat) : Nat := match c with
  | 0 => 1 | 1 => 4 | 2 => 40 | 3 => 400 | 4 => 4000 | 5 => 40000 | 6 => 240000 | _ => 0

/-- The class period as binary32: 0.00025, 0.001, 0.01, 0.1, 1, 10, 60 s, or TRIG_H (R402). -/
def clsH (trigH c : Nat) : Nat := match c with
  | 0 => 0x3983126F | 1 => 0x3A83126F | 2 => 0x3C23D70A | 3 => 0x3DCCCCCD | 4 => 0x3F800000 | 5 => 0x41200000 | 6 => 0x42700000 | _ => trigH

/-- FE_N: the smallest integer not below FE_TIME / h, exactly (R402). -/
def feN (feTime trigH c : Nat) : Nat :=
  match f32Exact feTime with
  | none => 1
  | some t =>
    if c < 7 then
      -- t / 2^149 seconds over clsTicks × 250 µs
      let den := clsTicks c * 250 * 2 ^ 149
      (t.toNat * 1000000 + den - 1) / den
    else match f32Exact trigH with
      | some h => if h ≤ 0 then 1 else (t.toNat + h.toNat - 1) / h.toNat
      | none => 1

/-- What the lane holds of loop n beside its registers. -/
def LaneSt.hidOf (x : LaneSt) (n : Nat) : LoopHid := lookD x.hid n {}
/-- Write it. -/
def LaneSt.setHid (x : LaneSt) (n : Nat) (h : LoopHid) : LaneSt := { x with hid := ins n h x.hid }

/-- The derived coefficients of loop n (R402). -/
def derive (n : Nat) (x : LaneSt) : LaneSt :=
  let b := lookD x.binds n {}
  let trigH := x.rd LOOP.TRIG_H
  let h := clsH trigH b.cls.val
  let g (f : Nat → FRef) := x.rd (f n)
  let tfh := f32Add true (g LOOP.CTX.TF) h
  let y := (((x.wr (LOOP.CTX.KIH n) (f32Mul true (g LOOP.CTX.KI) h)).wr (LOOP.CTX.AD n) (f32Div true (g LOOP.CTX.TF) tfh)).wr (LOOP.CTX.BD n) (f32Div true (g LOOP.CTX.KD) tfh)).wr (LOOP.CTX.RLH n) (f32Mul true (g LOOP.CTX.RL) h)
  y.setHid n { y.hidOf n with feN := feN (g LOOP.CTX.FE_TIME) trigH b.cls.val }

/-- Write the binding words of loop n (R426). -/
def writeBind (n : Nat) (o : Option LoopBind) (x : LaneSt) : LaneSt :=
  let b := o.getD {}
  let x := { x with binds := match o with
    | some b => ins n b x.binds
    | none => del n x.binds }
  let x := (((x.put (LOOP.CTX.BIND0.EN n) o.isSome).wr (LOOP.CTX.BIND0.CLASS n) b.cls.val).put (LOOP.CTX.BIND0.FF_EN n) b.ffEn).put (LOOP.CTX.BIND0.DIR n) b.dir
  let x := (((x.put (LOOP.CTX.BIND0.CAS n) b.cas).wr (LOOP.CTX.BIND0.MASTER n) b.master).wr (LOOP.CTX.BIND1.PV_WORD n) b.pv).wr (LOOP.CTX.BIND1.OUT_WORD n) b.out
  ((x.wr (LOOP.CTX.BIND2.FF_WORD n) b.ff).put (LOOP.CTX.BIND2.ILK_EN n) b.ilkEn).wr (LOOP.CTX.BIND2.ILK_BIT n) b.ilkBit

/-- LOOP.CLS[c].LOOPS follows the bindings. -/
def countCls (x : LaneSt) : LaneSt :=
  (List.range 8).foldl (fun (x : LaneSt) c => x.wr (LOOP.CLS.LOOPS c) (x.binds.filter fun e => e.2.cls.val == c).length) x

/-- The fields of a loop's context that are 0 after a reset beside its words of state (R426); a force survives (R414). -/
def ctxStatFields : List (Nat → FRef) :=
  [LOOP.CTX.CTRL.SP_SRC, LOOP.CTX.STAT.HOLD_CAUSE, LOOP.CTX.STAT.ILK, LOOP.CTX.STAT.FE_TRIP, LOOP.CTX.STAT.LIM_HI, LOOP.CTX.STAT.LIM_LO, LOOP.CTX.STAT.RATE_LIM,
   LOOP.CTX.STAT.FF_STALE, LOOP.CTX.STAT.SP_CLAMP, LOOP.CTX.STAT.COEF_REFUSED, LOOP.CTX.SAMPLE, LOOP.CTX.FE_CNT, LOOP.CTX.RSP, LOOP.CTX.SP, LOOP.CTX.PV, LOOP.CTX.PVN]
/-- A loop starts (R396, R420, R426): tuning as it stands, states 0, OUT at OUT_INIT, LSP at START_SP, RSP_WAIT set, PV_Q STALE, START_MODE's mode;
AUTO goes through the preset. -/
def loopStart (n : Nat) (x : LaneSt) : LaneSt :=
  let init := x.rd (LOOP.CTX.OUT_INIT n)
  let sm := x.rd (LOOP.CTX.CTRL.START_MODE n)
  let x := ctxStatFields.foldl (fun (x : LaneSt) f => x.wr (f n) 0) x
  let x := (((x.wr (LOOP.CTX.OUT n) init).wr (LOOP.CTX.LSP n) (x.rd (LOOP.CTX.START_SP n))).wr (LOOP.CTX.STAT.RSP_WAIT n) 1).wr (LOOP.CTX.STAT.PV_Q n) 1
  let x := (x.wr (LOOP.CTX.CTRL.MODE n) (if sm = 3 then 0 else sm)).wr (LOOP.CTX.MAN_OUT n) (if sm = 1 then init else 0)
  let x := [0xB0, 0xB4, 0xB8, 0xBC, 0xC0, 0xC4, 0xC8, 0xCC].foldl (fun (x : LaneSt) o => x.wr (ctxWord n o) 0) x
  derive n (x.setHid n { preset := sm == 2 })

/-! ### A lane's start -/

/-- P in base ticks (R432): MIN_TICKS 1 to 4,000 and WC_TICKS. -/
def clpPeriod (minTicks wc : Nat) : Nat := max (clampN 1 4000 minTicks) wc

/-- The CLP's identification registers follow its image. -/
def clpIdRegs (x : LaneSt) : LaneSt :=
  let i := x.clp.img
  ((((x.wr CLP.IMG_ID i.id).wr CLP.DATA_ID i.dataId).wr CLP.WC.WC_TICKS i.wc).wr CLP.LEN.LENGTH i.code.length).wr CLP.STAT.PERIOD (clpPeriod (x.rd CLP.CFG.MIN_TICKS) i.wc)

/-- The lane's committed settings and images, as at any start (R105, R431, R472): LOOP and CLP settings from eMRAM, bindings, program, presets,
and the retentive ranges from their copy; before a first copy, the image's initial data words in their range. -/
def laneImage (settings : Bool) (d : Dev) : LaneSt :=
  let regs := keepKeys (fun k => decide (32 * 0xE00000 ≤ k) && decide (k < 32 * 0x1000000)) (if settings then d.emram else [])
  let x : LaneSt := { regs := regs }
  let x := d.img.loops.foldl (fun (x : LaneSt) e => writeBind e.1 (some e.2) x) x
  let x := countCls (d.img.loops.foldl (fun (x : LaneSt) e => loopStart e.1 x) x)
  let x := d.frc.loop.foldl (fun (x : LaneSt) e => (x.wr (LOOP.CTX.FORCE_VAL e.1) e.2).wr (LOOP.CTX.STAT.FORCED e.1) 1) x
  let n := min 8192 (x.rd CLP.RET0.RET_DW)
  let dw := if d.img.retHas then d.img.retDw else (d.img.clp.dw0.filter fun e => e.1 < n && e.2 % 2 ^ 32 != 0).foldl (fun m e => ins e.1 (e.2 % 2 ^ 32) m) []
  let c : ClpSt := { img := d.img.clp, m := d.img.retM, dw := dw, ctr := d.img.retC.map fun e => (e.1, { cv := e.2 }) }
  clpIdRegs { x with clp := c, forces := d.frc.clp.foldl (fun m e => ins (forceKey e.2.space e.2.addr) e.2.v m) [] }

/-- Load lane l with its images: at a start with the settings committed under GLB.LOCK, at a lane's power-on with the committed ones (R420, R472). -/
def laneLoad (settings : Bool) (l : Nat) (d : Dev) : Dev := setLane l (laneImage settings d) d

/-- The lanes start at the first whole second after TEMPOS_RUN (R179, R432): sample and cycle index 0 at the common start. -/
def lanesStart (d : Dev) : Dev :=
  { d with gate := { d.gate with t0 := some d.up, retAt := d.up } }

end Sys2Proof.Machine
end

