-- ==== Sys2Proof/Machine/ClpCpu.lean ====
section
/-! DEFINITION. The cyclic logic processor of one lane: operands, instructions, timers and counters (R436 to R442). A word is 32 bits. -/
namespace Sys2Proof.Machine
open Sys2Proof

/-- A bit table's entry; false is not listed. -/
def putBit (m : SMap Bool) (a : Nat) (b : Bool) : SMap Bool := if b then ins a true m else del a m
/-- A word table's entry; 0 is not listed. -/
def putWord (m : SMap Nat) (a v : Nat) : SMap Nat := if v % 2 ^ 32 = 0 then del a m else ins a (v % 2 ^ 32) m

/-- Timer t. -/
def LaneSt.tim (x : LaneSt) (t : Nat) : TimerSt := lookD x.clp.tim t {}
/-- PT of timer t: TPRE's, else the image's. -/
def LaneSt.preset (x : LaneSt) (t : Nat) : Nat := (look x.clp.pt t).getD (lookD x.clp.img.pt t 0)
/-- Counter c. -/
def LaneSt.ctr (x : LaneSt) (c : Nat) : CtrSt := lookD x.clp.ctr c {}
/-- PV of counter c, from the image (R442). -/
def LaneSt.ctrPv (x : LaneSt) (c : Nat) : Nat := lookD x.clp.img.pv c 0
/-- Change the CLP's part of a lane. -/
def LaneSt.onClp (f : ClpSt → ClpSt) (x : LaneSt) : LaneSt := { x with clp := f x.clp }

/-- The snapshot's input bit and word, forced or not (R433, R446). -/
def snapBit (x : LaneSt) (a : Nat) : Item :=
  match look x.clp.snapF (forceKey 0 a) with
  | some v => { v := v % 2, q := 3 }
  | none => lookD x.clp.snapB a {}
def snapWord (x : LaneSt) (a : Nat) : Item :=
  match look x.clp.snapF (forceKey 5 a) with
  | some v => { v := v, q := 3 }
  | none => lookD x.clp.snapW a {}

/-! ### Operands (R437) -/

/-- The bit operand before N: space, address, QMASK. -/
def bitOpnd (x : LaneSt) (sp a qm : Nat) : Bool :=
  match sp with
  | 0 => (snapBit x a).v == 1
  | 1 => lookD x.clp.outB a false
  | 2 => lookD x.clp.m a false
  | 3 => (x.tim a).q
  | 4 => decide (sgn 32 (x.ctrPv a) ≤ sgn 32 (x.ctr a).cv)
  | 8 => match a with
    | 0 => x.clp.first
    | 1 => x.safe
    | 2 => x.kw
    | 3 => x.clp.err
    | 4 => x.clp.snapF != []
    | _ => false
  | 10 => bitOf qm (snapBit x a).q
  | 11 => bitOf qm (snapWord x a).q
  | _ => false

/-- The word operand: space, address or imm16; `fl` for float operations, which read K as the upper half of a binary32 pattern. -/
def wordOpnd (x : LaneSt) (fl : Bool) (sp a : Nat) : Nat :=
  match sp with
  | 3 => (x.tim a).et
  | 4 => (x.ctr a).cv
  | 5 => (snapWord x a).v
  | 6 => lookD x.clp.outW a 0
  | 7 => lookD x.clp.dw a 0
  | 9 => if fl then a % 65536 * 65536 else wrapI 32 (sgn 16 a)
  | _ => 0

/-- A loop in use owns output word a (R395). -/
def loopOwned (x : LaneSt) (a : Nat) : Bool := x.binds.any fun e => e.2.out == a

/-! ### One instruction: time, address, effect -/

/-- An instruction ends: its time is added and the next address follows (R438, R439). -/
def clpNext (cyc : Nat) (x : LaneSt) : LaneSt := x.onClp fun c => { c with pc := c.pc + 1, cycles := c.cycles + cyc }
/-- Set BA. -/
def setBA (b : Bool) (x : LaneSt) : LaneSt := x.onClp fun c => { c with ba := b }
/-- Set WA. -/
def setWA (v : Nat) (x : LaneSt) : LaneSt := x.onClp fun c => { c with wa := v % 2 ^ 32 }
/-- Set ERR (R440). -/
def setErr (x : LaneSt) : LaneSt := x.onClp fun c => { c with err := true }

/-- Write a bit item of Q or M. -/
def putItemBit (sp a : Nat) (b : Bool) (x : LaneSt) : LaneSt :=
  match sp with
  | 1 => x.onClp fun c => { c with outB := putBit c.outB a b }
  | 2 => x.onClp fun c => { c with m := putBit c.m a b }
  | _ => x

/-- Write a word item of QW or DW; a write to a loop-owned word stays in the CLP's own image and is noted (R429). -/
def putItemWord (sp a v : Nat) (x : LaneSt) : LaneSt :=
  match sp with
  | 6 =>
    let owned := loopOwned x a
    x.onClp fun c => { c with outW := putWord c.outW a v, loopWr := if owned && c.loopWr.isNone then some a else c.loopWr }
  | 7 => x.onClp fun c => { c with dw := putWord c.dw a v }
  | _ => x

/-- The bit operand after N. -/
def opB (x : LaneSt) (sp : Nat) (n : Bool) (qm a : Nat) : Bool := bitOpnd x sp a qm != n

/-! ### Bit instructions (R438, R439) -/

def clpNop (x : LaneSt) : LaneSt := clpNext 1 x
def clpLd (sp : Nat) (n : Bool) (qm a : Nat) (x : LaneSt) : LaneSt := clpNext 1 (setBA (opB x sp n qm a) x)
def clpAnd (sp : Nat) (n : Bool) (qm a : Nat) (x : LaneSt) : LaneSt := clpNext 1 (setBA (x.clp.ba && opB x sp n qm a) x)
def clpOr (sp : Nat) (n : Bool) (qm a : Nat) (x : LaneSt) : LaneSt := clpNext 1 (setBA (x.clp.ba || opB x sp n qm a) x)
def clpXor (sp : Nat) (n : Bool) (qm a : Nat) (x : LaneSt) : LaneSt := clpNext 1 (setBA (x.clp.ba != opB x sp n qm a) x)
def clpNot (x : LaneSt) : LaneSt := clpNext 1 (setBA (!x.clp.ba) x)
/-- Push BA and the combine operation: 0 AND, 1 OR, 2 XOR. -/
def clpBopen (combine : Nat) (x : LaneSt) : LaneSt :=
  clpNext 1 (x.onClp fun c => { c with stack := (c.ba, combine) :: c.stack, ba := combine == 0 })
/-- Pop and combine; R443 keeps the stack from underflowing. -/
def clpBclose (x : LaneSt) : LaneSt :=
  clpNext 1 (x.onClp fun c => match c.stack with
    | (v, k) :: t => { c with stack := t, ba := if k = 0 then v && c.ba else if k = 1 then v || c.ba else v != c.ba }
    | [] => c)
def clpSt (sp : Nat) (n : Bool) (a : Nat) (x : LaneSt) : LaneSt := clpNext 1 (putItemBit sp a (x.clp.ba != n) x)
def clpSet (sp a : Nat) (x : LaneSt) : LaneSt := clpNext 1 (if x.clp.ba then putItemBit sp a true x else x)
def clpRst (sp a : Nat) (x : LaneSt) : LaneSt := clpNext 1 (if x.clp.ba then putItemBit sp a false x else x)
def clpPedge (a : Nat) (x : LaneSt) : LaneSt :=
  let t := x.clp.ba
  clpNext 1 (putItemBit 2 a t (setBA (t && !lookD x.clp.m a false) x))
def clpNedge (a : Nat) (x : LaneSt) : LaneSt :=
  let t := x.clp.ba
  clpNext 1 (putItemBit 2 a t (setBA (!t && lookD x.clp.m a false) x))

/-! ### Timers and counters (R441, R442) -/

/-- Write timer t with ET as it follows while running: min((S − start) div 4, PT). -/
def putTimer (t : Nat) (k : TimerSt) (x : LaneSt) : LaneSt :=
  let k := if k.run then { k with et := min ((x.clp.cur - k.start) / 4) (x.preset t) } else k
  x.onClp fun c => { c with tim := ins t k c.tim }

def clpTon (t : Nat) (x : LaneSt) : LaneSt :=
  let s := x.clp.cur
  let k : TimerSt := { x.tim t with kind := 1 }
  let k := if ¬ x.clp.ba then { k with run := false, q := false, et := 0 }
    else
      let k := if k.run then k else { k with run := true, start := s }
      { k with q := decide (4 * x.preset t ≤ s - k.start) }
  clpNext 4 (setBA k.q (putTimer t k x))

def clpTof (t : Nat) (x : LaneSt) : LaneSt :=
  let s := x.clp.cur
  let k : TimerSt := { x.tim t with kind := 2 }
  let k := if x.clp.ba then { k with run := false, q := true, et := 0 }
    else if k.q then
      let k := if k.run then k else { k with run := true, start := s }
      if 4 * x.preset t ≤ s - k.start then { k with q := false, run := false } else k
    else k
  clpNext 4 (setBA k.q (putTimer t k x))

def clpTp (t : Nat) (x : LaneSt) : LaneSt :=
  let s := x.clp.cur
  let k : TimerSt := { x.tim t with kind := 3 }
  let k : TimerSt := if ¬ k.run ∧ x.clp.ba ∧ ¬ k.last then { k with run := true, start := s, q := true } else k
  let k : TimerSt := if k.run ∧ 4 * x.preset t ≤ s - k.start then { k with q := false, run := false } else k
  let k : TimerSt := { k with last := x.clp.ba }
  clpNext 4 (setBA k.q (putTimer t k x))

/-- PT := clamp(WA, 0, 2³¹ − 1). -/
def clpTpre (t : Nat) (x : LaneSt) : LaneSt :=
  clpNext 4 (if x.clp.ba then x.onClp fun c => { c with pt := ins t (if c.wa < 2 ^ 31 then c.wa else 0) c.pt } else x)
def clpTrst (t : Nat) (x : LaneSt) : LaneSt :=
  clpNext 4 (if x.clp.ba then x.onClp fun c => { c with tim := ins t { x.tim t with run := false, q := false, et := 0 } c.tim } else x)

def clpCtu (a : Nat) (x : LaneSt) : LaneSt :=
  let k := x.ctr a
  let v := if x.clp.ba ∧ ¬ k.lastU ∧ k.cv ≠ 2 ^ 31 - 1 then (k.cv + 1) % 2 ^ 32 else k.cv
  clpNext 4 (x.onClp fun c => { c with ctr := ins a { k with cv := v, lastU := c.ba } c.ctr })
def clpCtd (a : Nat) (x : LaneSt) : LaneSt :=
  let k := x.ctr a
  let v := if x.clp.ba ∧ ¬ k.lastD ∧ k.cv ≠ 2 ^ 31 then (k.cv + (2 ^ 32 - 1)) % 2 ^ 32 else k.cv
  clpNext 4 (x.onClp fun c => { c with ctr := ins a { k with cv := v, lastD := c.ba } c.ctr })
/-- Set CV of a counter. -/
def putCv (a v : Nat) (x : LaneSt) : LaneSt := x.onClp fun c => { c with ctr := ins a { x.ctr a with cv := v % 2 ^ 32 } c.ctr }
def clpCrst (a : Nat) (x : LaneSt) : LaneSt := clpNext 4 (if x.clp.ba then putCv a 0 x else x)
def clpCld (a : Nat) (x : LaneSt) : LaneSt := clpNext 4 (if x.clp.ba then putCv a x.clp.wa x else x)

/-! ### Word instructions (R438, R440) -/

def clpLdw (sp a : Nat) (x : LaneSt) : LaneSt := clpNext 2 (setWA (wordOpnd x false sp a) x)
def clpLdkh (imm : Nat) (x : LaneSt) : LaneSt := clpNext 1 (setWA (imm % 65536 * 65536 + x.clp.wa % 65536) x)
def clpStw (sp a : Nat) (x : LaneSt) : LaneSt := clpNext 2 (putItemWord sp a x.clp.wa x)
def clpStwc (sp a : Nat) (x : LaneSt) : LaneSt := clpNext 2 (if x.clp.ba then putItemWord sp a x.clp.wa x else x)
def clpAdd (sp a : Nat) (x : LaneSt) : LaneSt := clpNext 2 (setWA (x.clp.wa + wordOpnd x false sp a) x)
def clpSub (sp a : Nat) (x : LaneSt) : LaneSt := clpNext 2 (setWA (x.clp.wa + 2 ^ 32 - wordOpnd x false sp a) x)
def clpMul (sp a : Nat) (x : LaneSt) : LaneSt := clpNext 4 (setWA (x.clp.wa * wordOpnd x false sp a) x)
/-- Truncating division; by 0 gives 0, −2³¹ by −1 gives −2³¹, both with ERR. -/
def clpDiv (sp a : Nat) (x : LaneSt) : LaneSt :=
  let p := sgn 32 x.clp.wa
  let q := sgn 32 (wordOpnd x false sp a)
  clpNext 12 (if q = 0 then setErr (setWA 0 x)
    else if p = -(2 ^ 31 : Nat) ∧ q = -1 then setErr (setWA (2 ^ 31) x)
    else setWA (wrapI 32 (Int.tdiv p q)) x)
def clpAndw (sp a : Nat) (x : LaneSt) : LaneSt := clpNext 2 (setWA (x.clp.wa &&& wordOpnd x false sp a) x)
def clpOrw (sp a : Nat) (x : LaneSt) : LaneSt := clpNext 2 (setWA (x.clp.wa ||| wordOpnd x false sp a) x)
def clpXorw (sp a : Nat) (x : LaneSt) : LaneSt := clpNext 2 (setWA (x.clp.wa ^^^ wordOpnd x false sp a) x)
def clpShl (k : Nat) (x : LaneSt) : LaneSt := clpNext 2 (setWA (x.clp.wa * 2 ^ (k % 32)) x)
def clpShr (k : Nat) (x : LaneSt) : LaneSt := clpNext 2 (setWA (x.clp.wa / 2 ^ (k % 32)) x)

/-- A relation (R436): 0 EQ, 1 NE, 2 GT, 3 GE, 4 LT, 5 LE, of a comparison; none is an unordered one, for which only NE holds. -/
def relHolds (rel : Nat) (o : Option Ordering) : Bool :=
  match rel, o with
  | 0, some .eq => true
  | 1, some .eq => false
  | 1, _ => true
  | 2, some .gt => true
  | 3, some .gt => true
  | 3, some .eq => true
  | 4, some .lt => true
  | 5, some .lt => true
  | 5, some .eq => true
  | _, _ => false

def clpCmp (sp : Nat) (n : Bool) (rel a : Nat) (x : LaneSt) : LaneSt :=
  clpNext 2 (setBA (relHolds rel (some (compare (sgn 32 x.clp.wa) (sgn 32 (wordOpnd x false sp a)))) != n) x)

/-- The result of a float operation: an invalid operation on operands that are no NaN, or a division of a finite number by zero, sets ERR. -/
def floatRes (cyc v : Nat) (divZero : Bool) (a b : Nat) (x : LaneSt) : LaneSt :=
  let invalid := f32IsNaN v && !f32IsNaN a && !f32IsNaN b
  clpNext cyc (setWA v (if invalid || divZero then setErr x else x))

def clpFadd (sp a : Nat) (x : LaneSt) : LaneSt := let w := wordOpnd x true sp a; floatRes 4 (f32Add true x.clp.wa w) false x.clp.wa w x
def clpFsub (sp a : Nat) (x : LaneSt) : LaneSt := let w := wordOpnd x true sp a; floatRes 4 (f32Sub true x.clp.wa w) false x.clp.wa w x
def clpFmul (sp a : Nat) (x : LaneSt) : LaneSt := let w := wordOpnd x true sp a; floatRes 4 (f32Mul true x.clp.wa w) false x.clp.wa w x
/-- A subnormal operand counts as zero (R401). -/
def f32Zero (a : Nat) : Bool := bitsOf a 30 23 == 0
def clpFdiv (sp a : Nat) (x : LaneSt) : LaneSt :=
  let w := wordOpnd x true sp a
  floatRes 12 (f32Div true x.clp.wa w) (f32Zero w && f32Finite x.clp.wa) x.clp.wa w x

/-- FMIN and FMAX: the other operand when one is a NaN, the quiet NaN when both are (R440). Which zero is the lesser or greater of +0 and −0
the manual does not say: a free choice, the same on every lane (log 1). -/
def f32MinMax (max : Bool) (a b : Nat) : Nat :=
  if f32IsNaN a then (if f32IsNaN b then f32NaN else f32Flush b)
  else if f32IsNaN b then f32Flush a
  else
    let a := f32Flush a
    let b := f32Flush b
    if a ≠ b ∧ f32Zero a ∧ f32Zero b then (if Config.zeroOf max a b then a else b)
    else if max then (if f32Lt a b then b else a) else (if f32Lt b a then b else a)
def clpFmin (sp a : Nat) (x : LaneSt) : LaneSt := clpNext 4 (setWA (f32MinMax false x.clp.wa (wordOpnd x true sp a)) x)
def clpFmax (sp a : Nat) (x : LaneSt) : LaneSt := clpNext 4 (setWA (f32MinMax true x.clp.wa (wordOpnd x true sp a)) x)
def clpFcmp (sp : Nat) (n : Bool) (rel a : Nat) (x : LaneSt) : LaneSt :=
  clpNext 4 (setBA (relHolds rel (f32Cmp true x.clp.wa (wordOpnd x true sp a)) != n) x)
def clpItof (x : LaneSt) : LaneSt := clpNext 4 (setWA (f32OfInt (sgn 32 x.clp.wa)) x)
/-- Round to nearest even; saturation and NaN set ERR. -/
def clpFtoi (x : LaneSt) : LaneSt :=
  clpNext 4 (match f32Val true x.clp.wa with
    | .nan => setErr (setWA 0 x)
    | .inf neg => setErr (setWA (if neg then 2 ^ 31 else 2 ^ 31 - 1) x)
    | .fin .. =>
      let i := (f32ToInt true x.clp.wa).getD 0
      if i < -(2 ^ 31 : Nat) then setErr (setWA (2 ^ 31) x)
      else if (2 ^ 31 - 1 : Nat) < i then setErr (setWA (2 ^ 31 - 1) x)
      else setWA (wrapI 32 i) x)

/-! ### Jumps (R438, R439) -/

/-- Go to an address. -/
def clpGoto (target : Nat) (x : LaneSt) : LaneSt := x.onClp fun c => { c with pc := target, cycles := c.cycles + 1 }
def clpJmp (target : Nat) (x : LaneSt) : LaneSt := clpGoto target x
def clpJc (target : Nat) (x : LaneSt) : LaneSt := if x.clp.ba then clpGoto target x else clpNext 1 x
def clpJnc (target : Nat) (x : LaneSt) : LaneSt := if x.clp.ba then clpNext 1 x else clpGoto target x
/-- END's own time; what follows is the publication (R433). -/
def clpEnd (x : LaneSt) : LaneSt := x.onClp fun c => { c with cycles := c.cycles + 1 }

/-! ### A program (R433, R436, R438) -/

/-- Opcode of an instruction word. -/
def clpOp (w : Nat) : Nat := bitsOf w 31 26

/-- Execute an instruction word other than END (R436). -/
def clpWord (w : Nat) (x : LaneSt) : LaneSt :=
  let sp := bitsOf w 25 22
  let n := bitOf w 21
  let a := bitsOf w 15 0
  let qm := bitsOf w 19 16
  let sub := bitsOf w 20 16
  let target := bitsOf w 17 0
  match clpOp w with
  | 0x00 => clpNop x | 0x01 => clpLd sp n qm a x | 0x02 => clpAnd sp n qm a x | 0x03 => clpOr sp n qm a x
  | 0x04 => clpXor sp n qm a x | 0x05 => clpNot x | 0x06 => clpBopen (sub % 4) x | 0x07 => clpBclose x
  | 0x08 => clpSt sp n a x | 0x09 => clpSet sp a x | 0x0A => clpRst sp a x | 0x0B => clpPedge a x | 0x0C => clpNedge a x
  | 0x10 => clpTon a x | 0x11 => clpTof a x | 0x12 => clpTp a x | 0x13 => clpTpre a x | 0x14 => clpTrst a x
  | 0x15 => clpCtu a x | 0x16 => clpCtd a x | 0x17 => clpCrst a x | 0x18 => clpCld a x
  | 0x20 => clpLdw sp a x | 0x21 => clpLdkh a x | 0x22 => clpStw sp a x | 0x23 => clpStwc sp a x
  | 0x24 => clpAdd sp a x | 0x25 => clpSub sp a x | 0x26 => clpMul sp a x | 0x27 => clpDiv sp a x
  | 0x28 => clpAndw sp a x | 0x29 => clpOrw sp a x | 0x2A => clpXorw sp a x | 0x2B => clpShl sub x | 0x2C => clpShr sub x
  | 0x2D => clpCmp sp n sub a x
  | 0x30 => clpFadd sp a x | 0x31 => clpFsub sp a x | 0x32 => clpFmul sp a x | 0x33 => clpFdiv sp a x
  | 0x34 => clpFmin sp a x | 0x35 => clpFmax sp a x | 0x36 => clpFcmp sp n sub a x
  | 0x37 => clpItof x | 0x38 => clpFtoi x
  | 0x3C => clpJmp target x | 0x3D => clpJc target x | 0x3E => clpJnc target x
  | _ => clpNop x

/-- The address of the instruction that first set ERR in a run: kept beside it for EV132. -/
def noteErr (was : Bool) (at_ : Nat) (e : Option Nat) (x : LaneSt) : Option Nat := if !was && x.clp.err && e.isNone then some at_ else e

/-- Run the program from the present address until END; forward jumps bound the run by the code's length (R433, R439, R443). -/
def clpRunProg : Nat → LaneSt → Option Nat → LaneSt × Option Nat
  | 0, x, e => (x, e)
  | fuel + 1, x, e =>
    match x.clp.img.code[x.clp.pc]? with
    | none => (x, e)
    | some w =>
      if clpOp w = 0x3F then (clpEnd x, e)
      else
        let y := clpWord w x
        clpRunProg fuel y (noteErr x.clp.err x.clp.pc e y)

end Sys2Proof.Machine
end

