-- ==== Sys2Proof/Machine/LoopLaw.lean ====
section
/-! DEFINITION. The loop engine of one lane: hand-overs taking effect, modes, the control law, following error, and one sample of a class
(R398 to R415, R420). -/
namespace Sys2Proof.Machine
open Sys2Proof

/-- An event that a lane's evaluation gives rise to: source and payload. -/
abbrev LaneEv := Nat × Nat × Nat

/-! ### Hand-overs take effect (R238, R262, R445, R448, R449) -/

/-- A new CLP program (R449): presets from the image, timers of the same kind kept, data kept or set to the image's initial values. -/
def swapClp (img : ClpImage) (keep : Bool) (x : LaneSt) : LaneSt :=
  -- the kind of use of timer t in a program: its TON, TOF or TP instruction
  let kindIn (code : List Nat) (t : Nat) : Nat :=
    match code.find? (fun w => (clpOp w == 0x10 || clpOp w == 0x11 || clpOp w == 0x12) && bitsOf w 15 0 == t) with
    | some w => clpOp w - 0xF
    | none => 0
  let tim := x.clp.tim.filter fun e => kindIn x.clp.img.code e.1 == kindIn img.code e.1 && kindIn img.code e.1 != 0
  let c : ClpSt := { x.clp with img := img, pt := [], tim := tim, first := true }
  let c : ClpSt := if keep then c else { c with done := none, m := [], ctr := [], dw := (img.dw0.filter fun e => e.2 % 2 ^ 32 != 0).foldl (fun m e => ins e.1 (e.2 % 2 ^ 32) m) [] }
  clpIdRegs { x with clp := c }

/-- One hand-over takes effect. -/
def applyHand (h : HandOver) (x : LaneSt) : LaneSt :=
  match h with
  | .inBit a i => { x with inB := ins a i x.inB }
  | .inWord a i => { x with inW := ins a i x.inW }
  | .force sp a v => { x with forces := ins (forceKey sp a) v x.forces }
  | .unforce sp a => { x with forces := del (forceKey sp a) x.forces }
  | .data sp a v =>
    match sp with
    | 2 => x.onClp fun c => { c with m := putBit c.m a (v != 0) }
    | 7 => x.onClp fun c => { c with dw := putWord c.dw a v }
    | 4 => putCv a v x
    | _ => x
  | .voted b v => { x with voted := putBit x.voted b v }
  | .safe on => { x with safe := on }
  | .kw on => { x with kw := on }
  | .period m => x.wr CLP.STAT.PERIOD (clpPeriod m x.clp.img.wc)
  | .clpStop => if x.rd CLP.STAT.STATE = 3 then x else (x.wr CLP.STAT.STATE 0).wr CLP.STAT.MINOFF 1
  | .clpRun => if x.rd CLP.STAT.STATE ≠ 0 then x else (x.wr CLP.STAT.STATE 1).onClp fun c => { c with first := true }
  | .clpImage img keep => swapClp img keep x
  | .clpData m dw ctr =>
    x.onClp fun c => { c with done := none, m := m.foldl (fun t e => putBit t e.1 (e.2 != 0)) [], dw := dw.foldl (fun t e => putWord t e.1 e.2) [], ctr := ctr.map fun e => (e.1, { cv := e.2 % 2 ^ 32 }) }

/-- A hand-over that only a cycle of the CLP takes: its data, its program, its running (R445, R448, R451, R452). -/
def HandOver.atCycle : HandOver → Bool
  | .data .. => true
  | .period _ => true
  | .clpStop => true
  | .clpRun => true
  | .clpImage .. => true
  | .clpData .. => true
  | _ => false

/-- Every hand-over whose effective tick is at or before T takes effect, in order, at a cycle of the CLP or at a loop sample. -/
def applyDue (cycle : Bool) (T : Nat) (x : LaneSt) : LaneSt :=
  let now (e : Nat × HandOver) : Bool := decide (e.1 ≤ T) && (cycle || !e.2.atCycle)
  let due := x.pend.filter now
  let x := { x with pend := x.pend.filter fun e => !now e }
  due.foldl (fun x e => applyHand e.2 x) x

/-! ### Usable values, cascades and the automatic causes (R403, R407, R410) -/

/-- A value is usable (R403). -/
def usable (x : LaneSt) (n : Nat) (i : Item) : Bool :=
  f32Finite i.v && (i.q == 0 || i.q == 3 || (i.q == 2 && !x.flag (LOOP.CTX.CTRL.SUBST_HOLD n)))

/-- The slaves of master n. -/
def slavesOf (x : LaneSt) (n : Nat) : List Nat := (x.binds.filter fun e => e.2.cas && e.2.master == n).map (·.1)
/-- A slave in AUTO with SP_SRC 2. -/
def casClosed (x : LaneSt) (k : Nat) : Bool := x.rd (LOOP.CTX.CTRL.MODE k) == 2 && x.rd (LOOP.CTX.CTRL.SP_SRC k) == 2

/-- The automatic cause of HOLD in effect, first in the order 6, 4, 2, 3, 5; 0 none (R407). -/
def autoCause (x : LaneSt) (n : Nat) (pv : Item) : Nat :=
  if x.safe then 6
  else if ¬ f32Finite pv.v then 4
  else if pv.q = 1 then 2
  else if pv.q = 2 ∧ x.flag (LOOP.CTX.CTRL.SUBST_HOLD n) then 3
  else if (slavesOf x n).any fun k => !casClosed x k then 5
  else 0

/-! ### Changes of a context at its effective sample (R406, R416) -/

/-- A following-error trip's action at the start of the next sample (R406, R415): of a pending trip that `take` names, on a loop in AUTO. -/
def applyTrip (n : Nat) (take : Nat → Bool) (x : LaneSt) : LaneSt :=
  let h := x.hidOf n
  if h.trip = 0 ∨ take h.trip = false then x
  else
    let y := x.setHid n { h with trip := 0 }
    if x.rd (LOOP.CTX.CTRL.MODE n) ≠ 2 then y
    else if h.trip = 1 then (y.wr (LOOP.CTX.CTRL.MODE n) 3).wr (LOOP.CTX.STAT.HOLD_CAUSE n) 7
    else (y.wr (LOOP.CTX.CTRL.MODE n) 1).wr (LOOP.CTX.MAN_OUT n) (x.rd (LOOP.CTX.FE_OUT n))

/-- Loop n goes into AUTO, through the preset (R404, R406, R420). -/
def intoAuto (n : Nat) (x : LaneSt) : LaneSt :=
  ((x.wr (LOOP.CTX.CTRL.MODE n) 2).wr (LOOP.CTX.STAT.HOLD_CAUSE n) 0).setHid n { x.hidOf n with preset := true }

/-- One change of loop n. A trip into MANUAL comes before a command into AUTO, and any trip and an automatic cause come before a command into HOLD
(R406's order). A live loop whose binding changes or goes enters MANUAL at its OUT; one that newly enters use starts as at a reset (R396). -/
def applyChange (n : Nat) (c : LoopChange) (x : LaneSt) : LaneSt :=
  match c with
  | .mode m src =>
    let x := if m = some 2 then applyTrip n (· == 2) x else if m = some 3 then applyTrip n (fun _ => true) x else x
    let md := x.rd (LOOP.CTX.CTRL.MODE n)
    let x := match src with
      | some s => x.wr (LOOP.CTX.CTRL.SP_SRC n) s
      | none => x
    match m with
    | none => x
    | some m =>
      if m = md then x
      else
        let fromOpen (x : LaneSt) : LaneSt := if md = 0 then x.setHid n { x.hidOf n with init := true } else x
        if m = 0 then (x.wr (LOOP.CTX.CTRL.MODE n) 0).wr (LOOP.CTX.STAT.HOLD_CAUSE n) 0
        else if m = 1 then fromOpen (((x.wr (LOOP.CTX.CTRL.MODE n) 1).wr (LOOP.CTX.STAT.HOLD_CAUSE n) 0).wr (LOOP.CTX.MAN_OUT n) (x.rd (LOOP.CTX.OUT n)))
        else if m = 2 then fromOpen (intoAuto n x)
        else if md = 0 then x
        else
          let c := autoCause x n (x.inWord (lookD x.binds n {}).pv)
          (x.wr (LOOP.CTX.CTRL.MODE n) 3).wr (LOOP.CTX.STAT.HOLD_CAUSE n) (if md = 2 ∧ c ≠ 0 then c else 1)
  | .lsp v => x.wr (LOOP.CTX.LSP n) v
  | .rsp v => (x.wr (LOOP.CTX.RSP n) v).wr (LOOP.CTX.STAT.RSP_WAIT n) 0
  | .man v => x.wr (LOOP.CTX.MAN_OUT n) v
  | .force (some v) => (x.wr (LOOP.CTX.FORCE_VAL n) v).wr (LOOP.CTX.STAT.FORCED n) 1
  | .force none => x.wr (LOOP.CTX.STAT.FORCED n) 0
  | .write ws coef =>
    let x := derive n (writeCtx n ws x)
    let x := if coef then x.setHid n { x.hidOf n with init := true } else x
    if ws.any fun w => w.1 == 0x7C || w.1 == 0x80 then
      let cl (v : Nat) := f32ClampZ v (x.rd (LOOP.CTX.OUT_MIN n)) (x.rd (LOOP.CTX.OUT_MAX n))
      (x.wr (LOOP.CTX.OUT n) (cl (x.rd (LOOP.CTX.OUT n)))).wr (LOOP.CTX.I n) (cl (x.rd (LOOP.CTX.I n)))
    else x
  | .bind b =>
    let md := x.rd (LOOP.CTX.CTRL.MODE n)
    let was := (look x.binds n).isSome
    let x := countCls (writeBind n b x)
    if ¬ was then (if b.isSome then loopStart n x else x)
    else
      let x := if b.isSome then derive n x else x
      if md = 2 ∨ md = 3 then ((x.wr (LOOP.CTX.CTRL.MODE n) 1).wr (LOOP.CTX.STAT.HOLD_CAUSE n) 0).wr (LOOP.CTX.MAN_OUT n) (x.rd (LOOP.CTX.OUT n)) else x

/-- The changes of loop n due at tick T, in order. -/
def applyChanges (n T : Nat) (x : LaneSt) : LaneSt :=
  let l := lookD x.lpend n []
  let due := l.filter fun e => e.1 ≤ T
  let rest := l.filter fun e => T < e.1
  let x := { x with lpend := if rest = [] then del n x.lpend else ins n rest x.lpend }
  due.foldl (fun x e => applyChange n e.2 x) x

/-! ### Modes (R403, R406, R407, R410 to R412) -/

/-- The automatic mode changes at the start of a sample (R406). -/
def settleMode (n : Nat) (pv : Item) (x : LaneSt) : LaneSt :=
  let md := x.rd (LOOP.CTX.CTRL.MODE n)
  let hc := x.rd (LOOP.CTX.STAT.HOLD_CAUSE n)
  let c := autoCause x n pv
  let x := if md = 2 ∧ c ≠ 0 then (x.wr (LOOP.CTX.CTRL.MODE n) 3).wr (LOOP.CTX.STAT.HOLD_CAUSE n) c
    else if md = 3 ∧ 2 ≤ hc ∧ hc ≤ 6 then (if c = 0 then intoAuto n x else x.wr (LOOP.CTX.STAT.HOLD_CAUSE n) c)
    else x
  let hc := x.rd (LOOP.CTX.STAT.HOLD_CAUSE n)
  if x.rd (LOOP.CTX.CTRL.MODE n) = 3 ∧ 2 ≤ hc ∧ hc ≤ 6 ∧ ¬ usable x n pv then x.setHid n { x.hidOf n with unus := true } else x

/-- A master's integration is inhibited upwards (up true) or downwards by a slave at its limit (R412). -/
def casInhibit (x : LaneSt) (n : Nat) (up : Bool) : Bool :=
  (slavesOf x n).any fun k =>
    let rev := (lookD x.binds k {}).dir
    x.flag (if up != rev then LOOP.CTX.STAT.LIM_HI k else LOOP.CTX.STAT.LIM_LO k)

/-! ### The law (R403, R404, R405) -/

/-- The output outside the AUTO law (R404). -/
def otherOut (x : LaneSt) (n : Nat) (ilk forced : Bool) : Nat :=
  let cl (v : Nat) := f32ClampZ v (x.rd (LOOP.CTX.OUT_MIN n)) (x.rd (LOOP.CTX.OUT_MAX n))
  let out := x.rd (LOOP.CTX.OUT n)
  let md := x.rd (LOOP.CTX.CTRL.MODE n)
  if ilk then cl (x.rd (LOOP.CTX.ILK_OUT n))
  else if forced then cl (x.rd (LOOP.CTX.FORCE_VAL n))
  else if md = 1 then
    let t := cl (x.rd (LOOP.CTX.MAN_OUT n))
    let rlh := x.rd (LOOP.CTX.RLH n)
    if f32LtZ 0 (x.rd (LOOP.CTX.RL n)) then f32ClampZ t (f32Sub true out rlh) (f32Add true out rlh) else t
  else if md = 3 ∧ x.rd (LOOP.CTX.STAT.HOLD_CAUSE n) = 5 then
    match (slavesOf x n).find? fun k => !casClosed x k with
    | some k => cl (x.rd (LOOP.CTX.SP k))
    | none => cl out
  else cl out

/-- The setpoint in use before its clamp (R409, R410); SP_SRC 2 without a master, which a new binding can leave, acts as 0 (log 23). -/
def spSource (x : LaneSt) (n : Nat) : Nat :=
  match x.rd (LOOP.CTX.CTRL.SP_SRC n) with
  | 1 => if x.flag (LOOP.CTX.STAT.RSP_WAIT n) then x.rd (LOOP.CTX.LSP n) else x.rd (LOOP.CTX.RSP n)
  | 2 => if (lookD x.binds n {}).cas then x.rd (LOOP.CTX.OUT (lookD x.binds n {}).master) else x.rd (LOOP.CTX.LSP n)
  | _ => x.rd (LOOP.CTX.LSP n)

/-- The notch: PVN of a process value (R403). -/
def notch (x : LaneSt) (n pv : Nat) : Nat :=
  let g (f : Nat → FRef) := x.rd (f n)
  let m := f32Mul true
  f32Sub true (f32Sub true (f32Add true (f32Add true (m (g LOOP.CTX.B0) pv) (m (g LOOP.CTX.B1) (g LOOP.CTX.X1))) (m (g LOOP.CTX.B2) (g LOOP.CTX.X2)))
    (m (g LOOP.CTX.A1) (g LOOP.CTX.Y1))) (m (g LOOP.CTX.A2) (g LOOP.CTX.Y2))

/-- The sign s of the loop's direction as binary32. -/
def loopSign (x : LaneSt) (n : Nat) : Nat := if (lookD x.binds n {}).dir then 0xBF800000 else 0x3F800000

/-- The derivative's error ed. -/
def derivErr (x : LaneSt) (n pvn : Nat) : Nat :=
  f32Mul true (loopSign x n) (f32Sub true (f32Mul true (x.rd (LOOP.CTX.GAMMA n)) (x.rd (LOOP.CTX.SP n))) pvn)

/-- Initialise the notch and derivative states to pv (R405). -/
def initNotch (n pv : Nat) (x : LaneSt) : LaneSt :=
  let x := (((x.wr (LOOP.CTX.X1 n) pv).wr (LOOP.CTX.X2 n) pv).wr (LOOP.CTX.Y1 n) pv).wr (LOOP.CTX.Y2 n) pv
  let x := (x.wr (LOOP.CTX.D n) 0).wr (LOOP.CTX.ED_PREV n) (derivErr x n (notch x n pv))
  x.setHid n { x.hidOf n with init := false, unus := false }

/-- The part of the law that a usable process value drives: notch, errors, derivative (R403). -/
def lawInput (n : Nat) (pv : Nat) (x : LaneSt) : LaneSt :=
  let h := x.hidOf n
  let x := if h.init ∨ h.unus then initNotch n pv x else x
  let pvn := notch x n pv
  let x := ((((x.wr (LOOP.CTX.X2 n) (x.rd (LOOP.CTX.X1 n))).wr (LOOP.CTX.X1 n) pv).wr (LOOP.CTX.Y2 n) (x.rd (LOOP.CTX.Y1 n))).wr (LOOP.CTX.Y1 n) pvn).wr (LOOP.CTX.PVN n) pvn
  let x := x.wr (LOOP.CTX.PV n) pv
  let ep := f32Mul true (loopSign x n) (f32Sub true (f32Mul true (x.rd (LOOP.CTX.BETA n)) (x.rd (LOOP.CTX.SP n))) pvn)
  let ed := derivErr x n pvn
  let dv := f32Add true (f32Mul true (x.rd (LOOP.CTX.AD n)) (x.rd (LOOP.CTX.D n))) (f32Mul true (x.rd (LOOP.CTX.BD n)) (f32Sub true ed (x.rd (LOOP.CTX.ED_PREV n))))
  ((x.wr (LOOP.CTX.D n) dv).wr (LOOP.CTX.ED_PREV n) ed).setHid n { x.hidOf n with ep := ep }

/-- The AUTO law (R403). -/
def lawAuto (n ffv : Nat) (x : LaneSt) : LaneSt :=
  let g (f : Nat → FRef) := x.rd (f n)
  let lo := g LOOP.CTX.OUT_MIN
  let hi := g LOOP.CTX.OUT_MAX
  let p := f32Mul true (g LOOP.CTX.KP) (x.hidOf n).ep
  let e := f32Mul true (loopSign x n) (f32Sub true (g LOOP.CTX.SP) (g LOOP.CTX.PVN))
  let i := g LOOP.CTX.I
  let iTry := f32Add true i (f32Mul true (g LOOP.CTX.KIH) e)
  let v := f32Add true (f32Add true (f32Add true (f32Add true p iTry) (g LOOP.CTX.D)) ffv) (g LOOP.CTX.BIAS)
  let out := g LOOP.CTX.OUT
  let r := if f32LtZ 0 (g LOOP.CTX.RL) then f32ClampZ v (f32Sub true out (g LOOP.CTX.RLH)) (f32Add true out (g LOOP.CTX.RLH)) else v
  let u := f32ClampZ r lo hi
  let stop := (f32LtZ u v && f32LtZ i iTry) || (f32LtZ v u && f32LtZ iTry i) || (casInhibit x n true && f32LtZ i iTry) || (casInhibit x n false && f32LtZ iTry i)
  let x := if stop then x else x.wr (LOOP.CTX.I n) (f32ClampZ iTry lo hi)
  (((x.wr (LOOP.CTX.OUT n) u).put (LOOP.CTX.STAT.LIM_HI n) (f32LtZ u v)).put (LOOP.CTX.STAT.LIM_LO n) (f32LtZ v u)).put (LOOP.CTX.STAT.RATE_LIM n) (r != v)

/-- The output of R404 with the integrator preset (R403, R404). Outside AUTO the limit flags read 0 (DEDUCED, log 23). -/
def lawOther (n ffv out : Nat) (x : LaneSt) : LaneSt :=
  let g (f : Nat → FRef) := x.rd (f n)
  let p := f32Mul true (g LOOP.CTX.KP) (x.hidOf n).ep
  let sum := f32Add true (f32Add true (f32Add true p (g LOOP.CTX.D)) ffv) (g LOOP.CTX.BIAS)
  let x := (x.wr (LOOP.CTX.OUT n) out).wr (LOOP.CTX.I n) (f32ClampZ (f32Sub true out sum) (g LOOP.CTX.OUT_MIN) (g LOOP.CTX.OUT_MAX))
  ((x.wr (LOOP.CTX.STAT.LIM_HI n) 0).wr (LOOP.CTX.STAT.LIM_LO n) 0).wr (LOOP.CTX.STAT.RATE_LIM n) 0

/-- Supervise the following error at a sample (R415): `live` at an AUTO sample with a usable value, not interlocked and not forced. -/
def followErr (n : Nat) (live : Bool) (x : LaneSt) : LaneSt × List LaneEv :=
  let lim := x.rd (LOOP.CTX.FE_LIM n)
  let h := x.hidOf n
  let beyond := live && f32LtZ 0 lim && f32LtZ lim (f32Abs (f32Sub true (x.rd (LOOP.CTX.SP n)) (x.rd (LOOP.CTX.PVN n))))
  let cnt := if beyond then h.feCnt + 1 else 0
  if beyond && decide (h.feN ≤ cnt) then
    let act := x.rd (LOOP.CTX.CTRL.FE_ACT n)
    (((x.setHid n { h with feCnt := 0, trip := if act = 3 then 0 else act }).wr (LOOP.CTX.FE_CNT n) 0).wr (LOOP.CTX.STAT.FE_TRIP n) 1, [(121, n, 0)])
  else ((x.setHid n { h with feCnt := cnt }).wr (LOOP.CTX.FE_CNT n) (min 65535 cnt), [])

/-- One evaluation of loop n at sample `idx` (R403); `old` is its mode before the changes of this sample (R424). -/
def evalLoop (n idx old : Nat) (x : LaneSt) : LaneSt × List LaneEv :=
  let b := lookD x.binds n {}
  let pv := x.inWord b.pv
  let x := settleMode n pv (applyTrip n (fun _ => true) x)
  let md := x.rd (LOOP.CTX.CTRL.MODE n)
  let evMode : List LaneEv := if md = old then [] else [(120, n, md + old * 2 ^ 8 + x.rd (LOOP.CTX.STAT.HOLD_CAUSE n) * 2 ^ 16)]
  let ilk := b.ilkEn && lookD x.voted b.ilkBit false
  let evIlk : List LaneEv := if ilk = x.flag (LOOP.CTX.STAT.ILK n) then [] else [(124, n, b2n ilk)]
  let x := ((x.put (LOOP.CTX.STAT.ILK n) ilk).wr (LOOP.CTX.STAT.PV_Q n) pv.q).wr (LOOP.CTX.SAMPLE n) idx
  let forced := x.flag (LOOP.CTX.STAT.FORCED n)
  let ff := x.inWord b.ff
  let x := if ¬ b.ffEn then x
    else if usable x n ff then (x.wr (LOOP.CTX.FF n) ff.v).wr (LOOP.CTX.STAT.FF_STALE n) 0
    else x.wr (LOOP.CTX.STAT.FF_STALE n) 1
  let ffv := if b.ffEn then f32Mul true (x.rd (LOOP.CTX.KFF n)) (x.rd (LOOP.CTX.FF n)) else 0
  let raw := spSource x n
  let sp := f32ClampZ raw (x.rd (LOOP.CTX.SP_MIN n)) (x.rd (LOOP.CTX.SP_MAX n))
  let x := x.wr (LOOP.CTX.SP n) sp
  let x := if sp = f32Flush raw then x else x.wr (LOOP.CTX.STAT.SP_CLAMP n) 1
  if md = 0 then
    let x := if ilk ∨ forced then x.wr (LOOP.CTX.OUT n) (otherOut x n ilk forced) else x
    let x := ((x.wr (LOOP.CTX.STAT.LIM_HI n) 0).wr (LOOP.CTX.STAT.LIM_LO n) 0).wr (LOOP.CTX.STAT.RATE_LIM n) 0
    let (x, _) := followErr n false x
    (x, evMode ++ evIlk)
  else
    let ok := usable x n pv
    let x := if ok then lawInput n pv.v x else x
    let x := if md = 1 ∧ ok ∧ x.flag (LOOP.CTX.CTRL.SPTRK n) ∧ (x.rd (LOOP.CTX.CTRL.SP_SRC n) = 0 ∨ x.rd (LOOP.CTX.CTRL.SP_SRC n) = 3) then
        x.wr (LOOP.CTX.LSP n) (f32ClampZ (x.rd (LOOP.CTX.PVN n)) (x.rd (LOOP.CTX.SP_MIN n)) (x.rd (LOOP.CTX.SP_MAX n)))
      else x
    let auto := md == 2 && !ilk && !forced
    -- a change into AUTO, and a start in AUTO, begin from the preset of the published output (R404, R406, R420)
    let x := if auto ∧ (x.hidOf n).preset then
        { x with regs := (lawOther n ffv (x.rd (LOOP.CTX.OUT n)) x).regs }
      else x
    let x := x.setHid n { x.hidOf n with preset := false }
    let x := if auto then lawAuto n ffv x else lawOther n ffv (otherOut x n ilk forced) x
    let (x, evFe) := followErr n (auto && ok) x
    (x, evMode ++ evIlk ++ evFe)

/-! ### One sample of a class (R397, R398, R400) -/

/-- The loops a sample of class c concerns: those bound to it, and those that a due change binds to it. -/
def loopsDue (c T : Nat) (x : LaneSt) : List Nat :=
  let bound := (x.binds.filter fun e => e.2.cls.val == c).map (·.1)
  let joining := (x.lpend.filter fun e => !bound.contains e.1 && e.2.any fun p => decide (p.1 ≤ T) && match p.2 with
    | .bind (some b) => b.cls.val == c
    | _ => false).map (·.1)
  (List.range 1024).filter fun n => bound.contains n || joining.contains n

/-- Loop n at the sample of a run: its due changes, its evaluation if it belongs to the class then, and the events (R398, R416, R424). -/
def runLoop (r : LoopRun) (n : Nat) (x : LaneSt) : LaneSt × List LaneEv :=
  let y := applyChanges n r.tick x
  let old := if (look x.binds n).isSome then x.rd (LOOP.CTX.CTRL.MODE n) else y.rd (LOOP.CTX.CTRL.MODE n)
  match look y.binds n with
  | some b => if b.cls.val = r.cls then evalLoop n r.idx old y else (y, [])
  | none =>
    let md := y.rd (LOOP.CTX.CTRL.MODE n)
    (y, if md = old then [] else [(120, n, md + old * 2 ^ 8)])

/-- The first k loops of a run, with the inputs applied for its sample; a run that ends publishes its class's output words (R398). -/
def runLoops (r : LoopRun) (k : Nat) (x : LaneSt) : LaneSt × List LaneEv :=
  let x0 : LaneSt := { x with inW := r.inW, forces := r.forces, voted := r.voted, safe := r.safe }
  let (y, evs) := (r.rest.take k).foldl (fun (acc : LaneSt × List LaneEv) n =>
    let (y, e) := runLoop r n acc.1
    (y, acc.2 ++ e)) (x0, [])
  let y : LaneSt := { y with inW := x.inW, forces := x.forces, voted := x.voted, safe := x.safe }
  if r.rest.length ≤ k then
    let words := (y.binds.filter fun e => e.2.cls.val == r.cls).foldl (fun m e => putWord m e.2.out (y.rd (LOOP.CTX.OUT e.1))) []
    ({ y with outbox := y.outbox ++ [{ src := r.cls, idx := r.idx, tick := r.tick, words := words }] }, evs)
  else ({ y with runs := y.runs ++ [{ r with rest := r.rest.drop k }] }, evs)

/-- The period of a class in units of 2⁻¹⁴⁹ base ticks; class 7 by TRIG_H (R397). -/
def clsPeriod (x : LaneSt) (c : Nat) : Nat := if c = 7 then (f32Exact (x.rd LOOP.TRIG_H)).elim 0 (fun h => h.toNat * 4000) else clsTicks c * 2 ^ 149
/-- Class a is faster than class b; of two equal periods the lower class comes first (DEDUCED, log 15). -/
def clsFaster (x : LaneSt) (a b : Nat) : Bool := decide (clsPeriod x a < clsPeriod x b) || (clsPeriod x a == clsPeriod x b && decide (a < b))

/-- The ticks at which loops not yet bound to class c join it (R396). -/
def joinTicks (x : LaneSt) (c : Nat) : List Nat :=
  x.lpend.flatMap fun e => (e.2.filter fun p => match p.2 with
    | .bind (some b) => b.cls.val == c
    | _ => false).map (·.1)
/-- Class c has loops in use. -/
def clsBound (x : LaneSt) (c : Nat) : Bool := x.binds.any fun e => e.2.cls.val == c

/-- The index and start tick of a lane's next sample of class c; class 7 follows the accepted trigger edges (R397, R400). A class without loops in
use has none until the activation that gives it some (log 15). -/
def nextSample (x : LaneSt) (c : Nat) : Option (Nat × Nat) :=
  if c = 7 then x.trig.head?.map fun t => (x.trigIdx, t)
  else
    let i := lookD x.next c 0
    if clsBound x c then some (i, i * clsTicks c)
    else match joinTicks x c with
      | [] => none
      | t :: l =>
        let j := max i ((l.foldl min t + clsTicks c - 1) / clsTicks c)
        some (j, j * clsTicks c)

/-- A sample of a class faster than c starts at tick T or earlier and has not been run: it goes first (R398). -/
def fasterDue (x : LaneSt) (c T : Nat) : Bool :=
  (List.range 8).any fun k => clsFaster x k c && (nextSample x k).elim false (fun e => decide (e.2 ≤ T))
/-- The next start of a class faster than c, at which a sample of c in progress yields (R398). -/
def nextFaster (x : LaneSt) (c : Nat) : Option Nat :=
  ((List.range 8).filter (clsFaster x · c)).foldl (fun m k => match m, nextSample x k with
    | some t, some e => some (min t e.2)
    | none, some e => some e.2
    | m, none => m) none

/-- The engine goes on at tick T: each sample in progress, fastest first, up to the loop boundary at which it yields to a faster class, 0.5 µs for each
loop (R397, R398). -/
def pumpRuns (T : Nat) (x : LaneSt) : LaneSt × List LaneEv :=
  x.runs.foldl (fun (acc : LaneSt × List LaneEv) r =>
    let x := acc.1
    let start := max (500 * T) x.busy
    let k := match nextFaster x r.cls with
      | some t => min r.rest.length (500 * t - start)
      | none => r.rest.length
    let (y, e) := runLoops r k { x with busy := start + k }
    (y, acc.2 ++ e)) ({ x with runs := [] }, [])

/-- Sample `idx` of class c starts at tick T on a lane: hand-overs take effect, and the sample joins those in progress in the order of R398. -/
def startRun (c idx T : Nat) (x : LaneSt) : LaneSt :=
  let x := applyDue false T x
  let r : LoopRun := { cls := c, idx := idx, tick := T, rest := loopsDue c T x, inW := x.inW, forces := x.forces, voted := x.voted, safe := x.safe }
  { x with runs := (x.runs.filter fun q => clsFaster x q.cls c) ++ [r] ++ x.runs.filter fun q => !clsFaster x q.cls c }

end Sys2Proof.Machine
end

