-- ==== Sys2Proof/Machine/PioOps.lean ====
section
/-! DEFINITION. Process inputs and outputs (spec/10): the conversion of an entry, results and their hand-over, SARs, DAC and DIO drives, the
safe states of local outputs. -/
namespace Sys2Proof.Machine
open Sys2Proof

/-! ### State access -/

def sarSt (d : Dev) (k : Nat) : SarSt := lookD d.pio.sar k {}
def setSar (k : Nat) (x : SarSt) (d : Dev) : Dev := { d with pio := { d.pio with sar := ins k x d.pio.sar } }
/-- SSTATE of SAR k: 0 stopped, 1 running, 2 carried by the other SAR, 3 self-calibrating (R281). -/
def sarState (d : Dev) (k : Nat) : Nat := d.rd (PIO.SAR.STAT.SSTATE k)
/-- The key of entry e of SAR k. -/
def entKey (k e : Nat) : Nat := 256 * k + e
def entSt (d : Dev) (k e : Nat) : EntSt := lookD d.pio.ent (entKey k e) {}
def setEnt (k e : Nat) (x : EntSt) (d : Dev) : Dev := { d with pio := { d.pio with ent := ins (entKey k e) x d.pio.ent } }

/-- Process I/O runs: ANA is on, in RUN or KEEP-WARM (R277). -/
def pioRuns (d : Dev) : Bool := islandOn d 9 && (opState d == 3 || opState d == 4)
/-- SARs can convert: process I/O runs and ADC_CLK is present (R75). -/
def sarsCan (d : Dev) : Bool := pioRuns d && bitOf (d.rd PWR.CLK_STAT.PRESENT) 6

/-! ### Entries and conversions (R248 to R252, R257 to R260) -/

/-- An entry's configuration: the fields of its CFG and TIM words, with the number of samples (R281). -/
structure EntryCfg where
  inp : Nat
  diff : Bool
  pga : Nat
  kind : Nat
  exc : Nat
  refp : Nat
  lim : Bool
  avg : Nat
  dv : Nat
  settle : Nat
deriving DecidableEq, Repr

/-- Take CFG and TIM words apart; KIND 5 to 7 act as 4. -/
def entryCfg (cfg tim : Nat) : EntryCfg :=
  { inp := bitsOf cfg 30 24, diff := bitOf cfg 23, pga := bitsOf cfg 22 20, kind := min 4 (bitsOf cfg 19 17), exc := bitsOf cfg 16 13, refp := bitsOf cfg 12 7, lim := bitOf cfg 6, avg := bitsOf tim 31 24 + 1, dv := bitsOf tim 23 16, settle := bitsOf tim 15 0 }

/-- The configuration of ENTRY[k][e] in the active sequence. -/
def entryOf (d : Dev) (k e : Nat) : EntryCfg :=
  { inp := d.rd (PIO.ENTRY.CFG.INP k e), diff := d.flag (PIO.ENTRY.CFG.DIFF k e), pga := d.rd (PIO.ENTRY.CFG.PGA k e), kind := min 4 (d.rd (PIO.ENTRY.CFG.KIND k e)), exc := d.rd (PIO.ENTRY.CFG.EXC k e), refp := d.rd (PIO.ENTRY.CFG.REFP k e), lim := d.flag (PIO.ENTRY.CFG.LIM k e), avg := d.rd (PIO.ENTRY.TIM.AVG k e) + 1, dv := d.rd (PIO.ENTRY.TIM.DIV k e), settle := d.rd (PIO.ENTRY.TIM.SETTLE k e) }

/-- KIND 2 and 3 convert a reference too. -/
def EntryCfg.rtd (e : EntryCfg) : Bool := e.kind == 2 || e.kind == 3
/-- t_entry in ps (R252). -/
def EntryCfg.time (e : EntryCfg) : Nat := e.settle * 15625 + e.avg * 500000 * (if e.rtd then 2 else 1) + 1000000

/-- A code as the converter gives it: the value, and whether it reached the converter's limit (R257). -/
def satCode (i : Int) : Int × Bool := if 32767 ≤ i then (32767, true) else if i ≤ -32768 then (-32768, true) else (i, false)

/-- The codes of one conversion: exactly n, missing ones 0. -/
def codesOf (n : Nat) (l : List Int) : List (Int × Bool) := ((l ++ List.replicate n 0).take n).map satCode

/-- Mean of n codes in binary32 (R250). -/
def meanCode (l : List (Int × Bool)) : Nat := f32Div false (f32OfInt (l.foldl (fun s c => s + c.1) 0)) (f32OfInt l.length)

/-- One Newton iteration of R251 for a resistance r; the order of operations is the model's (DEDUCED, log 24). -/
def rtdStep (r0 r t : Nat) : Nat × Nat :=
  let m := f32Mul false
  let a := f32Add false
  let ca := 0x3B801132   -- 3.9083e-3
  let cb := 0xB51B057F   -- −5.775e-7
  let cc := 0xAC932D1D   -- −4.183e-12
  let t2 := m t t
  let p := a (a 0x3F800000 (m ca t)) (m cb t2)
  let dp := a ca (m 0x40000000 (m cb t))
  let t3 := m t2 t
  let neg := f32Lt t 0
  let p := if neg then a p (m (m cc (f32Sub false t 0x42C80000)) t3) else p
  let dp := if neg then a dp (m cc (f32Sub false (m 0x40800000 t3) (m 0x43960000 t2))) else dp
  let step := f32Div false (f32Sub false (m r0 p) r) (m r0 dp)
  (f32Sub false t step, step)

/-- The temperature of a resistance (R251): from the linear estimate, at most 6 iterations, until the step falls below 0.0005 °C. -/
def rtdTemp (r0 r : Nat) : Nat :=
  let t0 := f32Div false (f32Sub false (f32Div false r r0) 0x3F800000) 0x3B801132
  (List.range 6).foldl (fun (acc : Nat × Bool) _ =>
    if acc.2 then acc
    else
      let (t, step) := rtdStep r0 r acc.1
      (t, f32Lt (f32Abs step) 0x3A03126F)) (t0, false) |>.1

/-- What a conversion gives: mean code, value, the quantity that system calibration corrects (R265), flags, first sample's start and the
entry's end (elapsed, ps), and the end of the last overranged conversion. -/
structure ConvRes where
  mean : Nat
  value : Nat
  raw : Nat
  ovr : Bool
  taint : Bool
  wire : Bool
  first : Nat
  fin : Nat
  ovrEnd : Option Nat
deriving DecidableEq, Repr

/-- Position of the last saturated code, counted from 1; 0 for none. -/
def lastSat (l : List (Int × Bool)) : Nat := (l.foldl (fun (acc : Nat × Nat) c => (acc.1 + 1, if c.2 then acc.1 + 1 else acc.2)) (0, 0)).2

/-- An excitation source is open (R249). -/
def excOpen (d : Dev) (n : Nat) : Bool := d.flag (PIO.EXC.CFG.OPEN n) && d.rd (PIO.EXC.CFG.CUR n) != 0

/-- Convert entry `e` on SAR `k`, starting at `t` ps: coefficients, codes of the input and of the reference (R250 to R252, R257 to R260). -/
def convert (k : Nat) (e : EntryCfg) (gain ofs param : Nat) (codes refs : List Int) (t : Nat) (d : Dev) : ConvRes :=
  let m := f32Mul false
  let dv := f32Div false
  let gap := d.flag (PIO.SAR.CTRL.OVRGAP k)
  let oe := (sarSt d k).ovrEnd
  let first0 := t + e.settle * 15625
  -- dummy conversions until t_OVREC has passed, at most 8 (R259)
  let dummies := match oe with
    | some x => if gap then min 8 ((x + 4000000 - first0 + 499999) / 500000) else 0
    | none => 0
  let first := first0 + dummies * 500000
  let cs := codesOf e.avg codes
  let rs := if e.rtd then codesOf e.avg refs else []
  let all := cs ++ rs
  let ovr := all.any (·.2)
  let fin := first + all.length * 500000 + 1000000
  let oe' := if ovr then some (first + lastSat all * 500000) else oe
  let taint := !gap && !ovr && match oe with
    | some x => decide (first < x + 4000000)
    | none => false
  let c := meanCode cs
  let fs := f32OfInt (32768 * 2 ^ e.pga)
  let xf := dv (m (m (f32Sub false c (Config.adcFo k e.pga)) (Config.adcFg k e.pga)) 0x40200000) fs
  let cal (x : Nat) := f32Add false (m gain x) ofs
  let r := dv (m (d.rd (PIO.EXC.RREF e.exc)) c) (meanCode rs)
  match e.kind with
  | 0 => { mean := c, value := cal xf, raw := xf, ovr := ovr, taint := taint, wire := false, first := first, fin := fin, ovrEnd := oe' }
  | 1 =>
    let v := m (dv (cal xf) param) 0x447A0000
    { mean := c, value := v, raw := xf, ovr := ovr, taint := taint, wire := excOpen d e.exc || (e.lim && !(f32Le 0x40666666 v && f32Le v 0x41A80000)), first := first, fin := fin, ovrEnd := oe' }
  | 4 => { mean := c, value := c, raw := c, ovr := ovr, taint := taint, wire := false, first := first, fin := fin, ovrEnd := oe' }
  | kd =>
    let v := rtdTemp (if kd = 2 then 0x42C80000 else 0x447A0000) (cal r)
    { mean := c, value := v, raw := r, ovr := ovr, taint := taint, wire := excOpen d e.exc || !(f32Le 0xC3480000 v && f32Le v 0x44548000), first := first, fin := fin, ovrEnd := oe' }

/-- Service time in ns at an elapsed time of `ps` picoseconds, from the present instant. -/
def svcAt (d : Dev) (ps : Nat) : Nat := svcTotalNs d + (ps - 1000 * d.up) / 1000

/-- The STAT word of a result (R281). -/
def resultStat (r : ConvRes) (half cal : Bool) : Nat :=
  b2n r.ovr * 2 ^ 31 + b2n r.taint * 2 ^ 30 + b2n r.wire * 2 ^ 29 + b2n half * 2 ^ 28 + b2n cal * 2 ^ 27 + wrapI 16 ((f32ToInt false r.mean).getD 0)

/-! ### Calibration sessions (R265 to R267) -/

/-- The session of entry e of SAR k. -/
def calSess (d : Dev) (k e : Nat) : Option CalSess := look d.pio.cal (entKey k e)
def setCal (k e : Nat) (x : CalSess) (d : Dev) : Dev := { d with pio := { d.pio with cal := ins (entKey k e) x d.pio.cal } }
/-- Close a session without EV87. -/
def closeCal (k e : Nat) (d : Dev) : Dev := { d with pio := { d.pio with cal := del (entKey k e) d.pio.cal } }.wr (PIO.RESULT.STAT.CAL k e) 0

/-- Abandon a session (R266): a measurement that waits completes with CAL_STATE, EV87 is raised. -/
def abandonCal (k e : Nat) (d : Dev) : Dev :=
  raiseEv 87 (entKey k e) 0 (finishKindWith (.adcCal (entKey k e)) 0x0504 [] (closeCal k e d))

/-- |x| in 2⁻¹⁴⁹, none for no number. -/
def f32Mag (x : Nat) : Option Nat := (f32Exact x).map Int.natAbs

/-- The coefficients lie within R267. -/
def calInLimits (d : Dev) (e : EntryCfg) (gain ofs : Nat) : Bool :=
  match f32Exact gain, f32Mag ofs, f32Mag (d.rd (PIO.EXC.RREF e.exc)) with
  | some g, some o, some rr =>
    decide (19 * (2 ^ 149 : Nat) ≤ 20 * g) && decide (20 * g ≤ 21 * (2 ^ 149 : Nat)) &&
      (if e.rtd then decide (50 * o ≤ rr) else decide (20 * 2 ^ e.pga * o ≤ 2 ^ 149))
  | some g, some o, none =>
    !e.rtd && decide (19 * (2 ^ 149 : Nat) ≤ 20 * g) && decide (20 * g ≤ 21 * (2 ^ 149 : Nat)) && decide (20 * 2 ^ e.pga * o ≤ 2 ^ 149)
  | _, _, _ => false

/-- A result of an entry under calibration joins its average; the 64th completes the measurement (R265 to R267). -/
def calResult (k e : Nat) (raw : Nat) (d : Dev) : Dev :=
  match calSess d k e with
  | none => d
  | some c =>
    if c.left = 0 then d
    else
      let sum := match c.sum, f32Exact raw with
        | some s, some x => some (s + x)
        | _, _ => none
      if 1 < c.left then setCal k e { c with left := c.left - 1, sum := sum } d
      else
        let mean := match sum with
          | some s => f32OfRatio s (64 * 2 ^ 149)
          | none => f32NaN
        if c.step = 2 then
          finishKindWith (.adcCal (entKey k e)) stOK [0, 0, mean] (setCal k e { c with step := 3, left := 0, zref := c.ref, zmeas := mean } d)
        else
          let g := f32Div false (f32Sub false c.ref c.zref) (f32Sub false mean c.zmeas)
          let o := f32Sub false c.zref (f32Mul false g c.zmeas)
          if calInLimits d (entryOf d k e) g o then
            finishKindWith (.adcCal (entKey k e)) stOK [g, o, mean] (setCal k e { c with step := 5, left := 0, gain := g, ofs := o } d)
          else finishKindWith (.adcCal (entKey k e)) 0x0503 [g, o, mean] (setCal k e { c with step := 3, left := 0 } d)

/-! ### Results (R261 to R264) -/

/-- Hand local input word a to the lanes; `off` ns from now (R262). -/
def handWordAt (off a v q : Nat) (d : Dev) : Dev := handAt (effTick (20000 + off) d) [.inWord a { v := v, q := q }] d

/-- Write a result, with its events, counts and hand-over (R261 to R264, R279). -/
def putResult (r : SarRes) (d : Dev) : Dev :=
  let k := r.k
  let e := r.e
  let cal := (calSess d k e).isSome
  let wasOvr := d.flag (PIO.RESULT.STAT.OVR k e)
  let wasWire := d.flag (PIO.RESULT.STAT.WIRE k e)
  let d := ((((d.put (PIO.RESULT.STAT.OVR k e) r.ovr).put (PIO.RESULT.STAT.TAINT k e) r.taint).put (PIO.RESULT.STAT.WIRE k e) r.wire).put (PIO.RESULT.STAT.HALF k e) r.half).put (PIO.RESULT.STAT.CAL k e) cal
  let d := ((((d.wr (PIO.RESULT.STAT.STALE k e) 0).wr (PIO.RESULT.STAT.CODE k e) (wrapI 16 ((f32ToInt false r.mean).getD 0))).wr (PIO.RESULT.VALUE k e) r.value).wr (PIO.RESULT.STAMP k e) (r.stamp / 1000)).wr (PIO.RESULT.PASS k e) r.pass
  let d := if r.ovr then d.bump (PIO.SAR.CNT.OVR_CNT k) else d
  let d := if r.taint then d.bump (PIO.SAR.CNT.TAINT_CNT k) else d
  let d := if r.ovr ∧ ¬ wasOvr then raiseEv 81 (entKey k e) 0 d else d
  let d := if r.wire ≠ wasWire then raiseEv 82 (entKey k e) 0 d else d
  let good := !r.ovr && !r.taint && !r.wire && !cal
  let x := entSt d k e
  let recent (t : Nat) : Bool := decide (r.stamp < t + 2000000000)
  let x : EntSt := { x with
    lastAt := some r.fin
    clean := if good then r.value else x.clean
    subst := (x.subst.filter recent) ++ (if good then [] else [r.stamp])
    good := (x.good.filter fun g => recent g.1) ++ (if good then [(r.stamp, r.value)] else []) }
  calResult k e r.raw (handAt r.tick [.inWord (entKey k e) { v := x.clean, q := if good then 0 else 2 }] (setEnt k e x d))

/-- An entry's word goes STALE with its last clean value (R263). -/
def entStale (k e : Nat) (d : Dev) : Dev :=
  if d.flag (PIO.RESULT.STAT.STALE k e) then d
  else handWordAt 0 (entKey k e) (entSt d k e).clean 1 (d.wr (PIO.RESULT.STAT.STALE k e) 1)

/-- Every entry of sequence k that is in use, or has had results in an earlier sequence, goes STALE. -/
def seqStale (k : Nat) (d : Dev) : Dev :=
  (List.range 256).foldl (fun (d : Dev) e => if d.flag (PIO.ENTRY.CFG.USE k e) ∨ (entSt d k e).lastAt.isSome then entStale k e d else d) d

/-! ### SARs (R252, R254, R255, R268, R269) -/

/-- The SAR that converts sequence k, if any (R268). -/
def sarFor (d : Dev) (k : Nat) : Option Nat :=
  let runs (q : Nat) : Bool := sarState d q == 1 && !(sarSt d q).stopping
  if ¬ sarsCan d then none
  else if (sarSt d k).out then (if runs (1 - k) then some (1 - k) else none)
  else if runs k then some k else none

/-- One SAR is out and the other carries. -/
def halfRate (d : Dev) : Bool := (sarSt d 0).out || (sarSt d 1).out

/-- The period in effect, in base ticks (R252, R268). -/
def sarPeriod (d : Dev) (k : Nat) : Nat := d.rd (PIO.SAR.CTRL.PERIOD k) * (if halfRate d then 2 else 1)
/-- The first due base tick at or after tick n. -/
def dueFrom (d : Dev) (k n : Nat) : Nat :=
  let p := max 1 (sarPeriod d k)
  n + (d.rd (PIO.SAR.CTRL.PHASE k) % p + p - n % p) % p
/-- The number of the pass due at tick n, on the grid in effect since the SAR's start, or since its carrier's where Proof found it failed
(R252, R268). -/
def passNumber (d : Dev) (k n : Nat) : Nat :=
  let start := (sarSt d (if (sarSt d k).failed then 1 - k else k)).start
  (n - dueFrom d k ((start + tickNs - 1) / tickNs)) / max 1 (sarPeriod d k)
/-- The next due tick of sequence k: none of those already due is due again. -/
def nextDue (d : Dev) (k : Nat) : Nat :=
  let n := (svcTotalNs d + tickNs - 1) / tickNs
  dueFrom d k (match (sarSt d k).last with
    | some l => max n (l + 1)
    | none => n)

/-- CARRYING follows. -/
def noteCarrying (d : Dev) : Dev :=
  (d.put (PIO.SAR.STAT.CARRYING 0) ((sarSt d 1).out && sarState d 0 == 1)).put (PIO.SAR.STAT.CARRYING 1) ((sarSt d 0).out && sarState d 1 == 1)

/-- Sequences that no SAR converts any more go STALE (R263). -/
def settleSars (d : Dev) : Dev :=
  let d := noteCarrying d
  let d := if (sarFor d 0).isNone then seqStale 0 d else d
  if (sarFor d 1).isNone then seqStale 1 d else d

/-- SAR[k].STAT. -/
def sarStatWord (d : Dev) (k : Nat) : Nat :=
  sarState d k * 2 ^ 30 + d.rd (PIO.SAR.STAT.CARRYING k) * 2 ^ 29 + d.rd (PIO.SAR.STAT.CFG_ERR k) * 2 ^ 28 + d.rd (PIO.SAR.STAT.PENDING_REARM k) * 2 ^ 27 +
  d.rd (PIO.SAR.STAT.MINOFF k) * 2 ^ 26 + d.rd (PIO.SAR.STAT.ENTRIES k) * 2 ^ 16 + d.rd (PIO.SAR.STAT.PASS_US k)

/-- A SAR starts, unless PERIOD is out of range (R255, R281). -/
def sarStart (k : Nat) (d : Dev) : Dev :=
  let p := d.rd (PIO.SAR.CTRL.PERIOD k)
  let d := (d.wr (PIO.SAR.STAT.PENDING_REARM k) 0).put (PIO.SAR.STAT.CFG_ERR k) (p == 0 || decide (4000 < p))
  if d.flag (PIO.SAR.STAT.CFG_ERR k) ∨ ¬ sarsCan d ∨ (sarSt d k).out ∨ sarState d k ≠ 0 then d
  else noteCarrying (setSar k { sarSt d k with start := svcTotalNs d, last := none } (d.wr (PIO.SAR.STAT.SSTATE k) 1))

/-- SAR k is stopped, at the end of its running pass, and its minimum off time runs (R255). -/
def sarStopped (k : Nat) (d : Dev) : Dev :=
  settleSars (((setSar k { sarSt d k with stopping := false, offAt := (sarSt d k).conv } d).wr (PIO.SAR.STAT.SSTATE k) 0).wr (PIO.SAR.STAT.MINOFF k) 1)

/-- A requested stop is made once the running pass has ended (R255). -/
def settleStop (k : Nat) (d : Dev) : Dev := if (sarSt d k).stopping ∧ (sarSt d k).conv ≤ d.up then sarStopped k d else d

/-- What the SARs have come to by now: results whose entries have ended are written in the order of their ends (R261), and a SAR whose last pass has ended
stops (R255). -/
def settlePio (d : Dev) : Dev :=
  let done := d.pio.due.takeWhile fun r => decide (r.fin ≤ d.up)
  let d : Dev := { d with pio := { d.pio with due := d.pio.due.dropWhile fun r => decide (r.fin ≤ d.up) } }
  settleStop 1 (settleStop 0 (done.foldl (fun (d : Dev) r => putResult r d) d))

/-- A result to come takes its place by time. -/
def addDue (r : SarRes) (l : List SarRes) : List SarRes := l.takeWhile (fun x => decide (x.fin ≤ r.fin)) ++ r :: l.dropWhile (fun x => decide (x.fin ≤ r.fin))

/-- The elapsed time of what the SARs do next. -/
def nextPio (d : Dev) : Option Nat :=
  let stops := [0, 1].filterMap fun k => if (sarSt d k).stopping then some (sarSt d k).conv else none
  match d.pio.due, stops with
  | r :: _, l => some (l.foldl min r.fin)
  | [], x :: l => some (l.foldl min x)
  | [], [] => none

/-- n cycles pass, and what the SARs do in them happens in its time; `k` is how many such times there can be. -/
def runOn : Nat → Nat → Dev → Dev
  | 0, n, d => elapse n d
  | k + 1, n, d =>
    match nextPio d with
    | some t =>
      if d.up + 4 * n < t then elapse n d
      else
        let m := (t - d.up + 3) / 4
        runOn k (n - m) (settlePio (elapse m d))
    | none => elapse n d

/-- Carry the clock forward to elapsed time t in ns (log 20). -/
def toUp (t : Nat) (d : Dev) : Dev := if d.up < t then runOn (d.pio.due.length + 3) ((t - d.up) / 4) d else d

/-- Carry the clock forward to service time t in ns (log 20). -/
def toSvcNs (t : Nat) (d : Dev) : Dev :=
  if svcTotalNs d < t then
    let d := runOn (d.pio.due.length + 3) ((t - svcTotalNs d) / 4) d
    { d with time := { d.time with svc := max d.time.svc (t * 2 ^ 32) } }
  else d

/-- Carry the clock forward to base tick T (log 20). -/
def toTick (T : Nat) (d : Dev) : Dev :=
  match d.gate.t0 with
  | none => d
  | some t => toUp (t + T * tickNs) d

/-- A request to switch SAR k on or off (R255): a stop lets the running pass end; an enable in the stop or the minimum off time waits. -/
def sarRequest (k : Nat) (on : Bool) (d : Dev) : Dev :=
  let d := settleStop k (d.put (PIO.SAR.CTRL.EN k) on)
  if on then (if d.flag (PIO.SAR.STAT.MINOFF k) ∨ (sarSt d k).stopping then d.wr (PIO.SAR.STAT.PENDING_REARM k) 1 else sarStart k d)
  else
    let d := d.wr (PIO.SAR.STAT.PENDING_REARM k) 0
    if sarState d k = 1 then settleStop k (setSar k { sarSt d k with stopping := true, conv := max d.up (sarSt d k).conv } d) else d

/-- Take SAR k out of service (R268): its running pass ends, then it self-calibrates and the other SAR carries both sequences; EV84. -/
def sarTakeOut (k : Nat) (failed : Bool) (d : Dev) : Dev :=
  if (sarSt d k).out then (if failed then setSar k { sarSt d k with failed := true } d else d)
  else
    let d := toUp (sarSt d k).conv d
    let d := setSar k { sarSt d k with out := true, failed := failed, stopping := false } (d.wr (PIO.SAR.STAT.SSTATE k) (if failed then 2 else 3))
    raiseEv 84 k (sarState d k) (settleSars d)

/-- Return SAR k to service (R269). -/
def sarReturn (k : Nat) (d : Dev) : Dev :=
  let d := setSar k { sarSt d k with out := false } (d.wr (PIO.SAR.STAT.SSTATE k) 0)
  let d := if d.flag (PIO.SAR.CTRL.EN k) ∧ ¬ d.flag (PIO.SAR.STAT.MINOFF k) then sarStart k d else d
  raiseEv 84 k (sarState d k) (settleSars d)

/-- Start the SARs that are requested on. -/
def sarsStart (d : Dev) : Dev :=
  [0, 1].foldl (fun (d : Dev) k => if d.flag (PIO.SAR.CTRL.EN k) ∧ ¬ d.flag (PIO.SAR.STAT.MINOFF k) then sarStart k d else d) d

/-- The SARs stop without a request: ADC_CLK lost (R75), or the states of R277. What the passes cut off have not written is never written. -/
def sarsStop (d : Dev) : Dev :=
  let stop (d : Dev) (k : Nat) : Dev :=
    let d := setSar k { sarSt d k with stopping := false, conv := min d.up (sarSt d k).conv, seq := min d.up (sarSt d k).seq } d
    if sarState d k = 1 then d.wr (PIO.SAR.STAT.SSTATE k) 0 else d
  settleSars ([0, 1].foldl stop { d with pio := { d.pio with due := [] } })

/-! ### Local outputs (R44, R46, R261, R270 to R274, R277) -/

/-- The outputs are in their reset state (R42): in STANDBY and OFF, and until the straps have been latched. A die that CS holds later has the SAFE
path applied, which needs no control-die logic, and shows the safe states (R47, R61; DEDUCED, log 84). -/
def resetOut (d : Dev) : Bool := decide (opState d ≤ 1) || !d.pins.strapped
/-- Local outputs are in their safe states (R42, R44, R277), unless they are in their reset state. -/
def localSafe (d : Dev) : Bool :=
  d.flag LANES.STAT.SAFE_ACT || opState d == 2 || opState d == 5 || !islandOn d 9 || d.pwr.heldDie
/-- The safe mode in use (R46, R47): 1 for mode 2 whose stored values failed. GLB.STRAP.SAFE goes on showing 0b10 then: R48 makes it follow only
R46 (DESIGN CHOICE, log 84). -/
def safeMode (d : Dev) : Nat :=
  let m := d.rd GLB.STRAP.SAFE
  if m = 2 ∧ d.pio.safeBad then 1 else if m = 3 then 0 else m

/-- The DAC code of a value (R270), evaluated under R401: the code and whether it was clamped; none for no number. -/
def dacCodeOf (mode gain ofs v : Nat) : Option (Nat × Bool) :=
  let x := f32Div true (f32Add true (f32Mul true v gain) ofs) (if mode = 1 then 0x40200000 else 0x41C00000)
  if f32IsNaN x then none
  else
    let clamped := f32Lt x 0 || f32Lt 0x3F800000 x
    some (((f32ToInt true (f32Mul true (f32Clamp x 0 0x3F800000) 0x477FFF00)).getD 0).toNat, clamped)

/-- The Output Gate drives DIO pin n (R273): a pin with DIR 0 is not driven. -/
def driveDio (n : Nat) (v : Bool) (d : Dev) : Dev :=
  let dir := bitOf (d.rd (PIO.DIO.DIR (n / 32))) (n % 32)
  let od := bitOf (d.rd (PIO.DIO.OD (n / 32))) (n % 32)
  { d with pio := { d.pio with dio := if dir then ins n (if v then (if od then 2 else 1) else 0) d.pio.dio else del n d.pio.dio } }

/-- The safe level of DIO pin n (R46, R272): 0 low, 1 high, 2 not driven. -/
def dioSafe (d : Dev) (n : Nat) : Nat :=
  if ¬ bitOf (d.rd (PIO.DIO.DIR (n / 32))) (n % 32) then 2
  else match safeMode d with
    | 1 => 0
    | 2 => (match lookD d.pio.safeDio n 0 with
      | 1 => 0
      | 2 => 1
      | _ => 2)
    | _ => 2

/-- Output levels of a DIO pin: 0 low, 1 high, 2 not driven (R42, R46, R261, R272). -/
def dioPin (d : Dev) (n : Nat) : Nat :=
  if resetOut d then 2 else if localSafe d then dioSafe d n else lookD d.pio.dio n 2

/-- The safe output of DAC n (R46, R272): none with the stage off, else its code. -/
def dacSafe (d : Dev) (n : Nat) : Option Nat :=
  match safeMode d with
  | 1 => some 0
  | 2 => look d.pio.safeDac n
  | _ => none

/-- What DAC n puts out (R42, R46, R61, R270, R272): none with the output stage off, at 0 V and 0 mA, else the code in effect. Without an analogue
rail the outputs are unpowered. -/
def dacOut (d : Dev) (n : Nat) : Option Nat :=
  if d.rd (PIO.DAC.CFG.MODE n) = 0 ∨ d.rd (PIO.DAC.CFG.MODE n) = 3 ∨ resetOut d then none
  else if ¬ bitOf (d.rd PWR.RAIL_STAT.GOOD) 3 ∨ ¬ bitOf (d.rd PWR.RAIL_STAT.GOOD) 5 then none
  else if localSafe d then dacSafe d n
  else if d.pio.dacOff.contains n then none
  else some (d.rd (PIO.DAC.CFG.CODE n))

/-- CODE in effect of DAC n (R270, R281). -/
def dacCode (d : Dev) (n : Nat) : Nat := (dacOut d n).getD 0

/-- A DAC fault bit is set: EV85, with CFG as a read gives it, and FD136 at its change to 1 (R271, R279). -/
def dacFault (n : Nat) (f : FRef) (d : Dev) : Dev :=
  if d.flag f then d
  else
    let d := d.wr f 1
    raise 136 n (raiseEv 85 n (wordOf d.regs [(PIO.DAC.CFG.MODE n, .RW), (PIO.DAC.CFG.NAN n, .RW), (PIO.DAC.CFG.CLAMP n, .RW), (PIO.DAC.CFG.OPEN n, .RW)] false + dacCode d n) d)

/-- The Output Gate drives DAC n from its voted word (R270, R271). -/
def driveDac (n v : Nat) (d : Dev) : Dev :=
  let mode := d.rd (PIO.DAC.CFG.MODE n)
  if mode = 0 ∨ mode = 3 then d
  else
    match dacCodeOf mode (d.rd (PIO.DAC.GAIN n)) (d.rd (PIO.DAC.OFS n)) v with
    | none => dacFault n (PIO.DAC.CFG.NAN n) d
    | some (c, clamped) =>
      let d : Dev := { d.wr (PIO.DAC.CFG.CODE n) c with pio := { d.pio with dacOff := d.pio.dacOff.filter (· != n) } }
      if clamped then dacFault n (PIO.DAC.CFG.CLAMP n) d else d

/-- The local outputs take their safe levels as what they hold: there they stand after a safe state until the Output Gate drives them (R44, R470). -/
def keepSafeLevels (d : Dev) : Dev :=
  let dio := (List.range 128).foldl (fun m n => let v := dioSafe d n; if v = 2 then m else ins n v m) []
  let d := forN 32 (fun n d => d.wr (PIO.DAC.CFG.CODE n) ((dacSafe d n).getD 0)) d
  { d with pio := { d.pio with dio := dio, dacOff := (List.range 32).filter fun n => (dacSafe d n).isNone } }

/-- Load the safe-value latches from a register bank (R47, R272). -/
def loadSafeDac (m : SMap Nat) (n : Nat) (d : Dev) : Dev :=
  let mode := bankRd m (PIO.DAC.CFG.MODE n)
  let c := if mode = 0 ∨ mode = 3 then none
    else match dacCodeOf mode (bankRd m (PIO.DAC.GAIN n)) (bankRd m (PIO.DAC.OFS n)) (bankRd m (PIO.DAC.SAFE n)) with
      | some (c, _) => some c
      | none => some 0
  { d with pio := { d.pio with safeDac := match c with
    | some c => ins n c d.pio.safeDac
    | none => del n d.pio.safeDac } }
def loadSafeDio (m : SMap Nat) (n : Nat) (d : Dev) : Dev :=
  let v := bitsOf (bankRd m (PIO.DIO.SAFE (n / 16))) (2 * (n % 16) + 1) (2 * (n % 16))
  { d with pio := { d.pio with safeDio := if v = 0 then del n d.pio.safeDio else ins n v d.pio.safeDio } }
/-- BT loads every latch at a start, in mode 0b10 from eMRAM (R47). -/
def loadSafeLatches (ok : Bool) (d : Dev) : Dev :=
  let d : Dev := { d with pio := { d.pio with safeBad := !ok } }
  forN 128 (fun n d => loadSafeDio d.emram n d) (forN 32 (fun n d => loadSafeDac d.emram n d) d)

/-! ### Digital and pulse inputs (R262, R273 to R276) -/

/-- The filtered level of a DIO pin. -/
def dioLvl (d : Dev) (n : Nat) : Bool := bitOf (d.rd (PIO.DIO.LVL (n / 32))) (n % 32)

/-- The pulse words that differ from what was last handed, or all of them (R261, R262). -/
def pulseWords (all : Bool) (d : Dev) : List (Nat × Nat) :=
  ((List.range 64).flatMap fun n => [(512 + 2 * n, d.rd (PIO.PIN.COUNT n)), (513 + 2 * n, d.rd (PIO.PIN.RATE n))]).filter
    fun e => all || lookD d.pio.handed e.1 0 != e.2

/-- Hand pulse words over with a quality. -/
def handPulse (ws : List (Nat × Nat)) (q : Nat) (d : Dev) : Dev :=
  handOver (ws.map fun e => .inWord e.1 { v := e.2, q := q })
    { d with pio := { d.pio with handed := ws.foldl (fun m e => if e.2 = 0 then del e.1 m else ins e.1 e.2 m) d.pio.handed } }

/-- Local inputs as the lanes take them at their start, or when ANA is on again: DIO bits and pulse words GOOD (R428). -/
def handLocal (d : Dev) : Dev :=
  let q := if pioRuns d then 0 else 1
  handPulse (pulseWords true d) q (handOver ((List.range 128).map fun n => .inBit n { v := b2n (dioLvl d n), q := q }) d)

/-! ### Islands and states (R21, R75, R277) -/

/-- Every open calibration session is lost. -/
def dropCals (d : Dev) : Dev := d.pio.cal.foldl (fun (d : Dev) e => abandonCal (e.1 / 256) (e.1 % 256) d) d

/-- CFG and TIM of the sequence entries, which show the active image (R253, R281). -/
def seqImageKey (k : Nat) : Bool := decide (32 * 0xC10000 ≤ k) && decide (k < 32 * 0xC14000) && decide (k / 32 % 32 < 8)

/-- ANA has gone off (R21, R277): SARs stop, local inputs go STALE with their last clean values (R263), pulse inputs in use show GAP, registers lose what the die held; counts stay. -/
def anaOff (d : Dev) : Dev :=
  let d := dropCals d
  let d := [0, 1].foldl (fun (d : Dev) k => finishKindWith (.sar k true) stUnavailable [] (d.wr (PIO.SAR.STAT.SSTATE k) 0)) d
  let d := handLocal (seqStale 1 (seqStale 0 { d with pio := { d.pio with due := [] } }))
  let pins := (List.range 64).map fun n => (n, d.flag (PIO.PIN.CFG.EN n), d.rd (PIO.PIN.COUNT n), d.rd (PIO.PIN.STAMP n), d.rd (PIO.PIN.RATE n), d.flag (PIO.PIN.CFG.GAP n))
  let fails := ((sarSt d 0).failed, (sarSt d 1).failed)
  let seqs := keepKeys seqImageKey d.regs
  let counts := ((d.rd (PIO.SAR.STAT.ENTRIES 0)), d.rd (PIO.SAR.STAT.ENTRIES 1))
  let d := (d.resetRange 0xC00000 0xD00000).reloadRange 0xC00000 0xD00000
  let d : Dev := { d with regs := overlay seqs d.regs, pio := { d.pio with sar := [], due := [], ent := d.pio.ent.map fun e => (e.1, { clean := e.2.clean }) } }
  let d := (d.wr (PIO.SAR.STAT.ENTRIES 0) counts.1).wr (PIO.SAR.STAT.ENTRIES 1) counts.2
  let d := if fails.1 then setSar 0 { out := true, failed := true } (d.wr (PIO.SAR.STAT.SSTATE 0) 2) else d
  let d := if fails.2 then setSar 1 { out := true, failed := true } (d.wr (PIO.SAR.STAT.SSTATE 1) 2) else d
  pins.foldl (fun (d : Dev) x => (((d.wr (PIO.PIN.COUNT x.1) x.2.2.1).wr (PIO.PIN.STAMP x.1) x.2.2.2.1).wr (PIO.PIN.RATE x.1) x.2.2.2.2.1).put (PIO.PIN.CFG.GAP x.1) (x.2.1 || x.2.2.2.2.2)) d

/-- ANA is on, or RUN is entered: local outputs stand at their safe levels until they are driven (R277), local inputs are handed, SARs start at their first due pass (R277). -/
def anaOn (d : Dev) : Dev := if pioRuns d then sarsStart (handLocal (keepSafeLevels d)) else d

/-- The FCU's reaction to a SAR fault (FD133, FD134), or a Proof finding of it: the other SAR carries (R95, R268). -/
def sarFault (k : Nat) (proof : Bool) (d : Dev) : Dev := sarTakeOut k proof d

end Sys2Proof.Machine
end

