-- ==== Sys2Proof/Machine/LaneGate.lean ====
section
/-! DEFINITION. The Output Gate and a lane's return (spec/17): vote windows, voted values and drives (R458 to R463), the findings for CS (R464), the
phases of a re-admission (R472 to R474), and the samples and cycles that feed them (R397 to R400, R432 to R434, R451). -/
namespace Sys2Proof.Machine
open Sys2Proof

/-! ### The images' items -/

/-- Output words that loop engines publish, in the lowest-lettered lane's bindings (R395, R458). -/
def ownedWords (d : Dev) : List Nat := (lowSt d).binds.map (·.2.out)

/-- An item of a publication: one not listed is 0. -/
def pubBit (x : Pub) (a : Nat) : Bool := lookD x.bits a false
def pubWord (x : Pub) (a : Nat) : Nat := lookD x.words a 0

/-! ### Voting (R460, R461) -/

/-- The lanes in service. -/
def lanesIn (d : Dev) : List Nat := [0, 1, 2].filter fun l => laneLState d l == 5

/-- The majority of the values that lanes published: one that two hold. -/
def majority {α : Type} [DecidableEq α] (l : List α) : Option α := match l with
  | [a, b] => if a = b then some a else none
  | [a, b, c] => if a = b ∨ a = c then some a else if b = c then some b else none
  | _ => none

/-- The outputs are driven from this publication (R42, R470): RUN or KEEP-WARM, the SAFE path not applied, started at or after the release. -/
def driving (tick : Nat) (d : Dev) : Bool := !localSafe d && (opState d == 3 || opState d == 4) && decide (d.gate.driveFrom ≤ tick)

/-- A decided bit: the voted image, and the pin it drives (R460, R461). -/
def decideBit (tick a : Nat) (v : Bool) (d : Dev) : Dev :=
  let d : Dev := { d with gate := { d.gate with votedB := putBit d.gate.votedB a v } }
  if a < 128 ∧ driving tick d then driveDio a v d else d

/-- A decided word. -/
def decideWord (tick a v : Nat) (d : Dev) : Dev :=
  let d : Dev := { d with gate := { d.gate with votedW := putWord d.gate.votedW a v } }
  if a < 32 ∧ driving tick d then driveDac a v d else d

/-- The lanes that vote in a window (R465, R472): those in service at its opening; one isolated since then still counts with what it has published. -/
def votersIn (d : Dev) (w : VoteWin) : List Nat := w.voters.filter fun l => laneLState d l == 5 || w.pubs.any fun p => p.1 == l
/-- The publications of the voting lanes in a window, in lane order. -/
def winPubs (d : Dev) (w : VoteWin) : List (Nat × Pub) := (votersIn d w).filterMap fun l => (w.pubs.find? fun e => e.1 == l)

/-- The output words of the loops of class c, which a loop publication carries even when they are 0. -/
def classWords (d : Dev) (c : Nat) : List Nat := ((lowSt d).binds.filter fun e => e.2.cls.val == c).map (·.2.out)
/-- The words a window votes, ascending: those of its class, or for a CLP image the DAC words and every word that a publication or the voted image
lists, without loop-owned words (R458, R460). -/
def voteWords (d : Dev) (w : VoteWin) : List Nat :=
  let base : List Nat := if w.src = 8 then List.range 32 ++ d.gate.votedW.map (·.1) else classWords d w.src
  let ks := (w.pubs.foldl (fun m p => p.2.words.foldl (fun m e => ins e.1 () m) m) (base.foldl (fun m a => ins a () m) ([] : SMap Unit))).map (·.1)
  if w.src = 8 then ks.filter fun a => !(ownedWords d).contains a else ks
/-- The bits a CLP window votes, ascending. -/
def voteBits (d : Dev) (w : VoteWin) : List Nat :=
  if w.src ≠ 8 then []
  else (w.pubs.foldl (fun m p => p.2.bits.foldl (fun m e => ins e.1 () m) m)
    (d.gate.votedB.foldl (fun m e => ins e.1 () m) ((List.range 128).foldl (fun m a => ins a () m) ([] : SMap Unit)))).map (·.1)

/-- Decide every item that two lanes in service have published equal (R460). -/
def decideEqual (w : VoteWin) (d : Dev) : Dev :=
  let ps := winPubs d w
  if ps.length < 2 then d
  else
    let tick := (ps.head?.map (·.2.tick)).getD 0
    let words := voteWords d w
    let bits := voteBits d w
    let d := words.foldl (fun (d : Dev) a => match majority (ps.map fun p => pubWord p.2 a) with
      | some v => decideWord tick a v d
      | none => d) d
    bits.foldl (fun (d : Dev) a => match majority (ps.map fun p => pubBit p.2 a) with
      | some v => decideBit tick a v d
      | none => d) d

/-- VOTE_WIN in ns as it acts: 20 to 200 µs, and at least PHASE_MAX (5 to 50 µs) + 10 µs (R475, R479). -/
def voteWinNs (d : Dev) : Nat := 1000 * max (clampN 20 200 (d.rd LANES.CFG.VOTE_WIN)) (clampN 5 50 (d.rd LANES.CFG.PHASE_MAX) + 10)

/-- The window of a source and index, opened now if no lane that votes has published it yet (R460, R472). -/
def openWin (x : Pub) (d : Dev) : VoteWin :=
  let w := (d.gate.wins.find? fun w => w.src == x.src && w.idx == x.idx).getD { src := x.src, idx := x.idx, tick := x.tick }
  if w.pubs.any fun p => w.voters.contains p.1 then w
  else { w with opened := d.up, voters := (lanesIn d).filter fun l => decide (lookD d.gate.inFrom l 0 ≤ x.tick) }

/-- A publication comes too late for its vote (R460): the window has closed, or VOTE_WIN has passed since it opened. -/
def tooLate (x : Pub) (d : Dev) : Bool :=
  decide (x.idx < lookD d.gate.closed x.src 0) || decide ((openWin x d).opened + voteWinNs d < d.up)

/-- The key of a window. -/
def VoteWin.is (w : VoteWin) (src idx : Nat) : Bool := w.src == src && w.idx == idx

/-- Voted bits that changed between two images, handed to the loop engines: any of them can be, or become, a loop's interlock bit (R396, R413,
R462). -/
def handVoted (old : SMap Bool) (d : Dev) : Dev :=
  let new := d.gate.votedB
  let ch := ((new.filter fun e => lookD old e.1 false != e.2) ++ old.filter fun e => e.2 && (look new e.1).isNone).map (·.1)
  if ch = [] then d else handOver (ch.map fun a => .voted a (lookD d.gate.votedB a false)) d

/-- A lane's publication joins its window. -/
def joinWin (l : Nat) (x : Pub) (d : Dev) : VoteWin × Dev :=
  let w := openWin x d
  let w : VoteWin := { w with pubs := (w.pubs.filter fun e => e.1 != l) ++ [(l, x)] }
  let known := d.gate.wins.any fun w => w.is x.src x.idx
  let wins := if known then d.gate.wins.map fun v => if v.is x.src x.idx then w else v else d.gate.wins ++ [w]
  (w, { d with gate := { d.gate with wins := wins } })

/-- A publication of lane l in service reaches the Gate (R460): late ones are discarded, the window opens or is joined, and equal items are
decided at once. -/
def gateTake (l : Nat) (x : Pub) (d : Dev) : Dev :=
  if tooLate x d then d
  else
    let (w, e) := joinWin l x d
    handVoted d.gate.votedB (decideEqual w e)

/-- A publication equals the voted image in every item it carries (R474). -/
def agreesVoted (x : Pub) (d : Dev) : Bool :=
  let w : VoteWin := { src := x.src, idx := x.idx, pubs := [(0, x)] }
  (voteWords d w).all (fun a => pubWord x a == lookD d.gate.votedW a 0) && (voteBits d w).all fun a => pubBit x a == lookD d.gate.votedB a false
/-- Two publications agree in every item. -/
def agreesPub (x y : Pub) (d : Dev) : Bool :=
  let w : VoteWin := { src := x.src, idx := x.idx, pubs := [(0, x), (1, y)] }
  (voteWords d w).all (fun a => pubWord x a == pubWord y a) && (voteBits d w).all fun a => pubBit x a == pubBit y a

/-- The publication of a lane in SHADOW is noted: it waits in its window for the comparison at the close; one that comes too late is missing there,
and fails the re-admission (R460, R474). -/
def shadowTake (l : Nat) (x : Pub) (d : Dev) : Dev :=
  match d.gate.readmit with
  | none => d
  | some r =>
    if r.lane ≠ l then d
    else
      let r : Readmit := { r with seen := if r.seen.contains x.src then r.seen else r.seen ++ [x.src] }
      let d : Dev := { d with gate := { d.gate with readmit := some r } }
      if tooLate x d then { d with gate := { d.gate with readmit := some { r with bad := true } } } else (joinWin l x d).2

/-- A lane's fault changes items of a publication on its way (R464). -/
def upsetPub (us : List PubUpset) (x : Pub) : Pub :=
  us.foldl (fun (x : Pub) u => if u.word then { x with words := putWord x.words u.addr u.val } else { x with bits := putBit x.bits u.addr (u.val % 2 == 1) }) x

/-- The oldest publication of lane l on its way, and the device without it. -/
def popOutbox (l : Nat) (d : Dev) : Option (Pub × Dev) :=
  match (laneSt d l).outbox with
  | [] => none
  | x :: t => some (x, setLane l { laneSt d l with outbox := t } d)

/-! ### The close of a window (R461, R464) -/

/-- A vote item's values by lane, of the publications given. -/
def firstDiff (d : Dev) (w : VoteWin) (ps : List (Nat × Pub)) : Option (Bool × Nat) :=
  match (voteWords d w).find? fun a => (ps.map fun p => pubWord p.2 a).any fun v => v != ((ps.head?.map fun p => pubWord p.2 a).getD 0) with
  | some a => some (true, a)
  | none =>
    match (voteBits d w).find? fun a => (ps.map fun p => pubBit p.2 a).any fun v => v != ((ps.head?.map fun p => pubBit p.2 a).getD false) with
    | some a => some (false, a)
    | none => none

/-- The item's value in a publication. -/
def itemVal (it : Bool × Nat) (x : Pub) : Nat := if it.1 then pubWord x it.2 else b2n (pubBit x it.2)

/-- Two publications equal in every item of the window. -/
def samePub (d : Dev) (w : VoteWin) (x y : Pub) : Bool :=
  (voteWords d w).all (fun a => pubWord x a == pubWord y a) && (voteBits d w).all fun a => pubBit x a == pubBit y a

/-- The lanes among `ps` that differ in some item from a value that two of the three lanes hold. -/
def minorityOf (d : Dev) (w : VoteWin) (ps : List (Nat × Pub)) : List Nat :=
  if ps.length < 3 then []
  else
    let ws := voteWords d w
    let bs := voteBits d w
    (ps.filter fun p =>
      ws.any (fun a => match majority (ps.map fun q => pubWord q.2 a) with
        | some v => v != pubWord p.2 a
        | none => false) ||
      bs.any (fun a => match majority (ps.map fun q => pubBit q.2 a) with
        | some v => v != pubBit p.2 a
        | none => false)).map (·.1)

/-- Some item has three different values among three lanes, or two among the two lanes of a duplex (R464). -/
def noMajority (d : Dev) (w : VoteWin) (ps : List (Nat × Pub)) (n : Nat) : Bool :=
  decide (ps.length = n) && ((voteWords d w).any (fun a => (majority (ps.map fun q => pubWord q.2 a)).isNone) ||
    (voteBits d w).any fun a => (majority (ps.map fun q => pubBit q.2 a)).isNone)

/-- A mask of lanes. -/
def laneMask (l : List Nat) : Nat := l.foldl (fun m n => m ||| 2 ^ n) 0

/-- The finding of a closing window, if it produces one (R464). Two lanes that differ while the third is absent leave only the absence (DEDUCED,
log 25). A finding without a differing item names item 0 of bit items with values 0 (DESIGN CHOICE, log 25). -/
def findingOf (d : Dev) (w : VoteWin) : Option Finding :=
  let ps := winPubs d w
  let ins := votersIn d w
  let absent := ins.filter fun l => !(ps.any fun p => p.1 == l)
  let minor := minorityOf d w ps
  let differ := decide (2 ≤ ins.length) && noMajority d w ps ins.length
  if ins.length < 2 ∨ (minor = [] ∧ absent = [] ∧ ¬ differ) then none
  else
    let f : Finding := { idx := w.idx, src := w.src, minor := laneMask minor, absent := laneMask absent, differ := differ }
    match firstDiff d w ps with
    | none => some f
    | some it =>
      let vals := ps.map fun p => itemVal it p.2
      let maj := (majority vals).getD (vals.head?.getD 0)
      some { f with word := it.1, item := it.2, val := maj, val2 := (vals.find? fun v => v != maj).getD 0 }

/-- Record a finding in DLOG, with the lanes' counts and EV137 (R478, R479), whose lane mask holds the lanes concerned: the minority and absent ones,
and every lane in service where no value has a majority (R464; DEDUCED, log 25). -/
def logFinding (f : Finding) (d : Dev) : Dev :=
  let k := d.gate.logAt
  let d := ((d.wr (LANES.DLOG.IDX.INDEX k) f.idx).wr (LANES.DLOG.SRC.SOURCE k) f.src).wr (LANES.DLOG.SRC.MINOR k) f.minor
  let d := ((d.wr (LANES.DLOG.SRC.ABS k) f.absent).put (LANES.DLOG.SRC.WORD k) f.word).wr (LANES.DLOG.SRC.ITEM k) f.item
  let d := (d.wr (LANES.DLOG.VAL k) f.val).wr (LANES.DLOG.VAL2 k) f.val2
  let d := [0, 1, 2].foldl (fun (d : Dev) l => if bitOf f.minor l then d.bump (LANES.LANE.CNT.MINORITY l) else d) d
  let d := [0, 1, 2].foldl (fun (d : Dev) l => if bitOf f.absent l then d.bump (LANES.LANE.CNT.ABSENT l) else d) d
  let mask := f.minor ||| f.absent ||| (if f.differ then laneMask (lanesIn d) else 0)
  raiseEv 137 k mask { d with gate := { d.gate with logAt := (k + 1) % 16 } }

/-- Strikes return to 0 for each lane whose publication agrees with the majority or its partner (R464). -/
def clearStrikes (w : VoteWin) (d : Dev) : Dev :=
  let ps := winPubs d w
  let minor := minorityOf d w ps
  ps.foldl (fun (d : Dev) p =>
    if laneLState d p.1 = 5 ∧ ¬ minor.contains p.1 ∧ (ps.any fun q => q.1 != p.1 && samePub d w q.2 p.2) then d.wr (LANES.LANE.CNT.STRIKES p.1) 0 else d) d

/-- What the shadowing lane published in a window satisfies R474: equal to the voted image, or to its source's publication with fewer than two
lanes in service; none only while it has not published this source yet. -/
def shadowOk (w : VoteWin) (r : Readmit) (d : Dev) : Bool :=
  match w.pubs.find? fun e => e.1 == r.lane with
  | none => !r.seen.contains w.src
  | some (_, x) =>
    if 2 ≤ (lanesIn d).length then agreesVoted x d
    else match w.pubs.find? fun e => e.1 == r.source with
      | some (_, y) => samePub d w x y
      | none => true

/-- The shadowing lane's publication against the voted image, or its source's with fewer than two lanes in service (R474). -/
def shadowCheck (w : VoteWin) (d : Dev) : Dev :=
  match d.gate.readmit with
  | none => d
  | some r =>
    if laneLState d r.lane ≠ 4 then d
    else
      if shadowOk w r d then d else { d with gate := { d.gate with readmit := some { r with bad := true } } }

/-- The oldest window of a source closes VOTE_WIN after it opened (R460, R461; log 20): strikes, finding, comparison of the shadow, and its index is
past. -/
def closeWindow (src : Nat) (d : Dev) : Dev :=
  match d.gate.wins.find? fun w => w.src == src with
  | none => d
  | some w =>
    let d := toUp (w.opened + voteWinNs d) d
    let f := findingOf d w
    let d := shadowCheck w (clearStrikes w d)
    let d : Dev := { d with gate := { d.gate with wins := d.gate.wins.filter fun v => !v.is src w.idx, closed := ins src (max (lookD d.gate.closed src 0) (w.idx + 1)) d.gate.closed } }
    match f with
    | some f => logFinding f { d with gate := { d.gate with findings := d.gate.findings ++ [f] } }
    | none => d

/-! ### The retentive copy (R431) -/

/-- Copy the retentive ranges to eMRAM from the lowest-lettered lane in service, with the values at the end of its last complete cycle (R431). -/
def retentiveCopy (d : Dev) : Dev :=
  match lowLane d with
  | none => d
  | some l =>
    let x := laneSt d l
    let nm := min 16384 (x.rd CLP.RET0.RET_M)
    let nd := min 8192 (x.rd CLP.RET0.RET_DW)
    let nc := min 1024 (x.rd CLP.RET1.RET_C)
    let (m, dw, ctr) := x.clp.done.getD (x.clp.m, x.clp.dw, x.clp.ctr)
    { d with img := { d.img with retM := m.filter fun e => decide (e.1 < nm), retDw := dw.filter fun e => decide (e.1 < nd), retC := (ctr.filter fun e => decide (e.1 < nc)).map fun e => (e.1, e.2.cv), retHas := true } }

/-! ### Samples (R397 to R400) -/

/-- Raise a lane's events; only EVs of a sample of the lowest-lettered lane count (R424). -/
def raiseLane (l : Nat) (evs : List LaneEv) (d : Dev) : Dev :=
  if lowLane d = some l then evs.foldl (fun (d : Dev) e => raiseEvFrom (4 + l) e.1 e.2.1 e.2.2 d) d else d

/-- After a sample: the next index, and one more when it was late (R399). -/
def afterSample (c idx : Nat) (late : Bool) (x : LaneSt) : LaneSt :=
  if c = 7 then { x with trig := x.trig.drop 1, trigIdx := x.trigIdx + 1 } else { x with next := ins c (idx + (if late then 2 else 1)) x.next }

/-- Lane l misses a sample of class c (R399): counted, with EV122 and the lane's FCU detector. -/
def skipSample (l c : Nat) (d : Dev) : Dev :=
  raise (98 + l) c (raiseEvFrom (4 + l) 122 c l (setLane l ((laneSt d l).bump (LOOP.CLS.OVERRUNS c)) d))

/-- A sample of class c starts on lane l (R397 to R399, R403), once every faster one due by then has run; samples in progress go on behind it. One due
while its predecessor is still in progress is skipped, and `late` says that this one will not have published when the next is due. -/
def laneSample (l c : Nat) (late : Bool) (d : Dev) : Dev :=
  if ¬ laneRuns d l ∨ d.gate.t0.isNone then d
  else
    match nextSample (laneSt d l) c with
    | none => d
    | some (idx, T) =>
      if fasterDue (laneSt d l) c T then d
      else
        let d := toTick T d
        let x := laneSt d l
        if x.runs.any fun r => r.cls == c then skipSample l c (setLane l (afterSample c idx false x) d)
        else
          let (x, evs) := pumpRuns T (afterSample c idx late (startRun c idx T x))
          let d := raiseLane l evs (setLane l x d)
          if late then skipSample l c d else d

/-- A filtered edge of TRIG_PIN (R400): accepted with its effective tick, or dropped and counted with EV125. -/
def trigEdge (rise : Bool) (d : Dev) : Dev :=
  if d.gate.t0.isNone ∨ (lowLane d).isNone ∨ ¬ lflag d LOOP.CFG.TRIG_EN then d
  else
    let e := lrd d LOOP.CFG.TRIG_EDGE
    if ¬ (e = 3 ∨ (e = 2 ∧ ¬ rise) ∨ (e ≤ 1 ∧ rise)) then d
    else
      let eff := effTick 20000 d
      -- TRIG_H in units of 2⁻¹⁴⁹ s against a distance in base ticks
      let h := (f32Mag (lrd d LOOP.TRIG_H)).getD 0
      let near : Bool := match d.gate.lastTrig with
        | some t => decide ((eff - t) * 2 ^ 149 < h * 4000)
        | none => false
      let waiting := (lowSt d).trig != [] || (lowSt d).runs.any fun r => r.cls == 7
      if near || waiting then
        let d := eachLane (fun x => x.wr LOOP.STAT.TRIG_DROP (satInc 8 (x.rd LOOP.STAT.TRIG_DROP))) d
        raiseEvFrom (laneSrc d) 125 (lrd d LOOP.STAT.TRIG_DROP) 0 d
      else eachLane (fun x => { x with trig := x.trig ++ [eff] }) { d with gate := { d.gate with lastTrig := some eff } }

/-! ### CLP cycles (R432 to R435, R451, R455) -/

/-- Set a lane's CLP state, with EV133 by the lowest-lettered lane (R455). -/
def clpSetState (l st : Nat) (d : Dev) : Dev :=
  let x := laneSt d l
  if x.rd CLP.STAT.STATE = st then d else raiseLane l [(133, st, 0)] (setLane l (x.wr CLP.STAT.STATE st) d)

/-- The lane's publication of its output image: bits and words with forces, without loop-owned words (R429, R433, R446). -/
def clpPub (x : LaneSt) (idx T : Nat) : Pub :=
  let fs (sp : Nat) := x.clp.snapF.filter fun e => e.1 / 65536 == sp
  let bits := (fs 1).foldl (fun m e => putBit m (e.1 % 65536) (e.2 % 2 == 1)) x.clp.outB
  let words := (fs 6).foldl (fun m e => putWord m (e.1 % 65536) e.2) (x.clp.outW.filter fun e => !loopOwned x e.1)
  { src := 8, idx := idx, tick := T, bits := bits, words := words }

/-- The snapshot at S_k (R433), and the state every cycle starts from (R439). -/
def clpSnap (T : Nat) (x : LaneSt) : LaneSt :=
  x.onClp fun c => { c with snapB := x.inB, snapW := x.inW, snapF := x.forces, ba := true, wa := 0, stack := [], pc := 0, cycles := 0, err := false, loopWr := none, cur := T }

/-- The end of a cycle: publication, counts, times and the next grid position (R433 to R435, R455). `errAt` is the address of the first error; a
`late` cycle publishes after the next grid position, before the watchdog (R434). -/
def clpCycleEnd (l : Nat) (late : Bool) (errAt : Option Nat) (d : Dev) : Dev :=
  let x := laneSt d l
  let idx := x.clp.idx
  let x := { x with outbox := x.outbox ++ [clpPub x idx x.clp.cur] }
  let evs : List LaneEv := (match errAt with
      | some a => if x.clp.err && !x.clp.prevErr then [(132, a, 0)] else []
      | none => []) ++
    (match x.clp.loopWr with
      | some a => if x.clp.prevLoopWr then [] else [(134, a, 0)]
      | none => [])
  let x := if x.clp.err then x.bump CLP.CNT.ARITH else x
  let x := if x.clp.loopWr.isSome then x.bump CLP.CNT.LOOP_WR else x
  -- from S_k to publication: the path's time and at most 5 µs (R433); how much of them is free
  let (ex, d) := takeFree 48 d
  let P := max 1 (x.rd CLP.STAT.PERIOD)
  let t := if late then P * 25000 + 1 + ex % (P * 25000 * (clampN 2 8 (x.rd CLP.CFG.WD_MULT) - 1)) else (x.clp.cycles * 25 / 10 + ex % 5001) / 10
  let x := x.wr CLP.CYC_LAST t
  let x := x.wr CLP.CYC_MIN (min (x.rd CLP.CYC_MIN) t)
  let x := (x.wr CLP.CYC_MAX (max (x.rd CLP.CYC_MAX) t)).wr CLP.CYC.CYCLE idx
  let x := x.onClp fun c => { c with first := false, prevErr := c.err, prevLoopWr := c.loopWr.isSome, idx := idx + 1, next := c.cur + P, done := some (c.m, c.dw, c.ctr) }
  raiseLane l evs (setLane l x d)

/-- The lane skips one grid position (R434). -/
def clpSkip (l : Nat) (d : Dev) : Dev :=
  let x := laneSt d l
  let P := max 1 (x.rd CLP.STAT.PERIOD)
  let d := setLane l ((x.bump CLP.CNT.OVERRUNS).onClp fun c => { c with idx := c.idx + 1, next := c.next + P }) d
  raise (98 + l) 8 (raiseEvFrom (4 + l) 128 l (x.clp.idx % 2 ^ 32) d)

/-- CLP.STAT as the lowest-lettered lane in service holds it. -/
def clpStatWord (d : Dev) : Nat :=
  lrd d CLP.STAT.STATE * 2 ^ 29 + lrd d CLP.STAT.PENDING_REARM * 2 ^ 28 + lrd d CLP.STAT.MINOFF * 2 ^ 27 + lrd d CLP.STAT.PERIOD

/-- CLP_RUN with action 0 completes once the lowest-lettered lane is STOPPED (R451, R454). -/
def clpStopped (d : Dev) : Dev := if lrd d CLP.STAT.STATE = 0 then finishKindWith (.clpRun false) stOK [clpStatWord d] d else d

/-- A grid position of a lane's CLP (R432, R433, R451): a cycle while it runs, the last image unchanged while it is stopped (a force that changes then
acts at the next cycle, R445), nothing while halted. -/
def laneCycle (l : Nat) (late : Bool) (d : Dev) : Dev :=
  if ¬ laneRuns d l ∨ d.gate.t0.isNone ∨ (laneSt d l).rd CLP.STAT.STATE = 3 then d
  else
    let T := (laneSt d l).clp.next
    let d := toTick T d
    let before := (laneSt d l).rd CLP.STAT.STATE
    -- a program whose data start anew has the retentive copy rewritten after its first cycle (R449)
    let anew := decide (lowLane d = some l) && (laneSt d l).pend.any fun e => decide (e.1 ≤ T) && match e.2 with
      | .clpImage _ keep => !keep
      | _ => false
    let x := applyDue true T (laneSt d l)
    let after := x.rd CLP.STAT.STATE
    -- WAITING ends at S_0; changes that were due are reported
    let st := if after = 4 then (if x.flag CLP.CFG.EN then 1 else 0) else after
    let d := clpSetState l st (setLane l (x.wr CLP.STAT.STATE before) d)
    let x := clpSnap T (laneSt d l)
    let d := if st = 0 then
        let x := laneSt d l
        let P := max 1 (x.rd CLP.STAT.PERIOD)
        let y := { x with outbox := x.outbox ++ [clpPub x x.clp.idx T] }
        setLane l ((y.wr CLP.CYC.CYCLE x.clp.idx).onClp fun c => { c with idx := c.idx + 1, next := T + P }) d
      else
        let (y, e) := clpRunProg (x.clp.img.code.length + 1) x none
        clpCycleEnd l late e (setLane l y d)
    let d := if anew then retentiveCopy d else d
    clpStopped (if late then clpSkip l d else d)

end Sys2Proof.Machine
end

