-- ==== Sys2Proof/Machine/SessOps.lean ====
section
/-! DEFINITION. Tyrid sessions (spec/09): PDUs and their frames (R228 to R231), session states with their input qualities and images (R234, R237 to
R241), polls, outputs, starts and stops (R235, R236). -/
namespace Sys2Proof.Machine
open Sys2Proof

/-! ### A session's settings -/

/-- The private state of session s. -/
def sessSt (d : Dev) (s : Nat) : SessSt := lookD d.sess s {}
/-- Write it. -/
def setSess (s : Nat) (x : SessSt) (d : Dev) : Dev := { d with sess := ins s x d.sess }
/-- STATE: 0 IDLE, 1 JOINING, 2 LIVE, 3 STALE, 4 LOST, 5 FALLBACK (R234). -/
def sessState (d : Dev) (s : Nat) : Nat := d.rd (SESS.CTX.STAT.STATE s)
/-- Session s is requested on. -/
def sessEn (d : Dev) (s : Nat) : Bool := d.flag (SESS.CTX.CFG.EN s)
/-- It is carried on UDP. -/
def sessUdp (d : Dev) (s : Nat) : Bool := d.flag (SESS.CTX.CFG.TRANSPORT s)
/-- Its CAN channel or Ethernet port. -/
def sessChan (d : Dev) (s : Nat) : Nat := d.rd (SESS.CTX.CFG.CHAN s)
/-- Its engine (R236). -/
def sessEngine (d : Dev) (s : Nat) : Nat := if sessUdp d s then d.rd (SESS.CTX.CFG.ENGINE s) else sessChan d s / 8
/-- RESP_TMO in ns. -/
def respNs (d : Dev) (s : Nat) : Nat := max 1 (d.rd (SESS.CTX.TMO.RESP_TMO s)) * 1000000
/-- The slices' sizes and setpoint count, larger values limited (R237, R247). -/
def inWords (d : Dev) (s : Nat) : Nat := min 32 (d.rd (SESS.CTX.IN.WCOUNT s))
def inBits (d : Dev) (s : Nat) : Nat := min 256 (d.rd (SESS.CTX.INB.BCOUNT s))
def outWords (d : Dev) (s : Nat) : Nat := min 32 (d.rd (SESS.CTX.OUT.WCOUNT s))
def outBits (d : Dev) (s : Nat) : Nat := min 256 (d.rd (SESS.CTX.OUTB.BCOUNT s))
def spCount (d : Dev) (s : Nat) : Nat := min 16 (d.rd (SESS.CTX.CFG.SPCOUNT s))
/-- Bytes that n bits take. -/
def bitBytes (n : Nat) : Nat := (n + 7) / 8
/-- PERIOD in ms (R247). -/
def sessPeriodMs (d : Dev) (s : Nat) : Nat := match d.rd (SESS.CTX.CFG.PERIOD s) with
  | 0 => 100 | 1 => 250 | 2 => 500 | 4 => 2000 | 5 => 5000 | 6 => 10000 | _ => 1000
/-- The words of STAT and OUTSEQ. -/
def sessStatWord (d : Dev) (s : Nat) : Nat :=
  sessState d s * 2 ^ 29 + d.rd (SESS.CTX.STAT.PENDING_REARM s) * 2 ^ 28 + d.rd (SESS.CTX.STAT.STOPPING s) * 2 ^ 27 + d.rd (SESS.CTX.STAT.UNDELIVERED s) * 2 ^ 26 +
  d.rd (SESS.CTX.STAT.UNCONF s) * 2 ^ 25 + d.rd (SESS.CTX.STAT.DUP_ADDR s) * 2 ^ 24 + d.rd (SESS.CTX.STAT.MISS_RUN s) * 2 ^ 20 + d.rd (SESS.CTX.STAT.REJOINS s) * 2 ^ 8 + d.rd (SESS.CTX.STAT.EPOCH s)
def sessOutseqWord (d : Dev) (s : Nat) : Nat :=
  d.rd (SESS.CTX.OUTSEQ.CONF s) * 2 ^ 24 + d.rd (SESS.CTX.OUTSEQ.SENT s) * 2 ^ 16 + d.rd (SESS.CTX.OUTSEQ.CONF_FAIL s)

/-- The sessions whose field at a given bit of a context's register holds something but its reset value 0. -/
def sessHolding (f : Nat → FRef) (d : Dev) : List Nat :=
  let k0 := (f 0).key
  d.regs.filterMap fun e => if k0 ≤ e.1 ∧ e.1 < k0 + 0x800 * 4096 ∧ (e.1 - k0) % 0x800 = 0 then some ((e.1 - k0) / 0x800) else none
/-- The enabled sessions. -/
def enabledSess (d : Dev) : List Nat := sessHolding SESS.CTX.CFG.EN d
/-- The sessions not IDLE. -/
def activeSess (d : Dev) : List Nat := sessHolding SESS.CTX.STAT.STATE d

/-- Poll slots per 10 s of a session (R236). -/
def slots10 (d : Dev) (s : Nat) : Nat := 10000 / sessPeriodMs d s
/-- Poll slots per 10 s of engine e. -/
def engSlots10 (d : Dev) (e : Nat) : Nat := ((enabledSess d).filter fun s => sessEngine d s == e).foldl (fun n s => n + slots10 d s) 0

/-- SUM and ENG follow the sessions (R247). -/
def sessCounts (d : Dev) : Dev :=
  let act := activeSess d
  let live := (act.filter fun s => sessState d s == 2).length
  let down := (act.filter fun s => sessEn d s && (sessState d s == 3 || sessState d s == 4)).length
  let d := (d.wr SESS.SUM.LIVE live).wr SESS.SUM.DOWN down
  (d.wr (SESS.ENG.SLOTS 0) (engSlots10 d 0 / 10)).wr (SESS.ENG.SLOTS 1) (engSlots10 d 1 / 10)

/-! ### Sending (R228 to R231) -/

/-- Priority of a class (R231). -/
def clsPrio (c : Nat) : Nat := match c with
  | 0 => 5 | 1 => 4 | 2 => 2 | 3 => 2 | 4 => 1 | 5 => 5 | 6 => 6 | 7 => 5 | _ => 0

/-- The 29-bit identifier of R228 with direction 0. -/
def tyridId (cls addr last seg seq : Nat) : Nat := clsPrio cls * 2 ^ 26 + cls * 2 ^ 21 + addr * 2 ^ 9 + last * 2 ^ 8 + seg * 2 ^ 4 + seq

/-- The frames of a PDU on a CAN channel (R229): full ones but the last; bytes that a DLC adds beyond the PDU are 0 (DESIGN CHOICE, log 28). -/
def tyridFrames (fd : Bool) (cls addr seq : Nat) (pdu : List Byte) : List CanFrame :=
  let size := if fd then 64 else 8
  let n := max 1 ((pdu.length + size - 1) / size)
  (List.range n).map fun i =>
    let part := (pdu.drop (size * i)).take size
    let dlc := dlcFor part.length
    { id := tyridId cls addr (b2n (i + 1 == n)) i seq, ide := true, rtr := false, fdf := fd, brs := fd, esi := false, dlc := dlc, data := part ++ List.replicate (dlcBytes fd dlc - part.length) 0 }

/-- The bus engine can send on CAN channel n (R219, R220, R236): FIELD on, the channel neither OFF nor STOPPING nor listening only, the transmit
object its own. -/
def engCan (d : Dev) (n prio : Nat) : Bool :=
  islandOn d 11 && canState d n != 0 && canState d n != 4 && !listenOnly d n && d.flag (CAN.OBJ.CFG.OWNER n prio)
/-- It can send on Ethernet port q: FIELD and NET on, the port with the TYRID role and ON with its link up, or, on a PRP pair, the pair's other port so
(R174). -/
def engEth (d : Dev) (q : Nat) : Bool :=
  decide (q < 6) && islandOn d 11 && islandOn d 10 && bitOf (d.rd (ETH.PORT.CFG.ROLE q)) 1 &&
    (ethUp d q || (prpOn d (q / 2) && ethUp d (if q % 2 = 0 then q + 1 else q - 1)))

/-- Queue a PDU on a CAN channel (R229, R236). -/
def canSendPdu (n cls addr seq : Nat) (pdu : List Byte) (d : Dev) : Dev :=
  let k := clsPrio cls
  if engCan d n k then
    let fs := tyridFrames (d.flag (CAN.CTRL.FD_EN n)) cls addr seq pdu
    engLoad n k (setCan n { canSt d n with engQ := ins k (lookD (canSt d n).engQ k [] ++ fs) (canSt d n).engQ } d)
  else d

/-- The header of R230 before a PDU that the controller sends: LAST is 1, the segment, direction and MORE are 0. -/
def udpHeader (cls addr seq len : Nat) : List Byte :=
  toBytes 2 (cls * 2 ^ 12 + addr) ++ toBytes 2 (clsPrio cls * 2 ^ 10 + 2 ^ 8 + seq) ++ toBytes 2 len ++ toBytes 2 0

/-- The Tyrid UDP port (R230, R247). -/
def tyridPort (d : Dev) : Nat := d.rd SESS.CFG.UDP_PORT

/-- Send a PDU in a datagram of its own on Ethernet port q (R230; one PDU in each is a DESIGN CHOICE, log 28); a broadcast has no one destination. -/
def ethSendPdu (q : Nat) (dst : Option Nat) (cls addr seq : Nat) (pdu : List Byte) (d : Dev) : Dev :=
  if engEth d q then ethSend q { kind := .tyrid { ip := dst, sport := tyridPort d, dport := tyridPort d, data := udpHeader cls addr seq pdu.length ++ pdu }, queue := 6 } d else d

/-- The controller sends a PDU of a class of session s to a station (R228 to R232): the session's sequence advances with every PDU, and the PDU goes out
where the carrier lets it. -/
def sendPduTo (dst : PduSrc) (s cls : Nat) (pdu : List Byte) (d : Dev) : Dev :=
  let x := sessSt d s
  let d := setSess s { x with txSeq := (x.txSeq + 1) % 16 } d
  if dst.udp then ethSendPdu dst.chan (some dst.ip) cls s x.txSeq pdu d else canSendPdu dst.chan cls s x.txSeq pdu d

/-- The controller sends a PDU to session s's own station; on UDP there is none before a first accepted join (R230). -/
def sendPdu (s cls : Nat) (pdu : List Byte) (d : Dev) : Dev :=
  let d := setSess s { sessSt d s with sent := ins cls pdu (sessSt d s).sent } d
  match sessUdp d s, (sessSt d s).ip with
  | true, some ip => sendPduTo { udp := true, chan := sessChan d s, ip := ip } s cls pdu d
  | true, none => d
  | false, _ => sendPduTo { chan := sessChan d s } s cls pdu d

/-- Send a broadcast (R231): its address and sequence carry no meaning; the sequence is free (log 1). -/
def broadcast (cans : List Nat) (ports : List Nat) (pdu : List Byte) (d : Dev) : Dev :=
  let (seq, d) := takeFree 4 d
  let d := cans.foldl (fun (d : Dev) n => canSendPdu n 15 0 seq pdu d) d
  ports.foldl (fun (d : Dev) q => ethSendPdu q none 15 0 seq pdu d) d

/-- The engine that receives a PDU for address s (R236). -/
def pduEngine (d : Dev) (s : Nat) (src : PduSrc) : Nat := if src.udp then d.rd (SESS.CTX.CFG.ENGINE s) else src.chan / 8 % 2

/-- Count a discarded PDU in SEG_ERR of the engine that received it (R229 to R231). -/
def segErr (s : Nat) (src : PduSrc) (d : Dev) : Dev := d.bump (SESS.ENG.SEG_ERR (pduEngine d s src))

/-- Session s is carried where this PDU came from; a PRP pair is one port (R174, R232). -/
def carriedOn (d : Dev) (s : Nat) (src : PduSrc) : Bool :=
  src.udp == sessUdp d s && (if src.udp then ethOwner d src.chan == ethOwner d (sessChan d s) else src.chan == sessChan d s)

/-! ### The image (R237 to R239) -/

/-- The engine's lead: the effective tick starts at least 500 µs after the hand-over (R238). -/
def sessEff (d : Dev) : Nat := effTick 500000 d

/-- Hand the input slice over with a quality per word and one for the bits (R237, R238). -/
def handInputs (s : Nat) (qw : Nat → Nat) (qb : Nat) (d : Dev) : Dev :=
  let x := sessSt d s
  let ws := (List.range (inWords d s)).map fun i => HandOver.inWord (d.rd (SESS.CTX.IN.WBASE s) + i) { v := lookD x.inW i 0, q := qw i }
  let bs := (List.range (inBits d s)).map fun i => HandOver.inBit (d.rd (SESS.CTX.INB.BBASE s) + i) { v := b2n (lookD x.inB i false), q := qb }
  if ws ++ bs = [] then d else handAt (sessEff d) (ws ++ bs) d

/-- The voted image of a session's output slice: bits, then words (R231, R239). -/
def outImage (d : Dev) (s : Nat) : List Byte :=
  let bit (i : Nat) : Bool := decide (i < outBits d s) && lookD d.gate.votedB (d.rd (SESS.CTX.OUTB.BBASE s) + i) false
  let bits := (List.range (bitBytes (outBits d s))).map fun k => BitVec.ofNat 8 ((List.range 8).foldl (fun v b => v + b2n (bit (8 * k + b)) * 2 ^ b) 0)
  bits ++ (List.range (outWords d s)).flatMap fun i => toBytes 4 (lookD d.gate.votedW (d.rd (SESS.CTX.OUT.WBASE s) + i) 0)

/-- The session has outputs. -/
def hasOut (d : Dev) (s : Nat) : Bool := outWords d s + outBits d s != 0

/-! ### States (R234, R241) -/

/-- A change of state: EV72 and its record, the qualities of the inputs, and UNDELIVERED for outputs that are not sent (R234, R238, R241). -/
def setSessState (s st : Nat) (d : Dev) : Dev :=
  let old := sessState d s
  if old = st then d
  else
    let d := raiseEv 72 s (st + old * 2 ^ 8) (sessCounts (d.wr (SESS.CTX.STAT.STATE s) st))
    let d := if (st = 3 ∨ st = 4) ∧ hasOut d s then d.wr (SESS.CTX.STAT.UNDELIVERED s) 1 else d
    -- LIVE and FALLBACK follow a response, which hands its own inputs over
    if st = 2 ∨ st = 5 then d else if old = 2 ∨ old = 5 then handInputs s (fun _ => 1) 1 d else d

/-- The session is IDLE: nothing is awaited (R235). -/
def sessIdle (s : Nat) (d : Dev) : Dev :=
  let d := setSess s { sessSt d s with pollAt := none, outAt := none, outRep := false, firstSlot := false, returned := false } d
  let d := ((d.wr (SESS.CTX.STAT.STOPPING s) 0).wr (SESS.CTX.STAT.UNCONF s) 0).wr (SESS.CTX.STAT.MISS_RUN s) 0
  setSessState s 0 d

/-- Sessions are served: RUN or KEEP-WARM (R243). -/
def sessServed (d : Dev) : Bool := opState d == 3 || opState d == 4

/-! ### Outputs and setpoints (R239, R240) -/

/-- Send the image once: `rep` for the repeat of the same slot, which carries the same sequence. -/
def sendOut (s : Nat) (rep : Bool) (d : Dev) : Dev :=
  let x := sessSt d s
  let body := if rep then x.lastOut.getD [] else outImage d s
  let seq := if rep then d.rd (SESS.CTX.OUTSEQ.SENT s) else (d.rd (SESS.CTX.OUTSEQ.SENT s) + 1) % 256
  let crc := crc32 body
  let d := setSess s { x with lastOut := some body, crc := crc, outAt := some d.up, outRep := rep } (d.wr (SESS.CTX.OUTSEQ.SENT s) seq)
  sendPdu s 2 (toBytes 1 (d.rd (SESS.CTX.STAT.EPOCH s)) ++ toBytes 1 seq ++ toBytes 4 crc ++ body) d

/-- Send the setpoints if they changed (R239). -/
def sendSetpoints (s : Nat) (d : Dev) : Dev :=
  let x := sessSt d s
  if x.spNew ∧ spCount d s ≠ 0 then
    let seq := (x.spSeq + 1) % 256
    let d := setSess s { x with spSeq := seq, spNew := false } d
    sendPdu s 3 (toBytes 1 (d.rd (SESS.CTX.STAT.EPOCH s)) ++ toBytes 1 seq ++ toBytes 1 (spCount d s) ++ toBytes 1 0 ++
      (List.range (spCount d s)).flatMap fun i => toBytes 4 (lookD x.sp i 0)) d
  else d

/-- The Distributor writes setpoint i of session s (R237). -/
def putSetpoint (s i v : Nat) (d : Dev) : Dev :=
  let x := sessSt d s
  if lookD x.sp i 0 = v then d else setSess s { x with sp := ins i v x.sp, spNew := true } d

/-- The session's output slice has an item of this window. -/
def windowWrites (d : Dev) (w : VoteWin) (s : Nat) : Bool :=
  let wb := d.rd (SESS.CTX.OUT.WBASE s)
  let bb := d.rd (SESS.CTX.OUTB.BBASE s)
  (voteWords d w).any (fun a => decide (wb ≤ a) && decide (a < wb + outWords d s)) || (voteBits d w).any fun a => decide (bb ≤ a) && decide (a < bb + outBits d s)

/-- Outputs that a closing window has voted for a session that is STALE or LOST enter its image with UNDELIVERED set (R241). -/
def markUndelivered (src : Nat) (d : Dev) : Dev :=
  match d.gate.wins.find? fun w => w.src == src with
  | none => d
  | some w => ((activeSess d).filter fun s => (sessState d s == 3 || sessState d s == 4) && windowWrites d w s).foldl (fun (d : Dev) s => d.wr (SESS.CTX.STAT.UNDELIVERED s) 1) d

/-- With OUT_IMMED, a voted image that differs from the last one sent goes out at once (R239). -/
def sendImmediate (d : Dev) : Dev :=
  if ¬ sessServed d ∨ ¬ islandOn d 11 then d
  else ((activeSess d).filter fun s => d.flag (SESS.CTX.CFG.OUT_IMMED s) && (sessState d s == 2 || sessState d s == 5) && !d.flag (SESS.CTX.STAT.STOPPING s) && hasOut d s).foldl
    (fun (d : Dev) s => if (sessSt d s).lastOut = some (outImage d s) then d else sendOut s false d) d

/-- Send a POLL request (R231, R234). -/
def sendPoll (s : Nat) (d : Dev) : Dev :=
  let d := setSess s { sessSt d s with pollAt := some d.up } d
  sendPdu s 1 (toBytes 1 (d.rd (SESS.CTX.STAT.EPOCH s)) ++ toBytes 1 (sessSt d s).pollSeq) d

/-! ### Starting and stopping (R235 to R237) -/

/-- Two ranges overlap. -/
def rangesMeet (a n b m : Nat) : Bool := decide (n ≠ 0) && decide (m ≠ 0) && decide (a < b + m) && decide (b < a + n)

/-- The four slices of a session: base and count of input words, input bits, output words and output bits. -/
def slices (d : Dev) (s : Nat) : List (Nat × Nat) :=
  [(d.rd (SESS.CTX.IN.WBASE s), inWords d s), (d.rd (SESS.CTX.INB.BBASE s), inBits d s), (d.rd (SESS.CTX.OUT.WBASE s), outWords d s), (d.rd (SESS.CTX.OUTB.BBASE s), outBits d s)]

/-- The local positions of the image: input words 0 to 639, bits 0 to 127, output words 0 to 31, bits 0 to 127 (R262). -/
def localSlices : List (Nat × Nat) := [(0, 640), (0, 128), (0, 32), (0, 128)]

/-- A slice of session s meets one of `other`. -/
def slicesMeet (a b : List (Nat × Nat)) : Bool := (a.zip b).any fun e => rangesMeet e.1.1 e.1.2 e.2.1 e.2.2

/-- Longest PDU of a channel in bytes (R229, R230). -/
def pduLimit (d : Dev) (s : Nat) : Nat := if sessUdp d s ∨ d.flag (CAN.CTRL.FD_EN (sessChan d s)) then 1024 else 128

/-- Lengths of a slot's PDUs: POLL request, POLL response, OUT, confirmation (R231). -/
def slotPdus (d : Dev) (s : Nat) : List Nat :=
  [2, 8 + bitBytes (inBits d s) + 4 * inWords d s, 6 + bitBytes (outBits d s) + 4 * outWords d s, 7]

/-- Estimated bus time in ns that the enabled sessions of CAN channel n take in 10 s (R236). -/
def chanLoad (d : Dev) (n : Nat) : Nat :=
  let nb := (d.rd (CAN.NBT.NBRP n) + 1) * (3 + d.rd (CAN.NBT.NTSEG1 n) + d.rd (CAN.NBT.NTSEG2 n))
  let db := (d.rd (CAN.DBT.DBRP n) + 1) * (3 + d.rd (CAN.DBT.DTSEG1 n) + d.rd (CAN.DBT.DTSEG2 n))
  ((enabledSess d).filter fun s => !sessUdp d s && sessChan d s == n).foldl
    (fun t s => t + slots10 d s * Config.slotBusNs nb db (d.flag (CAN.CTRL.FD_EN n)) (slotPdus d s)) 0

/-- A fixed poll schedule is active for engine e (R549): until an activation's part has switched, the earlier set's counts. -/
def fixedSchedule (d : Dev) (e : Nat) : Bool :=
  let isFor (p : UpdPart) : Bool := p.kind == 0x13 && p.target == e
  let waits := match d.upd.arm with
    | some a => a.committed && a.parts.any fun p => isFor p.part && p.st == 1
    | none => false
  (if waits then d.upd.prev.elim [] TraySet.dir else d.upd.active.dir).any isFor

/-- Why session s may not be switched on (R236, R237, R246); `d` has its EN set. While a fixed schedule is active the application cores compute none, so
that none can be full (R549). -/
def sessRefused (d : Dev) (s : Nat) : Option Nat :=
  let others := (enabledSess d).filter (· != s)
  if ¬ sessUdp d s ∧ ¬ (List.range 16).all (fun k => d.flag (CAN.OBJ.CFG.OWNER (sessChan d s) k)) then some 0x0407
  else if (slotPdus d s).any fun n => decide (pduLimit d s < n) then some 0x0406
  else if slicesMeet (slices d s) localSlices || others.any (fun t => slicesMeet (slices d s) (slices d t)) then some 0x0404
  else if fixedSchedule d (sessEngine d s) then none
  else if 40000 < engSlots10 d (sessEngine d s) then some 0x0403
  else if sessUdp d s then none
  else if 6000000000 < chanLoad d (sessChan d s) then some 0x0403
  else none

/-- The engine takes its objects on a channel: 8 to 15 receive extended frames with direction 1 (R236). -/
def engObjects (n : Nat) (d : Dev) : Dev :=
  (List.range 8).foldl (fun (d : Dev) i =>
    let k := 8 + i
    let d := ((d.wr (CAN.OBJ.CFG.USE n k) 1).wr (CAN.OBJ.CFG.DIR n k) 0).wr (CAN.OBJ.CFG.IDE n k) 1
    (((d.wr (CAN.OBJ.CFG.OVW n k) 0).wr (CAN.OBJ.CFG.RTR n k) 0).wr (CAN.OBJ.ID n k) (2 ^ 25)).wr (CAN.OBJ.MASK n k) (2 ^ 25)) d

/-- Commands waiting for session s to stop or to be polled complete with STAT (R244). -/
def finishSess (s : Nat) (on : Bool) (d : Dev) : Dev := finishKindWith (.session s on) stOK [sessStatWord d s] d

/-- A stop begins (R235): LEAVE with reason 0, STOPPING for one RESP_TMO, in which an exchange in progress may end. -/
def sessStop (s : Nat) (d : Dev) : Dev :=
  let d := d.wr (SESS.CTX.STAT.STOPPING s) 1
  let d := sendPdu s 7 (toBytes 1 (d.rd (SESS.CTX.STAT.EPOCH s)) ++ toBytes 1 0) d
  setSess s { sessSt d s with stopAt := d.up } d

/-- Session s is requested on or off (R235); the checks of R236 and R237 have passed. -/
def sessRequest (s : Nat) (on : Bool) (d : Dev) : Dev :=
  let d := sessCounts (d.put (SESS.CTX.CFG.EN s) on)
  if on then
    let d := if sessUdp d s then d else engObjects (sessChan d s) d
    if d.flag (SESS.CTX.STAT.STOPPING s) ∨ (sessSt d s).minoff then d.wr (SESS.CTX.STAT.PENDING_REARM s) 1 else d
  else
    let d := d.wr (SESS.CTX.STAT.PENDING_REARM s) 0
    if sessState d s = 0 ∨ d.flag (SESS.CTX.STAT.STOPPING s) then d else sessStop s d

/-! ### FIELD, PROOF, RACK (R242, R243) -/

/-- FIELD goes off: nothing is awaited from a station that cannot answer; the states age on (R242). -/
def sessFieldOff (d : Dev) : Dev :=
  let d : Dev := { d with sess := d.sess.map fun e => (e.1, { e.2 with outAt := none, outRep := false }) }
  (([0, 1].foldl (fun (d : Dev) e => d.wr (SESS.ENG.SEG_ERR e) 0) d).reloadRange 0xB00000 0xB00010)

/-- The channels that carry enabled sessions. -/
def sessChans (d : Dev) : List Nat := (List.range 16).filter fun n => (enabledSess d).any fun s => !sessUdp d s && sessChan d s == n

/-- A setting of the SESS block, as against the status that AON keeps (R242, R247): CFG, and the registers CFG to TMO of each context. -/
def sessSetting (k : Nat) : Bool :=
  (decide (32 * 0xB00000 ≤ k) && decide (k < 32 * 0xB00004)) || (decide (32 * 0xB10000 ≤ k) && decide (k < 32 * 0xC00000) && decide ((k - 32 * 0xB10000) % 0x800 < 0x400))

/-- FIELD returns (R242, R247): the committed contexts, the engines' objects, and a rejoin broadcast on each channel and TYRID port. A session whose
committed EN is 0 is IDLE (R234). -/
def sessFieldOn (d : Dev) : Dev :=
  let d := ({ d with regs := keepKeys (fun k => !sessSetting k) d.regs } : Dev).reloadRange 0xB00000 0xC00000
  let d := sessCounts (((activeSess d).filter fun s => !sessEn d s).foldl (fun (d : Dev) s => sessIdle s d) d)
  let d := (sessChans d).foldl (fun (d : Dev) n => engObjects n d) d
  if sessServed d then broadcast (List.range 16) (List.range 6) (toBytes 1 2) d else d

/-- RUN is entered with FIELD on: the engines take their objects and schedules (R236). -/
def sessRun (d : Dev) : Dev := (sessChans d).foldl (fun (d : Dev) n => engObjects n d) (sessCounts d)

/-- In PROOF and RACK the session states read IDLE and nothing is sent (R243); each change is a change of state (R234). -/
def sessRack (d : Dev) : Dev :=
  sessCounts ((activeSess d).foldl (fun (d : Dev) s => finishSess s false (sessIdle s d)) d)

end Sys2Proof.Machine
end

