-- ==== Sys2Proof/Machine/MeterOps.lean ====
section
/-! DEFINITION. Electrical metering (spec/11): channels and their correction (R282 to R288), the stream (R303), gaps and checkpoints (R307, R308),
voltage events (R298), and what every user of the metering island needs. -/
namespace Sys2Proof.Machine
open Sys2Proof

/-! ### State access -/

/-- Change the metering state. -/
def onMeter (f : MeterSt → MeterSt) (d : Dev) : Dev := { d with meter := f d.meter }
def busSt (d : Dev) (b : Nat) : BusSt := lookD d.meter.bus b {}
def setBus (b : Nat) (x : BusSt) (d : Dev) : Dev := onMeter (fun m => { m with bus := ins b x m.bus }) d
def fdrSt (d : Dev) (f : Nat) : FdrSt := lookD d.meter.fdr f {}
def setFdr (f : Nat) (x : FdrSt) (d : Dev) : Dev := onMeter (fun m => { m with fdr := ins f x m.fdr }) d
/-- The channels of busbar b's voltages and feeder f's currents, by phase (R282). -/
def chanV (b p : Nat) : Nat := 15 * b + p
def chanI (f p : Nat) : Nat := 15 * (f / 4) + 3 + 3 * (f % 4) + p
/-- The busbar of feeder f (R283). -/
def busOfFdr (d : Dev) (f : Nat) : Nat := d.rd (METER.FDR.CFG.BUS f)
/-- The busbar of channel c: its own, or that of its feeder (R290). -/
def busOfChan (d : Dev) (c : Nat) : Nat := if c % 15 < 3 then c / 15 else busOfFdr d (4 * (c / 15) + (c % 15 - 3) / 3)
/-- The feeders of busbar b. -/
def fdrsOf (d : Dev) (b : Nat) : List Nat := (List.range 16).filter fun f => busOfFdr d f == b
/-- MCLK is present (R75). -/
def mclkOk (d : Dev) : Bool := bitOf (d.rd PWR.CLK_STAT.PRESENT) 5
/-- Samples are taken (R286, R307, R309). -/
def meterRuns (d : Dev) : Bool := (opState d == 3 || opState d == 4) && islandOn d 8 && islandOn d 9 && mclkOk d
/-- Feeder f is enabled. -/
def fdrEn (d : Dev) (f : Nat) : Bool := d.flag METER.CFG.EN && d.flag (METER.FDR.CFG.EN f)
/-- Bits of METER.DSP. -/
def dspWord (d : Dev) : Nat := d.rd METER.DSP.FAIL * 2 ^ 12 + d.rd METER.DSP.TEST * 2 ^ 8 + d.rd METER.DSP.OUT * 2 ^ 4 + d.rd METER.DSP.UP

/-! ### Energy registers (R295, R296) -/

/-- E[r] of feeder f. -/
def energy (d : Dev) (f r : Nat) : Nat := lookD d.meter.e (8 * f + r) 0
/-- The divisor of the snapshots. -/
def snapDiv (d : Dev) : Nat := match d.rd METER.CFG.SNAP_LSB with
  | 1 => 100000
  | 2 => 1000000
  | _ => 10000
/-- SNAP[r] and WRAPCNT[r] of feeder f. -/
def snapOf (d : Dev) (f r : Nat) : Nat := energy d f r / snapDiv d % 2 ^ 32
def wrapOf (d : Dev) (f r : Nat) : Nat := energy d f r / snapDiv d / 2 ^ 32 % 2 ^ 16

/-! ### The stream (R303, R116) -/

/-- Bytes of a stream entry without its phase: type, index, flags, sequence, stamp, window cycles and bytes 20 to 63. -/
def mtrBytes (d : Dev) (typ idx flags seq cycles : Nat) (body : List Byte) : List Byte :=
  toBytes 1 typ ++ toBytes 1 idx ++ toBytes 1 flags ++ toBytes 1 0 ++ toBytes 4 seq ++ toBytes 6 (svcSec d) ++ toBytes 2 cycles ++ toBytes 4 (svcNs d) ++
    (body ++ List.replicate 44 0).take 44

/-- Write one entry into the ring, with its phase in bit 0 of byte 2. -/
def mtrPush (ring : Nat) (e : List Byte) (d : Dev) : Dev :=
  moderate ring false (pushOrError ring (fun ph => e.take 2 ++ toBytes 1 (fieldAt e 2 1 + ph) ++ e.drop 3) d)

/-- Move entries from the device buffer into the ring while it has room; the loss entry goes first (R116). -/
def mtrPump : Nat → Dev → Dev
  | 0, d => d
  | n + 1, d =>
    match d.meter.stream with
    | none => d
    | some s =>
      if ringState d s.ring ≠ 1 ∨ ¬ ringSpace d s.ring then d
      else if s.lost ≠ 0 then
        -- it takes the last lost entry's place and sequence (log 98)
        let seq := match s.buf with
          | [] => s.seq
          | e :: _ => fieldAt e 4 4 - 1
        let e := mtrBytes d 8 0 0 seq 0 (toBytes 4 s.lost)
        mtrPump n (mtrPush s.ring e (onMeter (fun m => { m with stream := some { s with lost := 0 } }) d))
      else
        match s.buf with
        | [] => d
        | e :: t => mtrPump n (mtrPush s.ring e (onMeter (fun m => { m with stream := some { s with buf := t } }) d))

/-- Send a stream entry (R303): into the device buffer of 4,096 entries, whose oldest drops when it is full. R116 counts dropped entries of rings of
kind 3: that a ring of kind 4 does not count these is the model's choice (DESIGN CHOICE, log 98). -/
def mtrSend (typ idx flags cycles : Nat) (body : List Byte) (d : Dev) : Dev :=
  match d.meter.stream with
  | none => d
  | some s =>
    let e := mtrBytes d typ idx flags (s.seq + 1) cycles body
    let buf := s.buf ++ [e]
    let beyond := decide (4096 < buf.length)
    let s : MtrStream := { s with seq := s.seq + 1, buf := if beyond then buf.drop 1 else buf, lost := if beyond then s.lost + 1 else s.lost }
    mtrPump 4100 (onMeter (fun m => { m with stream := some s }) d)

/-- A bit of the stream's mask or flags. -/
def streamWants (sel : MtrStream → Nat) (b : Nat) (d : Dev) : Bool := match d.meter.stream with
  | some s => bitOf (sel s) b
  | none => false

/-- The flags P_VALID and CARRIED of an entry about feeder f (R303). -/
def fdrFlags (d : Dev) (f : Nat) : Nat := 2 * d.rd (METER.FDR.STAT.P_VALID f) + 4 * d.rd (METER.FDR.STAT.CARRIED f)
/-- FREQ_VALID and CARRIED of an entry about busbar b, which DSP b serves (R303, R306). -/
def busFlags (d : Dev) (b : Nat) : Nat := 2 * d.rd (METER.BUS.STAT.FREQ_VALID b) + 4 * b2n (bitOf (d.rd METER.DSP.OUT) b)

/-! ### Gaps (R307) -/

/-- Bytes 24 to 39 of a gap or event entry: start and duration in ms. -/
def spanBytes (start dur : Nat) : List Byte := toBytes 6 (start / 1000000000) ++ toBytes 2 0 ++ toBytes 4 (start % 1000000000) ++ toBytes 4 dur

/-- Minutes of an IVL code (R314, R333). -/
def ivlMinutes (code dflt : Nat) : Nat := match (if code ≤ 4 then code else dflt) with
  | 0 => 5 | 1 => 10 | 2 => 15 | 3 => 30 | _ => 60

/-- The start, in ns of service time, of the interval that the present instant belongs to; an interval holds its end (R294, R304). -/
def ivlFrom (d : Dev) : Nat :=
  let per := ivlMinutes (d.rd METER.CFG.IVL) 2 * 60000000000
  let off := d.rd CRUST.RTC_CFG.UTC_OFFSET * 1000000000
  (svcTotalNs d - off + per - 1) / per * per + off - per

/-- What the interval that starts at `from_` has gathered: nothing, when the last one ended without a record (R309). -/
def ivlSince (from_ : Nat) (a : IvlAcc) : IvlAcc := if a.start < from_ then { start := from_, first := a.first } else a
/-- What the running interval has gathered. -/
def runIvl (d : Dev) (a : IvlAcc) : IvlAcc := ivlSince (ivlFrom d) a

/-- The interval takes the gap time from `from_` to `now`, cut to itself (R304). -/
def addGap (a : IvlAcc) (from_ now : Nat) : IvlAcc := if a.start < now then { a with gapNs := a.gapNs + (now - max from_ a.start), gap := true } else a

/-- A gap of feeder f opens, with its start in ns of service time. -/
def gapOpen (f cause start : Nat) (d : Dev) : Dev :=
  let x := fdrSt d f
  let d := setFdr f { x with gap := some (cause, start, start), gapSeen := some (svcTotalNs d) } (d.wr (METER.FDR.STAT.GAP f) 1)
  raiseEv 89 f cause (mtrSend 4 f (fdrFlags d f) 0 (toBytes 1 cause ++ toBytes 3 0 ++ spanBytes start 0xFFFFFFFF) d)

/-- An open gap of feeder f closes at `now` in ns. -/
def gapClose (f now : Nat) (d : Dev) : Dev :=
  let x := fdrSt d f
  match x.gap with
  | none => d
  | some (cause, start, from_) =>
    let d := setFdr f { x with gap := none, gapSeen := some (svcTotalNs d), ivl := addGap (runIvl d x.ivl) from_ now } (d.wr (METER.FDR.STAT.GAP f) 0)
    raiseEv 89 f cause (mtrSend 4 f (fdrFlags d f) 0 (toBytes 1 cause ++ toBytes 3 0 ++ spanBytes start ((now - start) / 1000000)) d)

/-- Channel c is used and valid (R284, R292). -/
def chanOk (d : Dev) (c : Nat) : Bool := d.rd (METER.CH.SCALE c) % 2 ^ 31 != 0 && !d.flag (METER.CH.CFG.INVALID c)
/-- The six channels of feeder f. -/
def fdrChans (d : Dev) (f : Nat) : List Nat := [0, 1, 2].flatMap fun p => [chanI f p, chanV (busOfFdr d f) p]
/-- A calibration session is open on a channel of feeder f. -/
def fdrCal (d : Dev) (f : Nat) : Bool := (fdrChans d f).any fun c => d.flag (METER.CH.CFG.CAL c)

/-- Why feeder f adds nothing, 0 when it adds: the causes of R307 and R309 in the order checked. An unused channel counts as INVALID (log 31). -/
def gapCause (d : Dev) (f : Nat) : Nat :=
  if opState d = 5 then 1
  else if ¬ (opState d = 3 ∨ opState d = 4) then 7
  else if ¬ islandOn d 8 then 1
  else if ¬ islandOn d 9 then 2
  else if ¬ mclkOk d then 3
  else if ¬ (fdrChans d f).all (chanOk d) then 4
  else if fdrCal d f then 5
  else 0

/-- No sample of busbar b's running cycle has been taken yet. -/
def cycleEmpty (d : Dev) (b : Nat) : Bool := decide (d.meter.n * 2 ^ 32 ≤ (busSt d b).cyc)

/-- The gap of feeder f follows its conditions (R294, R307): a cycle in which P_VALID was 0 belongs to the gap from its start to its end. -/
def settleGap (f c : Nat) (d : Dev) : Dev :=
  let b := busOfFdr d f
  let x := fdrSt d f
  if ¬ fdrEn d f then gapClose f (svcTotalNs d) d
  else if c ≠ 0 then (if x.gap.isSome then d else gapOpen f c (if cycleEmpty d b then svcTotalNs d else (busSt d b).cycAt) d)
  else if cycleEmpty d b then gapClose f (svcTotalNs d) (setFdr f { x with lapse := false } d)
  else if x.lapse then d else gapClose f (svcTotalNs d) d

/-- P_VALID, CAL, the interval's flags and the gap of feeder f follow its conditions (R292, R304, R307); with P_VALID 0 its power quantities read 0
(R291) and its test outputs are low (R300). -/
def settleFdr (f : Nat) (d : Dev) : Dev :=
  let c := gapCause d f
  let ok := fdrEn d f && c == 0
  let d := (d.put (METER.FDR.STAT.P_VALID f) ok).put (METER.FDR.STAT.CAL f) (fdrCal d f)
  let d := if ok then d
    else
      let d := [0, 1, 2].foldl (fun (d : Dev) p => (d.wr (METER.FDR.P f p) 0).wr (METER.FDR.ANG f p) 0) d
      let d := (((d.wr (METER.FDR.PT f) 0).wr (METER.FDR.QT f) 0).wr (METER.FDR.ST f) 0).wr (METER.FDR.PF f) 0
      let d := (List.range 4).foldl (fun (d : Dev) k => if d.rd (METER.DTF.CFG.FDR k) = f then d.wr (METER.DTF.FREQ k) 0 else d) d
      setFdr f { fdrSt d f with lapse := true } d
  let a := runIvl d (fdrSt d f).ivl
  let d := if ¬ fdrEn d f then d
    else setFdr f { fdrSt d f with ivl := { a with cal := a.cal || fdrCal d f, carried := a.carried || d.flag (METER.FDR.STAT.CARRIED f), bad := a.bad || !svcValid d } } d
  settleGap f c d

/-- FREQ_VALID of busbar b (R290); without it the angles read 0 (R291). -/
def setFreqValid (b : Nat) (v : Bool) (d : Dev) : Dev :=
  let d := d.put (METER.BUS.STAT.FREQ_VALID b) v
  if v then d
  else (fdrsOf d b).foldl (fun (d : Dev) f => forN 3 (fun p d => d.wr (METER.FDR.ANG f p) 0) d) (forN 3 (fun p d => d.wr (METER.BUS.ANG b p) 0) d)

/-- The values of an unused channel read 0, and its busbar's frequency is not valid without it (R284). -/
def settleChan (c : Nat) (d : Dev) : Dev :=
  let b := c / 15
  let k := c % 15
  let d := if 3 ≤ k then (if d.rd (METER.CH.SCALE c) % 2 ^ 31 = 0 then d.wr (METER.FDR.IRMS (4 * b + (k - 3) / 3) ((k - 3) % 3)) 0 else d)
    else if d.rd (METER.CH.SCALE c) % 2 ^ 31 = 0 then (d.wr (METER.BUS.URMS b k) 0).wr (METER.BUS.ANG b k) 0 else d
  if k = 0 ∧ ¬ chanOk d c ∧ d.flag (METER.BUS.STAT.FREQ_VALID b) then setFreqValid b false d else d

/-- INVALID of every channel and busbar, then every feeder (R284, R292). -/
def settleMeter (d : Dev) : Dev :=
  let off := !islandOn d 8 || !islandOn d 9
  let bad (c : Nat) : Bool := off || d.meter.tileBad.contains (c / 15)
  let d := (List.range 60).foldl (fun (d : Dev) c => settleChan c (d.put (METER.CH.CFG.INVALID c) (bad c))) d
  let d := (List.range 4).foldl (fun (d : Dev) b => d.put (METER.BUS.STAT.INVALID b) ([0, 1, 2].any fun p => bad (chanV b p))) d
  (List.range 16).foldl (fun (d : Dev) f => settleFdr f d) d

/-! ### Voltage events (R298) -/

/-- STAT's bit of an event kind: 1 dip, 2 swell, 3 interruption. -/
def evtBit (b kind : Nat) : FRef := match kind with
  | 1 => METER.BUS.STAT.SAG b
  | 2 => METER.BUS.STAT.SWELL b
  | _ => METER.BUS.STAT.INT b

/-- The entry of a voltage event, start or end, with flags. -/
def evtEntry (b kind flags : Nat) (ended : Bool) (e : VoltEvt) (d : Dev) : Dev :=
  let dur := if ended then (svcTotalNs d - e.start) / 1000000 else 0
  let val := if kind = 3 ∨ ¬ ended then 0 else e.val
  let d := raiseEv 88 b (kind * 2 + b2n ended) d
  if streamWants (·.flags) 0 d ∧ streamWants (·.bmask) b d then
    mtrSend 3 b (flags + busFlags d b) 0 (toBytes 1 kind ++ toBytes 1 (b2n ended) ++ toBytes 1 e.mask ++ toBytes 1 0 ++ spanBytes e.start (dur % 2 ^ 32) ++ toBytes 4 val) d
  else d

/-- An event starts. -/
def evtStart (b kind mask val : Nat) (d : Dev) : Dev :=
  let e : VoltEvt := { start := svcTotalNs d, mask := mask, val := val }
  let d := setBus b { busSt d b with evt := ins kind e (busSt d b).evt } ((d.wr (evtBit b kind) 1).bump (METER.BUS.STAT.EVENTS b))
  evtEntry b kind 0 false e d

/-- An event ends; `trunc` when metering stops in it. -/
def evtEnd (b kind : Nat) (trunc : Bool) (d : Dev) : Dev :=
  match look (busSt d b).evt kind with
  | none => d
  | some e =>
    let d := setBus b { busSt d b with evt := del kind (busSt d b).evt } (d.wr (evtBit b kind) 0)
    evtEntry b kind (if trunc then 8 else 0) true e d

/-- Metering stops: the running cycle and window are dropped, in a gap of every enabled feeder, and events end with TRUNC (R70, R298, R307, R309).
What comes before the stop and after it is never taken for one signal. -/
def meterStop (d : Dev) : Dev :=
  let d := (List.range 4).foldl (fun (d : Dev) b =>
    let d := [1, 2, 3].foldl (fun (d : Dev) k => evtEnd b k true d) d
    let at_ := d.meter.n * 2 ^ 32
    setBus b { from_ := d.meter.n, cyc := at_, win := at_ } (setFreqValid b false d)) (settleMeter d)
  onMeter (fun m => { m with raw := [] }) d

/-! ### The DSPs (R306) -/

/-- DSP_MAP with feeder f at DSP k. -/
def mapFdr (f k : Nat) (d : Dev) : Dev :=
  let m := d.rd METER.DSP_MAP.MAP
  d.wr METER.DSP_MAP.MAP (m - bitsOf m (2 * f + 1) (2 * f) * 4 ^ f + k * 4 ^ f)

/-- The feeders that DSP k serves, its own and those it carries, go to the remaining DSPs: which of them takes which feeder is free (log 1). -/
def spreadMap (k : Nat) (d : Dev) : Dev :=
  let rest := (List.range 4).filter fun j => j != k && bitOf (d.rd METER.DSP.UP) j
  (List.range 16).foldl (fun (d : Dev) f =>
    if bitsOf (d.rd METER.DSP_MAP.MAP) (2 * f + 1) (2 * f) ≠ k then d
    else
      let (v, d) := takeFree 32 d
      mapFdr f (rest.getD (v % max 1 rest.length) k) d) d

/-- The feeders of DSP k are carried, or are not. -/
def carry (k : Nat) (on : Bool) (d : Dev) : Dev :=
  (List.range 4).foldl (fun (d : Dev) i => d.put (METER.FDR.STAT.CARRIED (4 * k + i)) on) d

/-- DSP k is out, its busbar and feeders carried by the others. -/
def dspLeave (k : Nat) (d : Dev) : Dev :=
  let d := (d.wr METER.DSP.UP (setBit (d.rd METER.DSP.UP) k false)).wr METER.DSP.OUT (setBit (d.rd METER.DSP.OUT) k true)
  carry k true (spreadMap k d)
/-- DSP k is taken out by hand-over, with its self-test running when `test` (R306). -/
def dspOut (k : Nat) (test : Bool) (d : Dev) : Dev :=
  let d := dspLeave k d
  let d := if test then d.wr METER.DSP.TEST (setBit (d.rd METER.DSP.TEST) k true) else d
  raiseEv 91 (dspWord d) 0 d

/-- DSP k is back by hand-over. -/
def dspBack (k : Nat) (d : Dev) : Dev :=
  let d := (d.wr METER.DSP.UP (setBit (d.rd METER.DSP.UP) k true)).wr METER.DSP.OUT (setBit (d.rd METER.DSP.OUT) k false)
  let d := carry k false ((List.range 4).foldl (fun (d : Dev) i => mapFdr (4 * k + i) k d) d)
  raiseEv 91 (dspWord d) 0 d

/-- A pending hand-over takes place (R306). -/
def dspHandOver (d : Dev) : Dev :=
  match d.meter.svc with
  | none => d
  | some (k, back) =>
    let d := onMeter (fun m => { m with svc := none }) d
    let d := if back then dspBack k d else dspOut k true d
    finishKindWith (.mtrService k) stOK [dspWord d] d

/-- The reaction to a DSP fault (FD139 to FD142): the DSP is taken out; one that failed Proof is out for the whole run (R95, R306). -/
def dspFault (k : Nat) (proof : Bool) (d : Dev) : Dev :=
  if bitOf (d.rd METER.DSP.OUT) k then d
  else
    let d := dspOut k false d
    if proof then d.wr METER.DSP.FAIL (setBit (d.rd METER.DSP.FAIL) k true) else d

/-- The reaction to a front-end tile fault (FD144 to FD147): its 15 channels are INVALID (R292). -/
def tileFault (t : Nat) (d : Dev) : Dev :=
  settleMeter (onMeter (fun m => { m with tileBad := if m.tileBad.contains t then m.tileBad else m.tileBad ++ [t] }) d)

/-! ### Checkpoint and start (R308, R330) -/

/-- Copy accumulators, residues and interval states to eMRAM; `loss` when PFAIL_N makes it. -/
def meterCkpt (loss : Bool) (d : Dev) : Dev :=
  let m := d.meter
  onMeter (fun m' => { m' with ckpt := some { e := m.e, he := m.he, pres := m.pres, fdr := m.fdr, heat := m.heat, at_ := svcTotalNs d, loss := loss } }) d

/-- What a reset leaves of metering: the checkpoint, the records and their sequences, which eMRAM keeps. -/
def meterKept (m : MeterSt) : MeterSt :=
  { fdr := m.fdr.map fun e => (e.1, { seq := e.2.seq, recs := e.2.recs }), heat := m.heat.map fun e => (e.1, { seqI := e.2.seqI, seqB := e.2.seqB, recI := e.2.recI, recB := e.2.recB }), ckpt := m.ckpt }

/-- The tables' points as the registers hold them, when they are valid (R287). -/
def tabPoints (d : Dev) (t : Nat) : Option (List (Nat × Nat × Nat)) :=
  let n := d.rd (METER.CTT.CFG.N t)
  let ps := (List.range n).map fun i => (d.rd (METER.CTT.POINT t i 0), d.rd (METER.CTT.POINT t i 1), d.rd (METER.CTT.POINT t i 2))
  if 8 < n ∨ ¬ ((ps.zip (ps.drop 1)).all fun e => f32Lt e.1.1 e.2.1) then none else some ps

/-- Load every correction table from its registers, at a start or METER power-on; a temperature is taken each second (R287, R314). -/
def loadTables (d : Dev) : Dev :=
  (List.range 32).foldl (fun (d : Dev) t =>
    match tabPoints d t with
    | some ps => onMeter (fun m => { m with tabs := if ps = [] then del t m.tabs else ins t ps m.tabs }) (d.wr (METER.CTT.CFG.CFG_ERR t) 0)
    | none => d.wr (METER.CTT.CFG.CFG_ERR t) 1) d

/-- ERRTIME of every heat meter shows its error time (R318, R333). -/
def showErrTimes (d : Dev) : Dev := d.meter.heat.foldl (fun (d : Dev) e => d.wr (METER.HM.ERRTIME e.1) (e.2.errNs / 1000000000)) d

/-- Restore from the last checkpoint (R308). -/
def meterRestore (d : Dev) : Dev :=
  match d.meter.ckpt with
  | none => d
  | some k =>
    let fdr := k.fdr.map fun e => (e.1, { e.2 with seq := (fdrSt d e.1).seq, recs := (fdrSt d e.1).recs, gap := none })
    let heat := k.heat.map fun e =>
      let o := lookD d.meter.heat e.1 {}
      (e.1, { e.2 with seqI := o.seqI, seqB := o.seqB, recI := o.recI, recB := o.recB, prev := none, running := false, old := none, newSrc := false, inErr := false, past := [] })
    showErrTimes (onMeter (fun m => { m with e := k.e, he := k.he, pres := k.pres, fdr := overlay fdr m.fdr, heat := overlay heat m.heat }) d)

/-- The time of a power loss since service time t (ns), as the RTC has it in the last-gasp records of PFAIL_N and of a rail (R162, R308). -/
def lossAfter (d : Dev) (t : Nat) : Option Nat :=
  ((d.crust.lastGasp.filter fun e => (e.1.code == 0x010 || e.1.code == 0x011) && e.1.qual != 3).map fun e => e.1.sec * 1000000000 + e.1.ns).reverse.find? fun u => decide (t ≤ u)

/-- Metering starts with RUN (R308, R309): restored; gap cause 6 from a checkpoint that a power loss did not make to the loss, or to the start when the
time of the loss is not known, then cause 7 until the first sample. -/
def meterStart (d : Dev) : Dev :=
  let t0 := d.boot.startSec * 1000000000
  let old := d.meter.ckpt
  let d := loadTables (meterRestore d)
  let d := (List.range 16).foldl (fun (d : Dev) f =>
    if ¬ fdrEn d f then d
    else
      let d := match old with
        | some k => if k.loss then d else gapClose f (min t0 ((lossAfter d k.at_).getD t0)) (gapOpen f 6 k.at_ d)
        | none => d
      let x := fdrSt d f
      gapOpen f 7 t0 (setFdr f { x with ivl := { x.ivl with first := true } } d)) d
  settleMeter d

/-- The wait of a calibration measurement. -/
def mcalTag (c : Nat) : WaitKind := .other 41 c

/-- METER is off (R309): its registers hold their committed values, quantities and events are gone, the accumulators stay in AON. A hand-over and
a calibration in progress are lost. -/
def meterOff (d : Dev) : Dev :=
  let d := meterStop d
  let d := (List.range 4).foldl (fun (d : Dev) k => finishKindWith (.mtrService k) stUnavailable [] d) d
  let d := d.meter.cal.foldl (fun (d : Dev) e => raiseEv 94 e.1 0 (finishKindWith (mcalTag e.1) 0x0603 [] d)) d
  let d := onMeter (fun m => { m with n := 0, raw := [], x := [], xAt := [], bus := [], tabs := [], oldTab := [], oldCal := [], ttemp := [], ttAt := [], cal := [], svc := none, retWait := none, pBusy := [], dtfAt := [], heat := m.heat.map fun e => (e.1, { e.2 with inErr := false, past := [] }) }) d
  let gaps := (List.range 16).filter fun f => d.flag (METER.FDR.STAT.GAP f)
  let fail := d.rd METER.DSP.FAIL
  let d := (d.resetRange 0xD00000 0xE00000).reloadRange 0xD00000 0xE00000
  -- a DSP that failed stays out
  let d := (List.range 4).foldl (fun (d : Dev) k => if bitOf fail k then (dspLeave k d).wr METER.DSP.FAIL (setBit (d.rd METER.DSP.FAIL) k true) else d) d
  settleMeter (gaps.foldl (fun (d : Dev) f => d.wr (METER.FDR.STAT.GAP f) 1) (showErrTimes d))
/-- METER is on again. -/
def meterOn (d : Dev) : Dev := if opState d = 3 ∨ opState d = 4 then settleMeter (loadTables d) else d

/-! ### Correction (R286 to R288) -/

/-- Ratio error, phase displacement and whether the temperature lies outside the points (R287). -/
def tabAt (ps : List (Nat × Nat × Nat)) (t : Nat) : Nat × Nat × Bool :=
  match ps with
  | [] => (0, 0, false)
  | p0 :: _ =>
    if f32Lt t p0.1 then (p0.2.1, p0.2.2, true)
    else
      match (ps.zip (ps.drop 1)).find? fun e => f32Le e.1.1 t && f32Lt t e.2.1 with
      | some (a, b) =>
        -- e0 + (T − T0) × (e1 − e0) / (T1 − T0), each operation rounded (DEDUCED, log 32)
        let lin (x y : Nat) := f32Add false x (f32Div false (f32Mul false (f32Sub false t a.1) (f32Sub false y x)) (f32Sub false b.1 a.1))
        (lin a.2.1 b.2.1, lin a.2.2 b.2.2, false)
      | none =>
        let q := ps.getLastD p0
        (q.2.1, q.2.2, f32Lt q.1 t)

/-- The points in effect for channel c. -/
def chanPoints (d : Dev) (c : Nat) : List (Nat × Nat × Nat) :=
  match look d.meter.oldTab c with
  | some ps => ps
  | none => lookD d.meter.tabs (d.rd (METER.CH.CFG.TABLE c)) []
/-- GAIN and PHASE in effect for channel c. -/
def chanCal (d : Dev) (c : Nat) : Nat × Nat := (look d.meter.oldCal c).getD (d.rd (METER.CH.GAIN c), d.rd (METER.CH.PHASE c))

/-- A corrected sample (R286): the input samples of the channel, newest first. -/
def correct (d : Dev) (c : Nat) (hist : List Nat) : Nat :=
  let t := d.rd (METER.CH.CFG.TABLE c)
  let (eps, delta, _) := if t < 32 then tabAt (chanPoints d c) (d.rd (METER.CTT.TEMP t)) else (0, 0, false)
  let (gain, ph) := chanCal d c
  let g := f32Div false (f32Mul false (Config.mtrFg c) gain) (f32Add false 0x3F800000 (f32Div false eps 0x42C80000))
  let phi := f32Sub false (f32Add false (Config.mtrFp c) ph) (f32Div false delta 0x42700000)
  let v := Config.mtrShift hist phi
  f32Mul false (f32Mul false (f32Mul false v g) (d.rd (METER.CH.SCALE c))) (if d.flag (METER.CH.CFG.POL c) then 0xBF800000 else 0x3F800000)

/-- A 24-bit conversion as volts: ±0.5 V full scale (R284). -/
def rawVolts (code : Int) : Nat := f32OfRatio (clampI (-8388608) 8388607 code) 16777216

/-- A busbar's first cycle after a start begins (R290). -/
def beginCycles (d : Dev) : Dev :=
  (List.range 4).foldl (fun (d : Dev) b =>
    let x := busSt d b
    if x.cycN = 0 ∧ cycleEmpty d b then setBus b { x with cycAt := svcTotalNs d } d else d) d

/-- Take one sample of every channel (R286). -/
def takeSamples (codes : List Int) (d : Dev) : Dev :=
  (List.range 60).foldl (fun (d : Dev) c =>
    let hist := (rawVolts (codes.getD c 0) :: lookD d.meter.raw c []).take 64
    let x := if d.rd (METER.CH.SCALE c) % 2 ^ 31 = 0 then 0 else correct d c hist
    onMeter (fun m => { m with raw := ins c hist m.raw, x := ins c ((x :: lookD m.x c []).take 8000) m.x }) d)
    (onMeter (fun m => { m with n := m.n + 1, xAt := (d.up :: m.xAt).take 8000 }) (beginCycles d))

/-! ### Quantities (R291) -/

/-- The n corrected samples of channel c up to sample number hi, newest first. -/
def lastX (d : Dev) (c hi n : Nat) : List Nat := ((lookD d.meter.x c []).drop (d.meter.n - hi)).take n
/-- How many samples the past second holds. -/
def secondN (d : Dev) : Nat := (d.meter.xAt.filter fun t => decide (d.up < t + 1000000000)).length

/-- Σ x·y exactly, in 2⁻²⁹⁸; none when a sample is no number. -/
def sumProd (xs ys : List Nat) : Option Int :=
  (xs.zip ys).foldl (fun acc e => match acc, f32Exact e.1, f32Exact e.2 with
    | some s, some a, some b => some (s + a * b)
    | _, _, _ => none) (some 0)

/-- √(Σx²/N) (R291): the exact value rounded once (DEDUCED, log 32). -/
def rmsOf (xs : List Nat) : Nat := match sumProd xs xs with
  | some s => if xs = [] then 0 else f32SqrtRatio s.natAbs xs.length (-149)
  | none => f32NaN
/-- Σ(u × i)/N. -/
def meanProd (us is : List Nat) : Nat := match sumProd us is with
  | some s => if us = [] then 0 else f32OfRatioE s us.length (-298)
  | none => f32NaN

/-- Three phases. -/
def phases {α : Type} (f : Nat → α) : List α := [f 0, f 1, f 2]
/-- Left-to-right binary32 sum. -/
def f32Sum (l : List Nat) : Nat := match l with
  | [] => 0
  | a :: t => t.foldl (fun s x => f32Add false s x) a

/-- The power quantities of feeder f over n samples at a frequency: IRMS, P per phase, PT, QT, ST, PF (R291). -/
structure PowerQ where
  irms : List Nat
  p : List Nat
  pt : Nat
  qt : Nat
  st : Nat
  pf : Nat

/-- Form them over the n samples up to number hi. -/
def powerOf (d : Dev) (f hi n freq : Nat) : PowerQ :=
  let b := busOfFdr d f
  let u := fun p => lastX d (chanV b p) hi n
  let i := fun p => lastX d (chanI f p) hi n
  let ps := phases fun p => meanProd (u p) (i p)
  let ir := phases fun p => rmsOf (i p)
  let pt := f32Sum ps
  let st := f32Sum (phases fun p => f32Mul false (rmsOf (u p)) (ir.getD p 0))
  { irms := ir, p := ps, pt := pt, qt := f32Sum (phases fun p => fundQ (u p) (i p) freq), st := st, pf := if st % 2 ^ 31 = 0 then 0 else f32Div false pt st }

end Sys2Proof.Machine
end

