-- ==== Sys2Proof/Machine/HeatOps.lean ====
section
/-! DEFINITION. Heat and cold metering (spec/12): its state, what a meter's settings make of it (R316), and its start (R308, R330). -/
namespace Sys2Proof.Machine
open Sys2Proof

/-! ### Settings (R315, R316) -/

def heatSt (d : Dev) (m : Nat) : HeatSt := lookD d.meter.heat m {}
def setHeat (m : Nat) (x : HeatSt) (d : Dev) : Dev := onMeter (fun t => { t with heat := ins m x t.heat }) d
/-- E[0] to E[3] at r, V[0] and V[1] at 4 and 5. -/
def heatReg (d : Dev) (m r : Nat) : Nat := lookD d.meter.he (8 * m + r) 0
/-- PERIOD in ns, and in s as binary64 (R333). -/
def heatPer (d : Dev) (m : Nat) : Nat := match d.rd (METER.HM.CFG.PERIOD m) with
  | 0 => 100000000 | 1 => 250000000 | _ => 1000000000
def heatPerF (d : Dev) (m : Nat) : Nat := match d.rd (METER.HM.CFG.PERIOD m) with
  | 0 => 0x3FB999999999999A | 1 => 0x3FD0000000000000 | _ => 0x3FF0000000000000
/-- TMIN and TMAX as binary32. -/
def heatT (v : Nat) : Nat := f32OfInt (sgn 16 v)
/-- The configuration fault of R316. -/
def heatCfgBad (d : Dev) (m : Nat) : Bool :=
  let w := d.rd (METER.HM.FSRC.FWORD m)
  let p := d.rd (METER.HM.PRESS m)
  (d.rd (METER.HM.CFG.FKIND m) == 0 && !(decide (512 ≤ w) && decide (w < 640) && w % 2 == 0)) ||
    decide (sgn 16 (d.rd (METER.HM.TLIM.TMAX m)) ≤ sgn 16 (d.rd (METER.HM.TLIM.TMIN m))) || !(f32Le 0x3DCCCCCD p && f32Le p 0x40800000)
/-- A setting of HM[m]: the registers CFG to TLIM. -/
def heatSetting (m k : Nat) : Bool := decide (32 * (0xD10000 + 0x80 * m) ≤ k) && decide (k < 32 * (0xD10020 + 0x80 * m))
/-- The settings of HM[m], and the device with others in their place. -/
def heatSettings (m : Nat) (d : Dev) : SMap Nat := keepKeys (heatSetting m) d.regs
def withSettings (m : Nat) (rs : SMap Nat) (d : Dev) : Dev := { d with regs := overlay rs (keepKeys (fun k => !heatSetting m k) d.regs) }

/-- Meter m's settings have a fault, those that still stand until its next sample boundary counting while a change waits (R316, R328). -/
def heatBadNow (d : Dev) (m : Nat) : Bool := match (heatSt d m).old with
  | some rs => heatCfgBad (withSettings m rs d) m
  | none => heatCfgBad d m
/-- Meter m's settings let it run. -/
def heatSet (d : Dev) (m : Nat) : Bool := d.flag METER.HEAT_CFG.EN && d.flag (METER.HM.CFG.EN m) && !heatBadNow d m
/-- Meter m runs (R316). -/
def heatRuns (d : Dev) (m : Nat) : Bool := heatSet d m && (opState d == 3 || opState d == 4) && islandOn d 8

/-- HEAT_STAT follows the meters. -/
def heatCounts (d : Dev) : Dev :=
  let l := d.meter.heat.filter fun e => e.2.running
  (d.wr METER.HEAT_STAT.RUNNING l.length).wr METER.HEAT_STAT.IN_ERROR (l.filter fun e => e.2.inErr).length

/-- A change of source clears the energy residues (R328). -/
def clearRes (x : HeatSt) : HeatSt := { x with res := keepKeys (fun k => decide (4 ≤ k)) x.res }

/-- What stopping leaves of a meter: no sample boundary comes, so a waiting change takes effect at once (R328). -/
def heatStopped (x : HeatSt) : HeatSt := { (if x.newSrc then clearRes x else x) with running := false, old := none, newSrc := false }

/-- CFG_ERR and the running state of meter m follow its settings (R316); its next records are the first after the start (R325). A meter that its
settings stopped has no gap: the time of its last sample is forgotten (R330). -/
def heatSettle (m : Nat) (d : Dev) : Dev :=
  let x := heatSt d m
  let on := heatRuns d m
  let d :=
    if on = x.running then d
    else if on then heatCounts (setHeat m { x with running := true, prev := none, lastRev := none, ivl := { x.ivl with first := true }, bill := { x.bill with first := true } } d)
    else heatCounts (setHeat m { heatStopped x with lastAt := if heatSet d m then x.lastAt else none } d)
  d.put (METER.HM.STAT.CFG_ERR m) (d.flag (METER.HM.CFG.EN m) && heatBadNow d m)
/-- Every meter follows. -/
def heatSettleAll (d : Dev) : Dev := (List.range 256).foldl (fun (d : Dev) m => heatSettle m d) d

/-- Both periods gather a sample (R325). -/
def accBoth (f : HeatAcc → HeatAcc) (x : HeatSt) : HeatSt := { x with ivl := f x.ivl, bill := f x.bill }

/-- Heat metering at a start with the checkpoint `old` (R308, R330): an enabled meter's gap from a copy that no power loss made counts at once, that of
Proof and start, from t0 (ns), at the first sample. -/
def heatStart (d : Dev) : Dev :=
  let t0 := d.boot.startSec * 1000000000
  let lost := match d.meter.ckpt with
    | some k => if k.loss then 0 else min t0 ((lossAfter d k.at_).getD t0) - k.at_
    | none => 0
  let d := (List.range 256).foldl (fun (d : Dev) m =>
    if ¬ heatSet d m then d
    else
      let x := accBoth (fun a => { a with errNs := a.errNs + lost, gap := a.gap || lost != 0 }) (heatSt d m)
      setHeat m { x with errNs := x.errNs + lost, lastAt := some t0 } d) d
  heatSettleAll (showErrTimes d)

end Sys2Proof.Machine
end

