-- ==== Sys2Proof/Machine/Ldl.lean ====
section
/-! DEFINITION. The sparse LDLᵀ factorisation on which the estimator (R343, R345, R347) and the solver (R373) rest, in binary64: each product and each
difference is rounded, in the order of elimination (log 34). A matrix is a map of rows by column, both triangles kept. -/
namespace Sys2Proof.Machine
open Sys2Proof

/-- A symmetric matrix by row and column. -/
abbrev SpMat := SMap (SMap Nat)

/-- Add to an entry. -/
def matAdd (i j v : Nat) (g : SpMat) : SpMat :=
  let r := lookD g i []
  ins i (ins j (f64Add (lookD r j 0) v) r) g
/-- An entry; 0 where there is none. -/
def matGet (g : SpMat) (i j : Nat) : Nat := lookD (lookD g i []) j 0

/-- A step of the elimination: its index, its pivot, and the column of L. -/
structure Pivot where
  k : Nat
  d : Nat
  col : SMap Nat
deriving DecidableEq, Repr

/-- Eliminate in an order; an index whose pivot `skip` turns away is left out, with its row and column. -/
def eliminate (skip : Nat → Nat → Bool) : List Nat → SpMat → List Pivot
  | [], _ => []
  | k :: ks, g =>
    let row := lookD g k []
    let d := lookD row k 0
    let g := (del k g).map fun e => (e.1, del k e.2)
    if skip k d then eliminate skip ks g
    else
      let col := (del k row).map fun e => (e.1, f64Div e.2 d)
      let g := col.foldl (fun (g : SpMat) a => col.foldl (fun (g : SpMat) b => matAdd a.1 b.1 (f64Neg (f64Mul (f64Mul a.2 d) b.2)) g) g) g
      { k := k, d := d, col := col } :: eliminate skip ks g

/-- L⁻¹ b. -/
def ldlForward (ps : List Pivot) (b : SMap Nat) : SMap Nat :=
  ps.foldl (fun (y : SMap Nat) p =>
    let v := lookD y p.k 0
    p.col.foldl (fun (y : SMap Nat) a => ins a.1 (f64Sub (lookD y a.1 0) (f64Mul a.2 v)) y) y) b
/-- The solution of L D Lᵀ x = b; an index left out stays 0. -/
def ldlSolve (ps : List Pivot) (b : SMap Nat) : SMap Nat :=
  let y := ldlForward ps b
  ps.foldr (fun p (x : SMap Nat) => ins p.k (p.col.foldl (fun s a => f64Sub s (f64Mul a.2 (lookD x a.1 0))) (f64Div (lookD y p.k 0) p.d)) x) []
/-- h (L D Lᵀ)⁻¹ hᵀ. -/
def ldlQuad (ps : List Pivot) (h : SMap Nat) : Nat :=
  let y := ldlForward ps h
  f64Sum (ps.map fun p => f64Div (f64Mul (lookD y p.k 0) (lookD y p.k 0)) p.d)

/-- Every index below n, once. -/
def isPerm (n : Nat) (l : List Nat) : Bool := l.length == n && (List.range n).all l.contains
/-- The order of elimination of n indices: the given one; without one, that of the application cores, which is free (R340, log 34). -/
def elimOrder (given : List Nat) (pattern : List (List Nat)) (n : Nat) : List Nat :=
  if isPerm n given then given
  else if isPerm n (Config.elimination pattern) then Config.elimination pattern else List.range n

/-! ### Weighted least squares (R343) -/

/-- A least-squares equation: derivatives by state, weight, residual. -/
abbrev LsRow := List (Nat × Nat) × Nat × Nat

/-- HᵀWH. -/
def lsGain (rows : List LsRow) : SpMat :=
  rows.foldl (fun (g : SpMat) e => e.1.foldl (fun (g : SpMat) a => e.1.foldl (fun (g : SpMat) b => matAdd a.1 b.1 (f64Mul (f64Mul a.2 e.2.1) b.2) g) g) g) []
/-- HᵀWr. -/
def lsRhs (rows : List LsRow) : SMap Nat :=
  rows.foldl (fun (y : SMap Nat) e => e.1.foldl (fun (y : SMap Nat) a => ins a.1 (f64Add (lookD y a.1 0) (f64Mul (f64Mul a.2 e.2.1) e.2.2)) y) y) []

/-- The factor of HᵀWH over n states. A state whose pivot falls below 10⁻¹⁰ of its diagonal entry is left out (R347), and so is one without any
equation. -/
def lsFactor (given : List Nat) (rows : List LsRow) (n : Nat) : List Pivot :=
  let g := lsGain rows
  let skip (k d : Nat) : Bool := !f64Lt 0 d || f64Lt d (f64Div (matGet g k k) (f64OfInt 10000000000))
  eliminate skip (elimOrder given (rows.map fun e => e.1.map (·.1)) n) g
/-- The unobservable states (R347). -/
def lsUnobs (ps : List Pivot) (n : Nat) : List Nat := (List.range n).filter fun i => !ps.any fun p => p.k == i
/-- dx of HᵀWH dx = HᵀWr. -/
def lsStep (ps : List Pivot) (rows : List LsRow) (n : Nat) : List Nat :=
  let x := ldlSolve ps (lsRhs rows)
  (List.range n).map fun i => lookD x i 0
/-- The diagonal element of H G⁻¹ Hᵀ of a row (R345). -/
def lsDiag (ps : List Pivot) (cols : List (Nat × Nat)) : Nat :=
  ldlQuad ps (cols.foldl (fun (h : SMap Nat) a => ins a.1 (f64Add (lookD h a.1 0) a.2) h) [])

end Sys2Proof.Machine
end

