-- ==== Sys2Proof/Machine/Kkt.lean ====
section
/-! DEFINITION. The interior-point method of the dispatch solver (R373, R374): matrices, scaling, residuals, the quasi-definite KKT system with its
refinement, and the predictor and corrector steps. All arithmetic is binary64, in the order in which the manual writes it (log 34). -/
namespace Sys2Proof.Machine
open Sys2Proof

/-- The column of position i in a matrix. -/
def cscCol (c : Csc) (i : Nat) : Nat := ((c.start.drop 1).findIdx? fun s => decide (i < s)).getD 0
/-! ### Scaling and residuals (R373, R374) -/

/-- The entries of a matrix: row, column, value. -/
def entries (c : Csc) : List (Nat × Nat × Nat) := c.idx.zipIdx.map fun e => (e.1, cscCol c e.2, c.val.getD e.2 0)
/-- P's entries on both sides of the diagonal. -/
def fullP (c : Csc) : List (Nat × Nat × Nat) := (entries c).flatMap fun e => if e.1 = e.2.1 then [e] else [e, (e.2.1, e.1, e.2.2)]
/-- The largest absolute entry by key. -/
def maxBy (key : Nat × Nat × Nat → Nat) (n : Nat) (l : List (Nat × Nat × Nat)) : List Nat :=
  (List.range n).map fun j => f64MaxAbs ((l.filter fun e => key e == j).map (·.2.2))
/-- 1 / √x, 1 for 0. -/
def invSqrt (x : Nat) : Nat := if x = 0 then f64One else f64Div f64One (f64Sqrt x)
/-- A matrix with its rows and columns scaled. -/
def scaleBy (r c : List Nat) (l : List (Nat × Nat × Nat)) : List (Nat × Nat × Nat) :=
  l.map fun e => (e.1, e.2.1, f64Mul (f64Mul (r.getD e.1 0) e.2.2) (c.getD e.2.1 0))

/-- A problem in the scaled form: P on both sides, A, q, l, u. -/
structure Qp where
  n : Nat
  m : Nat
  p : List (Nat × Nat × Nat)
  a : List (Nat × Nat × Nat)
  q : List Nat
  l : List Nat
  u : List Nat
deriving DecidableEq, Repr

/-- A problem with its variables and rows scaled. -/
def Qp.scaled (k : Qp) (dv ev : List Nat) : Qp :=
  let mul (a b : List Nat) := (a.zip b).map fun e => f64Mul e.1 e.2
  { k with p := scaleBy dv dv k.p, a := scaleBy ev dv k.a, q := mul k.q dv, l := mul k.l ev, u := mul k.u ev }

/-- The problem of a structure. -/
def qpOf (st : QpStruct) : Qp := { n := st.vars.length, m := st.rows.length, p := fullP st.p, a := entries st.a, q := st.q, l := st.l, u := st.u }

/-- One pass of Ruiz scaling: each variable and row by the inverse root of its largest entry in the KKT matrix. -/
def ruizPass (k : Qp) (acc : List Nat × List Nat) : List Nat × List Nat :=
  let s := k.scaled acc.1 acc.2
  let cv := ((maxBy (·.2.1) k.n s.p).zip (maxBy (·.2.1) k.n s.a)).map fun e => invSqrt (f64Max e.1 e.2)
  let rv := (maxBy (·.1) k.m s.a).map invSqrt
  ((acc.1.zip cv).map fun e => f64Mul e.1 e.2, (acc.2.zip rv).map fun e => f64Mul e.1 e.2)

/-- The factors after 10 passes, by variable and by row. -/
def ruiz (k : Qp) : List Nat × List Nat := forN 10 (fun _ acc => ruizPass k acc) (List.replicate k.n f64One, List.replicate k.m f64One)

/-- A matrix times a vector, and its transpose times one. -/
def matVec (n : Nat) (l : List (Nat × Nat × Nat)) (x : List Nat) : List Nat :=
  (List.range n).map fun i => f64Sum ((l.filter fun e => e.1 == i).map fun e => f64Mul e.2.2 (x.getD e.2.1 0))
def matTVec (n : Nat) (l : List (Nat × Nat × Nat)) (y : List Nat) : List Nat :=
  (List.range n).map fun j => f64Sum ((l.filter fun e => e.2.1 == j).map fun e => f64Mul e.2.2 (y.getD e.1 0))
/-- Σ a_i b_i. -/
def dotP (a b : List Nat) : Nat := f64Sum ((a.zip b).map fun e => f64Mul e.1 e.2)

/-- r_p (R374). -/
def rPrim (k : Qp) (i : QpIter) : Nat :=
  let ax := matVec k.m k.a i.x
  f64Div (f64MaxAbs ((ax.zip i.z).map fun e => f64Sub e.1 e.2)) (f64Add f64One (f64Max (f64MaxAbs ax) (f64MaxAbs i.z)))
/-- r_d (R374). -/
def rDual (k : Qp) (i : QpIter) : Nat :=
  let px := matVec k.n k.p i.x
  let ay := matTVec k.n k.a i.y
  let s := (List.range k.n).map fun j => f64Add (f64Add (px.getD j 0) (k.q.getD j 0)) (ay.getD j 0)
  f64Div (f64MaxAbs s) (f64Add f64One (f64Max (f64Max (f64MaxAbs px) (f64MaxAbs k.q)) (f64MaxAbs ay)))
/-- l = u: an equality row (R360). -/
def eqRow (k : Qp) (i : Nat) : Bool := f64Cmp (k.l.getD i 0) (k.u.getD i 0) == some .eq
/-- μ (R374), over the finite bounds of the inequality rows: an equality row carries no slack (D_i = 0, R373; log 34). -/
def muOf (k : Qp) (i : QpIter) : Nat :=
  let bounds (b s l : List Nat) : List Nat := (List.range k.m).filterMap fun r => if eqRow k r || !f64Finite (b.getD r 0) then none else some (f64Mul (s.getD r 0) (l.getD r 0))
  let ps := bounds k.l i.sl i.ll ++ bounds k.u i.su i.lu
  f64Div (f64Sum ps) (f64OfInt (max 1 ps.length))

/-! ### The Newton directions (R373) -/

/-- What an iteration reads of a partition's registers. -/
structure IpmParams where
  regX : Nat
  regZ : Nat
  frac : Nat
  refine : Nat
deriving DecidableEq, Repr

/-- A row without a finite bound: it constrains nothing, and its dual goes to 0 (log 34). -/
def freeRow (k : Qp) (i : Nat) : Bool := !f64Finite (k.l.getD i 0) && !f64Finite (k.u.getD i 0)
/-- A value of row i that counts where its bound is finite; 0 elsewhere. -/
def atBound (b : List Nat) (i v : Nat) : Nat := if f64Finite (b.getD i 0) then v else 0

/-- λ_l / s_l + λ_u / s_u of row i. -/
def rowWeight (k : Qp) (it : QpIter) (i : Nat) : Nat :=
  f64Add (atBound k.l i (f64Div (it.ll.getD i 0) (it.sl.getD i 0))) (atBound k.u i (f64Div (it.lu.getD i 0) (it.su.getD i 0)))
/-- D_i. -/
def rowD (k : Qp) (it : QpIter) (i : Nat) : Nat := if eqRow k i then 0 else f64Div f64One (rowWeight k it i)

/-- The KKT matrix with a regularisation; a free row is a 1 of its own. -/
def kktMat (k : Qp) (it : QpIter) (regX regZ : Nat) : SpMat :=
  let g := k.p.foldl (fun (g : SpMat) e => matAdd e.1 e.2.1 e.2.2 g) []
  let g := k.a.foldl (fun (g : SpMat) e => if freeRow k e.1 then g else matAdd (k.n + e.1) e.2.1 e.2.2 (matAdd e.2.1 (k.n + e.1) e.2.2 g)) g
  let g := (List.range k.n).foldl (fun (g : SpMat) j => matAdd j j regX g) g
  (List.range k.m).foldl (fun (g : SpMat) i => matAdd (k.n + i) (k.n + i) (if freeRow k i then f64One else f64Neg (f64Add (rowD k it i) regZ)) g) g

/-- A matrix times a vector over the indices below n. -/
def spMul (n : Nat) (g : SpMat) (v : SMap Nat) : List Nat :=
  (List.range n).map fun i => f64Sum ((lookD g i []).map fun e => f64Mul e.2 (lookD v e.1 0))

/-- Iterative refinement of a solution against the unregularised matrix: at most k steps, until the relative residual, in the largest absolute value,
is 10⁻¹² or less; whether it got there. -/
def refine (n : Nat) (full : SpMat) (ps : List Pivot) (rhs : List Nat) : Nat → SMap Nat → SMap Nat × Bool
  | k, v =>
    let res := (rhs.zip (spMul n full v)).map fun e => f64Sub e.1 e.2
    let small := f64Le (f64MaxAbs res) (f64Mul (f64Ratio 1 1000000000000) (f64MaxAbs rhs))
    if small then (v, true)
    else match k with
      | 0 => (v, false)
      | k + 1 =>
        let c := ldlSolve ps (res.zipIdx.map fun e => (e.2, e.1))
        refine n full ps rhs k ((List.range n).map fun i => (i, f64Add (lookD v i 0) (lookD c i 0)))

/-- A direction of the iterate. -/
structure IpmDir where
  dx : List Nat
  dy : List Nat
  dz : List Nat
  dsl : List Nat
  dsu : List Nat
  dll : List Nat
  dlu : List Nat
  ok : Bool
deriving DecidableEq, Repr

/-- The Newton direction for right-hand sides of the complementarity products, s_l λ_l and s_u λ_u by row. With z − s_l = l and z + s_u = u, and
y = λ_u − λ_l, everything but dx and dy is eliminated, which leaves the matrix of R373. -/
def ipmDir (pr : IpmParams) (k : Qp) (it : QpIter) (full : SpMat) (ps : List Pivot) (cl cu : List Nat) : IpmDir :=
  let g (l : List Nat) (i : Nat) := l.getD i 0
  let rows := List.range k.m
  let ax := matVec k.m k.a it.x
  -- a free row's dual leaves at once
  let dyF := rows.map fun i => if freeRow k i then f64Neg (g it.y i) else 0
  let px := matVec k.n k.p it.x
  let ay := matTVec k.n k.a ((it.y.zip dyF).map fun e => f64Add e.1 e.2)
  let bx := (List.range k.n).map fun j => f64Neg (f64Add (f64Add (g px j) (g k.q j)) (g ay j))
  -- residuals of the bounds
  let rl := rows.map fun i => atBound k.l i (f64Sub (f64Sub (g it.z i) (g it.sl i)) (g k.l i))
  let ru := rows.map fun i => atBound k.u i (f64Sub (f64Add (g it.z i) (g it.su i)) (g k.u i))
  let ql := rows.map fun i => atBound k.l i (f64Div (f64Sub (g cl i) (f64Mul (g it.ll i) (g rl i))) (g it.sl i))
  let qu := rows.map fun i => atBound k.u i (f64Div (f64Add (g cu i) (f64Mul (g it.lu i) (g ru i))) (g it.su i))
  let ry := rows.map fun i => f64Sub (f64Add (g it.y i) (atBound k.l i (g it.ll i))) (atBound k.u i (g it.lu i))
  -- dy = W dz + c
  let c := rows.map fun i => f64Add (f64Sub (f64Neg (g ry i)) (g ql i)) (g qu i)
  let bz := rows.map fun i =>
    let rp := f64Sub (g ax i) (g it.z i)
    if freeRow k i then 0
    else if eqRow k i then f64Add (f64Neg rp) (f64Sub (g k.l i) (g it.z i))
    else f64Sub (f64Neg rp) (f64Mul (rowD k it i) (g c i))
  let rhs := bx ++ bz
  let n := k.n + k.m
  let (v, ok) := refine n full ps rhs pr.refine (ldlSolve ps (rhs.zipIdx.map fun e => (e.2, e.1)))
  let dx := (List.range k.n).map fun j => lookD v j 0
  let dy := rows.map fun i => if freeRow k i then g dyF i else lookD v (k.n + i) 0
  let adx := matVec k.m k.a dx
  let dz := rows.map fun i =>
    if freeRow k i then f64Add (g adx i) (f64Sub (g ax i) (g it.z i))
    else if eqRow k i then f64Sub (g k.l i) (g it.z i)
    else f64Mul (rowD k it i) (f64Sub (g dy i) (g c i))
  let dsl := rows.map fun i => atBound k.l i (f64Add (g dz i) (g rl i))
  let dsu := rows.map fun i => atBound k.u i (f64Neg (f64Add (g dz i) (g ru i)))
  let dll := rows.map fun i => if eqRow k i then 0 else atBound k.l i (f64Div (f64Sub (g cl i) (f64Mul (g it.ll i) (g dsl i))) (g it.sl i))
  let dlu := rows.map fun i => if eqRow k i then 0 else atBound k.u i (f64Div (f64Sub (g cu i) (f64Mul (g it.lu i) (g dsu i))) (g it.su i))
  let eq0 (l : List Nat) := l.zipIdx.map fun e => if eqRow k e.2 then 0 else e.1
  { dx := dx, dy := dy, dz := dz, dsl := eq0 dsl, dsu := eq0 dsu, dll := dll, dlu := dlu, ok := ok }

/-- The smaller of 1 and STEP_FRAC × the largest step that keeps the values positive. -/
def stepLen (frac : Nat) (l : List (Nat × Nat)) : Nat :=
  l.foldl (fun a e => if f64Lt e.2 0 then f64Min a (f64Mul frac (f64Neg (f64Div e.1 e.2))) else a) f64One

/-- The iterate moved along a direction. -/
def QpIter.moved (i : QpIter) (r : IpmDir) (ap ad : Nat) : QpIter :=
  let mv (a : Nat) (l d : List Nat) := (l.zip d).map fun e => f64Add e.1 (f64Mul a e.2)
  { x := mv ap i.x r.dx, y := mv ad i.y r.dy, z := mv ap i.z r.dz, sl := mv ap i.sl r.dsl, su := mv ap i.su r.dsu, ll := mv ad i.ll r.dll, lu := mv ad i.lu r.dlu }
/-- The primal and dual step lengths of a direction. -/
def stepLens (frac : Nat) (i : QpIter) (r : IpmDir) : Nat × Nat :=
  (stepLen frac (i.sl.zip r.dsl ++ i.su.zip r.dsu), stepLen frac (i.ll.zip r.dll ++ i.lu.zip r.dlu))

/-- One iteration: predictor, centring σ = (μ_aff / μ)³, corrector with the second-order term (R373). The new iterate, δx and δy, and whether a
refinement failed. -/
def ipmStep (pr : IpmParams) (order : List Nat) (k : Qp) (it : QpIter) : QpIter × List Nat × List Nat × Bool :=
  let full := kktMat k it 0 0
  let reg := kktMat k it pr.regX pr.regZ
  let ps := eliminate (fun _ _ => false) (elimOrder order (reg.map fun r => r.1 :: r.2.map (·.1)) (k.n + k.m)) reg
  let neg (a b : List Nat) := (a.zip b).map fun e => f64Neg (f64Mul e.1 e.2)
  let aff := ipmDir pr k it full ps (neg it.sl it.ll) (neg it.su it.lu)
  let mu := muOf k it
  let (ap, ad) := stepLens pr.frac it aff
  let ratio := f64Div (muOf k (it.moved aff ap ad)) mu
  let sigma := if f64Lt 0 mu then f64Mul (f64Mul ratio ratio) ratio else 0
  let target := f64Mul sigma mu
  let corr (s l ds dl : List Nat) := ((s.zip l).zip (ds.zip dl)).map fun e => f64Sub (f64Sub target (f64Mul e.1.1 e.1.2)) (f64Mul e.2.1 e.2.2)
  let dir := ipmDir pr k it full ps (corr it.sl it.ll aff.dsl aff.dll) (corr it.su it.lu aff.dsu aff.dlu)
  let (ap, ad) := stepLens pr.frac it dir
  (it.moved dir ap ad, dir.dx, dir.dy, !(aff.ok && dir.ok))

end Sys2Proof.Machine
end

