-- ==== Sys2Proof/Machine/ModelOps.lean ====
section
/-! DEFINITION. The network model and the state estimator (spec/13): the image and its checks, the values of the measurements, the equations of
R338, Gauss–Newton with its bad-data test, and EST_STATE. All estimator arithmetic is binary64, in the order in which the manual writes it (log 34). -/
namespace Sys2Proof.Machine
open Sys2Proof

def onModel (f : ModelSt → ModelSt) (d : Dev) : Dev := { d with model := f d.model }

/-! ### The image (R334 to R337, R340) -/

/-- A node record. -/
def nodeRec (b : List Byte) : NodeRec :=
  { tag := fieldAt b 0 4, role := fieldAt b 4 1, addr := fieldAt b 6 2, elev := fieldAt b 8 4, dfltP := fieldAt b 12 4, dfltT := fieldAt b 16 4, rsvd := fieldAt b 5 1 == 0 && fieldAt b 20 12 == 0 }

/-- A branch record. -/
def branchRec (b : List Byte) : BranchRec :=
  { tag := fieldAt b 0 4, fr := fieldAt b 4 2, dst := fieldAt b 6 2, len := fieldAt b 8 4, area := fieldAt b 12 4, k := fieldAt b 16 4, u := fieldAt b 20 4, ground := fieldAt b 24 2, valve := fieldAt b 26 2, flags := fieldAt b 28 1, splitOf := fieldAt b 32 4, splitA := fieldAt b 36 4, splitB := fieldAt b 40 4, dflt := fieldAt b 44 4, rsvd := fieldAt b 29 3 == 0 }

/-- A measurement record. -/
def measRec (b : List Byte) : MeasRec :=
  { tag := fieldAt b 0 4, kind := fieldAt b 4 1, source := fieldAt b 5 1, obj := fieldAt b 6 2, loc := fieldAt b 8 4, scale := fieldAt b 12 4, ofs := fieldAt b 16 4, sigma := fieldAt b 20 4, pseudo := fieldAt b 24 4, flags := fieldAt b 28 1, rsvd := fieldAt b 29 3 == 0 }

/-- The records' bytes (R335 to R337). -/
def nodeBytes (n : NodeRec) : List Byte :=
  toBytes 4 n.tag ++ toBytes 1 n.role ++ toBytes 1 0 ++ toBytes 2 n.addr ++ toBytes 4 n.elev ++ toBytes 4 n.dfltP ++ toBytes 4 n.dfltT ++ List.replicate 12 0
def branchBytes (b : BranchRec) : List Byte :=
  toBytes 4 b.tag ++ toBytes 2 b.fr ++ toBytes 2 b.dst ++ toBytes 4 b.len ++ toBytes 4 b.area ++ toBytes 4 b.k ++ toBytes 4 b.u ++ toBytes 2 b.ground ++ toBytes 2 b.valve ++
    toBytes 1 b.flags ++ List.replicate 3 0 ++ toBytes 4 b.splitOf ++ toBytes 4 b.splitA ++ toBytes 4 b.splitB ++ toBytes 4 b.dflt
def measBytes (m : MeasRec) : List Byte :=
  toBytes 4 m.tag ++ toBytes 1 m.kind ++ toBytes 1 m.source ++ toBytes 2 m.obj ++ toBytes 4 m.loc ++ toBytes 4 m.scale ++ toBytes 4 m.ofs ++ toBytes 4 m.sigma ++ toBytes 4 m.pseudo ++
    toBytes 1 m.flags ++ List.replicate 3 0

/-- The counts an image's header gives: nodes, branches, measurements, ordering length. -/
def imgCounts (b : List Byte) : Nat × Nat × Nat × Nat := (fieldAt b 2 2, fieldAt b 4 2, fieldAt b 6 2, fieldAt b 12 4)

/-- The length of an image with these counts; the ordering length counts its entries (DEDUCED, log 35). -/
def imgLen (c : Nat × Nat × Nat × Nat) : Nat := 64 + 32 * c.1 + 48 * c.2.1 + 32 * c.2.2.1 + 4 * c.2.2.2

/-- The model of an image. -/
def parseModel (b : List Byte) : NetModel :=
  let (n, br, ms, o) := imgCounts b
  let rest := b.drop 64
  let r2 := rest.drop (32 * n)
  let r3 := r2.drop (48 * br)
  { id := fieldAt b 8 4, nodes := (chunksOf 32 n rest).map nodeRec, branches := (chunksOf 48 br r2).map branchRec, meas := (chunksOf 32 ms r3).map measRec, order := bytesToWords o (r3.drop (32 * ms)) }

/-- The first record of a list that fails a test. -/
def firstBad {α : Type} (bad : Nat → α → Bool) (l : List α) : Option Nat := (l.zipIdx.find? fun e => bad e.2 e.1).map (·.2)

/-- Not negative, and a number. -/
def f32NonNeg (x : Nat) : Bool := f32Le 0 x

/-- The nodes that carry an injection state, in order (R335, R338). -/
def injNodes (m : NetModel) : List Nat := (m.nodes.zipIdx.filter fun e => e.1.role != 0).map (·.2)
/-- The hydraulic states: p by node, m by branch, g by injection node. -/
def hydStates (m : NetModel) : Nat := m.nodes.length + m.branches.length + (injNodes m).length

/-- A node record that fails the checks of R340. -/
def nodeBad (m : NetModel) (i : Nat) (n : NodeRec) : Bool :=
  n.tag == 0 || !n.rsvd || decide (4 < n.role) || (decide (4095 < n.addr) && n.addr != 0xFFFF) ||
    (m.nodes.take i).any fun o => o.tag == n.tag || (o.role == 1 && n.role == 1 && o.addr == n.addr && n.addr != 0xFFFF)

/-- A branch record that fails the checks of R340; `act` is the active model. -/
def branchBad (act : Option NetModel) (m : NetModel) (i : Nat) (b : BranchRec) : Bool :=
  let kindAt (k j : Nat) : Bool := match m.meas[j]? with
    | some r => r.kind == k
    | none => false
  b.tag == 0 || !b.rsvd || decide (m.nodes.length ≤ b.fr) || decide (m.nodes.length ≤ b.dst) || b.fr == b.dst || !f32NonNeg b.len || (f32Lt 0 b.len && !f32Lt 0 b.area) ||
    !f32NonNeg b.k || !f32NonNeg b.u || (b.ground != 0xFFFF && !kindAt 5 b.ground) || (bitOf b.flags 2 && !kindAt 6 b.valve) || decide (7 < b.flags) ||
    (b.splitOf != 0 && (!(match act with
      | some a => a.branches.any fun o => o.tag == b.splitOf
      | none => false) || !f32NonNeg b.splitA || !f32Lt b.splitA b.splitB || !f32Le b.splitB 0x3F800000)) ||
    (m.branches.take i).any fun o => o.tag == b.tag

/-- The locator of a source lies in its range (R337). -/
def locOk (m : MeasRec) : Bool := match m.source with
  | 0 => decide (m.loc < 512)
  | 1 => decide (m.loc < 64)
  | 2 => decide (m.loc / 2 ^ 28 = 0) && m.loc / 32 % 2 ^ 11 == 0
  | 3 => decide (m.loc < 1024) && m.loc % 4 != 3
  | _ => m.loc == 0

/-- A measurement record that fails the checks of R340. -/
def measBad (m : NetModel) (i : Nat) (r : MeasRec) : Bool :=
  let objBad : Bool := match r.kind with
    | 0 => decide (m.nodes.length ≤ r.obj)
    | 3 => decide (m.nodes.length ≤ r.obj)
    | 2 => (match m.nodes[r.obj]? with
      | some n => n.role == 0
      | none => true)
    | 1 => decide (m.branches.length ≤ r.obj)
    | 4 => decide (m.branches.length ≤ r.obj)
    | _ => r.obj != 0
  r.tag == 0 || !r.rsvd || decide (6 < r.kind) || decide (4 < r.source) || objBad || !locOk r || !f32Lt 0 r.sigma || decide (3 < r.flags) || (m.meas.take i).any fun o => o.tag == r.tag

/-- The ordering names every hydraulic state once (log 35). -/
def orderBad (m : NetModel) : Option Nat :=
  if m.order = [] then none
  else if m.order.length ≠ hydStates m then some 0
  else firstBad (fun i v => decide (hydStates m ≤ v) || (m.order.take i).contains v) m.order

/-- What is wrong with an image (R340): section and record; none when it is valid. -/
def modelFault (act : Option NetModel) (b : List Byte) (m : NetModel) : Option (Nat × Nat) :=
  if fieldAt b 0 2 ≠ 1 ∨ m.id = 0 then some (1, 0)
  else match firstBad (nodeBad m) m.nodes with
  | some i => some (2, i)
  | none => match firstBad (branchBad act m) m.branches with
    | some i => some (3, i)
    | none => match firstBad (measBad m) m.meas with
      | some i => some (4, i)
      | none => (orderBad m).map fun i => (5, i)

/-- The memory in KiB the model's factor needs (R340; log 33). -/
def modelNeed (m : NetModel) : Nat :=
  Config.modelKiB [m.nodes.map (·.role), m.branches.map (·.fr), m.branches.map (·.dst), m.meas.map (·.kind), m.meas.map (·.obj), m.order]

/-! ### The values of the measurements (R339) -/

/-- The value of a measurement's source, whether it counts as SUBST, and whether its snapshot is stale; the value is none when not usable. -/
def sourceVal (d : Dev) (tickNs : Nat) (m : MeasRec) : Option (Nat × Bool) × Bool :=
  let lim := clampN 1000 10000 (d.rd MODEL.EST_AGE.STALE_MS) * 1000000
  let forcedOk := bitOf m.flags 1
  match m.source with
  | 0 =>
    let r := (benchTab d 1).current.body.drop (8 * m.loc)
    let fl := fieldAt r 6 1
    let st := benchStale d 1 lim
    (if st || f32IsNaN (fieldAt r 0 4) || bitOf fl 2 then none else some (fieldAt r 0 4, bitOf fl 1), st)
  | 1 =>
    let st := benchStale d 1 lim
    (if st then none else some (fieldAt (benchTab d 1).current.body (4096 + 8 * m.loc + 4) 4, false), st)
  | 2 =>
    let st := benchStale d 2 lim
    (match look d.model.sessSnap (32 * (m.loc / 2 ^ 16) + m.loc % 32) with
    | some (v, q, t) => if st || q == 1 || decide (t + max 1 (d.rd MODEL.EST_AGE.SESS_AGE) * 1000000000 < tickNs) || (q == 3 && !forcedOk) then none else some (v, q == 2)
    | none => none, st)
  | 3 =>
    let r := (benchTab d 4).current.body.drop (32 * (m.loc / 4))
    let fl := fieldAt r 24 1
    let v := fieldAt r (match m.loc % 4 with
      | 0 => 16
      | 1 => 4
      | _ => 8) 4
    let st := benchStale d 4 lim
    (if st || !bitOf fl 0 || (bitOf fl 4 && !forcedOk) then none else some (v, bitOf fl 1), st)
  | _ => (some (m.pseudo, false), false)

/-- The model value of a measurement, binary64; none when it is not usable (R337, R339). -/
def measVal (d : Dev) (tickNs : Nat) (m : MeasRec) : Option (Nat × Bool) :=
  match (sourceVal d tickNs m).1 with
  | some (v, s) => some (f64Add (f64Mul (f64OfF32 m.scale) (f64OfF32 v)) (f64OfF32 m.ofs), s)
  | none => none

/-- The gather window ends: the values are taken (R339, R343). -/
def gatherNow (w : EstWin) (d : Dev) : EstWin :=
  { w with gathered := true, gatherUp := d.up, vals := w.model.meas.map (measVal d w.tickNs), stale := [1, 2, 3, 4].any fun t => benchStale d t (clampN 1000 10000 (d.rd MODEL.EST_AGE.STALE_MS) * 1000000) }

/-! ### The equations (R338) -/

/-- An equation: derivatives by state, weight, residual (all binary64), the square of σ and the measurement of one that comes from a measurement. -/
structure EqRow where
  cols : List (Nat × Nat)
  w : Nat
  r : Nat
  sig2 : Nat := 0
  meas : Option Nat := none
deriving DecidableEq, Repr

/-- A row as the factorisation reads it. -/
def EqRow.raw (e : EqRow) : LsRow := (e.cols, e.w, e.r)
/-- Σ w × r². -/
def costOf (rows : List EqRow) : Nat := f64Sum (rows.map fun e => f64Mul e.w (f64Mul e.r e.r))
/-- −1. -/
abbrev f64MinusOne : Nat := 0xBFF0000000000000
/-- A register of the MODEL block as binary64. -/
def mreg (d : Dev) (f : FRef) : Nat := f64OfF32 (d.rd f)
/-- g0 in m/s². -/
def f64G0 : Nat := f64Ratio 980665 100000
/-- c in J/(kg·K). -/
def cHeat (d : Dev) : Nat := f64Div (f64Mul (mreg d MODEL.C_VOL) (f64OfInt 1000000)) (mreg d MODEL.RHO_REF)
/-- The usable value of measurement i. -/
def EstWin.val (w : EstWin) (i : Nat) : Option (Nat × Bool) := (w.vals[i]?).getD none
/-- The value of a measurement of kind 5 or 6 that is in use (R339, R346). -/
def EstWin.aux (w : EstWin) (i : Nat) : Option Nat := match w.model.meas[i]? with
  | some r => if bitOf r.flags 0 && !w.quar.contains r.tag then (w.val i).map (·.1) else none
  | none => none
/-- The ground temperature of a branch (R336, R337). -/
def groundOf (d : Dev) (w : EstWin) (b : BranchRec) : Nat :=
  if b.ground = 0xFFFF then mreg d MODEL.TGROUND
  else match w.aux b.ground with
    | some v => v
    | none => mreg d MODEL.TGROUND
/-- The valve opening o, clamped (R338); none where the branch counts as FREE. -/
def openingOf (w : EstWin) (b : BranchRec) : Option Nat :=
  if bitOf b.flags 0 then none
  else if ¬ bitOf b.flags 2 then some f64One
  else match w.aux b.valve with
    | some v => if f64IsNaN v then none else some (f64Min f64One (f64Max (f64Ratio 5 100) v))
    | none => none

/-- The measurements in use (R339, R346): index, record, value, SUBST. -/
def usedMeas (w : EstWin) (removed : List Nat) : List (Nat × MeasRec × Nat × Bool) :=
  w.model.meas.zipIdx.filterMap fun e =>
    if bitOf e.1.flags 0 = false ∨ 4 < e.1.kind ∨ removed.contains e.2 ∨ w.quar.contains e.1.tag then none
    else (w.val e.2).map fun v => (e.2, e.1, v.1, v.2)

/-- A measurement's equation for the value h and its derivatives. -/
def measRow (d : Dev) (i : Nat) (r : MeasRec) (z : Nat) (subst : Bool) (h : Nat) (cols : List (Nat × Nat)) : EqRow :=
  let s := f64OfF32 r.sigma
  let s := if subst then f64Mul s (f64OfInt (max 1 (d.rd MODEL.EST_CFG.SUBST_F))) else s
  let s2 := f64Mul s s
  { cols := cols, w := f64Div f64One s2, r := f64Sub z h, sig2 := s2, meas := some i }

/-- An equation that is zero when satisfied, with its value. -/
def virtRow (sigma v : Nat) (cols : List (Nat × Nat)) : EqRow := { cols := cols, w := f64Div f64One (f64Mul sigma sigma), r := f64Neg v }

/-- The hydraulic equations at the state x: p by node, m by branch, g by injection node. -/
def hydRows (d : Dev) (w : EstWin) (removed x : List Nat) : List EqRow :=
  let md := w.model
  let N := md.nodes.length
  let B := md.branches.length
  let inj := injNodes md
  let v (i : Nat) := x.getD i 0
  let gi (n : Nat) : Option Nat := (inj.findIdx? (· == n)).map (N + B + ·)
  let vs := mreg d MODEL.VIRT_SIGMA
  let ms := (usedMeas w removed).filterMap fun e =>
    let (i, r, z, sub) := e
    match r.kind with
    | 0 => some (measRow d i r z sub (v r.obj) [(r.obj, f64One)])
    | 1 => some (measRow d i r z sub (v (N + r.obj)) [(N + r.obj, f64One)])
    | 2 => (gi r.obj).map fun k => measRow d i r z sub (v k) [(k, f64One)]
    | 4 => (md.branches[r.obj]?).map fun b => measRow d i r z sub (f64Sub (v b.fr) (v b.dst)) [(b.fr, f64One), (b.dst, f64MinusOne)]
    | _ => none
  let bz := md.branches.zipIdx
  let bal := (List.range N).map fun n =>
    let ins := (bz.filter fun e => e.1.dst == n).map (N + ·.2)
    let outs := (bz.filter fun e => e.1.fr == n).map (N + ·.2)
    let g := gi n
    let c := f64Sub (f64Sum (ins.map v)) (f64Sum (outs.map v))
    let c := match g with
      | some k => f64Sub c (v k)
      | none => c
    virtRow vs c (ins.map (·, f64One) ++ outs.map (·, f64MinusOne) ++ (g.map (·, f64MinusOne)).toList)
  let laws := bz.filterMap fun e =>
    let (b, i) := e
    let m := v (N + i)
    if bitOf b.flags 1 then some (virtRow vs m [(N + i, f64One)])
    else match openingOf w b with
      | none => none
      | some o =>
        let o2 := f64Mul o o
        let k := f64OfF32 b.k
        let z (n : Nat) := match md.nodes[n]? with
          | some r => f64OfF32 r.elev
          | none => 0
        let head := f64Div (f64Mul (f64Mul (mreg d MODEL.RHO_REF) f64G0) (f64Sub (z b.fr) (z b.dst))) (f64OfInt 1000)
        let loss := f64Div (f64Mul (f64Mul k m) (f64Abs m)) o2
        let dm := f64Div (f64Mul (f64Mul (f64OfInt 2) k) (f64Max (f64Abs m) (mreg d MODEL.M_ZERO))) o2
        some (virtRow vs (f64Sub (f64Add (f64Sub (v b.fr) (v b.dst)) head) loss) [(b.fr, f64One), (b.dst, f64MinusOne), (N + i, f64Neg dm)])
  ms ++ bal ++ laws

/-- exp(−U L / (|m| c)), 1 for a branch without loss (R338, R349). -/
def decay (d : Dev) (b : BranchRec) (m : Nat) : Nat :=
  let ul := f64Mul (f64OfF32 b.u) (f64OfF32 b.len)
  if ul = 0 then f64One else f64Exp (f64Neg (f64Div ul (f64Mul (f64Abs m) (cHeat d))))

/-- The inflows of node n: branch index, record, upstream node. -/
def inflows (md : NetModel) (m : Nat → Nat) (n : Nat) : List (Nat × BranchRec × Nat) :=
  md.branches.zipIdx.filterMap fun e =>
    let (b, i) := e
    if b.dst = n ∧ f64Lt 0 (m i) then some (i, b, b.fr) else if b.fr = n ∧ f64Lt (m i) 0 then some (i, b, b.dst) else none

/-- The thermal equations at temperatures T, for the flows m (R338). -/
def thermRows (d : Dev) (w : EstWin) (m : Nat → Nat) (T : List Nat) : List EqRow :=
  let md := w.model
  let v (i : Nat) := T.getD i 0
  let ms := (usedMeas w []).filterMap fun e => if e.2.1.kind = 3 then some (measRow d e.1 e.2.1 e.2.2.1 e.2.2.2 (v e.2.1.obj) [(e.2.1.obj, f64One)]) else none
  let mix := md.nodes.zipIdx.filterMap fun e =>
    let (nd, n) := e
    let l := inflows md m n
    let S := f64Sum (l.map fun q => f64Abs (m q.1))
    if 1 < nd.role ∨ f64Le (mreg d MODEL.M_ZERO) S = false ∨ l = [] then none
    else
      let term (q : Nat × BranchRec × Nat) :=
        let tg := groundOf d w q.2.1
        f64Mul (f64Abs (m q.1)) (f64Add tg (f64Mul (f64Sub (v q.2.2) tg) (decay d q.2.1 (m q.1))))
      let col (q : Nat × BranchRec × Nat) := (q.2.2, f64Neg (f64Div (f64Mul (f64Abs (m q.1)) (decay d q.2.1 (m q.1))) S))
      some (virtRow (mreg d MODEL.MIX_SIGMA) (f64Sub (v n) (f64Div (f64Sum (l.map term)) S)) ((n, f64One) :: l.map col))
  ms ++ mix

/-! ### Gauss–Newton and the bad-data test (R343, R345, R347) -/

/-- Put (rN, index, columns) into a list of falling rN. -/
def insertRn (x : Nat × Nat × List Nat) : List (Nat × Nat × List Nat) → List (Nat × Nat × List Nat)
  | [] => [x]
  | y :: ys => if f64Lt y.1 x.1 then x :: y :: ys else y :: insertRn x ys

/-- A round of the test (R345): rN by measurement, critical measurements, removals; `room` removals are left in this tick. Derivatives are those of
the factor, residuals those of the new state. -/
def badRound (d : Dev) (ps : List Pivot) (room : Nat) (rows after : List EqRow) : List (Nat × Nat) × List Nat × List Nat :=
  let thr := f64Div (f64OfInt (d.rd MODEL.EST_BD.BD_THR)) (f64OfInt 10)
  let go := (rows.zip after).filterMap fun e => match e.1.meas with
    | none => none
    | some k =>
      let om := f64Sub e.1.sig2 (lsDiag ps e.1.cols)
      if f64Le om (f64Div e.1.sig2 (f64OfInt 1000000)) then some (k, none, ([] : List Nat))
      else some (k, some (f64Div (f64Abs e.2.r) (f64Sqrt om)), e.1.cols.map (·.1))
  let rn := go.filterMap fun e => e.2.1.map (e.1, ·)
  let crit := go.filterMap fun e => if e.2.1.isNone then some e.1 else none
  let cand := (go.filterMap fun e => e.2.1.map (·, e.1, e.2.2)).filter fun e => f64Lt thr e.1
  let sorted := cand.foldl (fun l e => insertRn e l) []
  let pick := sorted.foldl (fun (acc : List Nat × List Nat) e =>
    if acc.1.length < room ∧ (e.2.2.any acc.2.contains) = false then (acc.1 ++ [e.2.1], acc.2 ++ e.2.2) else acc) ([], [])
  (rn, crit, pick.1)

/-- The estimate in progress. `status`: 0 converged, 0x0712 diverged. -/
structure EstRun where
  x : List Nat
  it : Nat := 0
  grew : Bool := false
  removed : List Nat := []
  dx : Nat := f64Inf false
  j : Nat := 0
  status : Option Nat := none
  unobs : List Nat := []
  rn : List (Nat × Nat) := []
  crit : List Nat := []
deriving DecidableEq, Repr

/-- One iteration of R343. -/
def estIter (d : Dev) (w : EstWin) (e : EstRun) : EstRun :=
  if e.status.isSome then e
  else
    let n := hydStates w.model
    let rows := hydRows d w e.removed e.x
    let raw := rows.map EqRow.raw
    let ps := lsFactor w.model.order raw n
    let un := lsUnobs ps n
    let step := lsStep ps raw n
    let x := e.x.zipIdx.map fun s => f64Add s.1 (step.getD s.2 0)
    let after := hydRows d w e.removed x
    let j := costOf after
    let big := f64MaxAbs ((List.range n).map fun i => step.getD i 0)
    let grew := f64Lt (costOf rows) j
    let e : EstRun := { e with x := x, it := e.it + 1, dx := big, j := j, unobs := un, grew := grew, status := if grew && e.grew then some 0x0712 else none }
    if e.status.isSome ∨ f64Le big (mreg d MODEL.TOL_X) = false then e
    else if d.rd MODEL.EST_BD.BD_THR = 0 then { e with status := some 0 }
    else
      let (rn, crit, out) := badRound d ps (d.rd MODEL.EST_BD.BD_MAX - e.removed.length) rows after
      { e with rn := rn, crit := crit, removed := e.removed ++ out, status := if out = [] then some 0 else none }

/-- At most k iterations. -/
def estRun (d : Dev) (w : EstWin) : Nat → EstRun → EstRun
  | 0, e => e
  | k + 1, e => estRun d w k (estIter d w e)

/-- The default state of a model, with g at 0 (R343). -/
def defaultPoint (m : NetModel) : NetState :=
  { p := m.nodes.map (·.dfltP), t := m.nodes.map (·.dfltT), g := m.nodes.map fun _ => 0, m := m.branches.map (·.dflt) }

/-- The start point of the tick's estimate. -/
def startPoint (d : Dev) (m : NetModel) : NetState := match d.model.point with
  | some (id, p) => if id = m.id then p else defaultPoint m
  | none => defaultPoint m

/-- The hydraulic state vector of a point. -/
def hydVec (m : NetModel) (p : NetState) : List Nat := (p.p ++ p.m ++ (injNodes m).map fun n => p.g.getD n 0).map f64OfF32

/-- The thermal solution with the flows of a hydraulic one: temperatures, the unobservable ones, and its round of the test. -/
def thermal (d : Dev) (w : EstWin) (x : List Nat) (room : Nat) (T : List Nat) : List Nat × List Nat × List (Nat × Nat) × List Nat × List Nat :=
  let N := w.model.nodes.length
  let m (i : Nat) := x.getD (N + i) 0
  let rows := thermRows d w m T
  let raw := rows.map EqRow.raw
  let ps := lsFactor [] raw N
  let un := lsUnobs ps N
  let step := lsStep ps raw N
  let T' := T.zipIdx.map fun s => if un.contains s.2 then s.1 else f64Add s.1 (step.getD s.2 0)
  let (rn, crit, out) := if d.rd MODEL.EST_BD.BD_THR = 0 then ([], [], []) else badRound d ps room rows (thermRows d w m T')
  (T', un, rn, crit, out)

/-! ### EST_STATE (R344, R346 to R348) -/

/-- What is published. -/
structure EstPub where
  valid : Bool
  status : Nat
  st : NetState
  it : Nat := 0
  j : Nat := 0
  removed : List Nat := []
  /-- Unobservable states: hydraulic ones by index of their vector, and nodes without temperature. -/
  unobs : List Nat := []
  unT : List Nat := []
  rn : List (Nat × Nat) := []
  crit : List Nat := []
  tempOld : Bool := false
deriving DecidableEq, Repr

/-- The body of EST_STATE (R348). -/
def estBody (d : Dev) (w : EstWin) (e : EstPub) : List Byte :=
  let md := w.model
  let used := (usedMeas w e.removed).map (·.1)
  let measured (k n : Nat) : Bool := md.meas.zipIdx.any fun r => r.1.kind == k && r.1.obj == n && used.contains r.2
  let f (l : List Nat) (i : Nat) := l.getD i 0
  let big := (e.rn.filter fun r => !e.removed.contains r.1).foldl (fun (b : Nat × Nat) r => if f64Lt b.1 r.2 then (r.2, r.1) else b) (0, 0)
  let states := hydStates md + md.nodes.length
  let summary := toBytes 4 md.id ++ toBytes 2 e.status ++ toBytes 1 e.it ++ toBytes 1 (min 255 e.removed.length) ++ toBytes 4 (f32OfF64 e.j) ++ toBytes 4 (wrapI 32 ((used.length : Int) - states)) ++
    toBytes 4 used.length ++ toBytes 2 (min 65535 (e.unobs.length + e.unT.length)) ++ toBytes 1 (b2n e.tempOld) ++ toBytes 1 0 ++ toBytes 4 ((d.up - w.gatherUp) / 1000) ++
    toBytes 4 (f32OfF64 big.1) ++ toBytes 4 big.2 ++ List.replicate 28 0
  let nodes := (List.range md.nodes.length).flatMap fun n =>
    toBytes 4 (f e.st.p n) ++ toBytes 4 (f e.st.t n) ++ toBytes 4 (f e.st.g n) ++
      toBytes 1 (b2n (e.unobs.contains n) + 2 * b2n (e.unT.contains n) + 4 * b2n (measured 0 n) + 8 * b2n (measured 3 n)) ++ List.replicate 3 0
  let branches := md.branches.zipIdx.flatMap fun q =>
    let (b, i) := q
    let m := f e.st.m i
    let neg := f32Lt m 0
    let tg := groundOf d w b
    let up := f64OfF32 (f e.st.t (if neg then b.dst else b.fr))
    let out := f64Add tg (f64Mul (f64Sub up tg) (decay d b (f64OfF32 m)))
    toBytes 4 m ++ toBytes 4 (f32OfF64 out) ++ toBytes 4 (f32OfF64 (f64Sub (f64OfF32 (f e.st.p b.fr)) (f64OfF32 (f e.st.p b.dst)))) ++
      toBytes 1 (b2n (e.unobs.contains (md.nodes.length + i)) + 2 * b2n (match d.model.lastM[i]? with
        | some l => f32Lt l 0 != neg
        | none => false) + 4 * b2n (f32Lt (f32Abs m) (d.rd MODEL.M_ZERO))) ++ List.replicate 3 0
  let meas := md.meas.zipIdx.flatMap fun q =>
    let (r, i) := q
    let rn := match e.rn.find? (fun a => a.1 == i) with
      | some a => if used.contains i then f32OfF64 a.2 else f32NaN
      | none => f32NaN
    toBytes 4 rn ++ toBytes 1 (b2n (used.contains i) + 2 * b2n (e.removed.contains i) + 4 * b2n ((w.val i).isNone) + 8 * b2n (d.model.quar.contains r.tag) +
      16 * b2n (match w.val i with
        | some v => v.2
        | none => false) + 32 * b2n (e.crit.contains i)) ++ List.replicate 3 0
  summary ++ nodes ++ branches ++ meas

/-- QUAR: the active model's measurements in quarantine (R346). -/
def quarCount (d : Dev) : Dev := match d.model.active with
  | some m => d.wr MODEL.EST_QUAR.QUAR (m.meas.filter fun r => d.model.quar.contains r.tag).length
  | none => d.wr MODEL.EST_QUAR.QUAR 0

/-- Count a measurement's run of BAD ticks and quarantine it at BD_PERSIST (R346). -/
def badTick (removed : List Nat) (e : MeasRec × Nat) (d : Dev) : Dev :=
  if ¬ removed.contains e.2 then onModel (fun k => { k with badRun := del e.1.tag k.badRun }) d
  else
    let n := lookD d.model.badRun e.1.tag 0 + 1
    let lim := d.rd MODEL.EST_BD.BD_PERSIST
    if lim ≠ 0 ∧ lim ≤ n then
      let d := onModel (fun k => { k with badRun := del e.1.tag k.badRun, quar := k.quar ++ [e.1.tag] }) d
      raiseEv 105 e.2 e.1.tag (quarCount d)
    else onModel (fun k => { k with badRun := ins e.1.tag n k.badRun }) d

/-- Publish EST_STATE with its registers and events; the tick's window closes (R344 to R348, R357). A MODEL_ACTIVATE that waits for it completes. -/
def estPublish (w : EstWin) (e : EstPub) (d : Dev) : Dev :=
  let d := publish 0x10 d.model.tick e.valid w.stale (estBody d w e) d
  let un := e.unobs ++ e.unT.map (hydStates w.model + ·)
  let d := ((((d.wr MODEL.EST_STAT.STATUS e.status).wr MODEL.EST_STAT.ITER (min 15 e.it)).wr MODEL.EST_INFO.BAD (min 255 e.removed.length)).wr MODEL.EST_INFO.UNOBS (min 65535 un.length))
  let d := if e.valid then d else d.bump MODEL.EST_QUAR.NONCONV
  let changed := un != d.model.lastUnobs
  let d := onModel (fun k => { k with win := none, estDone := true, lastM := e.st.m, lastUnobs := un, point := if e.valid then some (w.model.id, e.st) else k.point }) d
  let d := if e.status ≠ 0 then raiseEv 104 e.status 0 d else d
  let d := if changed then raiseEv 106 un.length 0 d else d
  let run := if e.status = 0x0712 ∨ e.status = 0x0713 then d.model.badEst + 1 else 0
  let d := onModel (fun k => { k with badEst := run }) d
  let d := if run = 10 then raise 150 0 d else d
  let d := w.model.meas.zipIdx.foldl (fun (d : Dev) q => badTick e.removed q d) d
  match d.model.carried with
  | some (a, b, c) =>
    let d := onModel (fun k => { k with carried := none }) d
    finishKindWith (.other 51 0) stOK [a, b, c] d
  | none => d

/-- The unobservable states as last published, hydraulic and thermal: they stand while a tick makes no new set (R347). -/
def oldUnobs (d : Dev) (m : NetModel) : List Nat := d.model.lastUnobs.filter fun i => decide (i < hydStates m)
def oldUnobsT (d : Dev) (m : NetModel) : List Nat := (d.model.lastUnobs.filter fun i => decide (hydStates m ≤ i)).map (· - hydStates m)

/-- What a run of the loop publishes as VALID 1: unobservable states keep their start values (R347). -/
def estResult (d : Dev) (w : EstWin) (r : EstRun) (status : Nat) (withT : Bool) : EstPub :=
  let md := w.model
  let N := md.nodes.length
  let B := md.branches.length
  let p0 := startPoint d md
  let x0 := hydVec md p0
  let x := r.x.zipIdx.map fun s => if r.unobs.contains s.2 then x0.getD s.2 0 else s.1
  let inj := injNodes md
  let (T, unT, rnT, critT, outT) := if withT then thermal d w x (d.rd MODEL.EST_BD.BD_MAX - r.removed.length) (p0.t.map f64OfF32) else (p0.t.map f64OfF32, oldUnobsT d md, [], [], [])
  let o (i : Nat) := f32OfF64 (x.getD i 0)
  { valid := true, status := status, it := r.it, j := r.j, removed := r.removed ++ outT, rn := r.rn ++ rnT, crit := r.crit ++ critT, tempOld := !withT,
    st := { p := (List.range N).map o, m := (List.range B).map fun i => o (N + i), t := T.map f32OfF64, g := (List.range N).map fun n => match inj.findIdx? (· == n) with
      | some k => o (N + B + k)
      | none => 0 },
    unobs := r.unobs, unT := unT }

/-- The body that holds the start point, with a status (R344). -/
def estFailed (d : Dev) (w : EstWin) (r : EstRun) (status : Nat) : EstPub :=
  { valid := false, status := status, st := startPoint d w.model, it := r.it, j := r.j, removed := r.removed, rn := r.rn, crit := r.crit,
    unobs := if r.it = 0 then oldUnobs d w.model else r.unobs, unT := oldUnobsT d w.model }

/-! ### The estimator's and the engine's times (R343, R349, R355) -/

/-- A tile count of PART_CFG; one above 8 acts as 8 (R392). -/
def tileCfg (d : Dev) (f : FRef) : Nat := min 8 (d.rd f)
/-- Solver tiles in service. -/
def tilesIn (d : Dev) : Nat := 8 - ((List.range 8).filter (bitOf (d.rd SOLV.TILE_STAT.OUT))).length
/-- Tiles of partition E, then F, then D: each the count configured for it, from those that are left (R370, R372). -/
def eTiles (d : Dev) : Nat := min (tileCfg d SOLV.PART_CFG.E_TILES) (tilesIn d)
def fTiles (d : Dev) : Nat := min (tileCfg d SOLV.PART_CFG.F_TILES) (tilesIn d - eTiles d)
def dTiles (d : Dev) : Nat := min (tileCfg d SOLV.PART_CFG.D_TILES) (tilesIn d - eTiles d - fTiles d)

/-- The estimator can run: RUN or KEEP-WARM, SOLV on, enabled, partition E not OFF, a model active (R355, R370). -/
def estRuns (d : Dev) : Bool :=
  (opState d == 3 || opState d == 4) && islandOn d 6 && d.flag MODEL.EST_CFG.EN && d.model.active.isSome && eTiles d != 0
/-- The transport delay engine can run. -/
def tdeRuns (d : Dev) : Bool := (opState d == 3 || opState d == 4) && islandOn d 7 && d.flag MODEL.TDE_CFG.EN && d.model.active.isSome

/-- The registers that show the active and the staged model (R359). -/
def modelRegs (d : Dev) : Dev :=
  let a : NetModel := d.model.active.getD {}
  let s : NetModel := d.model.staged.getD {}
  ((((d.wr MODEL.MODEL_ID.ACTIVE a.id).wr MODEL.STAGED_ID.STAGED s.id).wr MODEL.MODEL_CNT0.BRANCHES a.branches.length).wr MODEL.MODEL_CNT0.NODES a.nodes.length).wr MODEL.MODEL_CNT1.MEAS a.meas.length

end Sys2Proof.Machine
end

