-- ==== Sys2Proof/Machine/SolvOps.lean ====
section
/-! DEFINITION. The dispatch solver (spec/14): structures and their checks, deltas and feed links, the take with its warm start, the interior-point
loop with its tests, and deliveries. All solver arithmetic is binary64, in the order in which the manual writes it (log 34). -/
namespace Sys2Proof.Machine
open Sys2Proof

def onSolv (f : SolvSt → SolvSt) (d : Dev) : Dev := { d with solv := f d.solv }
def partSt (d : Dev) (p : Nat) : PartSt := lookD d.solv.part p {}
def setPart (p : Nat) (x : PartSt) (d : Dev) : Dev := onSolv (fun s => { s with part := ins p x s.part }) d
/-- A register of a partition as binary64. -/
def preg (d : Dev) (f : Nat → FRef) (p : Nat) : Nat := f64OfF32 (d.rd (f p))

/-! ### Structures (R360 to R364, R367) -/

/-- An image's sizes: n, m, nonzeros of P and A, supernodes, feed links; and the flags byte. -/
structure ImgDims where
  n : Nat
  m : Nat
  np : Nat
  na : Nat
  sn : Nat
  fl : Nat
  flags : Nat
deriving DecidableEq, Repr

/-- The dimensions a header gives (R363). -/
def imgDims (b : List Byte) : ImgDims :=
  { n := fieldAt b 8 4, m := fieldAt b 12 4, np := fieldAt b 16 4, na := fieldAt b 20 4, sn := fieldAt b 32 4, fl := fieldAt b 36 4, flags := fieldAt b 3 1 }

/-- The next multiple of 8. -/
def align8 (x : Nat) : Nat := (x + 7) / 8 * 8
/-- Bytes of a matrix section. -/
def cscLen (n nnz : Nat) : Nat := 4 * (n + 1) + 12 * nnz
/-- Where each section begins, and where the image ends (R363). -/
def sectionAt (k : ImgDims) : List Nat :=
  let lens := [16 * k.n, 16 * k.m, 8 * k.n, 16 * k.m, cscLen k.n k.np, cscLen k.n k.na, if bitOf k.flags 0 then 4 * (k.n + k.m) else 0, if bitOf k.flags 1 then 16 * k.sn else 0, 32 * k.fl]
  (lens.foldl (fun (acc : Nat × List Nat) x => (align8 (acc.1 + x), acc.2 ++ [align8 (acc.1 + x)])) (128, [128])).2

/-- n binary64 or 4-byte values from an offset. -/
def valsAt (w : Nat) (b : List Byte) (off n : Nat) : List Nat := (List.range n).map fun i => fieldAt b (off + w * i) w

/-- A matrix section. -/
def cscAt (b : List Byte) (off n nnz : Nat) : Csc :=
  { start := valsAt 4 b off (n + 1), idx := valsAt 4 b (off + 4 * (n + 1)) nnz, val := valsAt 8 b (off + 4 * (n + 1) + 4 * nnz) nnz }

/-- A feed link record (R367). -/
def feedRec (b : List Byte) : FeedLink :=
  { kind := fieldAt b 0 1, src := fieldAt b 1 1, idx := fieldAt b 4 4, row := fieldAt b 8 4, series := fieldAt b 12 4, kmin := fieldAt b 16 2, kmax := fieldAt b 18 2, gain := fieldAt b 20 4, ofs := fieldAt b 24 4, rsvd := fieldAt b 2 2 == 0 && fieldAt b 28 4 == 0 }

/-- The structure of an image. -/
def parseStruct (b : List Byte) : QpStruct :=
  let k := imgDims b
  let s := sectionAt k
  let o (i : Nat) := s.getD i 0
  { part := fieldAt b 2 1, id := fieldAt b 4 4, horizon := fieldAt b 24 2, stepS := fieldAt b 28 4, dense := bitOf k.flags 2, factor := fieldAt b 40 4, flops := fieldAt b 44 8,
    vars := (List.range k.n).map (fun i => (fieldAt b (o 0 + 16 * i) 4, fieldAt b (o 0 + 16 * i + 8) 8)),
    rows := (List.range k.m).map (fun i => (fieldAt b (o 1 + 16 * i) 4, bitOf (fieldAt b (o 1 + 16 * i + 4) 1) 0, fieldAt b (o 1 + 16 * i + 8) 8)),
    q := valsAt 8 b (o 2) k.n, l := valsAt 8 b (o 3) k.m, u := valsAt 8 b (o 3 + 8 * k.m) k.m, p := cscAt b (o 4) k.n k.np, a := cscAt b (o 5) k.n k.na,
    order := if bitOf k.flags 0 then valsAt 4 b (o 6) (k.n + k.m) else [],
    tree := if bitOf k.flags 1 then (List.range k.sn).map (fun i => (fieldAt b (o 7 + 16 * i) 4, fieldAt b (o 7 + 16 * i + 4) 4, fieldAt b (o 7 + 16 * i + 8) 4)) else [],
    feeds := (List.range k.fl).map fun i => feedRec (b.drop (o 8 + 32 * i)) }

/-- The step field of a tag, 0x3FF for a step-free member, and its series (R362). -/
def tagStep (t : Nat) : Nat := t % 1024
def tagSeries (t : Nat) : Nat := t / 1024
def stepFree (t : Nat) : Bool := tagStep t == 1023

/-- A list of tags' first member that breaks R362. -/
def tagFault (stepS : Nat) (l : List Nat) : Option Nat :=
  firstBad (fun i t => t == 0 || (l.take i).contains t || (stepS == 0 && !stepFree t) || (!stepFree t && tagStep t != 0 && !l.contains (t - 1))) l

/-- A value that l may not hold, and one that u may not hold (R364). -/
def badLower (v : Nat) : Bool := f64IsNaN v || v == f64Inf false
def badUpper (v : Nat) : Bool := f64IsNaN v || v == f64Inf true

/-- A matrix section's first fault: an index out of range or a value that is not finite. -/
def cscFault (c : Csc) (rows : Nat) (upper : Bool) : Option Nat :=
  if c.start.head? ≠ some 0 ∨ c.start.getLast? ≠ some c.idx.length ∨ (c.start.zip (c.start.drop 1)).any (fun e => decide (e.2 < e.1)) then some 0
  else firstBad (fun i r => decide (rows ≤ r) || (upper && decide (cscCol c i < r)) || !f64Finite (c.val.getD i 0)) c.idx
/-- The position of an entry of a matrix. -/
def cscPos (c : Csc) (row col : Nat) : Option Nat :=
  ((List.range (c.start.getD (col + 1) 0 - c.start.getD col 0)).map (c.start.getD col 0 + ·)).find? fun i => c.idx[i]? == some row

/-- The variable of a tag. -/
def varOf (st : QpStruct) (t : Nat) : Option Nat := st.vars.findIdx? fun v => v.1 == t
/-- The window of a delay link: the variables of its series at steps t − KMIN to t − KMAX − 1, a step before 0 taken as step 0; none for one that
the structure lacks (R367). -/
def linkVars (st : QpStruct) (f : FeedLink) : List (Option Nat) :=
  let t := match st.rows[f.row]? with
    | some r => tagStep r.1
    | none => 0
  (List.range (f.kmax + 2 - f.kmin)).map fun i => varOf st (f.series / 1024 * 1024 + (t - (f.kmin + i)))

/-- A feed link that breaks R367. -/
def feedBad (st : QpStruct) (f : FeedLink) : Bool :=
  !f.rsvd || decide (f.kind < 1) || decide (2 < f.kind) || decide (st.rows.length ≤ f.row) ||
    (if f.kind = 1 then decide (1 < f.src) || decide (f.kmax < f.kmin) || decide (64 < f.kmax) ||
        (match st.rows[f.row]? with
          | some r => stepFree r.1
          | none => true) ||
        (linkVars st f).any fun v => match v with
          | some j => (cscPos st.a f.row j).isNone
          | none => true
      else decide (3 < f.src) || f.series != 0)

/-- What is wrong with an image (R364): section, 0 for the header, and record. -/
def structFault (p : Nat) (b : List Byte) (st : QpStruct) : Option (Nat × Nat) :=
  let k := imgDims b
  let dim := st.vars.length + st.rows.length
  let hdr : Bool := fieldAt b 0 2 != 1 || st.part != p || st.id == 0 || decide (7 < k.flags) || (st.dense && (p == 1 || k.flags != 4)) || (!bitOf k.flags 1 && (st.factor != 0 || fieldAt b 44 8 != 0)) ||
    st.horizon == 0 || decide (1023 < st.horizon) || (st.stepS != 0 && (decide (st.stepS < 10) || decide (86400 < st.stepS))) || fieldAt b 26 2 != 0 || fieldAt b 52 76 != 0
  let o (i : Nat) := (sectionAt k).getD i 0
  let rsvd (sec off len : Nat) := firstBad (fun i (_ : Nat) => fieldAt b (o sec + 16 * i + off) len != 0)
  if hdr then some (0, 0)
  else match (tagFault st.stepS (st.vars.map (·.1))).or (rsvd 0 4 4 (List.range k.n)) with
  | some i => some (1, i)
  | none => match (tagFault st.stepS (st.rows.map (·.1))).or (firstBad (fun i (_ : Nat) => decide (1 < fieldAt b (o 1 + 16 * i + 4) 4)) (List.range k.m)) with
  | some i => some (2, i)
  | none => match firstBad (fun _ v => !f64Finite v) st.q with
  | some i => some (3, i)
  | none => match firstBad (fun i v => badLower v || badUpper (st.u.getD i 0)) st.l with
  | some i => some (4, i)
  | none => match cscFault st.p st.vars.length true with
  | some i => some (5, i)
  | none => match cscFault st.a st.rows.length false with
  | some i => some (6, i)
  | none => match firstBad (fun i v => decide (dim ≤ v) || (st.order.take i).contains v) st.order with
  | some i => some (7, i)
  | none => match (firstBad (fun _ (t : Nat × Nat × Nat) => decide (t.2.1 < t.1) || decide (dim ≤ t.2.1) || (t.2.2 != 0xFFFFFFFF && decide (st.tree.length ≤ t.2.2))) st.tree).or (rsvd 7 12 4 (List.range st.tree.length)) with
  | some i => some (8, i)
  | none => (firstBad (fun _ f => feedBad st f) st.feeds).map fun i => (9, i)

/-- The factor's nonzeros (R361, R364): dense, from Skofin, or the application cores' (log 33). -/
def factorOf (st : QpStruct) : Nat :=
  let k := st.vars.length + st.rows.length
  if st.dense then k * (k + 1) / 2
  else if st.tree ≠ [] ∧ st.order ≠ [] then st.factor
  else Config.factorNnz [st.p.start, st.p.idx, st.a.start, st.a.idx, st.order]

/-- The memory in KiB a structure's factor needs, with 1 MiB of working space (R364). -/
def structNeed (st : QpStruct) : Nat := (8 * factorOf st + 1023) / 1024 + 1024

/-- The structure breaks R361, or its factor does not fit: D's has the memory die, F's needs SRAM tiles of 4 MiB. -/
def structTooBig (sramF : Nat) (st : QpStruct) : Bool :=
  let n := st.vars.length
  let m := st.rows.length
  let nz := st.p.idx.length + st.a.idx.length
  if st.part = 1 then decide (262144 < n) || decide (524288 < m) || decide (8388608 < nz) || decide (65536 < st.feeds.length) || decide (100663296 < factorOf st)
  else decide (512 < n) || decide (1024 < m) || decide ((n + 1) * n / 2 + n * m < nz) || decide (1024 < st.feeds.length) || decide ((n + m) * (n + m + 1) / 2 < factorOf st) || decide (sramF * 4096 < structNeed st)

/-! ### Deltas (R366) -/

/-- A delta record: target, index, value. -/
def deltaRec (b : List Byte) : Nat × Nat × Nat := (fieldAt b 0 1, fieldAt b 4 4, fieldAt b 8 8)

/-- A delta record that breaks the value rules of R364 for a structure. -/
def deltaBad (st : QpStruct) (r : Nat × Nat × Nat) : Bool :=
  let (t, i, v) := r
  match t with
  | 1 => decide (st.vars.length ≤ i) || !f64Finite v
  | 2 => decide (st.rows.length ≤ i) || badLower v
  | 3 => decide (st.rows.length ≤ i) || badUpper v
  | 4 => decide (st.p.val.length ≤ i) || !f64Finite v
  | 5 => decide (st.a.val.length ≤ i) || !f64Finite v
  | 6 => decide (st.rows.length ≤ i) || !f64Finite v
  | _ => true

/-- Apply one record. -/
def applyDelta (st : QpStruct) (r : Nat × Nat × Nat) : QpStruct :=
  let (t, i, v) := r
  match t with
  | 1 => { st with q := st.q.set i v }
  | 2 => { st with l := st.l.set i v }
  | 3 => { st with u := st.u.set i v }
  | 4 => { st with p := { st.p with val := st.p.val.set i v } }
  | 5 => { st with a := { st.a with val := st.a.val.set i v } }
  | 6 => { st with l := st.l.set i v, u := st.u.set i v }
  | _ => st

/-- The 16-byte records of a body, and whether bytes 1 to 3 of each are 0. -/
def deltaRecs (n : Nat) (b : List Byte) : List (Nat × Nat × Nat) := (chunksOf 16 n b).map deltaRec
def deltaRsvd (n : Nat) (b : List Byte) : List Bool := (chunksOf 16 n b).map fun r => fieldAt r 1 3 == 0

/-! ### Feed links (R367, R368) -/

/-- The records of TDE_PRED's substation part. -/
def tdeSubs (d : Dev) : List (List Byte) :=
  let b := (benchTab d 0x11).current.body
  let n := match d.model.active with
    | some m => m.branches.length
    | none => 0
  let r := b.drop (64 + 16 * n)
  chunksOf 64 (r.length / 64) r

/-- The source value of a link, binary32; none when it is unusable (R368), and when its table is of another model than the active one (log 34). -/
def feedSource (d : Dev) (f : FeedLink) : Option Nat :=
  let tab := if f.kind = 1 then 0x11 else 0x10
  let b := (benchTab d tab).current.body
  let (n, br) := match d.model.active with
    | some m => (m.nodes.length, m.branches.length)
    | none => (0, 0)
  if benchStale d tab 2000000000 ∨ some (fieldAt b 0 4) ≠ d.model.active.map (·.id) then none
  else if f.kind = 1 then
    if f.src = 0 then ((tdeSubs d).find? fun r => fieldAt r 0 2 == f.idx).map fun r => fieldAt r 8 4
    else if f.idx < br then some (fieldAt b (64 + 16 * f.idx) 4) else none
  else if f.src = 3 then
    let o := 64 + 16 * n + 16 * f.idx
    if br ≤ f.idx ∨ bitOf (fieldAt b (o + 12) 1) 0 then none else some (fieldAt b o 4)
  else
    let o := 64 + 16 * f.idx
    if n ≤ f.idx ∨ (f.src < 2 ∧ bitOf (fieldAt b (o + 12) 1) f.src) then none else some (fieldAt b (o + 4 * f.src) 4)

/-- The A entries of a delay link for L = k + φ, one by variable of its window (R367). -/
def delayEntries (st : QpStruct) (f : FeedLink) (k phi : Nat) : QpStruct :=
  let g := f64OfF32 f.gain
  let coef (s : Nat) : Nat := if s = k then f64Mul g (f64Sub f64One phi) else if s = k + 1 then f64Mul g phi else 0
  let win := (linkVars st f).zipIdx.filterMap fun e => e.1.map fun j => (j, coef (f.kmin + e.2))
  ((win.map (·.1)).eraseDups).foldl (fun (s : QpStruct) j => match cscPos s.a f.row j with
    | some i => { s with a := { s.a with val := s.a.val.set i (f64Sum ((win.filter fun e => e.1 == j).map (·.2))) } }
    | none => s) st

/-- Apply feed link number `i`: the structure, and the flags old and clamped. Without a usable source it applies the value it applied last, and
nothing before any (R367, R368). -/
def applyFeed (d : Dev) (st : QpStruct) (f : FeedLink) (i : Nat) : QpStruct × Bool × Bool :=
  let src := feedSource d f
  match src.or f.last with
  | none => (st, true, false)
  | some v =>
    let st := { st with feeds := st.feeds.modify i fun e => { e with last := some v } }
    if f.kind = 2 then
      let x := f64Add (f64Mul (f64OfF32 f.gain) (f64OfF32 v)) (f64OfF32 f.ofs)
      ({ st with l := st.l.set f.row x, u := st.u.set f.row x }, src.isNone, false)
    else
      let L0 := f64Div (f64OfF32 v) (f64OfInt st.stepS)
      let lo := f64OfInt f.kmin
      let hi := f64OfInt f.kmax
      let L := if f64Lt L0 lo then lo else if f64Lt hi L0 then hi else L0
      let k := (f64Floor L).getD f.kmin
      (delayEntries st f k (f64Sub L (f64OfInt k)), src.isNone, src.isSome && (f64Lt L0 lo || f64Lt hi L0))

/-! ### The iterations (R373 to R375) -/

/-- The run of a cycle's iterations: iterate on the scaled problem, iterations, a failed refinement in the last, and how it ended: status, reason. -/
structure IpmRun where
  it : QpIter
  n : Nat := 0
  fail : Bool := false
  stop : Option (Nat × Nat) := none
deriving DecidableEq, Repr

/-- Reason 2: primal infeasible. -/
def primInf (k : Qp) (tol : Nat) (dy : List Nat) : Bool :=
  let ny := f64MaxAbs dy
  let s := f64Sum ((List.range k.m).map fun i =>
    let y := dy.getD i 0
    if f64Lt 0 y then f64Mul (k.u.getD i 0) y else if f64Lt y 0 then f64Mul (k.l.getD i 0) y else 0)
  f64Le (f64MaxAbs (matTVec k.n k.a dy)) (f64Mul tol ny) && f64Lt s (f64Neg (f64Mul tol ny))

/-- Reason 3: dual infeasible. -/
def dualInf (k : Qp) (tol : Nat) (dx : List Nat) : Bool :=
  let t := f64Mul tol (f64MaxAbs dx)
  f64Le (f64MaxAbs (matVec k.n k.p dx)) t && f64Lt (dotP k.q dx) (f64Neg t) &&
    ((matVec k.m k.a dx).zipIdx.all fun e =>
      (!f64Finite (k.u.getD e.2 0) || f64Le e.1 t) && (!f64Finite (k.l.getD e.2 0) || f64Le (f64Neg t) e.1))

/-- The parameters of a partition that an iteration reads; STEP_FRAC acts within 0.5 to 0.9999 (R392). -/
def ipmParams (d : Dev) (p : Nat) : IpmParams :=
  { regX := preg d SOLV.PART.REG_X p, regZ := preg d SOLV.PART.REG_Z p, frac := f64OfF32 (f32Clamp (d.rd (SOLV.PART.STEP_FRAC p)) 0x3F000000 0x3F7FF972), refine := d.rd (SOLV.PART.CTRL.REFINE_MAX p) }

/-- One iteration with its tests: convergence first, then ill-posedness (log 34). -/
def ipmIter (d : Dev) (p : Nat) (st : QpStruct) (k : Qp) (r : IpmRun) : IpmRun :=
  if r.stop.isSome then r
  else
    let (it, dx, dy, fail) := ipmStep (ipmParams d p) st.order k r.it
    let tol := preg d SOLV.PART.TOL_INF p
    let stop :=
      if f64Le (rPrim k it) (preg d SOLV.PART.TOL_P p) && f64Le (rDual k it) (preg d SOLV.PART.TOL_D p) && f64Le (muOf k it) (preg d SOLV.PART.TOL_GAP p) then some (0, 0)
      else if fail && r.fail then some (0x0803, 1)
      else if primInf k tol dy then some (0x0803, 2)
      else if dualInf k tol dx then some (0x0803, 3)
      else none
    { it := it, n := r.n + 1, fail := fail, stop := stop }

/-- At most `n` iterations from a start; bounds crossed after the take end the cycle first (reason 4). -/
def ipmRun (d : Dev) (p : Nat) (st : QpStruct) (k : Qp) : Nat → IpmRun → IpmRun
  | 0, r => r
  | n + 1, r => ipmRun d p st k n (ipmIter d p st k r)
/-- Some row has l > u. -/
def crossed (st : QpStruct) : Bool := (st.l.zip st.u).any fun e => f64Lt e.2 e.1

/-- An iterate on the scaled problem and back. -/
def QpIter.scaleIn (i : QpIter) (dv ev : List Nat) : QpIter :=
  let mul (a b : List Nat) := (a.zip b).map fun e => f64Mul e.1 e.2
  let dvd (a b : List Nat) := (a.zip b).map fun e => f64Div e.1 e.2
  { x := dvd i.x dv, y := dvd i.y ev, z := mul i.z ev, sl := mul i.sl ev, su := mul i.su ev, ll := dvd i.ll ev, lu := dvd i.lu ev }
def QpIter.scaleOut (i : QpIter) (dv ev : List Nat) : QpIter :=
  let mul (a b : List Nat) := (a.zip b).map fun e => f64Mul e.1 e.2
  let dvd (a b : List Nat) := (a.zip b).map fun e => f64Div e.1 e.2
  { x := mul i.x dv, y := mul i.y ev, z := dvd i.z ev, sl := dvd i.sl ev, su := dvd i.su ev, ll := mul i.ll ev, lu := mul i.lu ev }

/-! ### Warm start (R376) -/

/-- A table of values by tag from a source, shifted along its series. -/
def shiftTags (tags : List Nat) (shift : Nat) : List (Nat × Nat) :=
  tags.zipIdx.map fun e =>
    let (t, j) := e
    if stepFree t then (t, j)
    else
      let last := (tags.filter fun o => !stepFree o && tagSeries o == tagSeries t).foldl (fun m o => max m (tagStep o)) 0
      let k := min (tagStep t + shift) last
      (t, (tags.findIdx? (· == tagSeries t * 1024 + k)).getD j)

/-- A source mapped onto a structure by tag: the iterate, and how many variables were kept, new and vanished. -/
def mapSol (st : QpStruct) (s : QpSol) (shift : Nat) : QpIter × Nat × Nat × Nat :=
  let vm := shiftTags s.vtags shift
  let rm := shiftTags s.rtags shift
  let at_ (m : List (Nat × Nat)) (l : List Nat) (t dflt : Nat) : Nat := match m.find? (fun e => e.1 == t) with
    | some e => l.getD e.2 dflt
    | none => dflt
  let row (l : List Nat) := st.rows.map fun r => at_ rm l r.1 0
  let kept := (st.vars.filter fun v => s.vtags.contains v.1).length
  let gone := (s.vtags.filter fun t => !(st.vars.map (·.1)).contains t).length
  ({ x := st.vars.map (fun v => at_ vm s.it.x v.1 v.2), y := st.rows.map (fun r => at_ rm s.it.y r.1 r.2.2), z := row s.it.z, sl := row s.it.sl, su := row s.it.su, ll := row s.it.ll, lu := row s.it.lu },
    kept, st.vars.length - kept, gone)

/-- A value projected into [l, u]. -/
def project (v l u : Nat) : Nat := if f64Lt v l then l else if f64Lt u v then u else v

/-- The cold start (R376). -/
def coldStart (st : QpStruct) : QpIter :=
  let x := st.vars.map (·.2)
  let z := ((matVec st.rows.length (entries st.a) x).zip (st.l.zip st.u)).map fun e => project e.1 e.2.1 e.2.2
  let ones := st.rows.map fun _ => f64One
  { x := x, y := st.rows.map (·.2.2), z := z, sl := ones, su := ones, ll := ones, lu := ones }

/-- WS_PUSH on the inequality rows. -/
def pushIn (st : QpStruct) (w : Nat) (i : QpIter) : QpIter :=
  let f (l : List Nat) := (l.zip (st.l.zip st.u)).map fun e => if f64Cmp e.2.1 e.2.2 = some .eq then e.1 else f64Max e.1 w
  { i with sl := f i.sl, su := f i.su, ll := f i.ll, lu := f i.lu }

/-! ### States of a partition (R370, R387, R388) -/

/-- Tiles of partition p: 0 D, 1 F. -/
def tilesOf (d : Dev) (p : Nat) : Nat := if p = 0 then dTiles d else fTiles d
/-- The shares of the memory die's port in percent: E, F, D (R371). -/
def bwShares (d : Dev) : Nat × Nat × Nat :=
  let e := min 90 (d.rd SOLV.BW_CFG.BW_E)
  let f := min (d.rd SOLV.BW_CFG.BW_F) (90 - e)
  (e, f, 100 - e - f)

/-- Tiles are assigned in the order E, F, D from the lowest that works (R370, R392). -/
def assignTiles (d : Dev) : Dev :=
  let e := eTiles d
  let f := fTiles d
  let w := (List.range 8).filter fun t => !bitOf (d.rd SOLV.TILE_STAT.OUT) t
  let own := w.zipIdx.foldl (fun v (q : Nat × Nat) => v + (if q.2 < e then 1 else if q.2 < e + f then 3 else if q.2 < e + f + dTiles d then 2 else 0) * 4 ^ q.1) 0
  d.wr SOLV.TILE_STAT.OWNER own
/-- TILE_STAT as a word. -/
def tileWord (d : Dev) : Nat := d.rd SOLV.TILE_STAT.OUT * 2 ^ 24 + d.rd SOLV.TILE_STAT.OWNER

/-- The tiles are assigned anew; EV115 when TILE_STAT was another word before (R390). -/
def layTiles (was : Nat) (d : Dev) : Dev :=
  let d := assignTiles d
  if tileWord d = was then d else raiseEv 115 (tileWord d) 0 d

def partState (d : Dev) (p : Nat) : Nat := d.rd (SOLV.PART.STAT.STATE p)
/-- A partition changes state; EV116. -/
def setPartState (p st : Nat) (d : Dev) : Dev := if partState d p = st then d else raiseEv 116 (p + 1) st (d.wr (SOLV.PART.STAT.STATE p) st)
/-- PART[p].STAT as a word. -/
def partWord (d : Dev) (p : Nat) : Nat :=
  partState d p * 2 ^ 29 + d.rd (SOLV.PART.STAT.PENDING_REARM p) * 2 ^ 28 + d.rd (SOLV.PART.STAT.MINOFF p) * 2 ^ 27 + d.rd (SOLV.PART.STAT.ITER p) * 2 ^ 8 + d.rd (SOLV.PART.STAT.PENDING p)
/-- The partition may be on. -/
def partCanRun (d : Dev) (p : Nat) : Bool :=
  (opState d == 3 || opState d == 4) && islandOn d 6 && d.flag (SOLV.PART.CTRL.EN p) && tilesOf d p != 0 && !d.flag (SOLV.PART.STAT.MINOFF p)
/-- OFF or IDLE follows what the partition may do. -/
def settlePart (p : Nat) (d : Dev) : Dev :=
  if partCanRun d p then (if partState d p = 0 then finishKindWith (.solvPart p true) stOK [partWord d p] (setPartState p 1 d) else d)
  else if partState d p = 0 then d
  else setPartState p 0 (setPart p { partSt d p with cycle := none, planTick := none } d)
def settleSolv (d : Dev) : Dev := settlePart 1 (settlePart 0 d)
/-- PENDING of a partition. -/
def pendCount (p : Nat) (d : Dev) : Dev := d.wr (SOLV.PART.STAT.PENDING p) (min 255 (partSt d p).deltas.length)
/-- The identifiers of a partition. -/
def partIds (p : Nat) (d : Dev) : Dev :=
  let x := partSt d p
  let id (s : Option QpStruct) := match s with
    | some q => q.id
    | none => 0
  (d.wr (SOLV.PART.ACTIVE p) (id x.active)).wr (SOLV.PART.STAGED p) (id x.staged)

/-! ### Deliveries (R379, R380, R382) -/

/-- What is delivered. `it` is unscaled; none for NaN in every value. -/
structure Delivery where
  status : Nat
  reason : Nat := 0
  iters : Nat
  it : Option QpIter
  limit : Bool := false
deriving DecidableEq, Repr

/-- The objective ½xᵀPx + qᵀx. -/
def objective (k : Qp) (x : List Nat) : Nat := f64Add (f64Div (dotP x (matVec k.n k.p x)) (f64OfInt 2)) (dotP k.q x)

/-- Bytes 14 and 15 of the summary (R382). -/
def solBits (d : Dev) (c : QpCycle) (v : Delivery) : Nat :=
  b2n c.delayOld + 2 * b2n c.delayClamp + 4 * b2n c.stateOld + 8 * b2n c.planBad + 16 * b2n v.limit + 32 * b2n c.noShift + 64 * b2n c.cold + 128 * b2n c.changed +
    256 * b2n (d.flag PWR.THERM_STAT.SOLV_STEP)

/-- The body of DISP_TRAJ or FAST_SOL (R382). -/
def solBody (d : Dev) (p : Nat) (st : QpStruct) (c : QpCycle) (v : Delivery) : List Byte :=
  let k := qpOf st
  let ks := k.scaled c.dvec c.evec
  let nan32 := f32NaN
  let (rp, rd, mu, ob) := match v.it with
    | some i =>
      let s := i.scaleIn c.dvec c.evec
      (f32OfF64 (rPrim ks s), f32OfF64 (rDual ks s), f32OfF64 (muOf ks s), f32OfF64 (objective k i.x))
    | none => (nan32, nan32, nan32, nan32)
  let xs := match v.it with
    | some i => i.x.map f32OfF64
    | none => st.vars.map fun _ => nan32
  let ys := match v.it with
    | some i => i.y.map f32OfF64
    | none => st.rows.map fun _ => nan32
  toBytes 4 st.id ++ toBytes 2 v.status ++ toBytes 1 v.iters ++ toBytes 1 v.reason ++ toBytes 4 (c.base % 2 ^ 32) ++ toBytes 2 c.shift ++ toBytes 2 (solBits d c v) ++ toBytes 4 c.kept ++ toBytes 4 c.new ++ toBytes 4 c.vanished ++
    toBytes 4 rp ++ toBytes 4 rd ++ toBytes 4 mu ++ toBytes 4 ob ++ toBytes 4 ((d.up - c.takeUp) / 1000) ++ toBytes 4 c.records ++ List.replicate 12 0 ++ wordsToBytes xs ++
    (if d.flag (SOLV.PART.CTRL.PUB_DUALS p) then wordsToBytes ys else [])

/-- A solution to keep. -/
def solOf (st : QpStruct) (c : QpCycle) (n : Nat) (i : QpIter) : QpSol :=
  { vtags := st.vars.map (·.1), rtags := st.rows.map (·.1), it := i, base := c.base, stepS := st.stepS, cycle := n }

/-- The shift of a source at a base, and NO_SHIFT (R376, R377). -/
def shiftOf (st : QpStruct) (base : Nat) (s : QpSol) : Nat × Bool :=
  if s.stepS ≠ st.stepS then (0, true) else if st.stepS = 0 then (0, false) else ((base - s.base) / st.stepS, false)

/-- The Day-old at a cycle's base. -/
def dayOld (st : QpStruct) (base : Nat) (x : PartSt) : Option QpIter := x.good.map fun s => (mapSol st s (shiftOf st base s).1).1

/-- Deliver: publication, registers, events, the solutions kept (R376, R379, R380, R382, R390). `last` is the cycle's last completed iterate. -/
def deliverSol (p : Nat) (st : QpStruct) (c : QpCycle) (v : Delivery) (last : Option QpIter) (d : Dev) : Dev :=
  let x := partSt d p
  let st' := v.status
  let d := publish (0x20 + p) x.ticks (st' == 0 || st' == 0x0801 || st' == 0x0802) (c.delayOld || c.stateOld) (solBody d p st c v) d
  let bits := b2n c.delayOld + 2 * b2n c.delayClamp + 4 * b2n c.stateOld
  let fresh := b2n (c.delayOld && !bitOf x.lastBits 0) + b2n (c.delayClamp && !bitOf x.lastBits 1) + b2n (c.stateOld && !bitOf x.lastBits 2)
  let bad := if p = 0 ∧ (st' = 0x0802 ∨ st' = 0x0803 ∨ st' = 0x0804) then x.badRun + 1 else 0
  let good := if st' = 0 ∨ st' = 0x0801 then (match v.it with
    | some i => some (solOf st c x.cycles i)
    | none => x.good) else x.good
  let inter := if st' = 0x0801 ∨ st' = 0x0802 then (match last with
    | some i => some (solOf st c x.cycles i)
    | none => x.inter) else x.inter
  let nan := f64NaN
  let xs := match v.it with
    | some i => i.x
    | none => st.vars.map fun _ => nan
  let ys := match v.it with
    | some i => i.y
    | none => st.rows.map fun _ => nan
  let d := setPart p { x with cycle := none, good := good, inter := inter, lastX := xs, lastY := ys, lastBits := bits, badRun := bad, actWait := none } d
  let d := ((((d.wr (SOLV.PART.LAST.STATUS p) st').wr (SOLV.PART.LAST.REASON p) v.reason).wr (SOLV.PART.STAT.ITER p) (min 255 v.iters)).wr (SOLV.PART.DUR p) ((d.up - c.takeUp) / 1000 % 2 ^ 32))
  let d := if st' = 0x0801 then d.addSat (SOLV.PART.CNT.EARLY_CNT p) 1 else if st' = 0x0802 then d.addSat (SOLV.PART.CNT.DAYOLD_CNT p) 1 else if st' = 0 then d else d.addSat (SOLV.PART.CNT.ILL_CNT p) 1
  let d := if st' ≠ 0 then raiseEv 112 (p + 1) (st' + v.reason * 2 ^ 16) d else d
  let d := if fresh ≠ 0 then raiseEv 114 (p + 1) (solBits d c v) d else d
  let d := if bad = 5 then raise 161 0 d else d
  let d := if partState d p = 3 then d else setPartState p 1 d
  let d := match x.actWait with
    | some n => finishKindWith (.other 53 p) stOK [c.kept, c.new, c.vanished, n] d
    | none => d
  onSolv (fun s => { s with sdDue := s.sdDue ++ [p] }) d

/-- The run of a cycle, at most n iterations. -/
def cycleRun (d : Dev) (p : Nat) (st : QpStruct) (c : QpCycle) (n : Nat) : IpmRun :=
  let k := (qpOf st).scaled c.dvec c.evec
  if crossed st then { it := c.start.scaleIn c.dvec c.evec, stop := some (0x0803, 4) }
  else ipmRun d p st k n { it := c.start.scaleIn c.dvec c.evec }

/-- x clipped to the [l, u] of its BOUND rows (R379). -/
def clipBound (st : QpStruct) (x : List Nat) : List Nat :=
  st.rows.zipIdx.foldl (fun (x : List Nat) r =>
    if r.1.2.1 = false then x
    else match (entries st.a).find? (fun e => e.1 == r.2) with
    | some e => x.set e.2.1 (project (x.getD e.2.1 0) (st.l.getD r.2 0) (st.u.getD r.2 0))
    | none => x) x

/-- The delivery at a deadline, at ITER_MAX, or at a stop, with `n` iterations completed (R379, R388). -/
def deliverDeadline (p n : Nat) (limit : Bool) (d : Dev) : Dev :=
  let x := partSt d p
  match x.active, x.cycle with
  | some st, some c =>
    let r := cycleRun d p st c n
    let k := (qpOf st).scaled c.dvec c.evec
    let last : Option QpIter := if r.n = 0 then none else some (r.it.scaleOut c.dvec c.evec)
    match r.stop with
    | some (s, why) => deliverSol p st c { status := s, reason := why, iters := r.n, it := if s = 0 then last else none } last d
    | none =>
      let clipped := last.map fun i => { i with x := clipBound st i.x }
      let early : Bool := match clipped with
        | some i => f64Le (rPrim k (i.scaleIn c.dvec c.evec)) (preg d SOLV.PART.TOL_DELIVER p)
        | none => false
      if early then deliverSol p st c { status := 0x0801, iters := r.n, it := clipped, limit := limit } last d
      else match dayOld st c.base x with
      | some i => deliverSol p st c { status := 0x0802, iters := r.n, it := some i, limit := limit } last d
      | none => deliverSol p st c { status := 0x0804, iters := r.n, it := none, limit := limit } last d
  | _, _ => d

/-! ### The take (R369, R376, R378) -/

/-- HOST_PLAN's records for a structure (R366): none when it is not there or stale; some none when it is bad. -/
def hostPlan (d : Dev) (st : QpStruct) : Option (Option (List (Nat × Nat × Nat))) :=
  let b := benchTab d 0x50
  if b.current.seq = 0 ∨ ¬ b.current.valid ∨ benchBad d 0x50 then none
  else
    let body := b.current.body
    let n := fieldAt body 4 4
    let rs := deltaRecs n (body.drop 16)
    if fieldAt body 0 4 ≠ st.id ∨ body.length ≠ 16 + 16 * n ∨ fieldAt body 8 8 ≠ 0 ∨ (deltaRsvd n (body.drop 16)).contains false ∨ rs.any (deltaBad st) then some none
    else some (some rs)

/-- The STRUCT_ACTIVATEs that have waited for partition p's take now wait for its first delivery; a later one waits for its own take (R365). -/
def actTaken (p : Nat) (d : Dev) : Dev :=
  { d with host := { d.host with waits := d.host.waits.map fun w => if w.kind = .other 52 p then { w with kind := .other 53 p } else w } }

/-- Partition p takes the data of one cycle, for a tick at `tickNs` and a deadline (R369, R376, R378). -/
def takeData (p tickNs deadline : Nat) (d : Dev) : Dev :=
  let d := checkBodies ((if p = 0 then [0x50] else []) ++ [0x10, 0x11]) d
  let x := partSt d p
  let swap := x.actPend && x.staged.isSome
  let base0 := if swap then x.staged else x.active
  match base0 with
  | none => d
  | some st0 =>
    let old : Nat := match x.active with
      | some s => s.id
      | none => 0
    let lost := if swap && old != st0.id then (x.deltas.filter fun e => e.1 == old).length else 0
    let mine := x.deltas.filter fun e => e.1 == st0.id
    let rest := x.deltas.filter fun e => e.1 != st0.id && !(swap && e.1 == old)
    let recs := mine.flatMap (·.2)
    let st := recs.foldl applyDelta st0
    let plan := if p = 0 then hostPlan d st else none
    let prec := match plan with
      | some (some l) => l
      | _ => []
    let st := prec.foldl applyDelta st
    let (st, dOld, dClamp, sOld) := st.feeds.zipIdx.foldl (fun (acc : QpStruct × Bool × Bool × Bool) e =>
      let f := e.1
      let (s, o, c) := applyFeed d acc.1 f e.2
      if f.kind = 1 then (s, acc.2.1 || o, acc.2.2.1 || c, acc.2.2.2) else (s, acc.2.1, acc.2.2.1, acc.2.2.2 || o)) (st, false, false, false)
    let sec := tickNs / 1000000000
    let base := if st.stepS = 0 then sec else sec / st.stepS * st.stepS
    let newer : Bool := match x.inter, x.good with
      | some i, some g => decide (g.cycle < i.cycle)
      | some _, none => true
      | _, _ => false
    let src := if x.coldNext then none else if d.flag (SOLV.PART.CTRL.WS_INTER p) && newer then x.inter else x.good
    let (start, shift, noShift, kept, new, gone, cold) := match src with
      | some s =>
        let (sh, ns) := shiftOf st base s
        let (i, a, b, c) := mapSol st s sh
        (pushIn st (preg d SOLV.PART.WS_PUSH p) i, sh, ns, a, b, c, false)
      | none => (pushIn st (preg d SOLV.PART.WS_PUSH p) (coldStart st), 0, false, 0, st.vars.length, 0, true)
    let (dv, ev) := ruiz (qpOf st)
    let c : QpCycle := { tickNs := tickNs, takeUp := d.up, deadline := deadline, base := base, dvec := dv, evec := ev, start := start, shift := shift, kept := kept, new := new, vanished := gone, records := recs.length + prec.length, delayOld := dOld, delayClamp := dClamp, stateOld := sOld, planBad := plan == some none, noShift := noShift, cold := cold, changed := swap }
    let d := setPart p { x with active := some st, staged := if swap then none else x.staged, actPend := false, actWait := if swap then some lost else x.actWait, deltas := rest, coldNext := false, cycle := some c, cycles := x.cycles + 1, planTick := none } d
    let d := partIds p (pendCount p d)
    let d := if swap then raiseEv 113 (p + 1) st.id (actTaken p d) else d
    setPartState p 2 d

/-- D's deadline for a plan tick (R378). -/
def dDeadline (d : Dev) (tickNs : Nat) : Nat :=
  let ps := clampN 10 900 (d.rd SOLV.PLAN_CFG.PLAN_S)
  let lim := (ps - 1) * 1000000000
  let dl := d.rd SOLV.PLAN_CFG.D_DL * 100000000
  tickNs + (if dl = 0 then lim else min dl lim)

/-- Partition D starts its cycle for the plan tick that is awaited; a deadline that lies before the take plus 100 ms delivers at once (R378, R379). -/
def dTake (d : Dev) : Dev :=
  match (partSt d 0).planTick with
  | none => d
  | some t =>
    if opState d ≠ 3 ∨ partState d 0 ≠ 1 then d
    else if (partSt d 0).active.isNone ∧ ¬ ((partSt d 0).actPend && (partSt d 0).staged.isSome) then setPart 0 { partSt d 0 with planTick := none } d
    else
      let dl := dDeadline d t
      let d := takeData 0 t dl d
      if (partSt d 0).cycle.isSome ∧ dl < svcTotalNs d + 100000000 then deliverDeadline 0 0 false d else d

/-- A model tick is a plan tick when its seconds count is a multiple of the plan period (R23); a partition that is OFF has no cycle at it (R378,
R387). -/
def planTick (tickNs : Nat) (d : Dev) : Dev :=
  let ps := clampN 10 900 (d.rd SOLV.PLAN_CFG.PLAN_S)
  if tickNs / 1000000000 % ps ≠ 0 ∨ opState d ≠ 3 then d
  else
    let d : Dev := { d with boot := { d.boot with exitPlan := d.boot.exitPlan || d.boot.frozenRsp } }
    let x := partSt d 0
    setPart 0 { x with planTick := if partState d 0 = 0 then none else some tickNs, ticks := x.ticks + 1 } d

/-! ### Operating states (R387) -/

/-- KEEP-WARM is entered: a running cycle is abandoned; its last completed iterate, of a number of iterations that is free, is kept (R387, log 1). -/
def abandonCycle (p : Nat) (d : Dev) : Dev :=
  let x := partSt d p
  match x.active, x.cycle with
  | some st, some c =>
    let (n, d) := takeFree 8 d
    let r := cycleRun d p st c (min n (max 1 (d.rd (SOLV.PART.CTRL.ITER_MAX p))))
    let inter := if r.n = 0 then x.inter else some (solOf st c x.cycles (r.it.scaleOut c.dvec c.evec))
    setPartState p 1 (setPart p { x with cycle := none, planTick := none, inter := inter } d)
  | _, _ => setPart p { x with planTick := none } d

/-- Ramps stop at their present value until the next new target (R102, R386). -/
def sdStop (d : Dev) : Dev := onSolv (fun s => { s with sd := s.sd.map fun i => { i with aimed := false }, sdDue := [] }) d

/-- SOLV goes off: the estimator's tick ends, the partitions stop (R21, R355, R387). -/
def solvOff (d : Dev) : Dev := settleSolv (sdStop (onModel (fun k => { k with win := none }) d))
/-- The committed settings of register ranges come back; a setting without a committed value has its reset value. -/
def reloadSettings (l : List (Nat × Nat)) (d : Dev) : Dev := l.foldl (fun (d : Dev) e => (d.resetRange e.1 e.2).reloadRange e.1 e.2) d
/-- The settings of the MODEL block (R359). -/
def modelSettings : List (Nat × Nat) := [(0x1200000, 0x1200028), (0x1200080, 0x1200084)]
/-- The settings of the SOLV block (R392). -/
def solvSettings : List (Nat × Nat) := [(0x1000000, 0x1000008), (0x1000010, 0x1000018), (0x1000100, 0x1000128), (0x1000180, 0x10001A8), (0x1000400, 0x1000404)]
/-- SOLV is on again: settings are reloaded, the partitions wait for their next tick (R359, R387, R392). -/
def solvOn (d : Dev) : Dev := settleSolv (layTiles (tileWord d) (reloadSettings (solvSettings ++ modelSettings) d))
/-- MODEL is on again (R359). -/
def modelOn (d : Dev) : Dev := reloadSettings modelSettings d
/-- MODEL goes off: the parcels are lost (R355). -/
def modelOff (d : Dev) : Dev :=
  let d := onModel (fun k => { k with segs := [], stepDue := none, held := 0, flows := [] }) d
  let d := ((d.wr MODEL.TDE_POOL.IN_USE 0).wr MODEL.TDE_SEG.SEEDED 0).wr MODEL.TDE_STAT.POOL_LOW 0
  if d.rd MODEL.TDE_STAT.STATE = 0 then d else raiseEv 108 0 0 (d.wr MODEL.TDE_STAT.STATE 0)

/-- RUN is entered (R355, R387). -/
def solvStart (d : Dev) : Dev := settleSolv (assignTiles d)

/-- A PE tile is mapped out (R95, R372): E and F keep their counts, D gets the remainder; EV115; D without tiles is OFF. -/
def mapTileOut (t : Nat) (d : Dev) : Dev :=
  if bitOf (d.rd SOLV.TILE_STAT.OUT) t then d
  else
    let had := dTiles d
    let d := layTiles (tileWord d) (d.wr SOLV.TILE_STAT.OUT (setBit (d.rd SOLV.TILE_STAT.OUT) t true))
    let d := if had ≠ 0 ∧ dTiles d = 0 then raise 160 0 d else d
    settleSolv d

end Sys2Proof.Machine
end

