-- ==== Sys2Proof/Machine/PartOps.lean ====
section
/-! DEFINITION. Parts and their places (R545 to R549): settings by unit, how a part comes into its engine, the activation report (R561), an aborted
activation (R555), and what a reset and an island's start do with the active directory (R554, R556, R560, R563). -/
namespace Sys2Proof.Machine
open Sys2Proof

def onUpd (f : UpdSt → UpdSt) (d : Dev) : Dev := { d with upd := f d.upd }

/-- Bytes padded with zeros to n. -/
def padTo (n : Nat) (l : List Byte) : List Byte := (l ++ List.replicate (n - l.length) 0).take n

/-! ### Settings -/

/-- The fields of the register at an address that are settings: RWL and RWO, but for the rings, whose configuration is never committed (R124; that
RWO settings are committed with the lock is DEDUCED, log 40). -/
def settingFields (a : Nat) : List FRef :=
  if 0x101000 ≤ a ∧ a < 0x101400 then []
  else match findReg regMap a with
    | some (fs, _) => (fs.filter fun e => e.2 == .RWL || e.2 == .RWO).map (·.1)
    | none => []

/-- The unit to which the block of an address belongs (R11, R37). The Crust window and the supplies report as the device (DEDUCED, log 44). -/
def addrUnit (a : Nat) : Nat := match a / 0x100000 with
  | 0 => 0 | 1 => 1 | 2 => 0 | 3 => 12 | 4 => 13 | 5 => 0 | 6 => 2 | 7 => 2 | 8 => 3 | 10 => 2 | 11 => 4 | 12 => 5 | 13 => 6 | 14 => 9 | 15 => 11
  | 16 => 8 | 17 => 8 | 18 => 7 | 19 => 14 | 20 => 15 | 21 => 10 | _ => 16

/-- The value that a field takes when a word is written at an address: the word's bits, or the upper half of a 64-bit quantity. -/
def fieldOfWord (f : FRef) (a v old : Nat) : Nat :=
  if a = f.addr + 4 then old % 2 ^ 32 + v % 2 ^ 32 * 2 ^ 32
  else if 31 < f.hi then old / 2 ^ 32 * 2 ^ 32 + v % 2 ^ 32
  else bitsOf v f.hi f.lo

/-- Put a word at an address into a bank of settings. -/
def bankWord (m : SMap Nat) (a v : Nat) : SMap Nat := (settingFields a).foldl (fun m f => bankWr m f (fieldOfWord f a v (bankRd m f))) m

/-- Commit a list of settings (BAR0 address, value) to eMRAM. -/
def commitPairs (l : List (Nat × Nat)) (d : Dev) : Dev := { d with emram := l.foldl (fun m e => bankWord m e.1 e.2) d.emram }

/-- Drop a unit's committed settings: its defaults (R558). -/
def dropUnit (u : Nat) (m : SMap Nat) : SMap Nat := keepKeys (fun k => addrUnit (k / 32) != u) m

/-- The settings format that the boot firmware expects of unit u (R558, UPD.FMT). -/
def fmtReg (u : Nat) : FRef := if u % 2 = 0 then UPD.FMT.FMT_EVEN (u / 2) else UPD.FMT.FMT_ODD (u / 2)
def expectedFmt (d : Dev) (u : Nat) : Nat := d.rd (fmtReg u)
def setFmts (l : List Nat) (d : Dev) : Dev := (List.range 16).foldl (fun (d : Dev) u => d.wr (fmtReg u) (l.getD u 0)) d

/-! ### Parts -/

/-- The island of a part's engine (R549, R19). -/
def partIsland (p : UpdPart) : Nat := match p.kind with
  | 0x01 => 2 | 0x03 => 6 | 0x04 => 7 | 0x05 => 8 | 0x06 => 11 | 0x07 => 10 | 0x08 => 13 | 0x09 => 9
  | 0x12 => 9 | 0x13 => 11 | 0x30 => 7 | 0x31 => 6
  | 0x20 => (match p.target with
      | 2 => 10 | 3 => 11 | 4 => 11 | 5 => 9 | 6 => 8 | 7 => 7 | 8 => 6 | 14 => 13 | _ => 1)
  | _ => 1

/-- The part of a kind and target in a list. -/
def findPart (l : List UpdPart) (kind target : Nat) : Option UpdPart := l.find? fun p => p.kind == kind && p.target == target

/-- A directory with parts replacing their entries (R551). -/
def overDir (parts dir : List UpdPart) : List UpdPart := dir.filter (fun p => (findPart parts p.kind p.target).isNone) ++ parts

def loopsOf (p : UpdPart) : SMap LoopBind := match p.content with
  | .loops l => l.foldl (fun m e => ins e.1 e.2 m) []
  | _ => []
def clpOf (p : UpdPart) : ClpImage := match p.content with
  | .clp i => i
  | _ => {}

/-- Put a word into the fields of the register at an address, whatever their access. -/
def rawWord (a v : Nat) (d : Dev) : Dev := match findReg regMap a with
  | some (fs, _) => fs.foldl (fun (d : Dev) e => d.wr e.1 (bitsOf v e.1.hi e.1.lo)) d
  | none => d

/-- The sequence of SAR k becomes an image's (R253). -/
def putSeq (k : Nat) (l : List (Nat × Nat × Nat)) (d : Dev) : Dev :=
  let lo := 32 * (0xC10000 + 0x2000 * k)
  let d : Dev := { d with regs := keepKeys (fun x => !(seqImageKey x && decide (lo ≤ x) && decide (x < lo + 32 * 0x2000))) d.regs }
  let d := l.foldl (fun (d : Dev) e => rawWord (0xC10004 + 0x2000 * k + 0x20 * (e.1 % 256)) e.2.2 (rawWord (0xC10000 + 0x2000 * k + 0x20 * (e.1 % 256)) e.2.1 d)) d
  d.wr (PIO.SAR.STAT.ENTRIES k) (min 255 ((List.range 256).filter fun e => d.flag (PIO.ENTRY.CFG.USE k e)).length)

/-- A record of an image of the Setpoint Distributor's map (R383). -/
def sdRec (b : List Byte) : SdEntry :=
  { source := fieldAt b 0 4, part := fieldAt b 4 1, kind := fieldAt b 5 1, target := fieldAt b 6 2, index := fieldAt b 8 1, en := bitOf (fieldAt b 9 1) 0, scale := fieldAt b 12 4, ofs := fieldAt b 16 4, lo := fieldAt b 20 4, hi := fieldAt b 24 4, rate := fieldAt b 28 4 }
/-- The entries of a map image. -/
def sdEntries (b : List Byte) : List SdEntry := (chunksOf 32 (b.length / 32) b).map sdRec

/-- A structure becomes the active one of its partition outside any cycle. -/
def putStruct (p : Nat) (b : List Byte) (d : Dev) : Dev := partIds p (setPart p { partSt d p with active := if b = [] then none else some (parseStruct b) } d)

/-- A part is loaded into an engine that starts (R554, R556, R560): the model, a structure, the map, a sequence; lanes load their images themselves. -/
def loadPart (p : UpdPart) (d : Dev) : Dev := match p.kind with
  | 0x12 => (match p.content with
      | .seq l => putSeq p.target l d
      | _ => d)
  | 0x30 => modelRegs (onModel (fun k => { k with active := if p.bytes = [] then none else some (parseModel p.bytes) }) d)
  | 0x31 => putStruct (p.target - 1) p.bytes d
  | 0x32 => onSolv (fun k => { k with sdNext := some (sdEntries p.bytes) }) d
  | _ => d

/-- Island n starts: the parts deferred while it was off are loaded from the directory active now (R554). -/
def loadDeferred (n : Nat) (d : Dev) : Dev :=
  let due := d.upd.deferred.filterMap fun e => match findPart d.upd.active.dir e.1 e.2 with
    | some p => if partIsland p = n then some p else none
    | none => none
  let d := onUpd (fun u => { u with deferred := u.deferred.filter fun e => !due.any fun p => p.kind == e.1 && p.target == e.2 }) d
  due.foldl (fun (d : Dev) p => loadPart p d) d

/-! ### The activation report (R561) -/

/-- The recorder sequence of the newest record with an event code; while it waits in the input queue, the sequence that it will take. -/
def seqOfEvent (code : Nat) (d : Dev) : Nat :=
  match (d.evr.areaF ++ d.evr.areaC).filter (fun r => r.code == code) with
  | [] => d.evr.nextSeq + (d.evr.queue.findIdx? fun o => o.unit % 16 * 4096 + o.num == code).getD 0
  | l => l.foldl (fun n r => max n r.seq) 0

/-- A part's record: 0 switched, 1 deferred, 2 discarded, 3 failed. -/
def armRecord (a : ArmPart) : List Byte :=
  let res := match a.st with
    | 3 => 0 | 2 => 1 | 5 => 3 | _ => 2
  toBytes 1 a.part.kind ++ toBytes 1 a.part.target ++ toBytes 1 res ++ toBytes 1 0 ++ toBytes 4 a.part.id ++ toBytes 4 a.idx ++ toBytes 4 a.status

/-- The Bench tables allocated from 0x60 to 0xFF, one bit by identifier (R561). -/
def benchBits (d : Dev) : Nat := ((List.range 256).filter fun t => decide (0x60 ≤ t) && (look d.bench t).isSome).foldl (fun v t => v + 2 ^ t) 0

/-- Write the report: 1,120 bytes and the signature, or zeros without a valid key. -/
def writeReport (outcome status failing reason : Nat) (a : Arming) (d : Dev) : Dev :=
  let recs := a.parts.take 64
  let head := toBytes 2 1 ++ toBytes 1 outcome ++ toBytes 1 recs.length ++ toBytes 4 a.set.id ++ toBytes 6 a.sec ++ toBytes 2 a.tick ++ toBytes 2 status ++
    toBytes 1 failing ++ toBytes 1 reason ++ toBytes 4 (d.rd (CRUST.CNT.VALUE 0)) ++ toBytes 2 a.mask ++ toBytes 2 a.forces ++
    toBytes 4 (if a.committed then seqOfEvent 0xF1A9 d else 0)
  let body := padTo 64 head ++ padTo 1024 (recs.flatMap armRecord) ++ toBytes 32 (benchBits d)
  let slot := d.rd UPD.CFG.REPORT_SLOT
  if slotOk d slot 3 ∧ islandOn d 13 then
    let (sig, d) := slotSign slot body (slotDerive slot d)
    onUpd (fun u => { u with report := padTo 1216 (body ++ sig) }) d
  else onUpd (fun u => { u with report := padTo 1216 body }) d

/-! ### Aborts (R555, R557) -/

/-- A failing part as a result or event word: all ones for none, as UPD_CLOSE gives it (R568). -/
def failingWord (i : Nat) : Nat := if i = 0xFF then 0xFFFFFFFF else i

/-- Abort an activation before its commit: the shadows are discarded, EV170 and the report follow, the command completes. A Tray stays STAGED. -/
def abortArm (reason status failing : Nat) (d : Dev) : Dev :=
  match d.upd.arm with
  | none => d
  | some a =>
    if a.committed then d
    else
      let a : Arming := { a with parts := a.parts.map fun p => if p.st = 5 then p else { p with st := 4, status := status } }
      let d := onUpd (fun u => { u with arm := none }) ((d.wr UPD.STAT.STATE (if a.revert then 0 else 2)).addSat UPD.STAT.ABORTS 1)
      let d := writeReport 1 status failing reason a (raiseEvFrom 9 170 (failingWord failing) status d)
      finishKindWith (.other 60 0) status [1, failingWord failing] d

/-- ACT_ABORTED. -/
abbrev stActAborted : Nat := 0x0F11

/-- The state leaves RUN (R555 reason 4, R557). -/
def leaveRun (d : Dev) : Dev := abortArm 4 stActAborted 0xFF d

/-! ### The active set (R556, R560) -/

/-- A set becomes the active one: the pointer moves to the other bank, and the set that was active is the previous one (R556, R559). A Recipe leaves
the rollback value in effect; counters that are lost do not increase (R161). -/
def makeActive (s : TraySet) (d : Dev) : Dev :=
  let old := d.upd.active
  let s : TraySet := if s.recipe then { s with rb := old.rb } else s
  let fmts := (List.range 16).foldl (fun (m : SMap Nat) u => if expectedFmt d u = 0 then m else ins u (expectedFmt d u) m) []
  let d := onUpd (fun u => { u with active := s, prev := some old, prevCfg := d.emram, prevStored := u.stored, prevFmt := fmts, staged := none, forReset := none }) d
  let d := (((d.wr UPD.STAT.ACTIVE_BANK (1 - d.rd UPD.STAT.ACTIVE_BANK)).wr UPD.STAT.PREV_VALID 1).wr UPD.ACT_ID s.id).wr UPD.ACT_RB s.rb
  let d := (d.wr UPD.STG_ID 0).wr UPD.STAT.RECIPE 0
  let d : Dev := match findPart s.dir 0x10 0 with
    | some p => { d with img := { d.img with loops := loopsOf p } }
    | none => d
  let d : Dev := match findPart s.dir 0x11 0 with
    | some p => { d with img := { d.img with clp := clpOf p } }
    | none => d
  if ¬ s.recipe ∧ ¬ d.flag CRUST.STATUS.COUNT_LOST ∧ s.rb = d.rd (CRUST.CNT.VALUE 0) + 1 then setCnt 0 s.rb d else d

/-- The lock state among settings: that of GLB.LOCK (R113, R564). -/
def commitLock (l : List (Nat × Nat)) (d : Dev) : Dev :=
  l.foldl (fun (d : Dev) e => if e.1 = 0x60 then { d with boot := { d.boot with committedLocked := e.2 % 2 == 1 } } else d) d

/-- A settings part is committed with its format. -/
def commitSettings (p : UpdPart) (d : Dev) : Dev := match p.content with
  | .settings l => onUpd (fun u => { u with stored := ins p.target p.fmt u.stored }) (commitLock l (commitPairs l d))
  | _ => d

/-- CLP retentive data of a set become the retentive copy. -/
def commitRetentive (p : UpdPart) (d : Dev) : Dev := match p.content with
  | .clpData m dw ctr =>
    { d with img := { d.img with retHas := true, retM := m.foldl (fun t e => if e.2 = 0 then t else ins e.1 true t) [], retDw := dw.foldl (fun t e => ins e.1 (e.2 % 2 ^ 32) t) [], retC := ctr.foldl (fun t e => ins e.1 (e.2 % 2 ^ 32) t) [] } }
  | _ => d

/-- The format version of unit u's committed settings. -/
def storedFmt (d : Dev) (u : Nat) : Nat := lookD d.upd.stored u 0

/-- The parts of a set take effect in eMRAM and flash alone, as a reset needs them (R556, R560): settings, retentive data, firmware formats; then every
unit whose format is not the one expected goes to its defaults (R558). -/
def loadSetAtReset (parts : List UpdPart) (d : Dev) : Dev :=
  let d := parts.foldl (fun (d : Dev) p => match p.kind with
    | 0x20 => commitSettings p d
    | 0x21 => commitRetentive p d
    | 0x02 => (match p.content with
        | .firmware (some l) => setFmts l d
        | _ => d)
    | _ => loadPart p d) d
  (List.range 16).foldl (fun (d : Dev) u =>
    if storedFmt d u = expectedFmt d u then d
    else onUpd (fun x => { x with stored := ins u (expectedFmt d u) x.stored }) { d with emram := dropUnit u d.emram }) d

/-- The units whose expected format differs between the active set and the previous one (R559). -/
def revertUnits (d : Dev) : List Nat := (List.range 16).filter fun u => lookD d.upd.prevFmt u 0 != expectedFmt d u

/-- The previous set comes back (R559, R560): the boot firmware's formats with it, and the units whose expected format differs take back the settings
that they had then. -/
def backToPrev (s : TraySet) (d : Dev) : Dev :=
  let u0 := d.upd
  let back := revertUnits d
  let d := makeActive s d
  back.foldl (fun (d : Dev) u =>
    let em := overlay (keepKeys (fun k => addrUnit (k / 32) == u) u0.prevCfg) (dropUnit u d.emram)
    let d := d.wr (fmtReg u) (lookD u0.prevFmt u 0)
    onUpd (fun x => { x with stored := ins u (lookD u0.prevStored u 0) x.stored }) { d with emram := em }) d

/-- The level that a Recipe asks for becomes REQ (R566). -/
def reqOfRecipe (s : TraySet) (d : Dev) : Dev := if s.recipe then d.wr GLB.COMPAT_LEVEL.REQ s.lo else d

/-- REQ as it acts: 0 acts as 1, values above MAX as MAX (R563). -/
def reqLevel (d : Dev) : Nat := clampN 1 (max 1 (d.rd GLB.COMPAT_LEVEL.MAX)) (d.rd GLB.COMPAT_LEVEL.REQ)

/-- A cold or warm reset reaches the update system (R552, R555, R556, R560): a staging is abandoned, an activation before its commit aborts, one after
it is finished by Proof, and a set marked for the reset becomes active. -/
def updBeforeReset (d : Dev) : Dev :=
  let d := match d.upd.staging with
    | some g => raiseEvFrom 9 168 (fieldAt g.header 28 4) stAborted (((onUpd (fun u => { u with staging := none }) (d.wr UPD.STAT.STATE 0)).wr UPD.STG_ID 0).wr UPD.STAT.RECIPE 0)
    | none => d
  let d := leaveRun d
  let d := match d.upd.arm with
    | some a => loadSetAtReset ((a.parts.filter fun (p : ArmPart) => p.st = 1).map fun (p : ArmPart) => p.part) (onUpd (fun u => { u with arm := none }) (d.wr UPD.STAT.STATE 0))
    | none => d
  let d := match d.upd.forReset, d.upd.staged, d.upd.prev with
    | some false, some s, _ => reqOfRecipe s (loadSetAtReset s.parts (makeActive s (d.wr UPD.STAT.STATE 0)))
    | some true, _, some s => loadSetAtReset (s.dir.filter fun p => p.kind != 0x20 && p.kind != 0x21) (backToPrev s (d.wr UPD.STAT.STATE 0))
    | _, _, _ => d
  onUpd (fun u => { u with forReset := none, deferred := [] }) d

/-- LEVEL at a reset (R563): REQ, unless the active set's range excludes it. -/
def levelAtReset (d : Dev) : Dev :=
  let q := reqLevel d
  if d.upd.active.lo ≤ q ∧ q ≤ d.upd.active.hi then (d.wr GLB.COMPAT_LEVEL.LEVEL q).wr GLB.COMPAT_LEVEL.REFUSED 0 else d.wr GLB.COMPAT_LEVEL.REFUSED 1

/-- Proof loads the structures and the map of the active directory (R556, R560). -/
def partsAtStart (d : Dev) : Dev := (d.upd.active.dir.filter fun p => p.kind == 0x31 || p.kind == 0x32).foldl (fun (d : Dev) p => loadPart p d) d

end Sys2Proof.Machine
end

