-- ==== Sys2Proof/Machine/Ports.lean ====
section
/-! DEFINITION. The PCI Express endpoints (R106, R107): configuration space, link width, what a port reset and HOST power-on leave (R88, R124). -/
namespace Sys2Proof.Machine
open Sys2Proof

/-- Port p's configuration space. -/
def pciSt (d : Dev) (p : Nat) : PciSt := lookD d.host.pci p {}
/-- Change port p's configuration space. -/
def onPci (p : Nat) (f : PciSt → PciSt) (d : Dev) : Dev := { d with host := { d.host with pci := ins p (f (pciSt d p)) d.host.pci } }

/-- The widest link of a port: x4, or x2 under STRAP_BIF 0b10 (R47, R106). -/
def linkWidth (d : Dev) : Nat := if d.rd GLB.STRAP.BIF = 2 then 2 else 4

/-- The register at byte offset `off` of port p's configuration header (R107): the identifiers, Bus Master Enable in the Command word, class code and
Revision ID, the 64-bit BAR of 32 MiB, the zero BARs, no Expansion ROM, and Interrupt Pin 0 (R106). Where the standard places these fields in the
header, and the words the manual does not name, are the standard's (PRESUMED, log 85). -/
def configHeader (d : Dev) (p off : Nat) : Nat :=
  match off with
  | 0x00 => Config.vendorId.toNat + 0x9600 * 2 ^ 16
  | 0x04 => b2n (d.flag (HOST.PORT.STAT.BME p)) * 4 + 2
  | 0x08 => 0x118000 * 2 ^ 8 + Config.stepping.val
  | 0x10 => (pciSt d p).bar % 2 ^ 32 / 2 ^ 25 * 2 ^ 25 + 4
  | 0x14 => (pciSt d p).bar / 2 ^ 32 % 2 ^ 32
  | 0x2C => Config.vendorId.toNat + 0x9600 * 2 ^ 16
  | _ => 0

/-- What an endpoint supports beside its header, its link and its power state (R106): sizes in bytes, the Completion Timeout in µs; MSI-X is the one kind of
interrupt. -/
structure PciCaps where
  maxPayload : Nat
  maxReadRequest : Nat
  tagBits : Nat
  maxReads : Nat
  msixVectors : Nat
  msi : Bool
  intx : Bool
  aer : Bool
  timeoutRangeA : Bool
  timeoutRangeB : Bool
  timeoutDefaultUs : Nat
  aspmL0s : Bool
  aspmL1 : Bool
  l1Substates : Bool
  flr : Bool
  /-- SR-IOV, ATS, PRI, PASID, ACS, peer-to-peer. -/
  virtualisation : Bool
  /-- Highest rate: 1 for 2.5, 2 for 5, 3 for 8, 4 for 16 GT/s. -/
  maxRate : Nat
deriving DecidableEq, Repr

/-- Both ports' capabilities (R106). -/
def pciCaps : PciCaps where
  maxPayload := 512
  maxReadRequest := 4096
  tagBits := 10
  maxReads := 256
  msixVectors := 64
  msi := false
  intx := false
  aer := true
  timeoutRangeA := true
  timeoutRangeB := true
  timeoutDefaultUs := 50000
  aspmL0s := false
  aspmL1 := true
  l1Substates := false
  flr := true
  virtualisation := false
  maxRate := 4

/-- The Device Serial Number: the low 64 bits of the device identity (R106). -/
def serialNumber (d : Dev) : Nat := ofBytes ((deviceId d).take 8)

/-- Every ring and routing entry of port p at reset values, with no command on them (R124, R139). -/
def resetPortRings (p : Nat) (d : Dev) : Dev :=
  let d := (d.resetRange (0x101000 + 0x200 * p) (0x101200 + 0x200 * p)).resetRange (0x104000 + 0x400 * p) (0x104400 + 0x400 * p)
  loseWaits (fun w => w.hdr.port.val == p)
    { d with host := { d.host with rings := keepKeys (fun n => decide (n / 16 ≠ p)) d.host.rings, hbLast := del p d.host.hbLast, hbSame := del p d.host.hbSame } }

/-- The port's shadows of RTC and service time are empty: a high word reads live (R4). -/
def dropLatches (p : Nat) (d : Dev) : Dev :=
  let other (k : Nat) : Bool := decide (k / 4 ≠ p)
  { d with crust := { d.crust with latch := keepKeys other d.crust.latch }, time := { d.time with svcLatch := keepKeys other d.time.svcLatch } }

/-- A port reset (R4, R88, R106): the port's link and configuration space, with its MSI-X table, pending bits and shadows, start anew, and its rings
are STOPPED with reset values (R124). -/
def portReset (p : Nat) (d : Dev) : Dev :=
  let d := dropLatches p d
  resetPortRings p { d with host := { d.host with
    pci := del p d.host.pci, shadow := keepKeys (fun k => decide (k / 2 ^ 32 ≠ p)) d.host.shadow,
    msix := keepKeys (fun k => decide (k / 256 ≠ p)) d.host.msix, pba := keepKeys (fun k => decide (k / 64 ≠ p)) d.host.pba } }

end Sys2Proof.Machine
end

