-- ==== Sys2Proof/Machine/Recorder.lean ====
section
/-! DEFINITION. The event recorder's records: their bytes, the areas, merging, sealing and the streams (R504 to R510, R515). -/
namespace Sys2Proof.Machine
open Sys2Proof

/-- Flag bits of a record (R504). -/
def recFlags (r : Rec) : Nat := b2n r.frozen + 2 * b2n r.isOpen + 4 * b2n r.lastGasp + 8 * b2n r.inj

/-- Bytes 0 to 29 of a record (R504). -/
def recHead (r : Rec) : List Byte :=
  toBytes 4 r.seq ++ toBytes 6 r.sec ++ toBytes 4 (r.ns + r.qual * 2 ^ 30) ++ toBytes 2 r.code ++ toBytes 1 (recFlags r) ++
  toBytes 1 r.src ++ toBytes 2 r.rep ++ toBytes 4 r.w0 ++ toBytes 4 r.w1 ++ toBytes 2 r.off

/-- The 32 bytes of a record, with the check of R504. -/
def recordBytes (r : Rec) : List Byte := recHead r ++ toBytes 2 (crc16 (recHead r))

/-- The event code of an occurrence (R14). -/
def occCode (o : Occ) : Nat := o.unit % 16 * 4096 + o.num

/-- The configuration in effect for the areas: 0 S, 1 M, 2 L; S in fallback (R508, R510). -/
def confC (d : Dev) : Nat := if d.flag EVR.STAT.FALLBACK then 0 else d.rd EVR.CFG.CONF

/-- Records that area C, and so its mirror, holds under a configuration (R508). -/
def confRecords (conf : Nat) : Nat := if conf = 0 then 57344 else if conf = 1 then 2031616 else 33554432
/-- Records area C holds (R508). -/
def capC (d : Dev) : Nat := confRecords (confC d)

/-- Records area F holds: by CONF, and 8,192 in fallback of L (R508, R510). -/
def capF (d : Dev) : Nat :=
  match d.rd EVR.CFG.CONF with
  | 0 => 8192
  | 1 => 65536
  | _ => if d.flag EVR.STAT.FALLBACK then 8192 else 0

/-- Events of frozen rank (R509), by event code and payload word 1. -/
def frozenRank (code w1 : Nat) : Bool :=
  (code == 0xC190 && decide (2 ≤ w1)) || code == 0xC191 || code == 0xC192 ||          -- fault records
  code == 0x1107 || code == 0x0001 ||                                                  -- state changes, Proof summary
  code == 0xA188 || code == 0xA18A || code == 0xA18B ||                                -- lanes, SAFE path
  code == 0x2112 || code == 0x2001 || code == 0x211D ||                                -- tamper, time steps
  code == 0xF1A9 || code == 0xF1AB || code == 0xF1AE || code == 0xE1A1 ||              -- activations, Recipes, key updates
  code == 0x917B || code == 0xB182 || code == 0x9001 || code == 0xB001 ||              -- forces
  code == 0xD001 || code == 0xD002                                                     -- gap and clear records

/-- Replace the record with sequence q by `f` of it. -/
def mapRec (q : Nat) (f : Rec → Rec) (l : List Rec) : List Rec := l.map fun r => if r.seq = q then f r else r

/-- The record of area C with sequence q. -/
def findRec (q : Nat) (l : List Rec) : Option Rec := l.find? fun r => r.seq == q

/-- The records that are readable in an area: in fallback or while area C is rebuilt, the mirror's records are read too (R510, R512). -/
def readableArea (f : Bool) (d : Dev) : List Rec :=
  if f then d.evr.areaF
  else if d.flag EVR.STAT.FALLBACK ∨ d.flag EVR.STAT.RELOADING then
    (d.evr.mirror.filter fun r => (findRec r.seq d.evr.areaC).isNone) ++ d.evr.areaC
  else d.evr.areaC

/-- Replace the stream that delivers to a ring. -/
def setStream (s : Stream) (d : Dev) : Dev :=
  { d with evr := { d.evr with streams := d.evr.streams.map fun t => if t.ring = s.ring then s else t } }

/-- Push one entry of a recorder stream (R116, R515). -/
def streamPush (ring : Nat) (r : Rec) (d : Dev) : Dev := moderate ring false (pushOrError ring (fun _ => recordBytes r) d)

/-- The record that says how many records a stream skipped (R515): event code 0xD007, the count in payload word 0. -/
def skipRecord (d : Dev) (seq count : Nat) : Rec :=
  { seq := seq, sec := svcSec d % 2 ^ 48, ns := svcNs d, qual := b2n (!svcValid d), code := 0xD007, frozen := false, isOpen := false, lastGasp := false, inj := false, src := 0, rep := 0, w0 := count % 2 ^ 32, w1 := 0, off := 0 }

/-- Send what a stream owes, while its ring runs and has room (R515): first the records it has sent that a merge has changed since, then the records
from its cursor on, oldest first. -/
def streamPump (ring : Nat) : Nat → Dev → Dev
  | 0, d => d
  | n + 1, d =>
    match d.evr.streams.find? (fun s => s.ring == ring) with
    | none => d
    | some s =>
      let area := readableArea s.areaF d
      if ringState d ring ≠ 1 ∨ ¬ ringSpace d ring then d
      else
        match s.again with
        | q :: t =>
          let d := setStream { s with again := t } d
          streamPump ring n (match findRec q area with
            | some r => streamPush ring r d
            | none => d)
        | [] =>
        match area.find? (fun r => decide (0 ≤ sdiff 32 r.seq s.next)) with
        | none => d
        | some r =>
          let behind := !s.areaF && decide (area.head?.map (·.seq) = some r.seq) && decide (0 < sdiff 32 r.seq s.next)
          if behind then streamPump ring n (setStream { s with next := r.seq } (streamPush ring (skipRecord d s.next (sdiff 32 r.seq s.next).toNat) d))
          else streamPump ring n (setStream { s with next := (r.seq + 1) % 2 ^ 32 } (streamPush ring r d))

/-- A bound on what a stream owes. -/
def streamBound (ring : Nat) (d : Dev) : Nat :=
  d.evr.mirror.length + d.evr.areaC.length + d.evr.areaF.length + ((d.evr.streams.find? fun s => s.ring == ring).elim 0 fun s => s.again.length) + 1

/-- Every stream sends what it owes. -/
def streamAll (d : Dev) : Dev := d.evr.streams.foldl (fun d s => streamPump s.ring (streamBound s.ring d) d) d

/-- A merged record that a stream has already sent is sent again with its new count (R515). -/
def streamMerged (r : Rec) (d : Dev) : Dev :=
  let mark (s : Stream) : Stream :=
    if sdiff 32 r.seq s.next < 0 ∧ (¬ s.areaF ∨ r.frozen) ∧ ¬ s.again.contains r.seq then { s with again := s.again ++ [r.seq] } else s
  streamAll { d with evr := { d.evr with streams := d.evr.streams.map mark } }

/-- Seal the record with sequence q: it loses OPEN, in area C and in its frozen copy (R506, R508). -/
def sealRec (q : Nat) (d : Dev) : Dev :=
  let upd := fun r : Rec => { r with isOpen := false }
  let c := mapRec q upd d.evr.areaC
  let f := match findRec q c with
    | some r => mapRec q (fun _ => r) d.evr.areaF
    | none => d.evr.areaF
  { d with evr := { d.evr with areaC := c, areaF := f, openSeqs := d.evr.openSeqs.filter (· != q) } }

/-- The oldest and newest fields of the areas (R521). -/
def evrIndexRegs (d : Dev) : Dev :=
  let first (l : List Rec) := match l.head? with | some r => r.seq | none => 0
  let last (l : List Rec) := match l.getLast? with | some r => r.seq | none => 0
  (((d.wr EVR.SEQ.NEXT d.evr.nextSeq).wr EVR.OLD_C (first d.evr.areaC)).wr EVR.OLD_F (first d.evr.areaF)).wr EVR.NEW_F (last d.evr.areaF)

/-- Create a record of an occurrence (R505, R506, R508): an open record with 8 newer ones is sealed, and F_FULL and EV152 follow when area F is full. -/
def newRec (o : Occ) (d : Dev) : Dev :=
  let q := d.evr.nextSeq
  let code := occCode o
  let rank := frozenRank code o.w1 && decide (capF d ≠ 0)
  let full := decide (capF d ≤ d.evr.areaF.length)
  let r : Rec := { seq := q, sec := o.sec, ns := o.ns, qual := o.qual, code := code, frozen := rank && !full, isOpen := true, lastGasp := o.lastGasp, inj := o.inj, src := o.src, rep := 0, w0 := o.w0, w1 := o.w1, off := 0 }
  let c := d.evr.areaC ++ [r]
  let c := if capC d < c.length then c.drop 1 else c
  let next := (q + 1) % 2 ^ 32
  let areaF := if r.frozen then d.evr.areaF ++ [r] else d.evr.areaF
  let e : EvrSt := { d.evr with areaC := c, areaF := areaF, openSeqs := d.evr.openSeqs ++ [q], nextSeq := next, blockEnd := if next = d.evr.blockEnd then d.evr.blockEnd + 4096 else d.evr.blockEnd }
  let d : Dev := { d with evr := e }
  let d : Dev := (d.evr.openSeqs.filter fun o => decide (8 ≤ sdiff 32 q o)).foldl (fun d o => sealRec o d) d
  let d : Dev := if capF d ≠ 0 ∧ capF d ≤ areaF.length ∧ ¬ d.flag EVR.STAT.F_FULL then raiseEv 152 0 0 (d.wr EVR.STAT.F_FULL 1) else d
  streamAll (evrIndexRegs d)

/-- ms from a record's first occurrence to an occurrence. -/
def offsetMs (o : Occ) (r : Rec) : Nat := ((o.sec * 1000000000 + o.ns) - (r.sec * 1000000000 + r.ns)) / 1000000

/-- The open record an occurrence would merge into (R506). -/
def openMatch (o : Occ) (d : Dev) : Option Rec :=
  d.evr.areaC.find? fun r => d.evr.openSeqs.contains r.seq && r.code == occCode o && r.src == o.src && r.w0 == o.w0

/-- Merge an occurrence into a record (R506): the repeat count, payload word 1 and the last offset; the 65,535th merge seals it. -/
def mergeRec (o : Occ) (r : Rec) (off : Nat) (d : Dev) : Dev :=
  let r' := { r with rep := r.rep + 1, w1 := o.w1, off := off }
  let d : Dev := { d with evr := { d.evr with areaC := mapRec r.seq (fun _ => r') d.evr.areaC } }
  let d := streamMerged r' d
  if r'.rep = 65535 then sealRec r.seq d else d

/-- REPEAT_S in effect, in s (R521: larger values act as 60). -/
def repeatS (d : Dev) : Nat := min 60 (d.rd EVR.CFG.REPEAT_S)

/-- Take one occurrence: merge it, or create a record (R506). -/
def takeOcc (o : Occ) (d : Dev) : Dev :=
  match openMatch o d with
  | some r =>
    if repeatS d = 0 then newRec o d
    else if repeatS d * 1000 < offsetMs o r then newRec o (sealRec r.seq d)
    else mergeRec o r (offsetMs o r) d
  | none => newRec o d

/-- Write a record at once, ahead of the queue (BT's and the recorder's own records). -/
def writeNow (unit num w0 w1 src : Nat) (d : Dev) : Dev := newRec (occOf d unit num w0 w1 src) d

/-! ### Loss of the memory die (R17, R510) -/

/-- The recorder runs as S (R510): records of area C that the mirror lacks are lost, the fallback area C starts empty, and its first record is
the gap record, with the sequences assigned above EVR.MIRR, for which EV154 is raised. -/
def evrFallback (d : Dev) : Dev :=
  if d.rd EVR.CFG.CONF = 0 ∨ d.flag EVR.STAT.FALLBACK then d
  else
    let lost := (d.evr.nextSeq + (2 ^ 32 - 1) - d.rd EVR.MIRR) % 2 ^ 32
    let d := (d.wr EVR.STAT.FALLBACK 1).wr EVR.STAT.RELOADING 0
    let q := d.evr.nextSeq
    raiseEv 154 q 0 (writeNow 13 0x001 lost 0 0 { d with evr := { d.evr with areaC := [], openSeqs := [] } })

/-- The memory die is lost to its users until the next cold or warm reset (R17, R61). -/
def memoryLost (d : Dev) : Dev := if d.pwr.memLost then d else evrFallback { d with pwr := { d.pwr with memLost := true } }

end Sys2Proof.Machine
end

