-- ==== Sys2Proof/Machine/Hooks.lean ====
section
/-! DEFINITION. What each unit does when its island stops, goes off, starts or is on, and when the operating state changes
(R21, R70, R88, R100, R102). -/
namespace Sys2Proof.Machine
open Sys2Proof

/-- APP stops or is off: commands that its firmware serves complete with UNIT_UNAVAILABLE (R70): analyses that need the application cores, and
SESS_POWER. -/
def appGone (d : Dev) : Dev :=
  let needs (q : Option (QpStruct × Nat)) : Bool := match q with
    | some (st, _) => !st.dense && (st.order.isEmpty || st.tree.isEmpty)
    | none => false
  let d := [0, 1].foldl (fun (d : Dev) p =>
    if needs (partSt d p).analysing then finishKind (.structLoad p) stUnavailable (setPart p { partSt d p with analysing := none } d) else d) d
  let d := if d.model.analysing.isSome then finishKind .modelLoad stUnavailable ((onModel (fun k => { k with analysing := none }) d).wr MODEL.MODEL_STAT.ANALYSING 0) else d
  finishWaits (fun w => match w.kind with
    | .session .. => some (stUnavailable, [])
    | _ => none) d

/-- STOPPING of island n begins (R70). -/
def stopHook (n : Nat) (d : Dev) : Dev :=
  match n with
  | 2 => appGone d
  | 11 => canFieldStop d
  | 8 => heatSettleAll (meterStop d)
  | _ => d
/-- Island n has gone off (R21, R88). -/
def offHook (n : Nat) (d : Dev) : Dev :=
  match n with
  | 2 => appGone d
  | 10 => netOff d
  | 11 => sessFieldOff (canFieldOff d)
  | 9 => settleMeter (meterStop (anaOff d))
  | 8 => meterOff (heatSettleAll d)
  | 13 => dropCaches (fun _ => true) d
  | 6 => solvOff d
  | 7 => modelOff d
  | _ => d
/-- STARTING of island n begins (R70). -/
def startHook (_n : Nat) (d : Dev) : Dev := d
/-- The PLL of an island that has one, by its bit in CLK_STAT.LOCK (R76). -/
def islandPll (n : Nat) : Option Nat := if n = 2 then some 0 else if n = 6 then some 1 else if 3 ≤ n ∧ n ≤ 5 then some (n - 1) else none
/-- The island's PLL has locked (R70, R76). -/
def pllLocked (n : Nat) (d : Dev) : Dev := match islandPll n with
  | some b => d.wr PWR.CLK_STAT.LOCK (setBit (d.rd PWR.CLK_STAT.LOCK) b true)
  | none => d
/-- The Bench tables whose producers work in island n (R31). -/
def islandTables (n : Nat) : List Nat :=
  if n = 9 then [1] else if n = 11 then [2] else if n = 8 then [3, 4] else if n = 6 then [0x10, 0x20, 0x21, 0x30] else if n = 7 then [0x11]
  else if n = 12 then [0x50] else []
/-- Island n has reached ON (R70); the producers in it have started (R27). -/
def onHook (n : Nat) (d : Dev) : Dev :=
  let d := (islandTables n).foldl (fun (d : Dev) t => producerStart t d) (loadDeferred n (pllLocked n d))
  match n with
  | 10 => netOn d
  | 11 => sessFieldOn (canFieldOn d)
  | 9 => settleMeter (anaOn d)
  | 8 => heatSettleAll (meterOn d)
  | 6 => solvOn d
  | 7 => modelOn d
  | 12 => resetPortRings 1 (resetPortRings 0 d)
  | _ => d
/-- KEEP-WARM is entered (R102). -/
def keepWarmHook (d : Dev) : Dev := leaveRun <| sdStop (abandonCycle 1 (abandonCycle 0 (handOver [.kw true] d)))
/-- The units' private state right after a cold or warm reset of the device `d`, put into `base` (R88): what eMRAM, flash and the Crust keep, and
at a warm reset the analogue die's safe-value latches. -/
def unitsAfterReset (kind : Nat) (d base : Dev) : Dev :=
  let ended := d.frc.ended ++ (d.frc.clp.map fun e => (e.2.space, e.2.addr, e.2.v)) ++ (d.frc.loop.map fun e => (16, e.1, e.2))
  partsAtStart <| keysAfterReset (modelRegs { base with upd := d.upd, model := { active := d.model.active }, keys := d.keys, time := { addrs := d.time.addrs, phase := min 900 (base.rd GLB.TEMPO.MODEL_PHASE) }, img := d.img, pio := { safeDac := if kind = 2 then d.pio.safeDac else [], safeDio := if kind = 2 then d.pio.safeDio else [] }, frc := { ended := ended }, meter := meterKept d.meter })
/-- Clock input n, by its bit in CLK_STAT.PRESENT (R79), is lost (R75): CAN_CLK 4, MCLK 5, ADC_CLK 6. -/
def clockLossHook (n : Nat) (d : Dev) : Dev :=
  match n with
  | 4 => canClockLost d
  | 6 => sarsStop d
  | 5 => settleMeter (meterStop d)
  | _ => d
/-- Clock input n is valid again (R75). -/
def clockReturnHook (n : Nat) (d : Dev) : Dev :=
  match n with
  | 6 => sarsStart d
  | 5 => settleMeter d
  | _ => d
/-- Room may have appeared in stream ring n (R116). -/
def ringSpaceHook (_n : Nat) (d : Dev) : Dev := mtrPump 4100 d
/-- The Starter has become unusable (R147, R158): what the keys' users do. -/
def starterGone (d : Dev) : Dev := dropCaches (fun _ => true) d
/-- RUN is entered from PROOF: the functions start (R105, R179). -/
def runHook (d : Dev) : Dev :=
  let d : Dev := { d with time := { d.time with runAt := d.up } }
  let d := [0, 1, 2].foldl (fun (d : Dev) l => if laneLState d l = 5 then laneLoad d.boot.committedLocked l d else d) d
  let d := eachLane (fun x => { x with safe := d.flag LANES.STAT.SAFE_ACT }) d
  let d := anaOn d
  let d := solvStart (heatStart (meterStart (netOn d)))
  if islandOn d 11 then sessRun (canStartEnabled d) else d
/-- PFAIL_N has fallen: the checkpoints that units make within the 2 ms (R51). -/
def pfailHook (d : Dev) : Dev := meterCkpt true (retentiveCopy d)
/-- RACK is entered (R100). -/
def rackHook (d : Dev) : Dev := leaveRun (sessRack (netRack d))

end Sys2Proof.Machine
end

