-- ==== Sys2Proof/Machine/Power.lean ====
section
/-! DEFINITION. Islands (R69 to R74), the SAFE path (R469 to R471), lane isolation (R465), a PCIe port that is gone (R138) and the operating
states (R90, R100, R102). -/
namespace Sys2Proof.Machine
open Sys2Proof

/-! ### The Crust's events and supplies (R63, R142, R144) -/

/-- The control die is running: the events of the Crust reach the rings and the recorder. -/
def dieRunning (d : Dev) : Bool := decide (2 ≤ opState d) && !d.pwr.heldDie

/-- Raise an event of the Crust, while the control die is running (R144, R158, R167). -/
def crustEvent (e : Nat) (d : Dev) : Dev := if dieRunning d then raiseEv e 0 0 d else d

/-- Rail n has left its range: GOOD follows, and VIOL with the rail's detector while the device runs (R61, R63). -/
def railBad (n : Nat) (d : Dev) : Dev :=
  let d := d.wr PWR.RAIL_STAT.GOOD (setBit (d.rd PWR.RAIL_STAT.GOOD) n false)
  if dieRunning d then d.wr PWR.RAIL_STAT.VIOL (setBit (d.rd PWR.RAIL_STAT.VIOL) n true) else d

/-- VAUX33 falls below its range (R142): the Crust runs from VBAT, or is without supply; the Crust port is unpowered (R43), and without VAUX33 the
SAFE action of a tamper input does not act (R158). -/
def vauxLost (d : Dev) : Dev :=
  if ¬ d.crust.vaux then d
  else
    let run := dieRunning d
    let d := railBad 0 { d with crust := { d.crust with vaux := false, acked := false } }
    let d := crustEvent 20 (d.wr CRUST.STATUS.ON_VBAT 1)
    if run then raise 0 0 d else d

/-- VBAT stands below 2.2 V, or below 2.0 V (R63, R144): BAT_LOW and BAT_ABSENT, GOOD bit 11, and EV19 once per change. -/
def batLevel (low abs : Bool) (d : Dev) : Dev :=
  let changed := (d.flag CRUST.STATUS.BAT_LOW != low) || (d.flag CRUST.STATUS.BAT_ABSENT != abs)
  let fell := abs && !d.flag CRUST.STATUS.BAT_ABSENT
  let d := (d.put CRUST.STATUS.BAT_LOW low).put CRUST.STATUS.BAT_ABSENT abs
  let d := if fell then railBad 11 d else d.wr PWR.RAIL_STAT.GOOD (setBit (d.rd PWR.RAIL_STAT.GOOD) 11 !abs)
  let d : Dev := if abs then d else { d with crust := { d.crust with vbat := true } }
  let d := if changed then crustEvent 19 d else d
  if fell && dieRunning d then raise 11 0 d else d

/-! ### The SAFE path -/

/-- The SAFE path is applied (R469). -/
def safeAct (d : Dev) : Bool := d.flag LANES.STAT.SAFE_ACT

/-- Apply the SAFE path with cause bit b: the bit and SAFE_ACT are set, and EV138 is raised when the path was not applied (R469). -/
def applySafe (b : Nat) (d : Dev) : Dev :=
  let was := safeAct d
  let d := (d.wr LANES.SAFE.CAUSE (d.rd LANES.SAFE.CAUSE ||| 2 ^ b)).wr LANES.STAT.SAFE_ACT 1
  if was then d else handOver [.safe true] (raiseEv 138 (d.rd LANES.SAFE.CAUSE) 0 { d with gate := { d.gate with safeAt := d.up } })

/-- Clear cause bit b; the path itself stays until it is released (R470). -/
def clearSafeCause (b : Nat) (d : Dev) : Dev := d.wr LANES.SAFE.CAUSE (setBit (d.rd LANES.SAFE.CAUSE) b false)

/-- Release the SAFE path (R470, R471): local outputs are driven again from publications that start at or after the hand-over's effective tick, and
stand at their safe levels until then. -/
def releaseSafe (d : Dev) : Dev :=
  if safeAct d then
    let d := raiseEv 138 (d.rd LANES.SAFE.CAUSE) 0 (d.wr LANES.STAT.SAFE_ACT 0)
    let spans := (d.gate.safeAt, d.up) :: d.gate.spans.filter fun e => decide (d.up ≤ e.2 + 10000000)
    handOver [.safe false] (keepSafeLevels { d with gate := { d.gate with driveFrom := effTick 20000 d, spans := spans } })
  else d

/-! ### Lanes in service -/

/-- The LSTATE field of lane l (R479). -/
def LSTATE (l : Nat) : FRef := ⟨0x1500004, 4 * l + 2, 4 * l, 0⟩
/-- LSTATE of lane l: 0 OFF, 1 STARTING, 2 SELFTEST, 3 MIRRORING, 4 SHADOW, 5 IN, 6 ISOLATED. -/
def lstate (d : Dev) (l : Nat) : Nat := d.rd (LSTATE l)
/-- Lane l is in service: it is voted. -/
def laneIn (d : Dev) (l : Nat) : Bool := lstate d l == 5
/-- Number of lanes in service. -/
def inServ (d : Dev) : Nat := b2n (laneIn d 0) + b2n (laneIn d 1) + b2n (laneIn d 2)
/-- The lowest-lettered lane in service (R38, R459). -/
def firstLane (d : Dev) : Option Nat := if laneIn d 0 then some 0 else if laneIn d 1 then some 1 else if laneIn d 2 then some 2 else none

/-- A lane out of service holds no shadow of an activation (R555). -/
def Arming.without (l : Nat) (a : Arming) : Arming := { a with lanes := a.lanes.filter (· != l) }

/-- Set a lane's LSTATE, with EV136 and INSERV (R478, R479). -/
def setLState (l v : Nat) (d : Dev) : Dev :=
  if lstate d l = v then d
  else
    let d : Dev := { d.wr (LSTATE l) v with upd := { d.upd with arm := d.upd.arm.map (Arming.without l) } }
    raiseEv 136 l v (d.wr LANES.STAT.INSERV (inServ d))

/-- After a change of service: cause 0 and FD97 below two lanes, cause 0 cleared with two (R466, R468, R469). -/
def checkPair (d : Dev) : Dev :=
  if inServ d < 2 then raise 97 (inServ d) (applySafe 0 d) else clearSafeCause 0 d

/-! ### RUN and KEEP-WARM -/

/-- Change the operating state, raising EV7 (R90, R136). -/
def setState (st : Nat) (d : Dev) : Dev :=
  if opState d = st then d else let d := d.wr GLB.STATE.STATE st; raiseEv 7 0 0 d

/-- Enter KEEP-WARM from RUN with a cause: remote setpoints freeze, partitions D and F and the Distributor stop (R90, R102,
R104); VDDC goes back to 750 mV by the AVSBus commands that follow (R65, R66). -/
def enterKeepWarm (cause : Nat) (d : Dev) : Dev :=
  if opState d = 3 then
    let d := setState 4 (d.wr GLB.STATE.KW_CAUSE cause)
    keepWarmHook { d with boot := { d.boot with frozenRsp := true, exitPlan := false } }
  else d

/-! ### A port that is gone (R138) -/

/-- Stop ring n because its port is gone: STOPPED with code 6, nothing fetched kept (R138). -/
def ringLost (n : Nat) (d : Dev) : Dev :=
  if ringState d n = 0 then d
  else setRingSt n {} (((d.wr (HOST.RING.STAT.STATE n) 0).wr (HOST.RING.STAT.ERR_CODE n) 6).wr (HOST.RING.CFG.EN n) 0)

/-- The ownership word with every block given to port q (R138). -/
def ownTo (q : Nat) : Nat := if q = 0 then 0 else 0xFFFFFFFF

/-- Port p is gone, cause 1 to 6 (R138). Commands in execution complete inside, and their completions are not written. PERST and a Function Level
Reset, causes 2 and 3, are a port reset (R88, R106), after which the rings that ran still show ERR_CODE 6 (R138; log 86). -/
def portGoneOp (p cause : Nat) (d : Dev) : Dev :=
  if portIsGone d p ∨ ¬ portEnabled d p then d
  else
    let bme := d.flag (HOST.PORT.STAT.BME p)
    let ran := (List.range 16).filter fun k => ringState d (16 * p + k) != 0
    let d : Dev := { d with host := { d.host with gone := d.host.gone ++ [p] } }
    let d := loseWaits (fun w => w.hdr.port.val == p) (ran.foldl (fun (d : Dev) k => ringLost (16 * p + k) d) d)
    let d := if cause = 2 ∨ cause = 3 then ran.foldl (fun (d : Dev) k => d.wr (HOST.RING.STAT.ERR_CODE (16 * p + k)) 6) (portReset p d) else d
    let d := if cause = 5 then onPci p (fun c => { c with d3hot := true }) d else d
    let d := d.bump (HOST.PORT.STAT.LOSSES p)
    let d := if cause = 6 then d.wr (HOST.PORT.STAT.HB_LOST p) 1 else d
    let d := if cause ≤ 3 then d.wr (HOST.PORT.STAT.LINK_UP p) 0 else d
    let d := if cause = 2 ∨ cause = 3 ∨ cause = 4 then d.wr (HOST.PORT.STAT.BME p) 0 else d
    let d := record 1 0x001 p cause 0 d
    let d := if cause = 1 ∧ bme then raise (102 + p) cause d else d
    let q := 1 - p
    if portEnabled d q ∧ ¬ portIsGone d q then
      raiseEvAt [q] 0 4 0 0 (raiseEvAt [q] 0 2 0 0 (d.wr HOST.OWN.BLOCK (ownTo q)))
    else
      let d := raise 105 p d
      if d.rd HOST.LOSS_CFG.ACT = 1 then enterKeepWarm 1 d else d

/-- HOST goes off: both links go down (R21, R70). -/
def hostDown (d : Dev) : Dev := portGoneOp 1 1 (portGoneOp 0 1 d)

/-! ### Islands -/

/-- Source CAUSE codes of an island's off (R74). -/
abbrev causeHost : Nat := 1
abbrev causeFcu : Nat := 2
abbrev causeCs : Nat := 3
abbrev causeTherm : Nat := 4
abbrev causeUpd : Nat := 5
abbrev causeTimer : Nat := 6
abbrev causeRack : Nat := 7

/-- The result word of ISLAND_POWER: PWR.ISL_STAT[n] (R130). -/
def islWord (d : Dev) (n : Nat) : Nat :=
  d.rd (PWR.ISL_STAT.STATE n) + d.rd (PWR.ISL_STAT.REFUSED n) * 2 ^ 8 + d.rd (PWR.ISL_STAT.PENDING_REARM n) * 2 ^ 9 +
  d.rd (PWR.ISL_STAT.MINOFF n) * 2 ^ 10 + d.rd (PWR.ISL_STAT.HELD n) * 2 ^ 11 + d.rd (PWR.ISL_STAT.CAUSE n) * 2 ^ 20 +
  d.rd (PWR.ISL_STAT.OFF_COUNT n) * 2 ^ 24

/-- Holds on island n (R73). -/
def holdBits (d : Dev) (n : Nat) : Nat := lookD d.pwr.holds n 0
/-- Island n is HELD. -/
def held (d : Dev) (n : Nat) : Bool := d.flag (PWR.ISL_STAT.HELD n)

/-- Complete the ISLAND_POWER commands waiting for island n, on or off, with PWR.ISL_STAT (R132). -/
def finishIsland (n : Nat) (on : Bool) (d : Dev) : Dev := finishKindWith (.island n on) stOK [islWord d n] d

/-- Island n leaves ON: STOPPING begins, for the given cause (R70). -/
def beginStop (n cause : Nat) (d : Dev) : Dev :=
  stopHook n <| (fun d => if n = 12 then hostDown d else d) { (d.wr (PWR.ISL_STAT.STATE n) 3).wr (PWR.ISL_STAT.CAUSE n) cause with
    pwr := { d.pwr with waitOff := del n d.pwr.waitOff } }

/-- Island n starts (R70, R71). -/
def beginStart (n : Nat) (d : Dev) : Dev := startHook n ((d.wr (PWR.ISL_STAT.STATE n) 1).wr (PWR.ISL_STAT.PENDING_REARM n) 0)

/-- The island has no power from here on: OFF, the minimum off time running, the transition counted, its state lost (R70, R88); the ISLAND_POWER
commands that wait for it complete, since it has reached OFF (R132). -/
def nowOff (n : Nat) (d : Dev) : Dev :=
  let d := ((d.wr (PWR.ISL_STAT.STATE n) 0).wr (PWR.ISL_STAT.MINOFF n) 1).bump (PWR.ISL_STAT.OFF_COUNT n)
  let d : Dev := { d with pwr := { d.pwr with waitOff := del n d.pwr.waitOff } }
  finishIsland n true (finishIsland n false (offHook n (if n = 12 then hostDown d else d)))

/-- An off request by the host or the update system (R71, R72). -/
def requestOff (n cause : Nat) (d : Dev) : Dev :=
  let d := if n = 12 then d else d.wr (PWR.ISL_CTRL.EN n) 0
  match islState d n with
  | 2 => beginStop n cause d
  | 1 => { d with pwr := { d.pwr with waitOff := ins n cause d.pwr.waitOff } }
  | _ => d.wr (PWR.ISL_STAT.PENDING_REARM n) 0

/-- An enable by the host or the update system (R71, R72, R73). -/
def requestOn (n : Nat) (d : Dev) : Dev :=
  if held d n then d.wr (PWR.ISL_STAT.REFUSED n) 1
  else
    let d := d.wr (PWR.ISL_CTRL.EN n) 1
    match islState d n with
    | 0 => if d.flag (PWR.ISL_STAT.MINOFF n) then d.wr (PWR.ISL_STAT.PENDING_REARM n) 1 else beginStart n d
    | 3 => d.wr (PWR.ISL_STAT.PENDING_REARM n) 1
    | 1 =>
      -- the cancelled off requests complete at ON, as this enable does
      { d with
        pwr := { d.pwr with waitOff := del n d.pwr.waitOff }
        host := { d.host with waits := d.host.waits.map fun w => if w.kind = .island n false then { w with kind := .island n true } else w } }
    | _ => d

/-- The update system restarts island n (R69, R70, R72): off with CAUSE 5 and on again; during STARTING the off waits until ON, and an island that
is OFF or STOPPING takes its new image when it next starts. -/
def restartIsland (n : Nat) (d : Dev) : Dev :=
  match islState d n with
  | 2 => requestOn n (beginStop n causeUpd d)
  | 1 => { d with pwr := { d.pwr with waitOff := ins n causeUpd d.pwr.waitOff } }
  | _ => d

/-- An off by the FCU, CS, the thermal manager or Rack state, without a hold: at once from ON or STARTING (R72). -/
def forceOff (n cause : Nat) (d : Dev) : Dev :=
  match islState d n with
  | 2 => beginStop n cause d
  | 1 => beginStop n cause d
  | _ => d.wr (PWR.ISL_STAT.CAUSE n) cause

/-- Hold island n off for a source (R73): HELD, no latched enable, and off. -/
def hold (n src : Nat) (d : Dev) : Dev :=
  let d : Dev := { d with pwr := { d.pwr with holds := ins n (setBit (holdBits d n) src true) d.pwr.holds } }
  forceOff n src ((d.wr (PWR.ISL_STAT.HELD n) 1).wr (PWR.ISL_STAT.PENDING_REARM n) 0)

/-- Release a source's hold; the island starts if its requested state is ON (R73, R490): HOST's is OFF while its return time runs. -/
def releaseHold (n src : Nat) (d : Dev) : Dev :=
  let bits := setBit (holdBits d n) src false
  let d : Dev := { d with pwr := { d.pwr with holds := if bits = 0 then del n d.pwr.holds else ins n bits d.pwr.holds } }
  if bits ≠ 0 ∨ ¬ held d n then d
  else
    let d := d.wr (PWR.ISL_STAT.HELD n) 0
    if ¬ d.flag (PWR.ISL_CTRL.EN n) ∨ (n = 12 ∧ d.host.returnSecs.isSome) then d
    else if islState d n = 0 ∧ ¬ d.flag (PWR.ISL_STAT.MINOFF n) then beginStart n d
    else if islState d n = 0 ∨ islState d n = 3 then d.wr (PWR.ISL_STAT.PENDING_REARM n) 1
    else d

/-- CS opens an island's switch directly, without STOPPING: OFF, HELD, CAUSE 3 (R165). -/
def csPowerOff (n : Nat) (d : Dev) : Dev :=
  let d : Dev := { d with pwr := { d.pwr with holds := ins n (setBit (holdBits d n) 3 true) d.pwr.holds } }
  let d := ((d.wr (PWR.ISL_STAT.HELD n) 1).wr (PWR.ISL_STAT.PENDING_REARM n) 0).wr (PWR.ISL_STAT.CAUSE n) 3
  if islState d n = 0 then d else nowOff n d

/-- A lane leaves service with a cause of R479 (R465): out of the vote from the next index, its island opened by CS, its private state
lost, FD93 + l raised, and the pair checked. -/
def dropLane (l cause : Nat) (d : Dev) : Dev :=
  let d := setLState l 6 (d.wr (LANES.LANE.CNT.ISO_CAUSE l) cause)
  let d := csPowerOff (3 + l) { d with lane := del l d.lane }
  checkPair (raise (93 + l) cause d)

/-- A re-admission ends with a status (R472, R474, R478): EV139, and FD101 unless it succeeded. -/
def endReadmit (lane status : Nat) (d : Dev) : Dev :=
  let d : Dev := { d.wr LANES.STAT.READMIT 0 with gate := { d.gate with readmit := none } }
  let d := raiseEv 139 lane status d
  if status = 0 then d else raise 101 lane d

/-- A running re-admission fails: the lane is isolated again (R474). -/
def failReadmit (status : Nat) (d : Dev) : Dev :=
  match d.gate.readmit with
  | none => d
  | some r => endReadmit r.lane status (dropLane r.lane 9 d)

/-- Isolate lane l with a cause of R479 (R464, R465). A re-admission of that lane ends with MIRROR_FAIL; one that mirrors from it with
MIRROR_ABORT (R474). -/
def isolate (l cause : Nat) (d : Dev) : Dev :=
  if lstate d l = 6 then d
  else
    let d := dropLane l cause d
    match d.gate.readmit with
    | none => d
    | some r =>
      if r.lane = l then endReadmit l 0x0A05 d
      else if r.source = l ∧ (lstate d r.lane = 3 ∨ lstate d r.lane = 4) then failReadmit 0x0A06 d
      else d

/-! ### Thermal limits -/

/-- T_KW of the grade (R82), in 0.5 °C. -/
def tKw (d : Dev) : Int := if d.pwr.gradeE then 254 else 240
/-- TJ as last read, in 0.5 °C. -/
def tj (d : Dev) : Int := sgn 10 (d.rd PWR.THERM_STAT.TJ)

/-- VMIN and VMAX in effect, 700 to 850 mV: R68 gives that range and no action of a value outside it; here it acts as the nearest limit (DESIGN
CHOICE, log 81). -/
def avsMin (d : Dev) : Nat := clampN 700 850 (d.rd PWR.AVS_CTRL.VMIN)
def avsMax (d : Dev) : Nat := clampN 700 850 (d.rd PWR.AVS_CTRL.VMAX)

/-- The voltage adapts: RUN, ADAPT 1, VMIN not above VMAX, the regulator answering (R66, R67, R68). -/
def avsAdapt (d : Dev) : Bool :=
  opState d == 3 && d.flag PWR.AVS_CTRL.ADAPT && decide (avsMin d ≤ avsMax d) && !d.flag PWR.AVS_STAT.CAP

/-- The VDDC that a pair of clock steps needs, as BT reads it from the ring oscillators: a free value within VMIN to VMAX (R66, log 81). -/
def vddcNeed (d : Dev) (solv app : Nat) : Nat := clampN (avsMin d) (avsMax d) (Config.vddcFor solv app)

/-- The clock steps that throttle level, caps and settings give (R83): solver and application cores. -/
def wantedSteps (d : Dev) : Nat × Nat :=
  let cap := d.flag PWR.AVS_STAT.CAP
  (max d.pwr.solvSteps (max (if d.flag PWR.THERM_STAT.GRADE_CAP then 2 else 0) (if cap then 2 else 0)),
   max d.pwr.appSteps (max (if cap then 2 else 0) (if d.flag PWR.THERM_STAT.KW_THERM then 4 else 0)))

/-- The clocks in effect as steps (R83, R87): a clock is lowered at once; while the voltage adapts, a clock rises only when the voltage read back
suffices for it (R66). -/
def clockSteps (d : Dev) : Dev :=
  let w := wantedSteps d
  let solv := d.rd PWR.THERM_STAT.SOLV_STEP
  let app := d.rd PWR.THERM_STAT.APP_STEP
  let up := !avsAdapt d || decide (vddcNeed d w.1 w.2 ≤ d.pwr.vRead)
  ((d.wr PWR.THERM_STAT.SOLV_STEP (if up then w.1 else max solv w.1)).wr PWR.THERM_STAT.APP_STEP (if up then w.2 else max app w.2)).put
    PWR.THERM_STAT.THROT (d.pwr.solvSteps + d.pwr.appSteps != 0)

/-! ### Operating states -/

/-- The islands that Rack state switches off and holds (R100). -/
def rackIslands : List Nat := [3, 4, 5, 6, 7, 8, 9]

/-- Enter RACK: the SAFE path is applied, the islands of R100 go off and are held with CAUSE 7; a Proof hang count clears (R92). -/
def enterRack (cause : Nat) (d : Dev) : Dev :=
  if opState d = 5 then d
  else
    let d := setState 5 (d.wr GLB.STATE.RACK_CAUSE cause)
    let d : Dev := { d with boot := { d.boot with hangs := 0 } }
    let d := if safeAct d then d else raiseEv 138 (d.rd LANES.SAFE.CAUSE) 0 { d.wr LANES.STAT.SAFE_ACT 1 with gate := { d.gate with safeAt := d.up } }
    let d := [0, 1, 2].foldl (fun d l => setLState l 0 { d with lane := del l d.lane }) d
    let d := (rackIslands ++ d.boot.failedIslands.filter (fun n => 2 ≤ n && !rackIslands.contains n)).foldl
      (fun d n => hold n causeRack d) d
    rackHook d

/-- Leave KEEP-WARM for RUN; remote setpoints stay frozen until a DISP_TRAJ of a plan cycle after the exit (R103). -/
def exitKeepWarm (d : Dev) : Dev :=
  let d := setState 3 d
  handOver [.kw false] { d with boot := { d.boot with frozenRsp := true, exitPlan := false } }

end Sys2Proof.Machine
end

