-- ==== Sys2Proof/Machine/Links.lean ====
section
/-! DEFINITION. The links that a lost SerDes supply or clock takes down (R61, R75). -/
namespace Sys2Proof.Machine
open Sys2Proof

/-- All SerDes links are down (R61): both PCIe ports are gone, the SerDes Ethernet links are down. -/
def linksLost (d : Dev) : Dev := ethSerdesDown (hostDown d)

/-- What the loss of clock input n, by its bit in CLK_STAT.PRESENT (R79), stops beside its detector (R75): SDREF 1, PCIe REFCLK 2 and 3; the
others are the units' own. -/
def clockLinks (n : Nat) (d : Dev) : Dev :=
  if n = 1 then ethSerdesDown d else if n = 2 ∨ n = 3 then portGoneOp (n - 2) 1 d else d

end Sys2Proof.Machine
end

