-- ==== Sys2Proof/Machine/Reactions.lean ====
section
/-! DEFINITION. The UNIT reactions of detectors (REACT 1 of R481): what the function concerned does, as its own chapter states. -/
namespace Sys2Proof.Machine
open Sys2Proof

/-- What a Proof finding on one function does where no detector's own reaction says it (R95): a port's rings are stopped, a PRP pair is disabled,
TE leaves service time to the AON counter. The application cores share their tasks, which changes no state here. -/
def proofReact (f : Nat) (d : Dev) : Dev :=
  if f = 102 ∨ f = 103 then
    (List.range 16).foldl (fun (d : Dev) k => (d.wr (HOST.RING.STAT.STATE (16 * (f - 102) + k)) 0).wr (HOST.RING.CFG.EN (16 * (f - 102) + k)) 0) d
  else if f = 200 then domEnable 1 (domEnable 0 d)
  else d

/-- A function that Proof found faulty stays disabled (R95). -/
def noteBad (f : Nat) (d : Dev) : Dev :=
  { d with boot := { d.boot with badFuncs := if badFunc d f then d.boot.badFuncs else d.boot.badFuncs ++ [f] } }

/-- The reaction to a rail or clock input whose monitor reports it while it is in order: a fault that is injected, or raised without its own event
(R61, R75, R499). After its own event, which has marked the rail or clock and acted, nothing is left to do. -/
def supplyReact (det : Nat) (d : Dev) : Dev :=
  if det ≤ 11 then
    if ¬ bitOf (d.rd PWR.RAIL_STAT.GOOD) det then d
    else if det = 3 ∨ det = 5 then (if islState d 9 = 0 then d else nowOff 9 (d.wr (PWR.ISL_STAT.CAUSE 9) 0))
    else if det = 8 then linksLost d
    else if det = 1 ∨ det = 9 ∨ det = 10 then memoryLost d
    else d
  else if 13 ≤ det ∧ det ≤ 19 ∧ bitOf (d.rd PWR.CLK_STAT.PRESENT) (det - 12) then clockLossHook (det - 12) (clockLinks (det - 12) d)
  else d

/-- The UNIT reaction of detector det with its detail word (R481, R495); `proof` for a finding that Proof made on the function (R95). -/
def unitReact (proof : Bool) (det _detail : Nat) (d : Dev) : Dev :=
  let d := if proof then noteBad det d else d
  if 106 ≤ det ∧ det ≤ 111 then ethFault (det - 106) d
  else if 115 ≤ det ∧ det ≤ 130 then canFault (det - 115) d
  else if 139 ≤ det ∧ det ≤ 142 then dspFault (det - 139) proof d
  else if 59 ≤ det ∧ det ≤ 62 then dspFault (det - 59) proof d
  else if det = 84 then memoryLost d
  else if 144 ≤ det ∧ det ≤ 147 then tileFault (det - 144) d
  else if 152 ≤ det ∧ det ≤ 159 then mapTileOut (det - 152) d
  else if det = 133 ∨ det = 134 then sarFault (det - 133) proof d
  else if proof then proofReact det d
  else if det ≤ 19 then supplyReact det d
  else if det = 27 then clockSteps ((d.wr PWR.AVS_STAT.NO_RESP 1).wr PWR.AVS_STAT.CAP 1)
  else if det = 105 ∧ d.rd HOST.LOSS_CFG.ACT = 1 then enterKeepWarm 1 d
  else d

end Sys2Proof.Machine
end

