-- ==== Sys2Proof/Machine/Fcu.lean ====
section
/-! DEFINITION. The FCU at work: raises, records, reactions, escalation and clearing (R480 to R491), and the end of every
step, at which the raises made in it take effect together (R483). -/
namespace Sys2Proof.Machine
open Sys2Proof

/-- Class in effect of detector det: never milder than the table's (R484). -/
def classOf (d : Dev) (det : Nat) : Nat := min 5 (max (d.rd (FCU.DET.CLASS det)) (fdClass det))

/-- The handling window of a class in s; 0 means none (R480, R503). -/
def windowOf (d : Dev) (cls : Nat) : Nat := if cls = 2 ∨ cls = 3 ∨ cls = 4 then d.rd (FCU.WIN (cls - 2)) else 0

/-- A window of class cls starts for the record of detector n (R480, R482): none where the class has none. -/
def startWindow (n cls : Nat) (d : Dev) : Dev :=
  let w := windowOf d cls
  { d with fcu := { d.fcu with winEnd := if w = 0 then del n d.fcu.winEnd else ins n (d.up + w * 1000000000) d.fcu.winEnd } }

/-- The window of a record stops (R489). -/
def stopWindow (n : Nat) (d : Dev) : Dev := { d with fcu := { d.fcu with winEnd := del n d.fcu.winEnd } }

/-- The condition of a detector is present, as R489 states it for those whose condition lasts beyond the raise. -/
def condActive (d : Dev) (n : Nat) : Bool :=
  if n ≤ 11 then !bitOf (d.rd PWR.RAIL_STAT.GOOD) n
  else if n ≤ 19 then !bitOf (d.rd PWR.CLK_STAT.PRESENT) (n - 12)
  else if n ≤ 26 then !bitOf (d.rd PWR.CLK_STAT.LOCK) (n - 20)
  else if n = 29 then decide (tKw d - 20 < tj d)
  else if n = 97 then decide (inServ d < 2)
  else if n = 164 then d.rd CRUST.TAMP_STAT.ACTIVE != 0
  else false

/-- Whether the detector's raises are suppressed: its source's island is not ON, or its lane is isolated and not yet IN (R487). -/
def suppressed (d : Dev) (r : Raise) : Bool :=
  match fdSourceIsland r.det r.detail with
  | none => false
  | some n => decide (2 ≤ n) && (!islandOn d n ||
      (decide (3 ≤ n) && decide (n ≤ 5) && lstate d (n - 3) != 5 && lstate d (n - 3) != 0))

/-- Remember that the record of a detector holds island n (R490). -/
def noteHold (det n : Nat) (d : Dev) : Dev :=
  { d with fcu := { d.fcu with holds := ins det (n :: lookD d.fcu.holds det []) d.fcu.holds } }

/-- Hold the islands of a detector, remembering them with the record; a lane island is isolated instead (R481, R482). -/
def holdFor (det : Nat) (isls : List Nat) (d : Dev) : Dev :=
  let src := if det = 29 then causeTherm else causeFcu
  isls.foldl (fun d n =>
    if n < 2 then d
    else if 3 ≤ n ∧ n ≤ 5 then isolate (n - 3) (if 50 ≤ det ∧ det ≤ 55 then 5 else 10) d
    else noteHold det n (hold n src d)) d

/-- CS acts itself: SAFE cause 3, remembered for the clearing of the record (R35, R491, R493). -/
def csActs (det : Nat) (d : Dev) : Dev :=
  applySafe 3 { d with fcu := { d.fcu with csActed := if d.fcu.csActed.contains det then d.fcu.csActed else det :: d.fcu.csActed } }

/-- Hold an island that failed Proof; a lane is held off without an isolation (R95). -/
def holdProof (det n : Nat) (d : Dev) : Dev :=
  let d := if 3 ≤ n ∧ n ≤ 5 then setLState (n - 3) 0 { d with lane := del (n - 3) d.lane } else d
  if n < 2 then d
  else noteHold det n (hold n causeFcu d)

/-- The source bits of an island-fault raise: bit 1 a Proof finding on the whole island, bit 2 a Proof finding on the one function whose
detector the detail word names (R95). -/
def reactIsland (r : Raise) (d : Dev) : Dev :=
  if r.src = 4 then unitReact true r.detail 0 d
  else if r.src = 2 then holdProof r.det (r.det - 32) d
  else holdFor r.det (fdIslands r.det r.detail) d

/-- The reaction of a raise (R481). The resets that CS makes on rails, REFCLK and the thermal trip are those events' own (R61, R75, R86). -/
def react (r : Raise) (d : Dev) : Dev :=
  let d := unitReact false r.det r.detail d
  if 33 ≤ r.det ∧ r.det ≤ 45 then reactIsland r d
  else
  match fdReact r.det with
  | 2 => holdFor r.det (fdIslands r.det r.detail) d
  | 3 => holdFor r.det (fdIslands r.det r.detail) d
  | 4 => if r.det = 96 then applySafe 1 d
    else if r.det = 97 then (let d := applySafe 0 d; if inServ d < 2 then d else clearSafeCause 0 d)
    else if r.det = 68 then csActs 68 d else d
  | _ => d

/-- The state change of a class (R480, R483). -/
def classChange (det cls : Nat) (d : Dev) : Dev :=
  if cls = 4 then enterKeepWarm (if det = 29 then 3 else 2) d
  else if cls = 5 then (if opState d = 3 ∨ opState d = 4 then enterRack 3 d else d)
  else d

/-- Open the record of a detector (R485). -/
def openRecord (r : Raise) (cls : Nat) (d : Dev) : Dev :=
  let n := r.det
  let d := ((((d.wr (FCU.REC.STATE.OPEN n) 1).wr (FCU.REC.STATE.ACK n) 0).wr (FCU.REC.STATE.ESC n) 0).wr (FCU.REC.STATE.REPEAT n) 0)
  let d := (d.put (FCU.REC.STATE.INJ n) r.inj).put (FCU.REC.STATE.DRY n) r.dry
  let d := (if r.dry then stopWindow n else startWindow n cls) (d.wr (FCU.REC.STATE.CLASS n) cls)
  let d := ((d.wr (FCU.REC.SRC n) r.src).wr (FCU.REC.DETAIL n) r.detail).wr (FCU.REC.MERGE n) 0
  let d := ((d.wr (FCU.REC.FIRST_SEC n) (svcSec d)).wr (FCU.REC.FIRST_NS n) (svcNs d)).wr (FCU.REC.LAST_SEC n) (svcSec d)
  raiseEv 144 n cls (d.wr (FCU.REC.LOC n) r.loc)

/-- Merge a raise into the open record (R486). -/
def mergeRecord (r : Raise) (d : Dev) : Dev :=
  let n := r.det
  let d := d.bump (FCU.REC.MERGE n)
  let d := (d.wr (FCU.REC.SRC n) (d.rd (FCU.REC.SRC n) ||| r.src)).wr (FCU.REC.LAST_SEC n) (svcSec d)
  let d := if d.flag (FCU.REC.STATE.ACK n) then d.wr (FCU.REC.STATE.REPEAT n) 1 else d
  record 12 0x001 n (d.rd (FCU.REC.MERGE n)) 0 d

/-- A Proof finding on an island or on a function of it (R95). -/
def proofFinding (r : Raise) : Bool := decide (33 ≤ r.det) && decide (r.det ≤ 45) && (r.src == 2 || r.src == 4)

/-- The record of one raise (R480, R485 to R487, R499, R500), and whether its reaction follows: its record has opened and is not dry, or it is a Proof
finding, whose effect R95 gives also when another of its island has opened the record. In PROOF nothing is raised: the finding waits for the entry to
RUN. -/
def noteRaise (r : Raise) (d : Dev) : Dev × Bool :=
  if 172 ≤ r.det then (d, false)
  else if opState d = 2 then ({ d with boot := { d.boot with findings := d.boot.findings ++ [r] } }, false)
  else
    let d := d.bump (FCU.DET.COUNT r.det)
    if suppressed d r then (d.bump FCU.SUM.SUPPRESSED, false)
    else
      let cls := classOf d r.det
      if cls = 0 then (record 12 0x003 r.det r.detail 0 d, false)
      else if d.flag (FCU.REC.STATE.OPEN r.det) then (mergeRecord r d, proofFinding r)
      else (openRecord r cls d, !r.dry)

/-- The reaction of a raise whose record has opened, and the state change of its class (R480, R481). -/
def reactTo (r : Raise) (d : Dev) : Dev := classChange r.det (classOf d r.det) (react r d)

/-- Take one raise: its record, and its reaction. -/
def takeRaise (r : Raise) (d : Dev) : Dev :=
  let (d, hit) := noteRaise r d
  if hit then reactTo r d else d

/-- The order in which coincident raises react: descending class, and within a class ascending detector number (R483). -/
def raiseRank (d : Dev) (r : Raise) : Nat := classOf d r.det * 256 + (255 - r.det)

/-- Insert a raise into a list sorted by descending rank. -/
def insRaise (d : Dev) (r : Raise) : List Raise → List Raise
  | [] => [r]
  | x :: t => if raiseRank d x ≤ raiseRank d r then r :: x :: t else x :: insRaise d r t

/-- Coincident raises, in the order of R483: each opens or joins its own record before any of them reacts. -/
def takeRaises (rs : List Raise) (d : Dev) : Dev :=
  let (d, hits) := rs.foldl (fun (x : Dev × List Raise) r =>
    let (d, hit) := noteRaise r x.1
    (d, if hit then x.2 ++ [r] else x.2)) (d, [])
  hits.foldl (fun d r => reactTo r d) d

/-- Act on the raises collected so far, and on those they cause, for at most n rounds; the list is empty afterwards. -/
def settleN : Nat → Dev → Dev
  | 0, d => { d with fcu := { d.fcu with todo := [] } }
  | n + 1, d =>
    match d.fcu.todo with
    | [] => d
    | todo => settleN n (takeRaises (todo.foldr (insRaise d) []) { d with fcu := { d.fcu with todo := [] } })

/-- The end of a step: what the SARs have come to by then (R255, R261), and every raise made in it is taken (R480: within 2 µs). Only a raise that opens a record of one of the 172 detectors can cause further
raises, so that 173 rounds lose none. -/
def settle (d : Dev) : Dev := settleN 173 (settlePio d)

/-- A command's meaning from its effect on the device: the queue of waiting commands is left as it is. -/
def go (f : Dev → Dev) (s : State) : Host.Outcome State Fault Refusal := .next { s with dev := settle (f s.dev) }

/-- Escalate the record of a detector whose window ran out (R482). -/
def escalate (n : Nat) (d : Dev) : Dev :=
  let cls := d.rd (FCU.REC.STATE.CLASS n) + 1
  let d := ((d.wr (FCU.REC.STATE.CLASS n) cls).wr (FCU.REC.STATE.ESC n) 1).bump FCU.SUM.ESCALATIONS
  let d := raiseEv 145 n cls (startWindow n cls d)
  let isls := match fdIslands n (d.rd (FCU.REC.DETAIL n)) with
    | [] => (fdSourceIsland n (d.rd (FCU.REC.DETAIL n))).toList
    | l => l
  let d := if cls = 3 then holdFor n (isls.filter fun i => islState d i != 0) d else d
  classChange n cls d

/-- Acknowledge a record (R489). -/
def ackRecord (n : Nat) (d : Dev) : Dev :=
  record 12 0x002 n (d.rd (FCU.REC.STATE.CLASS n)) 0 (stopWindow n (d.wr (FCU.REC.STATE.ACK n) 1))

/-- Clear a record whose condition is inactive: its flags read 0, holds and SAFE causes it placed are released (R489 to R491); a hold that another
open record has placed as well stays. -/
def clearRecord (n : Nat) (d : Dev) : Dev :=
  let d := stopWindow n ((((((d.wr (FCU.REC.STATE.OPEN n) 0).wr (FCU.REC.STATE.ACK n) 0).wr (FCU.REC.STATE.ESC n) 0).wr
    (FCU.REC.STATE.INJ n) 0).wr (FCU.REC.STATE.DRY n) 0).wr (FCU.REC.STATE.REPEAT n) 0)
  let d := raiseEv 146 n 0 d
  let src := if n = 29 then causeTherm else causeFcu
  let mine := lookD d.fcu.holds n []
  let d : Dev := { d with fcu := { d.fcu with holds := del n d.fcu.holds } }
  let d := mine.foldl (fun (d : Dev) i => if d.fcu.holds.any (fun e => (e.1 == 29) == (n == 29) && e.2.contains i) then d else releaseHold i src d) d
  let d := if n = 29 then clockSteps (d.wr PWR.THERM_STAT.KW_THERM 0) else d
  let d := if n = 96 then clearSafeCause 1 d else d
  if d.fcu.csActed.contains n then
    let d : Dev := { d with fcu := { d.fcu with csActed := d.fcu.csActed.filter (· != n) } }
    if d.fcu.csActed = [] then clearSafeCause 3 d else d
  else d

end Sys2Proof.Machine
end

