-- ==== Sys2Proof/Machine/Flags.lean ====
section
/-! DEFINITION. Flags and status fields that follow from other state: the FCU's summary, ERR_N, SAFE_N, FORCE_N, the GLB.STATE
word and the masks of the fixed-meaning signals (R49, R492, R503). -/
namespace Sys2Proof.Machine
open Sys2Proof

/-- Open fault records, in ascending detector order. -/
def openRecords (d : Dev) : List Nat := (List.range 192).filter fun n => d.flag (FCU.REC.STATE.OPEN n)

/-- FCU.SUM.OPEN (R503). -/
def sumOpen (d : Dev) : Nat := min 255 (openRecords d).length
/-- FCU.SUM.HIGH: the highest class of an open record, 0 if none (R503). -/
def sumHigh (d : Dev) : Nat := (openRecords d).foldl (fun m n => max m (d.rd (FCU.REC.STATE.CLASS n))) 0
/-- FCU.SUM.UNACK: an open record is not acknowledged (R503). -/
def sumUnack (d : Dev) : Bool := (openRecords d).any fun n => !d.flag (FCU.REC.STATE.ACK n)

/-- An open record that is no dry injection has a class whose mask bit is 1 (R492, R499). -/
def errMasked (d : Dev) : Bool :=
  (openRecords d).any fun n => !d.flag (FCU.REC.STATE.DRY n) && bitOf (d.rd FCU.CFG.ERRN_MASK / 2 * 2) (d.rd (FCU.REC.STATE.CLASS n))

/-- Levels of an output ball. -/
inductive Level where
  | low | high | z
deriving DecidableEq, Repr

/-- The boundary-scan instruction that has the balls, 0 none (R584): in Rack state alone. -/
def scanMode (d : Dev) : Nat := if opState d = 5 then d.pins.bscan else 0
/-- The level that boundary scan gives a signal's output (R584): floating under HIGHZ, else its cell's. -/
def scanLevel (name : String) (n : Nat) (d : Dev) : Level :=
  if scanMode d = 3 then .z else if d.pins.bsr.getD (Config.scanCell name n) false then .high else .low

/-- CRUST state is on the VBAT supply alone. -/
def onVbat (d : Dev) : Bool := d.flag CRUST.STATUS.ON_VBAT

/-- ERR_N (R49, R492): low outside RUN while VAUX33 is present, low in RUN while a masked-in record is open or the SAFE path is
applied by CS, otherwise high impedance. -/
def errN (d : Dev) : Level :=
  if ¬ d.crust.vaux then .z
  else if scanMode d ≠ 0 then scanLevel "ERR_N" 0 d
  else if opState d ≠ 3 then .low
  else if errMasked d ∨ safeAct d ∨ d.pwr.heldDie then .low
  else .z

/-- SAFE_N (R49): high only in RUN with the SAFE path not applied. -/
def safeN (d : Dev) : Level :=
  if ¬ d.crust.vaux then .z else if scanMode d ≠ 0 then scanLevel "SAFE_N" 0 d else if opState d = 3 ∧ ¬ safeAct d ∧ ¬ d.pwr.heldDie then .high else .low

/-- The effective tick of the last release of a force has not come (R447). -/
def forceEnding (d : Dev) : Bool := match d.gate.t0 with
  | some t => decide (d.up < t + d.frc.relTick * tickNs) && d.frc.relTick != 0
  | none => false

/-- FORCE_N (R49): low while a CLP or loop force is active; high in PROOF. -/
def forceN (d : Dev) : Level :=
  if opState d ≤ 1 then .z
  else if scanMode d ≠ 0 then scanLevel "FORCE_N" 0 d
  else if opState d = 2 then .high
  else if d.frc.clp ≠ [] ∨ d.frc.loop ≠ [] ∨ forceEnding d then .low else .high

/-- PONCTL (R49, R157). -/
def ponctl (d : Dev) : Bool := d.crust.ponctl

/-- The Starter is lost (KEYS.STAT mirrors the Crust). -/
def keyLost (d : Dev) : Bool := d.flag CRUST.STATUS.KEY_LOST
/-- The monotonic counters await re-provisioning. -/
def countLost (d : Dev) : Bool := d.flag CRUST.STATUS.COUNT_LOST
/-- Calendar time is lost. -/
def timeLost (d : Dev) : Bool := d.flag CRUST.STATUS.TIME_LOST

/-- GLB.LOCK.LOCK is 1 (R113). -/
def locked (d : Dev) : Bool := d.flag GLB.LOCK.LOCK

/-- The GLB.STATE word (R104). -/
def stateWord (d : Dev) : Nat :=
  d.rd GLB.STATE.STATE + d.rd GLB.STATE.RESET_KIND * 2 ^ 8 + d.rd GLB.STATE.HANG_RETRY * 2 ^ 16 +
  d.rd GLB.STATE.RACK_CAUSE * 2 ^ 20 + d.rd GLB.STATE.KW_CAUSE * 2 ^ 24

/-- Seconds from now to device time t, a started second counting whole (DESIGN CHOICE, log 91). -/
def secsLeft (t : Nat) (d : Dev) : Nat := (t - d.up + 999999999) / 1000000000
/-- WIN_LEFT of a fault record: 0 when no window runs (R503). -/
def winLeft (d : Dev) (n : Nat) : Nat := (look d.fcu.winEnd n).elim 0 fun t => secsLeft t d
/-- LEFT of the injection session (R503). -/
def injLeft (d : Dev) : Nat := if d.fcu.session.isSome then secsLeft d.fcu.sessEnd d else 0

/-- The STATE word of a fault record (R503). -/
def recStateWord (d : Dev) (n : Nat) : Nat :=
  winLeft d n + d.rd (FCU.REC.STATE.CLASS n) * 2 ^ 22 + d.rd (FCU.REC.STATE.REPEAT n) * 2 ^ 25 +
  b2n (condActive d n) * 2 ^ 26 + d.rd (FCU.REC.STATE.DRY n) * 2 ^ 27 + d.rd (FCU.REC.STATE.INJ n) * 2 ^ 28 +
  d.rd (FCU.REC.STATE.ESC n) * 2 ^ 29 + d.rd (FCU.REC.STATE.ACK n) * 2 ^ 30 + d.rd (FCU.REC.STATE.OPEN n) * 2 ^ 31

/-- The 32 bytes of a fault record, in the layout of REC[d] (R501, R503). -/
def recBytes (d : Dev) (n : Nat) : List Byte :=
  wordsToBytes [recStateWord d n, d.rd (FCU.REC.SRC n), d.rd (FCU.REC.DETAIL n), d.rd (FCU.REC.MERGE n),
    d.rd (FCU.REC.FIRST_SEC n), d.rd (FCU.REC.FIRST_NS n), d.rd (FCU.REC.LAST_SEC n), d.rd (FCU.REC.LOC n)]

end Sys2Proof.Machine
end

