-- ==== Sys2Proof/Machine/Grants.lean ====
section
/-! DEFINITION. Maintenance grants (R539, R540): the tests KE makes, in order, and what acceptance and refusal change. -/
namespace Sys2Proof.Machine
open Sys2Proof

/-- The format of a grant is valid: version 1, zeros where R539 has zeros. -/
def grantFormatOk (g : List Byte) : Bool :=
  g.length == 160 && fieldAt g 0 2 == 1 && fieldAt g 2 2 == 0 && fieldAt g 24 4 < 64 && (g.drop 34).take 30 == List.replicate 30 0

/-- The keys KE tries: public slots of use 16, ascending, then the owner anchor (R540). -/
def grantKeys (d : Dev) : List (List Byte) := publicKeys d 16 ++ (if d.keys.anchor = [] then [] else [d.keys.anchor])

/-- The reason for which KE refuses a grant needing scope bit b; 0 accepts (R540). -/
def grantReason (b : Nat) (g : List Byte) (d : Dev) : Nat :=
  if ¬ grantFormatOk g then 1
  else if (g.drop 4).take 16 ≠ deviceId d then 2
  else if countLost d then 8
  else if fieldAt g 20 4 ≠ d.rd (CRUST.CNT.VALUE 3) + 1 then 3
  else if ¬ (grantKeys d).any (fun k => p384.verify k (g.take 64) (g.drop 64)) then 4
  else if ¬ bitOf (fieldAt g 24 4) b then 5
  else if fieldAt g 28 6 = 0 then 0
  else if timeLost d then 7
  else if fieldAt g 28 6 < d.crust.sec then 6
  else 0

/-- Check the grant a command carries in its buffer (R540): the status and the device after. Acceptance increments CNT[3]; a
refusal sets the reason, raises EV164 and answers AUTH_FAILED; with SEC off the command is unavailable. -/
def checkGrant (b : Nat) (h : CmdHdr) (d : Dev) : Nat × Dev :=
  if ¬ islandOn d 13 then (stUnavailable, d)
  else
    let g := inBuf h d
    if bufLen h ≠ 160 ∨ ¬ bufOk h then (stBadBuffer, d)
    else
      match grantReason b g d with
      | 0 => (stOK, (setCnt 3 (d.rd (CRUST.CNT.VALUE 3) + 1) d).wr KEYS.GRANT.LAST_SCOPE (fieldAt g 24 4))
      | r => (stAuthFailed, raiseEv 164 r 0 ((d.wr KEYS.GRANT.REASON r).bump KEYS.GRANT.REFUSED))

end Sys2Proof.Machine
end

