-- ==== Sys2Proof/Machine/Calendar.lean ====
section
/-! DEFINITION. The RTC's calendar and the alarms' next match (R149, R150, R153). UTC is the seconds count minus UTC_OFFSET. -/
namespace Sys2Proof.Machine
open Sys2Proof

/-- Seconds from 1970 at 2000-01-01 00:00:00 and at 2199-12-31 23:59:59: the calendar range (R149). -/
def calFirst : Nat := 946684800
def calLast : Nat := 7258118399

/-- A calendar instant: year, month, day, weekday (0 Monday), hour, minute, second. -/
structure Cal where
  year : Nat
  month : Nat
  day : Nat
  wday : Nat
  hour : Nat
  min : Nat
  sec : Nat
deriving DecidableEq, Repr

/-- Year, month and day of a day number counted from 1970-01-01 (proleptic Gregorian; years from March within 400-year eras). -/
def civil (days : Nat) : Nat × Nat × Nat :=
  let z := days + 719468
  let era := z / 146097
  let doe := z % 146097
  let yoe := (doe - doe / 1460 + doe / 36524 - doe / 146096) / 365
  let doy := doe - (365 * yoe + yoe / 4 - yoe / 100)
  let mp := (5 * doy + 2) / 153
  let m := if mp < 10 then mp + 3 else mp - 9
  (yoe + era * 400 + (if m ≤ 2 then 1 else 0), m, doy - (153 * mp + 2) / 5 + 1)

/-- The calendar instant of a UTC second count. -/
def calOf (utc : Nat) : Cal :=
  let (y, m, dd) := civil (utc / 86400)
  { year := y, month := m, day := dd, wday := (utc / 86400 + 3) % 7, hour := utc % 86400 / 3600, min := utc % 3600 / 60, sec := utc % 60 }

/-- UTC seconds of the RTC. -/
def rtcUtc (d : Dev) : Nat := d.crust.sec - d.rd CRUST.RTC_CFG.UTC_OFFSET

/-- The calendar value shown: within the range, and held at its last value beyond it (R149). -/
def calShown (d : Dev) : Cal := calOf (clampN calFirst calLast (rtcUtc d))

/-- RTC_LO, RTC_HI, CAL0 and CAL1 as they stand (R150, R169). -/
def rtcLoWord (d : Dev) : Nat := d.crust.sec % 2 ^ 32
def rtcHiWord (d : Dev) : Nat := d.crust.sec / 2 ^ 32 % 2 ^ 16 + b2n (!timeLost d) * 2 ^ 16 + d.crust.sub % 2 ^ 15 * 2 ^ 17
def cal0Word (d : Dev) : Nat :=
  if timeLost d then 0
  else let c := calShown d; c.wday * 2 ^ 4 + c.day * 2 ^ 7 + c.month * 2 ^ 12 + (c.year - 2000) * 2 ^ 16
def cal1Word (d : Dev) : Nat :=
  if timeLost d then 0 else let c := calShown d; c.sec + c.min * 2 ^ 6 + c.hour * 2 ^ 12

/-- Reading RTC_LO latches the other three for the port (R150). -/
def latchRtc (p : Nat) (d : Dev) : Dev :=
  { d with crust := { d.crust with latch := ins (4 * p) (rtcHiWord d) (ins (4 * p + 1) (cal0Word d) (ins (4 * p + 2) (cal1Word d) d.crust.latch)) } }

/-- What an alarm compares: its MASK and MATCH fields. -/
structure AlmMatch where
  mask : Nat
  sec : Nat
  min : Nat
  hour : Nat
  day : Nat
  month : Nat
  wday : Nat
deriving DecidableEq, Repr

/-- The settings of alarm i (R169). -/
def almMatch (d : Dev) (i : Nat) : AlmMatch :=
  { mask := d.rd (CRUST.ALM.CTRL.MASK i), sec := d.rd (CRUST.ALM.MATCH.SEC i), min := d.rd (CRUST.ALM.MATCH.MIN i), hour := d.rd (CRUST.ALM.MATCH.HOUR i), day := d.rd (CRUST.ALM.MATCH.DAY i), month := d.rd (CRUST.ALM.MATCH.MONTH i), wday := d.rd (CRUST.ALM.MATCH.WDAY i) }

/-- A UTC second matches (R153): every field whose mask bit is 1 is equal. -/
def almHits (a : AlmMatch) (utc : Nat) : Bool :=
  let c := calOf utc
  (!bitOf a.mask 0 || c.sec == a.sec) && (!bitOf a.mask 1 || c.min == a.min) && (!bitOf a.mask 2 || c.hour == a.hour) &&
  (!bitOf a.mask 3 || c.day == a.day) && (!bitOf a.mask 4 || c.month == a.month) && (!bitOf a.mask 5 || c.wday == a.wday)

/-- A day matches the alarm's day, month and weekday. -/
def dayHits (a : AlmMatch) (day : Nat) : Bool :=
  let (_, m, dd) := civil day
  (!bitOf a.mask 3 || dd == a.day) && (!bitOf a.mask 4 || m == a.month) && (!bitOf a.mask 5 || (day + 3) % 7 == a.wday)

/-- The values a time field may take. -/
def timeVals (masked : Bool) (v n : Nat) : List Nat := if masked then (if v < n then [v] else []) else List.range n

/-- The smallest matching time of day at or after t. -/
def nextTod (a : AlmMatch) (t : Nat) : Option Nat :=
  (timeVals (bitOf a.mask 2) a.hour 24).findSome? fun h =>
    if h * 3600 + 3599 < t then none
    else (timeVals (bitOf a.mask 1) a.min 60).findSome? fun m =>
      if h * 3600 + m * 60 + 59 < t then none
      else ((timeVals (bitOf a.mask 0) a.sec 60).find? fun x => decide (t ≤ h * 3600 + m * 60 + x)).map fun x => h * 3600 + m * 60 + x

/-- The smallest matching UTC second from day `day`, time of day `t` on, within `fuel` days and the calendar range (R153). -/
def nextFrom (a : AlmMatch) : Nat → Nat → Nat → Option Nat
  | 0, _, _ => none
  | fuel + 1, day, t =>
    if calLast < day * 86400 then none
    else if dayHits a day then
      match nextTod a t with
      | some x => some (day * 86400 + x)
      | none => nextFrom a fuel (day + 1) 0
    else nextFrom a fuel (day + 1) 0

/-- NEXT_MATCH in UTC seconds: the smallest match strictly after `utc` (R153). -/
def nextMatch (a : AlmMatch) (utc : Nat) : Option Nat :=
  let u := max (utc + 1) calFirst
  nextFrom a 73100 (u / 86400) (u % 86400)

/-- The number of matches in (a, b), at most `fuel`. -/
def countMatches (m : AlmMatch) : Nat → Nat → Nat → Nat
  | 0, _, _ => 0
  | fuel + 1, lo, hi =>
    match nextMatch m lo with
    | some x => if x < hi then countMatches m fuel x hi + 1 else 0
    | none => 0

/-- CS recomputes an alarm's NEXT_MATCH from the present second (R153). -/
def recomputeAlarm (i : Nat) (d : Dev) : Dev :=
  match nextMatch (almMatch d i) (rtcUtc d) with
  | some u =>
    let n := u + d.rd CRUST.RTC_CFG.UTC_OFFSET
    ((d.wr (CRUST.ALM.STAT.NEVER i) 0).wr (CRUST.ALM.NEXT_LO i) n).wr (CRUST.ALM.NEXT_HI i) (n / 2 ^ 32)
  | none => d.wr (CRUST.ALM.STAT.NEVER i) 1

/-- Both alarms. -/
def recomputeAlarms (d : Dev) : Dev := recomputeAlarm 1 (recomputeAlarm 0 d)

end Sys2Proof.Machine
end

