-- ==== Sys2Proof/Machine/MeterRec.lean ====
section
/-! DEFINITION. Signed metering and heat records (R304, R305, R325 to R327): their bytes, their queue for KE, their release and their place in the
stream. -/
namespace Sys2Proof.Machine
open Sys2Proof

/-- UTC: service time minus UTC_OFFSET (R176, R304). -/
def svcUtc (d : Dev) : Nat := svcSec d - d.rd CRUST.RTC_CFG.UTC_OFFSET

/-- The slot and the SIGN switch of a record kind. -/
def recSlot (d : Dev) (kind : Nat) : Nat := if kind = 0 then d.rd METER.CFG.KEY_SLOT else d.rd METER.HEAT_CFG.KEY_SLOT
def recSign (d : Dev) (kind : Nat) : Bool := if kind = 0 then d.flag METER.CFG.SIGN else d.flag METER.HEAT_CFG.SIGN

/-- Replace n bytes at an offset. -/
def patch (l : List Byte) (off : Nat) (bs : List Byte) : List Byte := l.take off ++ bs ++ l.drop (off + bs.length)

/-- Stream a finished record of 192 bytes as five entries (R303, R327). -/
def streamRecord (kind idx : Nat) (r : List Byte) (d : Dev) : Dev :=
  let want := if kind = 0 then streamWants (·.flags) 1 d && streamWants (·.fmask) idx d else streamWants (·.flags) (kind + 1) d
  let types := if kind = 0 then [5, 6, 7, 19, 20] else if kind = 1 then [9, 10, 11, 12, 13] else [14, 15, 16, 17, 18]
  let flags := if kind = 0 then fdrFlags d idx else 0
  if want then (types.zip (List.range 5)).foldl (fun (d : Dev) e => mtrSend e.1 idx flags 0 ((r.drop (44 * e.2)).take 44) d) d else d

/-- Keep a finished record and stream it: 96 of a feeder, 4 and 13 of a heat meter (R305, R327). -/
def keepRecord (kind idx : Nat) (r : List Byte) (d : Dev) : Dev :=
  let last (n : Nat) (l : List (List Byte)) := (l ++ [r]).drop (l.length + 1 - n)
  let d :=
    if kind = 0 then setFdr idx { fdrSt d idx with recs := last 96 (fdrSt d idx).recs } d
    else
      let x := lookD d.meter.heat idx {}
      onMeter (fun m => { m with heat := ins idx (if kind = 1 then { x with recI := last 4 x.recI } else { x with recB := last 13 x.recB }) m.heat }) d
  streamRecord kind idx r d

/-- Release a record unsigned (R305, R327). -/
def releaseUnsigned (r : SignRec) (d : Dev) : Dev :=
  let body := patch r.body 3 (toBytes 1 (fieldAt r.body 3 1 ||| 1))
  let d := keepRecord r.kind r.idx (body ++ List.replicate 64 0) d
  if r.kind = 0 then d else raiseEv 98 r.idx (if r.kind = 1 then 0x0101 else 0x0102) d

/-- A closed record goes to the queue for KE, or out unsigned at once with SIGN at 0 or KEY_LOST set; a full queue releases its oldest record,
with FD149 (R21, R305, R495). -/
def queueRecord (r : SignRec) (d : Dev) : Dev :=
  if ¬ recSign d r.kind ∨ keyLost d then releaseUnsigned r d
  else
    let q := d.meter.recQ ++ [r]
    match q with
    | o :: t => if 4096 < q.length then raise 149 o.idx (releaseUnsigned o (onMeter (fun m => { m with recQ := t }) d)) else onMeter (fun m => { m with recQ := q }) d
    | [] => d

/-- KE signs the oldest waiting record, with a secret number that is free (R305; log 1). -/
def signNext (d : Dev) : Dev :=
  match d.meter.recQ with
  | [] => d
  | r :: t =>
    if ¬ islandOn d 13 ∧ ¬ keyLost d then d
    else
      let d := onMeter (fun m => { m with recQ := t }) d
      let s := recSlot d r.kind
      if recSign d r.kind ∧ slotOk d s 2 then
        let d := slotDerive s d
        let body := patch r.body 100 (toBytes 4 (d.rd (KEYS.SLOT.GEN s)))
        let (sig, d) := slotSign s body d
        keepRecord r.kind r.idx (body ++ sig) d
      else releaseUnsigned r d

/-- The bytes common to every record (R304, R325), cut or padded to 128. -/
def recBody (d : Dev) (version idx flags seq endUtc len : Nat) (mid : List Byte) : List Byte :=
  ((toBytes 2 version ++ toBytes 1 idx ++ toBytes 1 flags ++ toBytes 4 seq ++ toBytes 6 endUtc ++ toBytes 2 len ++ (mid ++ List.replicate 68 0).take 68 ++
    deviceId d) ++ List.replicate 28 0).take 128

/-- Close the interval record of feeder f at the end of its interval, at UTC second t (R304); an open gap goes on into the next. -/
def closeIvl (f t : Nat) (d : Dev) : Dev :=
  let x := fdrSt d f
  let len := ivlMinutes (d.rd METER.CFG.IVL) 2
  let at_ := (t + d.rd CRUST.RTC_CFG.UTC_OFFSET) * 1000000000
  let a := ivlSince (at_ - len * 60000000000) x.ivl
  let (a, gap) := match x.gap with
    | none => (a, none)
    | some (c, st, from_) => (addGap a from_ at_, some (c, st, at_))
  let flags := 2 * b2n a.gap + 4 * b2n a.cal + 8 * b2n (a.carried || d.flag (METER.FDR.STAT.CARRIED f)) + 16 * b2n (a.bad || !svcValid d) + 32 * b2n a.wrap + 64 * b2n a.first
  let mid := ((List.range 8).flatMap fun r => toBytes 8 (energy d f r)) ++ toBytes 4 (a.gapNs / 1000000)
  let body := recBody d 1 f flags (x.seq + 1) t len mid
  let d := setFdr f { x with seq := x.seq + 1, gap := gap, ivl := { start := at_, first := false, cal := fdrCal d f } } d
  queueRecord { kind := 0, idx := f, body := body } d

end Sys2Proof.Machine
end

