-- ==== Sys2Proof/Machine/Rwo.lean ====
section
/-! DEFINITION. When the function that owns an RWO field is open or stopped (R7), per block. -/
namespace Sys2Proof.Machine
open Sys2Proof

/-- Every ring of port p is STOPPED (R124). -/
def portRingsStopped (d : Dev) (p : Nat) : Bool := (List.range 16).all fun k => ringState d (16 * p + k) == 0

/-- The registers of HOST whose RWL fields read as RWO: those of the admin rings and of HOST.PORT (R124). -/
def adminReg (a : Nat) : Bool :=
  (decide (0x101000 ≤ a) && decide (a < 0x101020)) || (decide (0x101200 ≤ a) && decide (a < 0x101220)) ||
  (decide (0x100100 ≤ a) && decide (a < 0x100180))

/-- The rings an admin register concerns are STOPPED (R124). -/
def adminStopped (d : Dev) (a : Nat) : Bool :=
  if a < 0x100140 then portRingsStopped d 0
  else if a < 0x100180 then portRingsStopped d 1
  else if a < 0x101020 then ringState d 0 == 0
  else ringState d 16 == 0

/-- RWO fields of a CAN channel: the channel is OFF; of an object: its TXREQ is 0 (R206, R227). -/
def rwoCan (a : Nat) (d : Dev) : Bool :=
  let n := (a - 0x800000) / 0x10000
  if a % 0x10000 < 0x1000 then canState d n == 0 else !d.flag (CAN.OBJ.STAT.TXREQ n ((a % 0x10000 - 0x1000) / 0x80))

/-- RWO fields of the Ethernet ports and PRP pairs: the ports concerned are OFF (R198). -/
def rwoEth (a : Nat) (d : Dev) : Bool :=
  let q := (a - 0xA00000) / 0x100
  if q < 6 then ethState d q == 0
  else
    let k := (a - 0xA00800) / 0x20
    ethState d (2 * k) == 0 && ethState d (2 * k + 1) == 0

/-- RWO fields of a session context: EN 0 and the state IDLE (R247). -/
def rwoSess (a : Nat) (d : Dev) : Bool :=
  let s := (a - 0xB10000) / 0x40
  decide (a < 0xB10000) || (!sessEn d s && sessState d s == 0)

/-- The field acts as RWO: it is one, or R124 makes it one. -/
def rwoField (a : Nat) (acc : Acc) : Bool := acc == .RWO || (acc == .RWL && adminReg a)

/-- The function that owns the RWO fields of the register at address a is open or stopped, as each chapter states. -/
def rwoOpen (a : Nat) (d : Dev) : Bool :=
  match a / 0x100000 with
  | 1 => !adminReg a || adminStopped d a
  | 8 => rwoCan a d
  | 10 => rwoEth a d
  | 11 => rwoSess a d
  | _ => true

end Sys2Proof.Machine
end

