-- ==== Sys2Proof/Machine/Bar0.lean ====
section
/-! DEFINITION. BAR0: which block an address lies in, whether it responds, what a read returns and clears, and what a write
does field by field (R3, R4, R6, R7, R22, R37 to R39, R111, R595). -/
namespace Sys2Proof.Machine
open Sys2Proof

/-- The block number of an address: its base divided by 0x0010_0000, with TIME at 6, CAN at 8 and SOLV at 16; none where BAR0 is
unassigned (R37). -/
def blockOf (a : Nat) : Option Nat :=
  let b := a / 0x100000
  if b = 7 then some 6 else if b = 9 then none else if b = 17 then some 16 else if b ≤ 21 then some b else none

/-- The island that holds a block (R37); the lanes' blocks are judged by the lanes in service. -/
def blockIsland (b : Nat) : Nat :=
  if b = 1 then 12 else if b = 5 then 0 else if b = 6 ∨ b = 10 then 10 else if b = 8 ∨ b = 11 then 11 else if b = 12 then 9
  else if b = 13 then 8 else if b = 16 then 6 else if b = 18 then 7 else if b = 19 then 13 else 1

/-- The block responds: its island is on (R22), a lane is in service for LOOP and CLP (R38), and in Rack state only GLB, HOST,
PWR, FCU, EVR and the CRUST window (R39). Without main power, and while CS holds the control die in reset, only the Crust port answers (R92, R104). -/
def blockOn (d : Dev) (b : Nat) : Bool :=
  decide (2 ≤ opState d) && !d.pwr.heldDie && (opState d != 5 || decide (b ≤ 5)) &&
  (if b = 14 ∨ b = 15 then (firstLane d).isSome else islandOn d (blockIsland b))

/-- The address lies in LOOP or CLP, which every lane holds for itself (R38). -/
def laneBlock (a : Nat) : Bool := decide (0xE00000 ≤ a) && decide (a < 0x1000000)

/-- The register bank in which an address lies: the lowest-lettered lane's for LOOP and CLP (R38). -/
def bankOf (d : Dev) (a : Nat) : SMap Nat :=
  if laneBlock a then
    match firstLane d with
    | some l => (lookD d.lane l {}).regs
    | none => d.regs
  else d.regs

/-- Put a field at an address: in every lane that takes hand-overs for LOOP and CLP (R38, R472), else in the register bank. -/
def putField (f : FRef) (v : Nat) (d : Dev) : Dev :=
  if laneBlock f.addr then
    { d with lane := d.lane.map fun e => if laneTakes d e.1 then (e.1, { e.2 with regs := bankWr e.2.regs f v }) else e }
  else d.wr f v

/-- The last-gasp records as they read at CRUST + 0x300: 32 bytes each, absent ones 0 (R160, R164). -/
def lgImage (d : Dev) : List Byte := d.crust.lastGasp.flatMap fun e => recordBytes e.1

/-- The area the recorder window shows (R514). -/
def windowArea (d : Dev) : List Rec :=
  if d.flag EVR.CUR.AREA then d.evr.areaF
  else if d.flag EVR.STAT.RELOADING ∧ ¬ d.flag EVR.STAT.FALLBACK then (d.evr.mirror.filter fun r => (findRec r.seq d.evr.areaC).isNone) ++ d.evr.areaC
  else d.evr.areaC
/-- A record that the window shows has been reloaded (R512). -/
def windowLoaded (d : Dev) (r : Rec) : Bool := d.flag EVR.CUR.AREA || (findRec r.seq d.evr.areaC).isSome

/-- The records of the area the window shows, from the cursor on (R514). -/
def windowRecs (d : Dev) : List Rec := (windowArea d).filter fun r => decide (0 ≤ sdiff 32 r.seq (d.rd EVR.CUR_SEQ))

/-- CUR_SEQ as it reads: a cursor older than the oldest record is at the oldest (R514). -/
def cursorSeq (d : Dev) : Nat :=
  match (windowArea d).head? with
  | some r => if 0 < sdiff 32 r.seq (d.rd EVR.CUR_SEQ) then r.seq else d.rd EVR.CUR_SEQ
  | none => d.rd EVR.CUR_SEQ

/-- CAN registers whose fields are computed (R210, R211, R227): STAT, TSCNT, the oldest buffered frame. -/
def computedCan (a : Nat) (d : Dev) : Option Nat :=
  let n := (a - 0x800000) / 0x10000
  let o := a % 0x10000
  if o = 0x14 then some (canStatWord d n)
  else if o = 0x10 then some (canStamp d n)
  else if 0x180 ≤ o ∧ o < 0x1D0 then
    (match (canSt d n).hpb with
     | e :: _ => some (fieldAt (hpbRecord e) (o - 0x180) 4)
     | [] => some 0)
  else none

/-- E, SNAP and WRAPCNT of a feeder (R295, R296): the counts from the accumulator, WRAPCNT as the port's last SNAP read latched it. -/
def computedFdr (p a : Nat) (d : Dev) : Option Nat :=
  let f := (a - 0xD01000) / 0x100
  let o := a % 0x100
  if 0x48 ≤ o ∧ o < 0x88 then some (energy d f ((o - 0x48) / 8) / (if o % 8 = 4 then 2 ^ 32 else 1))
  else if 0x88 ≤ o ∧ o < 0xA8 then some (snapOf d f ((o - 0x88) / 4))
  else if 0xA8 ≤ o ∧ o < 0xC8 then some (lookD d.meter.wrapLatch (256 * p + 8 * f + (o - 0xA8) / 4) (wrapOf d f ((o - 0xA8) / 4)))
  else none

/-- Bits packed into a register: item 32 i + j at bit j (R457). -/
def packBits (p : Nat → Bool) (i : Nat) : Nat := (List.range 32).foldl (fun v j => v + b2n (p (32 * i + j)) * 2 ^ j) 0
/-- Qualities packed into a register: item 16 i + j at bits 2j + 1 to 2j (R457). -/
def packQuals (q : Nat → Nat) (i : Nat) : Nat := (List.range 16).foldl (fun v j => v + q (16 * i + j) % 4 * 4 ^ j) 0

/-- A force table entry's register at offset o (R446, R457). -/
def forceReg (x : LaneSt) (e : ForceEnt) (o : Nat) : Nat := match o with
  | 0 => 2 ^ 31 + e.space * 2 ^ 28 + e.addr
  | 4 => e.v
  | 8 => if e.space = 0 then (lookD x.inB e.addr {}).v else if e.space = 5 then (lookD x.inW e.addr {}).v else 0
  | _ => e.eff % 2 ^ 32

/-- The windows of LOOP and CLP that are not stored field by field, as lane state x shows them at address a (R414, R457): the numbers of forces, the
force table, and the image windows, whose inputs are those of the last snapshot. -/
def laneWindow (d : Dev) (x : LaneSt) (a : Nat) : Option Nat :=
  if a = 0xE00008 then some (wordOf x.regs [(LOOP.STAT.TRIG_DROP, .RC)] false + d.frc.loop.length * 2 ^ 21)
  else if a = 0xF00030 then some (d.frc.clp.length * 2 ^ 16 + bankRd x.regs CLP.FSTAT.CARRIED * 2 + b2n (x.forces != []))
  else if a < 0xF10000 then none
  else if a < 0xF12000 then some ((look d.frc.clp ((a - 0xF10000) / 16)).elim 0 fun e => forceReg x e (a % 16))
  else if a < 0xF20000 then none
  else if a < 0xF22000 then some (packBits (fun i => (snapBit x i).v % 2 == 1) ((a - 0xF20000) / 4))
  else if a < 0xF24000 then some (packBits (fun i => lookD x.clp.outB i false) ((a - 0xF22000) / 4))
  else if a < 0xF28000 then some (packQuals (fun i => (snapBit x i).q) ((a - 0xF24000) / 4))
  else if a < 0xF2A000 then some (packQuals (fun i => (snapWord x i).q) ((a - 0xF28000) / 4))
  else if a < 0xF2A800 then some (packBits (fun i => lookD x.clp.m i false) ((a - 0xF2A000) / 4))
  else if a < 0xF40000 then none
  else if a < 0xF60000 then some (snapWord x ((a - 0xF40000) / 4)).v
  else if a < 0xF80000 then some (lookD x.clp.outW ((a - 0xF60000) / 4) 0)
  else if a < 0xF88000 then some (lookD x.clp.dw ((a - 0xF80000) / 4) 0)
  else if a < 0xF90000 then none
  else if a < 0xF94000 then some (if a % 8 = 0 then (x.tim ((a - 0xF90000) / 8)).et else x.preset ((a - 0xF90000) / 8))
  else if a < 0xF96000 then some (if a % 8 = 0 then (x.ctr ((a - 0xF94000) / 8)).cv else x.ctrPv ((a - 0xF94000) / 8) % 2 ^ 32)
  else none

/-- What the per-lane window shows at address a (R479): the lane that WIN_SEL selects, and the address in LOOP or CLP. -/
def winTarget (a : Nat) (d : Dev) : Nat × Nat :=
  (if d.rd LANES.WIN_SEL.LANE = 3 then 0 else d.rd LANES.WIN_SEL.LANE,
   0xE00000 + d.rd LANES.WIN_SEL.BLOCK * 0x100000 + d.rd LANES.WIN_SEL.PAGE * 0x80000 + (a - 0x1580000))

/-- The per-lane window (R479): the half of LOOP or CLP that WIN_SEL selects, as the selected lane holds it; a lane not in service reads 0. -/
def perLane (a : Nat) (d : Dev) : Nat :=
  let (l, at_) := winTarget a d
  if ¬ laneIn d l then 0
  else
    let x := lookD d.lane l {}
    match laneWindow d x at_ with
    | some v => v
    | none => match findReg regMap at_ with
      | some (fs, high) => wordOf x.regs fs high
      | none => 0

/-- E[r] and V[r] of heat meter m (R322). -/
def heatEV (a : Nat) (d : Dev) : Nat :=
  let m := (a - 0xD10000) / 0x80
  let r := (a % 0x80 - 0x40) / 8
  lookD d.meter.he (8 * m + r) 0 / (if a % 8 = 4 then 2 ^ 32 else 1)

/-- Registers whose fields are computed: the FCU summary (R503), the mirrors of Crust bits, PORT_ID (R109). -/
def computed (p a : Nat) (d : Dev) : Option Nat :=
  if a = 0x100004 then some p
  else if 0xE00000 ≤ a ∧ a < 0x1000000 then laneWindow d (lowSt d) a
  else if 0x1580000 ≤ a then some (perLane a d)
  else if a = 0x100114 ∨ a = 0x100154 then
    (let q := (a - 0x100114) / 0x40
     some (wordOf d.regs [(HOST.PORT.STAT.LOSSES q, .RO), (HOST.PORT.STAT.HB_LOST q, .W1C), (HOST.PORT.STAT.BME q, .RO), (HOST.PORT.STAT.LINK_UP q, .RO)] false + b2n (d.rd GLB.STRAP.BIF != (if q = 0 then 3 else 1))))
  else if 0x108000 ≤ a ∧ a < 0x108400 then some (lookD d.host.msix (256 * p + (a - 0x108000) / 4) (if a % 16 = 12 then 1 else 0))
  else if a = 0x109000 ∨ a = 0x109004 then some (packBits (fun v => lookD d.host.pba (64 * p + v) false) ((a - 0x109000) / 4))
  else if 0xC00200 ≤ a ∧ a < 0xC00600 ∧ a % 0x20 = 0 then
    (let n := (a - 0xC00200) / 0x20
     some (wordOf d.regs [(PIO.DAC.CFG.MODE n, .RWL), (PIO.DAC.CFG.NAN n, .W1C), (PIO.DAC.CFG.CLAMP n, .W1C), (PIO.DAC.CFG.OPEN n, .RO)] false + dacCode d n))
  else if 0xD10000 ≤ a ∧ a < 0xD18000 ∧ 0x40 ≤ a % 0x80 ∧ a % 0x80 < 0x70 then some (heatEV a d)
  else if 0x101000 ≤ a ∧ a < 0x101400 ∧ ¬ portEnabled d ((a - 0x101000) / 0x200) then some 0
  else if a = 0x500000 then
    some (wordOf d.regs [(CRUST.STATUS.PROOF_HUNG, .RO), (CRUST.STATUS.TIME_LOST, .RO), (CRUST.STATUS.KEY_LOST, .RO), (CRUST.STATUS.COUNT_LOST, .RO), (CRUST.STATUS.WIT_FAIL, .RO), (CRUST.STATUS.LOW_RET, .RO), (CRUST.STATUS.ON_VBAT, .RO), (CRUST.STATUS.BAT_LOW, .RO), (CRUST.STATUS.BAT_ABSENT, .RO), (CRUST.STATUS.TAMPER, .RO), (CRUST.STATUS.ALM1, .RO), (CRUST.STATUS.ALM0, .RO), (CRUST.STATUS.LG_NEW, .RO), (CRUST.STATUS.LG_COUNT, .RO), (CRUST.STATUS.KEY_CAUSE, .RO)] false
      + opState d * 2 ^ 29 + d.rd PWR.THERM_STAT.TRIP_SEEN * 2 ^ 27 + b2n (safeAct d) * 2 ^ 26)
  else if a = 0x500010 then some (rtcLoWord d)
  else if a = 0x500014 then some (lookD d.crust.latch (4 * p) (rtcHiWord d))
  else if a = 0x500018 then some (lookD d.crust.latch (4 * p + 1) (cal0Word d))
  else if a = 0x50001C then some (lookD d.crust.latch (4 * p + 2) (cal1Word d))
  else if 0x500200 ≤ a ∧ a < 0x500280 then
    some (fieldAt (d.crust.tamperLog.flatMap fun e => toBytes 6 e.1 ++ toBytes 1 e.2.1 ++ toBytes 1 e.2.2) (a - 0x500200) 4)
  else if 0x500300 ≤ a ∧ a < 0x500400 then
    some (fieldAt (lgImage d) (a - 0x500300) 4)
  else if a = 0x400024 then some (cursorSeq d)
  else if 0x400100 ≤ a ∧ a < 0x400200 then some (fieldAt (((windowRecs d).take 8).flatMap fun r => if windowLoaded d r then recordBytes r else List.replicate 32 0) (a - 0x400100) 4)
  else if a = 0x1300000 then
    some (wordOf d.regs [(KEYS.STAT.ANCHOR, .RO), (KEYS.STAT.JTAG_OPEN, .RO), (KEYS.STAT.NODES, .RO), (KEYS.STAT.SLOTS, .RO)] false + b2n (keyLost d) * 2 ^ 31 + b2n (countLost d) * 2 ^ 30)
  else if 0x2000 ≤ a ∧ a < 0x2840 then some (if opState d = 2 then 0 else fieldAt d.boot.report (a - 0x2000) 4)
  else if 0x302580 ≤ a ∧ a < 0x302800 then some 0
  else if 0x301000 ≤ a ∧ a < 0x302580 ∧ (a - 0x301000) % 32 = 0 then some (recStateWord d ((a - 0x301000) / 32))
  else if a = 0x600000 then some (svcSec d % 2 ^ 32)
  else if a = 0x600004 then some (lookD d.time.svcLatch (4 * p) (svcSec d / 2 ^ 32 % 2 ^ 16))
  else if a = 0x600008 then some (lookD d.time.svcLatch (4 * p + 1) (svcNs d))
  else if a = 0x60000C then some (lookD d.time.svcLatch (4 * p + 2) (svcFrac d))
  else if 0x600200 ≤ a ∧ a < 0x600240 ∧ a % 16 ≤ 8 ∧ d.rd (TIME.TB.CFG.SRC ((a - 0x600200) / 16)) ≠ 0 then
    (let n := (a - 0x600200) / 16
     if a % 16 = 8 then some 0
     else if tbLive d n then some (tbValue d n / (if a % 16 = 4 then 2 ^ 32 else 1))
     else none)
  else if a = 0x600344 ∨ a = 0x600354 then
    (match lookD d.time.trigQ ((a - 0x600344) / 16) [] with
     | c :: _ => some (c.sec % 2 ^ 32)
     | [] => some 0)
  else if a = 0x600348 ∨ a = 0x600358 then
    some ((look d.time.capLatch (4 * p + (a - 0x600348) / 16)).elim 0 fun c => b2n c.rise * 2 ^ 31 + c.sec / 2 ^ 32 % 2 ^ 16)
  else if a = 0x60034C ∨ a = 0x60035C then some ((look d.time.capLatch (4 * p + (a - 0x60034C) / 16)).elim 0 (·.ns))
  else if a = 0x300004 then
    some (d.rd FCU.SUM.SUPPRESSED + d.rd FCU.SUM.ESCALATIONS * 2 ^ 8 + b2n (sumUnack d) * 2 ^ 20 + sumHigh d * 2 ^ 21 + sumOpen d * 2 ^ 24)
  else if a = 0x300008 then some (wordOf d.regs [(FCU.INJ.ARMED, .RO), (FCU.INJ.FIRED, .RC)] false + injLeft d * 2 ^ 16)
  else if 0x800000 ≤ a ∧ a < 0x900000 then computedCan a d
  else if 0xD01000 ≤ a ∧ a < 0xD02000 then computedFdr p a d
  else if 0xD04000 ≤ a ∧ a < 0xD04200 ∧ a % 16 = 8 then some (lookD d.meter.pres ((a - 0xD04000) / 16) 0)
  else none

/-- The register an address names: itself, or in the per-lane window the register the window shows (R479). -/
def shownAddr (a : Nat) (d : Dev) : Nat := if 0x1580000 ≤ a then (winTarget a d).2 else a

/-- The high-word shadow key of a port for the 64-bit quantity whose low word is at address a (R4); in the per-lane window the quantity is the
selected lane's own. -/
def shadowKey (p a : Nat) (d : Dev) : Nat :=
  p * 2 ^ 32 + (if 0x1580000 ≤ a then ((winTarget a d).1 + 1) * 2 ^ 25 + (winTarget a d).2 else a)

/-- Registers that hold the low word of a 64-bit quantity made of two field registers. -/
def lowHighPair (a : Nat) : Bool :=
  a == 0x50004C || a == 0x50006C || a == 0x100100 || a == 0x100108 || a == 0x100140 || a == 0x100148 ||
    (decide (0x101000 ≤ a) && decide (a < 0x101400) && a % 0x20 == 0)

/-- The live word at an address that responds (R3, R6). -/
def liveWord (p a : Nat) (d : Dev) : Nat :=
  match computed p a d with
  | some v => v % 2 ^ 32
  | none =>
    match findReg regMap a with
    | some (fs, high) => wordOf (bankOf d a) fs high
    | none => 0

/-- The register holds a 64-bit quantity's low word (R4). -/
def isLowWord (a : Nat) : Bool :=
  lowHighPair a || match findReg regMap a with
    | some (fs, high) => !high && fs.any (fun e => decide (31 < e.1.hi))
    | none => false

/-- The register holds a 64-bit quantity's high word (R4). -/
def isHighWord (a : Nat) : Bool :=
  lowHighPair (a - 4) || match findReg regMap a with
    | some (_, high) => high
    | none => false

/-- Clear the RC fields of a register after a read (R7). -/
def clearRC (a : Nat) (d : Dev) : Dev :=
  match findReg regMap a with
  | some (fs, _) => fs.foldl (fun d e => if e.2 = .RC then putField e.1 e.1.rst d else d) d
  | none => d

/-- Reading SVC_SEC_LO latches the other three words for the port (R198). -/
def latchSvc (p : Nat) (d : Dev) : Dev :=
  { d with time := { d.time with svcLatch := ins (4 * p) (svcSec d / 2 ^ 32 % 2 ^ 16) (ins (4 * p + 1) (svcNs d) (ins (4 * p + 2) (svcFrac d) d.time.svcLatch)) } }

/-- Reading CAP_SEC_LO of trigger input k removes the oldest capture and latches CAP_SEC_HI and CAP_NS for the port (R198). -/
def popCapture (p k : Nat) (d : Dev) : Dev :=
  match lookD d.time.trigQ k [] with
  | [] => d
  | c :: t =>
    { d with time := { d.time with trigQ := ins k t d.time.trigQ, capLatch := ins (4 * p + k) c d.time.capLatch } }.wr (TIME.TRIG.CFG.LEVEL k) t.length

/-- Reading SNAP[r] of feeder f latches WRAPCNT[r] for the port (R296). -/
def latchWrap (p f r : Nat) (d : Dev) : Dev :=
  onMeter (fun m => { m with wrapLatch := ins (256 * p + 8 * f + r) (wrapOf d f r) m.wrapLatch }) d

/-- Reading WRAPCNT[r] of feeder f gives the port the latched count, once (R296). -/
def useWrap (p f r : Nat) (d : Dev) : Dev := onMeter (fun m => { m with wrapLatch := del (256 * p + 8 * f + r) m.wrapLatch }) d

/-- What a read of the register at an address does beside clearing its RC fields (R150, R198, R296), whoever reads it for port p (R3, R4). -/
def readEffect (p a : Nat) (d : Dev) : Dev :=
  if a = 0x500010 then latchRtc p d
  else if a = 0x600000 then latchSvc p d
  else if a = 0x600344 ∨ a = 0x600354 then popCapture p ((a - 0x600344) / 16) d
  else if 0xD01000 ≤ a ∧ a < 0xD02000 ∧ 0x88 ≤ a % 0x100 ∧ a % 0x100 < 0xA8 then latchWrap p ((a - 0xD01000) / 0x100) ((a % 0x100 - 0x88) / 4) d
  else if 0xD01000 ≤ a ∧ a < 0xD02000 ∧ 0xA8 ≤ a % 0x100 ∧ a % 0x100 < 0xC8 then useWrap p ((a - 0xD01000) / 0x100) ((a % 0x100 - 0xA8) / 4) d
  else d

/-- A 32-bit BAR0 read by port p (R3, R4, R7, R22): the value, and the device after its side effects. -/
def barRead (p a : Nat) (d : Dev) : Nat × Dev :=
  match blockOf a with
  | none => (0, d)
  | some b =>
    if ¬ blockOn d b then (0, d)
    else if isHighWord (shownAddr a d) then (lookD d.host.shadow (shadowKey p (a - 4) d) (liveWord p a d), d)
    else
      let v := liveWord p a d
      let d := if isLowWord (shownAddr a d) then { d with host := { d.host with shadow := ins (shadowKey p a d) (liveWord p (a + 4) d) d.host.shadow } } else d
      (v, clearRC a (readEffect p a d))

/-- The bytes of a register word that a read of `size` bytes at address a addresses (R3). -/
def addressedBytes (a size v : Nat) : Nat := v / 2 ^ (8 * (a % 4)) % 2 ^ (8 * size)

/-- A read of `size` bytes at address a (R3): the containing register is read with its side effects, and the addressed bytes of it go back to the
port (its completion). Bytes a read asks for beyond the register are 0 (DESIGN CHOICE, log 46). -/
def answerRead (p a size : Nat) (d : Dev) : Dev :=
  let (v, d) := barRead p (a / 4 * 4) d
  { d with host := { d.host with rdata := ins p (addressedBytes a size v) d.host.rdata } }

/-- A field's new value under a write of v to a bank m, and whether the field refuses a change the write would make (R595). `lockLift` is
true for CFG_WRITE, which lifts the RWL restriction and has tested the RWO fields on the registers as the whole command leaves them (R131). The fields
of R124 are the only RWO ones that a BAR0 write changes after lock. While the lock commit runs, RWL fields refuse (R113). -/
def fieldWrite (d : Dev) (m : SMap Nat) (lockLift : Bool) (a v : Nat) (f : FRef) (acc : Acc) : Nat × Bool :=
  let old := bankRd m f
  let new := bitsOf v f.hi f.lo
  let ok := lockLift || (if rwoField a acc then rwoOpen a d && (adminReg a || !locked d) else !locked d && !d.boot.committing)
  match acc with
  | .W1C => (old &&& (2 ^ f.width - 1 - new), false)
  | .W1S => (old ||| new, false)
  | .RW => (new, false)
  | .RWL => if ok then (new, false) else (old, new != old)
  | .RWO => if ok then (new, false) else (old, new != old)
  | _ => (old, false)

/-- A write of v to the register at address a, with the fields and the half findReg gives, on one bank: the bank after it, and whether a
refusing field would have changed (R595). RO and RC fields keep what the bank holds. -/
def bankWrite (d : Dev) (lockLift : Bool) (a v : Nat) (fs : List (FRef × Acc)) (high : Bool) (m : SMap Nat) : SMap Nat × Bool :=
  fs.foldl (fun (acc : SMap Nat × Bool) e =>
    let whole := if high then v * 2 ^ 32 + bankRd m e.1 % 2 ^ 32 else if 31 < e.1.hi then v % 2 ^ 32 + bankRd m e.1 / 2 ^ 32 * 2 ^ 32 else v
    let (nv, refused) := fieldWrite d m lockLift (if high then a - 4 else a) whole e.1 e.2
    (bankWr acc.1 e.1 nv, acc.2 || refused)) (m, false)

/-- Windows of registers that are read-only as a whole and not kept field by field: the Proof report, the MSI-X pending bits, EVR.WIN, the
tamper and last-gasp logs, a CAN channel's oldest buffered frame, the image windows of CLP. A write of one has no effect and is not counted (R7). -/
def roWindow (a : Nat) : Bool :=
  let within (lo hi : Nat) := decide (lo ≤ a) && decide (a < hi)
  within 0x2000 0x2840 || within 0x109000 0x109008 || within 0x400100 0x400200 || within 0x500200 0x500280 || within 0x500300 0x500400 ||
  (within 0x800000 0x900000 && decide (0x180 ≤ a % 0x10000) && decide (a % 0x10000 < 0x1D0)) ||
  within 0xF10000 0xF12000 || within 0xF20000 0xF2A800 || within 0xF40000 0xF88000 || within 0xF90000 0xF96000

/-- Write a register field by field; the answer says whether at least one refusing field would have changed (R595). LOOP and CLP perform the write
in every lane on that lane's own fields (R38, R472); the answer is then the lowest-lettered lane's. An address without a register is answered as refused (R37). -/
def writeFields (lockLift : Bool) (a v : Nat) (d : Dev) : Dev × Bool :=
  match findReg regMap a with
  | none => (d, !roWindow a)
  | some (fs, high) =>
    if laneBlock a then
      ({ d with lane := d.lane.map fun e => if laneTakes d e.1 then (e.1, { e.2 with regs := (bankWrite d lockLift a v fs high e.2.regs).1 }) else e },
       (bankWrite d lockLift a v fs high (bankOf d a)).2)
    else ({ d with regs := (bankWrite d lockLift a v fs high d.regs).1 }, (bankWrite d lockLift a v fs high d.regs).2)

/-- Registers always writable by their own port, whatever HOST.OWN says: KICK, HOST.PORT and HOST.ROUTE of the port, its rings, its
MSI-X table (R111). -/
def alwaysOwn (p a : Nat) : Bool :=
  a == 0x100000 ||
  (decide (0x100100 + 0x40 * p ≤ a) && decide (a < 0x100140 + 0x40 * p)) ||
  (decide (0x101000 + 0x200 * p ≤ a) && decide (a < 0x101200 + 0x200 * p)) ||
  (decide (0x104000 + 0x400 * p ≤ a) && decide (a < 0x104400 + 0x400 * p)) ||
  (decide (0x108000 ≤ a) && decide (a < 0x108400))

/-- Port p owns the block of address a for writing (R111). -/
def owns (d : Dev) (p a : Nat) : Bool :=
  alwaysOwn p a || match blockOf a with
    | some b => b2n (bitOf (d.rd HOST.OWN.BLOCK) b) == p
    | none => false

/-- The registers of a disabled port's rings cannot be used (R110). -/
def ringRegUsable (d : Dev) (a : Nat) : Bool :=
  if 0x101000 ≤ a ∧ a < 0x101400 then portEnabled d ((a - 0x101000) / 0x200) else true

/-- The address lies in a CAN object that belongs to the bus engine: host writes to it are ignored and counted (R206). -/
def engineObject (d : Dev) (a : Nat) : Bool :=
  decide (0x800000 ≤ a) && decide (a < 0x900000) && decide (0x1000 ≤ a % 0x10000) && decide (a % 0x10000 < 0x5000) &&
    d.flag (CAN.OBJ.CFG.OWNER ((a - 0x800000) / 0x10000) ((a % 0x10000 - 0x1000) / 0x80))

/-- A write of port p to address a is performed at all; otherwise it is ignored as a whole and counted (R22, R37, R39, R111, R595). -/
def writable (p a : Nat) (d : Dev) : Bool :=
  match blockOf a with
  | none => false
  | some b => blockOn d b && owns d p a && ringRegUsable d a && !engineObject d a

/-- Do `f` if port p may write address a, else count an ignored write. -/
def guardWrite (p a : Nat) (f : Dev → Dev) (d : Dev) : Dev := if writable p a d then f d else ignoreWrite p a d

/-- A BAR0 write of a register without effects of its own: field by field, counted once if a field refused (R595). -/
def plainWrite (p a v : Nat) (d : Dev) : Dev :=
  let (d, refused) := writeFields false a v d
  if refused then ignoreWrite p a d else d

end Sys2Proof.Machine
end

