-- ==== Sys2Proof/Machine/ResetOps.lean ====
section
/-! DEFINITION. Last-gasp records (R162), the alert line of the Crust port (R163), cold and warm resets (R88, R105), and a declared
loss of Crust state (R147). -/
namespace Sys2Proof.Machine
open Sys2Proof

/-! ### Last-gasp log -/

/-- Uncopied last-gasp records. -/
def lgUncopied (d : Dev) : Nat := (d.crust.lastGasp.filter fun e => !e.2).length

/-- LG_COUNT and LG_NEW follow the log (R162). -/
def lgStatus (d : Dev) : Dev :=
  (d.wr CRUST.STATUS.LG_COUNT (lgUncopied d)).put CRUST.STATUS.LG_NEW (lgUncopied d != 0)

/-- Assert CRP_ALERT_N for source b (R163): 0 TAMPER, 1 ALM0, 2 ALM1, 3 LG_NEW, 4 PROOF_HUNG, 5 WIT_FAIL. -/
def alertSet (b : Nat) (d : Dev) : Dev := { d with crust := { d.crust with alert := setBit d.crust.alert b true } }
/-- Source b no longer asserts CRP_ALERT_N. -/
def alertDrop (b : Nat) (d : Dev) : Dev := { d with crust := { d.crust with alert := setBit d.crust.alert b false } }

/-- Put a record into a last-gasp log of 8 (R162): a free place, else the oldest copied one's place, else a merge into the newest. -/
def lgPut (r : Rec) (l : List (Rec × Bool)) : List (Rec × Bool) :=
  if l.length < 8 then l ++ [(r, false)]
  else if l.any (·.2) then (l.eraseP (·.2)) ++ [(r, false)]
  else match l.getLast? with
    | some (x, c) => l.dropLast ++ [({ x with rep := min 65535 (x.rep + 1) }, c)]
    | none => [(r, false)]

/-- CS writes a last-gasp record with device event number `num` (R162, R596): RTC time, quality 2, or 3 and zero time while TIME_LOST. LG_NEW
becoming set asserts CRP_ALERT_N (R163). -/
def lastGasp (num w0 w1 : Nat) (d : Dev) : Dev :=
  let lost := timeLost d
  let r : Rec := { seq := 0, sec := if lost then 0 else d.crust.sec, ns := if lost then 0 else d.crust.sub * 1000000000 / 32768, qual := if lost then 3 else 2, code := num, frozen := false, isOpen := false, lastGasp := true, inj := false, src := 3, rep := 0, w0 := w0, w1 := w1, off := 0 }
  let d' := lgStatus { d with crust := { d.crust with lastGasp := lgPut r d.crust.lastGasp } }
  if d.flag CRUST.STATUS.LG_NEW then d' else alertSet 3 d'

/-! ### Resets -/

/-- Ranges of BAR0 whose fields survive a cold or warm reset in the Crust, in eMRAM or in fuses (R63, R87, R88, R92, R104, R521,
R544, R563, R570): first and last address. -/
def keptRanges : List (Nat × Nat) :=
  [(0x500000, 0x5FFFFF),   -- the CRUST window: Crust state
   (0x5C, 0x5C),           -- START_POLICY, eMRAM
   (0x70, 0x70),           -- COMPAT_LEVEL, eMRAM
   (0x200010, 0x200010),   -- RAIL_STAT: sticky bits in the Crust, live levels
   (0x1300000, 0x13FFFFF), -- KEYS: node and slot records in eMRAM, fuses
   (0x1400000, 0x14FFFFF), -- UPD: banks and directories in flash
   (0x1200050, 0x1200050), (0x120005C, 0x1200063), -- active model
   
   (0x400008, 0x40001F)]   -- EVR sequences, mirror and wear, eMRAM

/-- Single fields kept though their register is not: THERM_STAT.TRIP_SEEN, GLB.STATE.HANG_RETRY, CLK_STAT.PRESENT, EVR CONF and WSTAGE. -/
def keptFields : List Nat :=
  [PWR.THERM_STAT.TRIP_SEEN.key, GLB.STATE.HANG_RETRY.key, PWR.CLK_STAT.PRESENT.key,
   EVR.CFG.CONF.key, EVR.STAT.WSTAGE.key, GLB.STRAP.LIVE.key]

/-- A register key survives a cold or warm reset. -/
def keptKey (k : Nat) : Bool :=
  keptRanges.any (fun r => decide (32 * r.1 ≤ k) && decide (k < 32 * (r.2 + 1))) || keptFields.contains k || seqImageKey k ||
    k == (PIO.SAR.STAT.ENTRIES 0).key || k == (PIO.SAR.STAT.ENTRIES 1).key

/-- Fields that a reset keeps by address only for part of their register: status bits that restart at 0. -/
def volatileKept : List Nat :=
  [KEYS.STAT.JTAG_OPEN.key, KEYS.KU.LAST_STATUS.key, KEYS.KU.REFUSED.key, KEYS.KU.LAST_KIND.key, KEYS.GRANT.REASON.key,
   KEYS.GRANT.REFUSED.key, KEYS.GRANT.LAST_SCOPE.key, UPD.STAT.ABORTS.key, GLB.COMPAT_LEVEL.REFUSED.key]

/-- The registers right after a reset: kept fields, then the settings committed under GLB.LOCK (R88, R105). -/
def regsAfterReset (d : Dev) : SMap Nat :=
  let kept := keepKeys (fun k => keptKey k && !volatileKept.contains k) d.regs
  if d.boot.committedLocked then bankWr (overlay d.emram kept) GLB.LOCK.LOCK 1 else kept

/-- The records of a flash mirror survive; the rest of the recorder's memory restarts (R505, R512). Numbering resumes at the next
block of 4,096. -/
def evrAfterReset (d : Dev) : EvrSt :=
  { d.evr with queue := [], dropped := 0, areaC := [], areaF := if d.rd EVR.CFG.CONF = 2 then [] else d.evr.areaF, openSeqs := [], nextSeq := d.evr.blockEnd, blockEnd := d.evr.blockEnd + 4096, streams := [], mirrorAt := d.up }

/-- A cold (kind 1) or warm (kind 2) reset with the given CAUSE bit (R88, R104): every register at its reset value but the kept
ones, all volatile state lost, settings reloaded, PROOF entered, the boot counted. SAFE causes 0 to 4 clear (R471); the path itself is
applied in PROOF. A hold after a second Proof hang ends (R92), and with it that source of CRP_ALERT_N (R163). -/
def resetDies (kind causeBit : Nat) (d : Dev) : Dev :=
  let d := updBeforeReset d
  let safe5 := bitOf (d.rd LANES.SAFE.CAUSE) 5
  let base : Dev := unitsAfterReset kind d { regs := regsAfterReset d, emram := d.emram, free := d.free, up := d.up }
  let host : HostSt := { mem := d.host.mem, perst := d.host.perst }
  let boot : BootSt := { bootCount := (d.boot.bootCount + 1) % 2 ^ 32, hangs := d.boot.hangs, committedLocked := d.boot.committedLocked, startSec := if timeLost d then 0 else d.crust.sec, t0 := d.up, degradedAtT0 := d.flag GLB.START_POLICY.DEGRADED_RUN }
  let pins := { d.pins with strapped := false, bscan := 0, mpg := true, wrst := true }
  let pwr : PwrSt := { gradeE := d.pwr.gradeE }
  let base := { base with host := host, boot := boot, pins := pins, pwr := pwr, crust := { d.crust with latch := [] }, evr := evrAfterReset d }
  let base := (base.wr GLB.STATE.RESET_KIND kind).wr GLB.RESET_CAUSE.CAUSE (2 ^ causeBit)
  let base := evrIndexRegs (base.wr GLB.RESET_CAUSE.BOOT_COUNT boot.bootCount)
  let base := alertDrop 4 ((base.wr CRUST.STATUS.PROOF_HUNG 0).wr GLB.STATE.HANG_RETRY 0)
  levelAtReset (base.wr LANES.SAFE.CAUSE (if safe5 then 2 ^ 5 else 0))

/-! ### Tamper inputs (R158, R169) -/

/-- A TAMP_CFG field of input n: byte n configures TAMPERn (R169). -/
def tampField (n hi lo : Nat) : FRef := ⟨0x500080, 8 * n + hi, 8 * n + lo, 0⟩
/-- POL and FILT of input n. -/
def tampPol (n : Nat) : FRef := tampField n 6 6
def tampFilt (n : Nat) : FRef := tampField n 5 4
/-- The filter time of FILT in ns (R158). -/
def filtNs (v : Nat) : Nat := if v = 0 then 1000 else if v = 1 then 31000 else if v = 2 then 1000000 else 31000000

/-- TAMP_STAT.ACTIVE follows the levels and POL (R169); an input that is not active can be accepted anew. -/
def settleTamp (d : Dev) : Dev :=
  let act (n : Nat) := bitOf d.pins.tamper n == d.flag (tampPol n)
  let mask := (List.range 4).foldl (fun m n => if act n then m + 2 ^ n else m) 0
  { d.wr CRUST.TAMP_STAT.ACTIVE mask with pins := { d.pins with tampAcc := d.pins.tampAcc &&& mask } }

/-! ### Declared loss -/

/-- The settings of the CRUST window that Proof reloads from eMRAM after a declared loss: RTC_CFG, COMP.AGING, the alarms' MATCH and CTRL,
and TAMP_CFG (R147). -/
def crustSetting (k : Nat) : Bool :=
  [0x500020, 0x500040, 0x500044, 0x500060, 0x500064, 0x500080].any (fun a => decide (32 * a ≤ k) && decide (k < 32 * (a + 1))) ||
    k == CRUST.COMP.AGING.key

/-- CS declares the Crust state lost: all of it is zeroed but the live levels, the flags of R147 are set, PON_MODE 0 holds PONCTL high
(R157), and the loss waits for Proof's report and EV21 (R94, R147). A set that waits for its second boundary is the command's and not state: that it
still takes effect, and so ends TIME_LOST, is the model's choice (DESIGN CHOICE, log 97). -/
def declareLoss (d : Dev) : Dev :=
  let live := [CRUST.STATUS.ON_VBAT.key, CRUST.STATUS.BAT_LOW.key, CRUST.STATUS.BAT_ABSENT.key, CRUST.TAMP_STAT.ACTIVE.key, CRUST.RTC_STAT.TEMP.key, CRUST.STATUS.STATE.key]
  let regs := keepKeys (fun k => !(decide (32 * 0x500000 ≤ k) && decide (k < 32 * 0x600000)) || live.contains k) d.regs
  let c : CrustSt := { starter := some 0, vaux := d.crust.vaux, vbat := d.crust.vbat, ponctl := true, lossUnreported := true, lossEvent := true, pendingSets := d.crust.pendingSets }
  let boot := { d.boot with bootCount := 0, hangs := 0 }
  let d : Dev := { d with regs := regs, crust := c, boot := boot }
  let d := (d.wr CRUST.RTC_CFG.DISC_EN 0).wr CRUST.RTC_CFG.PON_TIMEOUT 0
  let d := ((d.wr PWR.RAIL_STAT.VIOL 0).wr PWR.THERM_STAT.TRIP_SEEN 0).wr GLB.RESET_CAUSE.BOOT_COUNT 0
  raiseEv 160 0 0 (alertSet 5 (starterGone (settleTamp d)))

/-- BT reloads the settings of the CRUST window from eMRAM (R147); one never committed has its shipped value. The
next matches follow (R153). -/
def reloadCrust (d : Dev) : Dev :=
  settleTamp <| recomputeAlarms { d with regs := overlay (keepKeys crustSetting d.emram) (keepKeys (fun k => !crustSetting k) d.regs) }

/-- The words of the witness are in order (R146): pattern, CRC-32, parity, and the two RTC copies equal or one count apart. -/
def Witness.ok (w : Witness) : Bool := w.pattern && w.crc && w.parity && decide (w.rtcDiff ≤ 1)

/-- The integrity witness verifies (R146): what it shows now and what had been spoiled before are in order, and LOW_RET is not latched. -/
def witnessOk (w : Witness) (d : Dev) : Bool := Witness.ok w && Witness.ok d.crust.wit && !d.flag CRUST.STATUS.LOW_RET

/-- Check the witness `w`; a failure is a declared loss (R146). -/
def checkWitness (w : Witness) (d : Dev) : Dev := if witnessOk w d then d else declareLoss d

end Sys2Proof.Machine
end

