-- ==== Sys2Proof/Machine/RecorderOps.lean ====
section
/-! DEFINITION. The event recorder's mirror, its flush and its gap record (R511 to R513), and the copy of the last-gasp log (R162). -/
namespace Sys2Proof.Machine
open Sys2Proof

/-- Records not yet mirrored, and mirrored ones a merge has changed (R511), under a wear stage (R517): stage 1 and above mirror merges
only at sealing, stage 3 only frozen rank before a flush. -/
def toMirror (stage : Nat) (flush : Bool) (d : Dev) : List Rec :=
  d.evr.areaC.filter fun r =>
    let known := (findRec r.seq d.evr.mirror).isSome
    let changed := findRec r.seq d.evr.mirror != some r
    changed && (flush || !known || stage == 0 || !r.isOpen) && (flush || decide (stage < 3) || frozenRank r.code r.w1)

/-- Put records into the mirror in sequence order, replacing older versions. -/
def mirrorPut (rs : List Rec) (m : List Rec) : List Rec :=
  rs.foldl (fun m r => if (findRec r.seq m).isSome then mapRec r.seq (fun _ => r) m else
    let before (x : Rec) : Bool := decide (sdiff 32 x.seq r.seq < 0)
    m.takeWhile before ++ r :: m.dropWhile before) m

/-- Mirror records: the mirror holds what area C of the configuration holds, EVR.MIRR follows the newest, and a close mark is void once a newer record
is mirrored (R511). -/
def mirrorRecords (rs : List Rec) (d : Dev) : Dev :=
  let newer := rs.any fun r => (findRec r.seq d.evr.mirror).isNone
  let m := mirrorPut rs d.evr.mirror
  let d : Dev := { d with evr := { d.evr with mirror := m.drop (m.length - confRecords (d.rd EVR.CFG.CONF)), closeMark := if newer then none else d.evr.closeMark } }
  match d.evr.mirror.getLast? with
  | some r => d.wr EVR.MIRR r.seq
  | none => d

/-- The mirror period in ns: MIRROR × 100 ms, 0 acting as 1, and from wear stage 2 on at least 60 s (R511, R517, R521). -/
def mirrorPeriod (d : Dev) : Nat :=
  let p := max 1 (d.rd EVR.CFG.MIRROR) * 100000000
  if 2 ≤ d.rd EVR.STAT.WSTAGE then max p 60000000000 else p

/-- Records not yet mirrored whose page of 128 has filled (R511). -/
def fullPages (d : Dev) : List Rec :=
  (toMirror (d.rd EVR.STAT.WSTAGE) false d).filter fun r => (findRec r.seq d.evr.mirror).isNone && r.seq / 128 != d.evr.nextSeq / 128

/-- The PFAIL_N flush: every record mirrored, then the close mark (R511). -/
def flushMirror (d : Dev) : Dev :=
  let d := mirrorRecords (toMirror 0 true d) d
  { d with evr := { d.evr with closeMark := some (d.rd EVR.MIRR) } }

/-- A last-gasp record is one of a loss: PFAIL_N, a rail, REFCLK, a thermal trip, a Proof hang; what CS did on a heartbeat or a tamper input is none
(R162, R513, R596). -/
def lossRecord (r : Rec) : Bool := r.code == 0x010 || r.code == 0x011 || r.code == 0x012 || r.code == 0x013 || r.code == 0x015

/-- Payload word 0 of the gap record: the numbers of the last reserved block above EVR.MIRR, at a start, which resumes at the block's end (R513). -/
def gapWord0 (d : Dev) : Nat := min 4096 ((d.evr.nextSeq + (2 ^ 32 - 1) - d.rd EVR.MIRR) % 2 ^ 32)

/-- Payload word 1 of the gap record: ms from the newest mirrored record to the loss, or 0xFFFF_FFFF (R513). -/
def gapWord1 (d : Dev) : Nat :=
  match (d.crust.lastGasp.filter (fun e => !e.2 && lossRecord e.1)).getLast?, d.evr.mirror.getLast? with
  | some (g, _), some m =>
    if g.qual = 3 ∨ m.qual = 3 ∨ g.sec * 1000000000 + g.ns < m.sec * 1000000000 + m.ns then 0xFFFFFFFF
    else ((g.sec * 1000000000 + g.ns) - (m.sec * 1000000000 + m.ns)) / 1000000
  | _, _ => 0xFFFFFFFF

/-- At a start BT writes the gap record, unless the mirror ends with a close mark at EVR.MIRR, and raises EV154 (R513). -/
def gapRecord (d : Dev) : Dev :=
  if d.evr.closeMark = some (d.rd EVR.MIRR) then d
  else
    let q := d.evr.nextSeq
    raiseEvFrom 7 154 q 0 (writeNow 13 0x001 (gapWord0 d) (gapWord1 d) 7 d)

/-- BT copies the uncopied last-gasp records to the recorder and marks them copied (R162, R513). -/
def copyLastGasp (d : Dev) : Dev :=
  let d' := d.crust.lastGasp.foldl (fun d e =>
    if e.2 then d
    else
      let q := d.evr.nextSeq
      let d := newRec { unit := e.1.code / 4096, num := e.1.code % 4096, w0 := e.1.w0, w1 := e.1.w1, src := 3, sec := e.1.sec, ns := e.1.ns, qual := e.1.qual, lastGasp := true } d
      -- a merged record keeps its count
      { d with evr := { d.evr with areaC := mapRec q (fun r => { r with rep := e.1.rep }) d.evr.areaC } }) d
  alertDrop 3 (lgStatus { d' with crust := { d'.crust with lastGasp := d'.crust.lastGasp.map fun e => (e.1, true) } })

/-- MPG is seen low (R52, R90): every control-die output in its reset state, STANDBY; PONCTL falls under PON_MODE 1 (R157). A hold of the control die
ends, but for the rail monitor's (R61) and a thermal trip's (R86). -/
def mpgLow (d : Dev) : Dev :=
  let d : Dev := { d with pins := { d.pins with strapped := false }, pwr := { d.pwr with heldClk := false, heldHang := false } }
  if opState d = 0 then d
  else
    let d : Dev := if d.flag CRUST.RTC_CFG.PON_MODE then { d with crust := { d.crust with ponctl := false } } else d
    { d.wr GLB.STATE.STATE 1 with host := { d.host with waits := [] } }

end Sys2Proof.Machine
end

