-- ==== Sys2Proof/Machine/Startup.lean ====
section
/-! DEFINITION. Reset triggers, strap sampling, Proof and its verdict (spec/02 R45 to R54, spec/04 R88 to R105). -/
namespace Sys2Proof.Machine
open Sys2Proof

/-- Whether the trip comparator reads below 110 °C at a restart attempt (R86): what the die's temperature is then is a free value. -/
def comparatorCool (d : Dev) : Bool × Dev := let (x, d) := takeFree 1 d; (x == 1, d)

/-- The cold start that a rising MPG asks for (R52, R90, R157). -/
def mpgStart (d : Dev) : Dev := resetDies 1 8 { d with crust := { d.crust with waking := false, ponctl := true } }

/-- MPG rises (R52, R54, R61, R62, R86, R90), TESTMODE standing as given: a cold reset from STANDBY. Without VAUX33 the edge is not seen. After a
thermal trip the die starts only below 110 °C, the rail monitor's hold makes MPG ignored, and without REFCLK CS holds the die until it is valid (R75). -/
def execMpgRise (testmode : Bool) (s : State) : Host.Outcome State Fault Refusal :=
  go (fun d =>
    if ¬ d.crust.vaux then d
    else
      let d : Dev := { d with pins := { d.pins with mpg := true, testmode := testmode } }
      if opState d ≠ 1 ∨ d.pwr.heldRail then d
      else
        let (cool, d) := if d.pwr.tripHold then comparatorCool d else (true, d)
        if ¬ cool then d
        else if ¬ bitOf (d.rd PWR.CLK_STAT.PRESENT) 0 then { d with pwr := { d.pwr with heldClk := true, tripHold := false } }
        else mpgStart d) s

/-- A warm reset with a CAUSE bit (R88). -/
def warmReset (cause : Nat) (d : Dev) : Dev := resetDies 2 cause d

/-- A WRST_N pulse of `lowNs` is seen (R52): at least 10 µs is, below 1 µs is not; between the two the manual defines no result, so that a free
value decides (log 82). -/
def wrstSeen (lowNs : Nat) (d : Dev) : Bool × Dev :=
  if lowNs < 1000 then (false, d)
  else if 10000 ≤ lowNs then (true, d)
  else let (x, d) := takeFree 1 d; (x == 1, d)

/-- WRST_N goes low for `lowNs` while VAUX33 and MPG are there (R43, R52, R86, R92): a device warm reset; after a thermal trip it is the restart, and
only below 110 °C. `mpgToo` says that MPG changes within the same 10 µs: MPG governs. A hold for a rail or REFCLK stays (R61, R75). -/
def execWrstN (lowNs : Nat) (mpgToo : Bool) (s : State) : Host.Outcome State Fault Refusal :=
  go (fun d =>
    if ¬ d.crust.vaux ∨ ¬ d.pins.mpg ∨ mpgToo then d
    else
      let (seen, d) := wrstSeen lowNs d
      if ¬ seen ∨ d.pwr.heldRail ∨ d.pwr.heldClk then d
      else if d.pwr.tripHold then
        let (cool, d) := comparatorCool d
        if cool then warmReset 3 d else d
      else if opState d ≤ 1 then d
      else warmReset 0 d) s

/-- The last strap sample latched, with UNSTABLE when the samples differ; an unstable or invalid strap forces SAFE 0b00 (R45, R46). -/
def latchStraps (samples : List Nat) (d : Dev) : Dev :=
  let last := (samples.getLast?.getD 0) % 32
  let unstable := samples.any fun x => decide (x % 32 ≠ last)
  let invalid := last % 4 == 3
  let d := (d.put GLB.STRAP.UNSTABLE unstable).put GLB.STRAP.INVALID invalid
  let d := (d.wr GLB.STRAP.SAFE (if unstable || invalid then 0 else last % 4)).wr GLB.STRAP.XPROOF (last / 4)
  let d := (d.wr GLB.STRAP.BIF (last / 8)).wr GLB.STRAP.LIVE last
  let d := ((d.put (HOST.PORT.STAT.PRESENT 0) (portEnabled d 0)).put (HOST.PORT.STAT.PRESENT 1) (portEnabled d 1))
  let d := d.wr HOST.OWN.BLOCK (if last / 8 % 4 = 3 then 0xFFFFFFFF else 0)
  { d with pins := { d.pins with strapped := true, straps := last } }

/-- The control die is in PROOF and not held in reset. -/
def inProof (d : Dev) : Bool := opState d == 2 && !d.pwr.heldDie

/-- The straps are sampled eight times and latched (R45, R46), and BT loads the safe-value latches (R47); `safeOk` says whether the stored
values pass their check. After the latch the levels still show in GLB.STRAP.LIVE, and nothing else changes until the next sampling (R45, R48). -/
def execStrapSampling (samples : List Nat) (safeOk : Bool) (s : State) : Host.Outcome State Fault Refusal :=
  go (fun d =>
    if inProof d ∧ ¬ d.pins.strapped then loadSafeLatches safeOk (latchStraps samples d)
    else
      let last := (samples.getLast?.getD d.pins.straps) % 32
      { d with pins := { d.pins with straps := last } }.wr GLB.STRAP.LIVE last) s

/-- The forces that a reset ended are recorded at the next start: unit event 0x001 of the CLP or LOOP (R414, R447). -/
def recordEnded (d : Dev) : Dev :=
  d.frc.ended.foldl (fun (d : Dev) e => if e.1 = 16 then record 9 0x001 e.2.1 e.2.2 0 d else record 11 0x001 (e.1 * 2 ^ 28 + e.2.1) e.2.2 0 d)
    { d with frc := { d.frc with ended := [] } }

/-- Proof starts (R45, R93): the Crust witness `w` is checked and reported (step 3), the gap record and the last-gasp records are
written (R162, R513), settings lost with the Crust state are reloaded (R147), the loss of an earlier declaration is reported with EV21 (R147), and the faults CS handled are kept for RUN
(R488). -/
def execProofStart (w : Witness) (s : State) : Host.Outcome State Fault Refusal :=
  go (fun d =>
    if ¬ inProof d ∨ d.boot.proofRun then d
    else
      let d := checkWitness w d
      let d := copyLastGasp (gapRecord (if d.crust.lossUnreported then reloadCrust d else d))
      let d := if d.crust.lossEvent then raiseEv 21 0 0 { d with crust := { d.crust with lossEvent := false } } else d
      let d := recordEnded d
      let old := d.crust.restartDets.map fun n => ({ det := n, src := 1 } : Raise)
      { d with boot := { d.boot with proofRun := true, findings := d.boot.findings ++ old }, crust := { d.crust with restartDets := [] } }) s

/-! ### The verdict -/

/-- Fields of a location code (R18). -/
def locDie (loc : Nat) : Nat := bitsOf loc 31 30
def locIsland (loc : Nat) : Nat := bitsOf loc 29 26
def locCluster (loc : Nat) : Nat := bitsOf loc 25 20
def locTile (loc : Nat) : Nat := bitsOf loc 19 12

/-- A location code from its fields, macro field not named (R18, R99). -/
def locOf (die isl cl tile : Nat) : Nat := die * 2 ^ 30 + isl * 2 ^ 26 + cl * 2 ^ 20 + tile * 2 ^ 12 + 4095
/-- The location code of a whole island of the control die (R18). -/
def islandLoc (n : Nat) : Nat := locOf 0 n 63 255

/-- The tiles of each cluster (R99): die, island and the tile count of every cluster, in ascending order of location. -/
def tileTable : List (Nat × Nat × List Nat) :=
  [(0, 1, [2, 16, 1, 1, 2, 8, 2, 1]), (0, 2, [4, 4, 4, 4, 8]), (0, 3, [8, 2, 4]), (0, 4, [8, 2, 4]), (0, 5, [8, 2, 4]), (0, 6, [8, 1, 1, 12]),
   (0, 7, [1, 2, 12]), (0, 8, [1, 1, 1, 1, 1]), (0, 10, [1, 1, 1, 1, 1, 1, 2, 1]), (0, 11, [1, 1, 1, 1, 1, 1, 1, 1, 1, 1, 1, 1, 1, 1, 1, 1, 1, 1, 4]),
   (0, 12, [2, 2, 2]), (0, 13, [1, 3]), (1, 9, [4, 1, 1, 2, 4, 1, 1, 1]), (2, 0, [2, 1, 1]), (3, 15, [16])]

/-- The tiles of a list of clusters, the first of which has number c. -/
def clusterLocs (die isl : Nat) : Nat → List Nat → List Nat
  | _, [] => []
  | c, n :: t => (List.range n).map (locOf die isl c) ++ clusterLocs die isl (c + 1) t

/-- The location codes of all 217 tiles, ascending (R98, R99). -/
def tileLocs : List Nat := tileTable.flatMap fun e => clusterLocs e.1 e.2.1 0 e.2.2

/-- What Proof found on the tile at a location. -/
def tileFound (r : ProofResult) (loc : Nat) : ProofEntry := (r.entries.find? fun e => e.loc == loc).getD { loc := loc }

/-- The tests a tile failed (R98); a Crust tile is not tested, and its entry reports only the witness (R94, R99). -/
def testsFailed (r : ProofResult) (d : Dev) (loc : Nat) : Nat :=
  if locDie loc = 2 then (if d.crust.lossUnreported then 2 ^ 8 else 0) else (tileFound r loc).failed % 2 ^ 8

/-- The locations of the failed tiles, ascending; the witness is no finding (R94). -/
def failedLocs (r : ProofResult) : List Nat := tileLocs.filter fun l => locDie l != 2 && (tileFound r l).failed % 2 ^ 8 != 0

/-- A failed tile that alone fails Proof: any AON tile, the HOST ring engine, the ANA tiles other than front-end and SARs (R95). -/
def failsProof (loc : Nat) : Bool :=
  (locDie loc == 0 && locIsland loc == 1) || (locDie loc == 0 && locIsland loc == 12 && locCluster loc == 2) ||
  (locDie loc == 1 && decide (3 ≤ locCluster loc))

/-- The lanes with a failed tile or outvoted in step 11. -/
def badLanes (r : ProofResult) : List Nat :=
  [0, 1, 2].filter fun l => r.outvoted.contains l || (failedLocs r).any fun loc => locDie loc == 0 && locIsland loc == 3 + l

/-- The clusters of METER whose MD tile failed. -/
def badMd (r : ProofResult) : List Nat :=
  [0, 1, 2, 3].filter fun k => (failedLocs r).any fun loc => locDie loc == 0 && locIsland loc == 8 && locCluster loc == k

/-- Proof's findings of kind "fail" (R46, R54, R95). -/
def proofFails (r : ProofResult) (d : Dev) : Bool :=
  (failedLocs r).any failsProof || d.flag GLB.STRAP.UNSTABLE || d.flag GLB.STRAP.INVALID || d.pins.testmode ||
  decide (2 ≤ (badLanes r).length) || r.noTwoEqual || r.loopClpImageFail || r.imageFail.any (fun e => decide (4 ≤ e) && decide (e ≤ 9)) ||
  ((failedLocs r).any (fun l => locDie l == 1 && locCluster l == 1) && (failedLocs r).any (fun l => locDie l == 1 && locCluster l == 2)) ||
  r.imageFail.any (fun e => engineIsland e == 1)

/-- A whole-island Proof finding on island n, and one on the function that detector f names, with the location found (R18, R95). -/
def islandFinding (n loc : Nat) : Raise := { det := 32 + n, src := 2, loc := loc }
def functionFinding (n f loc : Nat) : Raise := { det := 32 + n, src := 4, detail := f, loc := loc }

/-- The degrading finding of a failed tile (R95, R99); none for the Crust and for tiles that fail Proof. The function codes beyond
191 are the model's own: 200 TE, 201 to 204 the application cores. The table of R95 speaks of one failed PE tile, PCIe port, Ethernet MAC, CAN channel
or application core; every further one degrades in the same way (DESIGN CHOICE, log 83). -/
def degradeOf (r : ProofResult) (loc : Nat) : Option Raise :=
  let c := locCluster loc
  let t := locTile loc
  if locDie loc = 3 then some { det := 84, src := 2, loc := loc }
  else if locDie loc = 1 then
    (if c = 0 then some (functionFinding 9 (144 + t) loc) else if c ≤ 2 then some (functionFinding 9 (132 + c) loc) else none)
  else if locDie loc = 2 then none
  else
    let whole := some (islandFinding (locIsland loc) loc)
    let fn (f : Nat) := some (functionFinding (locIsland loc) f loc)
    match locIsland loc with
    | 2 => if c ≤ 3 then fn (201 + c) else whole
    | 6 => if c = 0 then fn (152 + t) else whole
    | 8 => if c ≤ 3 ∧ (badMd r).length = 1 then fn (139 + c) else whole
    | 10 => if c ≤ 5 then fn (106 + c) else if c = 6 then fn (112 + t) else fn 200
    | 11 => if c ≤ 15 then fn (115 + c) else whole
    | 12 => if c ≤ 1 then fn (102 + c) else none
    | 3 => whole
    | 4 => whole
    | 5 => whole
    | 7 => whole
    | 13 => whole
    | _ => none

/-- The same finding, wherever it was made. -/
def sameFinding (x y : Raise) : Bool := x.det == y.det && x.src == y.src && x.detail == y.detail

/-- Keep the first of each finding. -/
def dedup : List Raise → List Raise
  | [] => []
  | r :: t => r :: (dedup t).filter fun x => !sameFinding r x

/-- Proof's findings of kind "degrade" as the raises made at entry to RUN (R95, R541), each with its location (R18). -/
def degrades (r : ProofResult) (d : Dev) : List Raise :=
  dedup ((failedLocs r).filterMap (degradeOf r) ++ (badLanes r).map (fun l => islandFinding (3 + l) (islandLoc (3 + l))) ++
    (r.imageFail.filter fun e => engineIsland e != 1 && (decide (e < 4) || decide (9 < e))).map
      (fun e => islandFinding (engineIsland e) (if engineIsland e = 9 then locOf 1 9 63 255 else islandLoc (engineIsland e))) ++
    r.portFault.map (fun p => functionFinding 12 (102 + p) (locOf 0 12 p 255)) ++
    (if r.keyTreeFault ∧ ¬ keyLost d then [{ det := 162, src := 2, loc := islandLoc 13 }] else []) ++
    (if r.cryptoFault then [{ det := 163, src := 2, loc := islandLoc 13 }] else []))

/-- The islands that the findings hold (R95). -/
def heldByProof (deg : List Raise) : List Nat :=
  deg.flatMap fun x => if x.det = 84 then [2, 6] else if 162 ≤ x.det then [13] else if x.src = 2 then [x.det - 32] else []

/-- The islands whose tiles, agreement or images failed, which stay off in Rack state (R100). -/
def failedIslandsOf (r : ProofResult) (deg : List Raise) : List Nat :=
  ((failedLocs r).map locIsland ++ (deg.filter fun x => x.det != 84 && x.src == 2).flatMap fun x => heldByProof [x]).eraseDups.filter
    fun n => decide (2 ≤ n) && decide (n ≤ 13)

/-- The verdict: 0 PASS, 1 DEGRADED, 2 FAIL (R95). -/
def verdictOf (r : ProofResult) (d : Dev) : Nat :=
  if proofFails r d then 2 else if degrades r d ≠ [] then 1 else 0

/-- The result of a tile's entry (R98): 2 FAILED, 3 NOT_RUN, 1 HELD by another tile of its island, 0 PASS. -/
def tileResult (r : ProofResult) (d : Dev) (loc : Nat) : Nat :=
  if testsFailed r d loc ≠ 0 then 2
  else if locDie loc != 2 && (tileFound r loc).notRun then 3
  else if locDie loc != 2 && (heldByProof (degrades r d)).contains (locIsland loc) then 1
  else 0

/-- Entries with a given result. -/
def countResult (r : ProofResult) (d : Dev) (p : Nat → Bool) : Nat := (tileLocs.filter fun l => p (tileResult r d l)).length

/-- Byte 3 of the report header (R97). -/
def reportFlags (d : Dev) : Nat :=
  d.rd GLB.STRAP.XPROOF + 2 * b2n d.boot.degradedAtT0 + 4 * b2n (!d.crust.lossUnreported) + 8 * b2n (keyLost d) + 16 * b2n (timeLost d) +
  32 * b2n (d.rd PWR.RAIL_STAT.VIOL != 0) + 64 * b2n (d.flag GLB.STRAP.UNSTABLE || d.flag GLB.STRAP.INVALID) + 128 * b2n d.pins.testmode

/-- The GLB.RESET_CAUSE word (R104). -/
def resetCauseWord (d : Dev) : Nat := d.rd GLB.RESET_CAUSE.CAUSE + d.rd GLB.RESET_CAUSE.BOOT_COUNT * 2 ^ 16
/-- The PWR.RAIL_STAT word (R63). -/
def railWord (d : Dev) : Nat := d.rd PWR.RAIL_STAT.GOOD + d.rd PWR.RAIL_STAT.VIOL * 2 ^ 16
/-- The GLB.PROOF_SUM word (R104). -/
def proofSumWord (d : Dev) : Nat :=
  d.rd GLB.PROOF_SUM.HELD + d.rd GLB.PROOF_SUM.FAILED * 2 ^ 8 + d.rd GLB.PROOF_SUM.VERDICT * 2 ^ 16 + d.rd GLB.PROOF_SUM.DURATION_MS * 2 ^ 18

/-- The eight bytes of a tile's entry (R98); a Crust entry reports only the witness (R99). Safe values that fail their check show as the signature bit of the first eMRAM tile, whose result
stays PASS: a finding that does not fail Proof (R47; DESIGN CHOICE, log 83). -/
def entryBytesOf (r : ProofResult) (d : Dev) (loc : Nat) : List Byte :=
  let tests := testsFailed r d loc
  let tests := if loc = locOf 0 1 5 0 ∧ d.pio.safeBad then setBit tests 3 true else tests
  toBytes 4 loc ++ toBytes 2 tests ++ toBytes 1 (tileResult r d loc) ++
    toBytes 1 (if locDie loc = 2 then 0 else min 255 (tileFound r loc).repairs)

/-- The 2,112 bytes of the Proof report (R97, R98). -/
def proofReport (r : ProofResult) (d : Dev) : List Byte :=
  let first := (tileLocs.find? fun l => tileResult r d l == 2).getD 0xFFFFFFFF
  let head := toBytes 2 1 ++ toBytes 1 (verdictOf r d) ++ toBytes 1 (reportFlags d) ++ toBytes 4 d.boot.bootCount ++
    toBytes 4 (resetCauseWord d) ++ toBytes 6 (if timeLost d then 0 else d.boot.startSec) ++ toBytes 2 tileLocs.length ++
    toBytes 2 (countResult r d (· == 2)) ++ toBytes 2 (countResult r d fun x => x == 1 || x == 3) ++ toBytes 4 r.durationUs ++ toBytes 4 first ++
    toBytes 4 (railWord d)
  padTo 2112 (padTo 64 head ++ tileLocs.flatMap (entryBytesOf r d))

/-- Enter RUN from PROOF (R90, R95, R471, R488): the SAFE path is released when no cause stays, the lanes that are on and not held are
voted, the findings are raised and act. -/
def enterRun (d : Dev) : Dev :=
  let d := setState 3 { d with boot := { d.boot with hangs := 0 } }
  let d : Dev := { d with fcu := { d.fcu with todo := d.fcu.todo ++ d.boot.findings }, boot := { d.boot with findings := [] } }
  let bad := fun (l : Nat) => d.fcu.todo.any fun r => r.det == 35 + l
  let d := [0, 1, 2].foldl (fun (d : Dev) l => if islandOn d (3 + l) ∧ ¬ held d (3 + l) ∧ ¬ bad l then setLState l 5 d else d) d
  let d := checkPair (runHook d)
  if d.rd LANES.SAFE.CAUSE = 0 then releaseSafe d else d

/-- What PROOF_VERDICT does where its conditions hold (R90, R92, R94, R95, R97, R104, R178); a Crust loss declared since the start of Proof has its settings
reloaded too (R147). -/
def proofVerdictEffect (r : ProofResult) (d : Dev) : Dev :=
  let v := verdictOf r d
  let deg := degrades r d
  let failed := countResult r d (· == 2)
  let heldN := countResult r d fun x => x == 1 || x == 3
  let d := seedService d
  let d : Dev := { d with boot := { d.boot with report := proofReport r d, proofRun := false, findings := d.boot.findings ++ deg, failedIslands := failedIslandsOf r deg } }
  let d := deg.foldl (fun d x => if x.src = 4 then noteBad x.detail d else d) d
  let d := if d.crust.lossUnreported then reloadCrust d else d
  let d : Dev := { d with crust := { d.crust with lossUnreported := false } }
  let d := if deg.any (fun x => x.det == 84) then memoryLost d else d
  let d := ((d.wr GLB.PROOF_SUM.VERDICT v).wr GLB.PROOF_SUM.DURATION_MS (r.durationUs / 1000)).wr GLB.PROOF_SUM.FAILED (min 255 failed)
  let d := d.wr GLB.PROOF_SUM.HELD (min 255 heldN)
  let d := record 0 0x001 (proofSumWord d) (resetCauseWord d) 7 d
  if v = 0 ∨ (v = 1 ∧ d.boot.degradedAtT0) then enterRun d
  else enterRack (if v = 2 then 1 else 2) d

/-- Proof reaches its verdict (R90, R92, R94, R95, R97, R104): service time is seeded (R178, step 9), the report and its summary are written and recorded, a reported Crust loss
is no longer pending, and RUN or RACK is entered. -/
def execProofVerdict (r : ProofResult) (s : State) : Host.Outcome State Fault Refusal :=
  go (fun d =>
    if ¬ inProof d ∨ ¬ d.boot.proofRun then d
    else
      proofVerdictEffect r d) s

/-- A Proof hang (R92): the first hang gives a PROOF_HANG warm reset, the next holds the control die with the SAFE path active and
PROOF_HUNG shown. R92 names the hold for a missed deadline; a BT heartbeat that stops in the Proof after the retry holds the die too (DESIGN CHOICE,
log 82). -/
def proofHang (d : Dev) : Dev :=
  if ¬ inProof d then d
  else
    let n := d.boot.hangs + 1
    let d := lastGasp 0x015 n 0 { d with boot := { d.boot with hangs := n } }
    if n = 1 then (resetDies 2 6 d).wr GLB.STATE.HANG_RETRY 1
    else alertSet 4 ({ d with pwr := { d.pwr with heldHang := true }, boot := { d.boot with proofRun := false } }.wr CRUST.STATUS.PROOF_HUNG 1)

/-- CS finds no verdict by the deadline (R92). -/
def execProofDeadline (s : State) : Host.Outcome State Fault Refusal := go proofHang s

/-- MPG falls (R52, R90). Without VAUX33 the edge is not seen; it is when VAUX33 is back and MPG still low (R43, R62). -/
def execMpgFall (s : State) : Host.Outcome State Fault Refusal :=
  go (fun d =>
    let d : Dev := { d with pins := { d.pins with mpg := false } }
    if d.crust.vaux then mpgLow d else d) s

/-- PFAIL_N falls (R51), a ball that VAUX33 powers (R43): the last-gasp record, the recorder flush and the units' checkpoints; with MPG falling in the same µs, or
while CS holds the control die in reset, the record alone. Only STANDBY ignores the edge (R49). -/
def execPfailNFall (mpgToo : Bool) (s : State) : Host.Outcome State Fault Refusal :=
  go (fun d =>
    let d : Dev := { d with pins := { d.pins with pfail := false } }
    if ¬ d.crust.vaux ∨ opState d ≤ 1 then d
    else
      let d := lastGasp 0x010 0 0 d
      if mpgToo ∨ d.pwr.heldDie then d else flushMirror (pfailHook d)) s

end Sys2Proof.Machine
end

