-- ==== Sys2Proof/Machine/PowerRows.lean ====
section
/-! DEFINITION. Rails, clocks, PLLs, islands, AVSBus and the thermal manager: the commands of spec/03. -/
namespace Sys2Proof.Machine
open Sys2Proof

/-! ### Rails (R61) -/

/-- The class of a rail: 0 device, 1 analogue, 2 link, 3 memory, 4 none (VAUX33, VBAT) (R61). -/
def railClass (r : Nat) : Nat :=
  if r = 2 ∨ r = 4 ∨ r = 6 ∨ r = 7 then 0 else if r = 3 ∨ r = 5 then 1 else if r = 8 then 2 else if r = 1 ∨ r = 9 ∨ r = 10 then 3 else 4

/-- A detector whose record is opened at the next start, because CS handled the fault (R488). -/
def raiseAtRestart (det : Nat) (d : Dev) : Dev :=
  { d with crust := { d.crust with restartDets := if d.crust.restartDets.contains det then d.crust.restartDets else d.crust.restartDets ++ [det] } }

/-- A main rail leaves its range while the device runs (R61), by its class: a device rail makes CS apply the SAFE path and hold the control die,
an analogue rail leaves ANA as switched off (R21), a link rail takes the links down, a memory rail loses the memory die. ANA's CAUSE then shows 0:
R74 lists no source for it (DESIGN CHOICE, log 82). -/
def railReact (n : Nat) (d : Dev) : Dev :=
  match railClass n with
  | 0 => raiseAtRestart n (applySafe 4 { d with pwr := { d.pwr with heldRail := true } })
  | 1 => raise n 0 (if islState d 9 = 0 then d else nowOff 9 (d.wr (PWR.ISL_STAT.CAUSE 9) 0))
  | 2 => raise n 0 (linksLost d)
  | _ => raise n 0 (memoryLost d)

/-- The rail monitor, which VAUX33 powers, sees rail n leave its range (R61, R63): GOOD and the sticky VIOL follow, the last-gasp log of R162 is written
and the rail's class reacts. Before PROOF the monitor holds the control die in reset until the rails have recovered; `order` says that the rail breaks
the order of R59 at power-up or of R60 at power-down, which VIOL shows too. -/
def railSeen (n : Nat) (order : Bool) (d : Dev) : Dev :=
  if ¬ d.crust.vaux then d
  else
    let d := railBad n d
    let d := if order then d.wr PWR.RAIL_STAT.VIOL (setBit (d.rd PWR.RAIL_STAT.VIOL) n true) else d
    if dieRunning d then railReact n (lastGasp 0x011 (d.rd PWR.RAIL_STAT.GOOD) 0 d)
    else { d with pwr := { d.pwr with heldRail := true } }

/-- RAIL_OUT_OF_RANGE (R61, R63). VAUX33 and VBAT are the Crust's (R142, R144). -/
def execRailOutOfRange (r : Fin 12) (order : Bool) (s : State) : Host.Outcome State Fault Refusal :=
  go (fun d => if r.val = 0 then vauxLost d else if r.val = 11 then batLevel true true d else railSeen r.val order d) s

/-- Every main rail is within its range: GOOD bits 1 to 10 (R63). -/
def railsGood (d : Dev) : Bool := d.rd PWR.RAIL_STAT.GOOD / 2 % 1024 == 1023

/-- ANA restarts by itself when its rails are back, if it is requested on and not held (R61, R71). -/
def anaRestart (d : Dev) : Dev :=
  if islState d 9 ≠ 0 ∨ held d 9 ∨ ¬ d.flag (PWR.ISL_CTRL.EN 9) then d
  else if d.flag (PWR.ISL_STAT.MINOFF 9) then d.wr (PWR.ISL_STAT.PENDING_REARM 9) 1
  else beginStart 9 d

/-- The rails of the mask `rails`, bits as in GOOD, have been in range for the required time (R61): ANA restarts when its two are back; when all
ten main rails are, a control die that the rail monitor holds starts as on an MPG rising edge (cause: rail return), which needs VAUX33 and MPG
(R52, R62), and REFCLK (R75). VAUX33 and VBAT come back by their own events; without VAUX33 nothing monitors the rails. -/
def execRailRecovery (rails : Nat) (s : State) : Host.Outcome State Fault Refusal :=
  go (fun d =>
    if ¬ d.crust.vaux then d else
    let back := rails / 2 % 1024 * 2
    let d := d.wr PWR.RAIL_STAT.GOOD (d.rd PWR.RAIL_STAT.GOOD ||| back)
    let ana := (bitOf back 3 || bitOf back 5) && bitOf (d.rd PWR.RAIL_STAT.GOOD) 3 && bitOf (d.rd PWR.RAIL_STAT.GOOD) 5
    if d.pwr.heldRail ∧ railsGood d then
      let d : Dev := { d with pwr := { d.pwr with heldRail := false } }
      if d.pwr.heldDie ∨ ¬ d.pins.mpg then d
      else if ¬ bitOf (d.rd PWR.CLK_STAT.PRESENT) 0 then { d with pwr := { d.pwr with heldClk := true } }
      else resetDies 1 2 { d with crust := { d.crust with waking := false, ponctl := true } }
    else if ana then anaRestart d
    else d) s

/-! ### Clocks and PLLs (R75, R76) -/

/-- CS holds the control die in reset with the SAFE path applied until REFCLK has been valid for 10 ms (R75). -/
def clockHold (d : Dev) : Dev := applySafe 4 { d with pwr := { d.pwr with heldClk := true } }

/-- A clock input is lost: PRESENT and LOSS follow, its detector is raised, and the input's reaction applies (R75). A control die that CS holds for another
reason is held for REFCLK as well. -/
def execClockLost (i : Fin 8) (s : State) : Host.Outcome State Fault Refusal :=
  go (fun d =>
    let n := i.val
    let d := d.wr PWR.CLK_STAT.PRESENT (setBit (d.rd PWR.CLK_STAT.PRESENT) n false)
    let d := d.wr PWR.CLK_STAT.LOSS (setBit (d.rd PWR.CLK_STAT.LOSS) n true)
    if ¬ dieRunning d then (if n = 0 ∧ 2 ≤ opState d then { d with pwr := { d.pwr with heldClk := true } } else d)
    else if n = 0 then raiseAtRestart 12 (clockHold (lastGasp 0x012 0 0 d))
    else raise (12 + n) 0 (clockLossHook n (clockLinks n d))) s

/-- 10 ms of valid REFCLK: CS releases a device warm reset (R75). A start that MPG asked for while REFCLK was absent is the cold one it asked for
(DESIGN CHOICE, log 82). Another hold stays. -/
def execRefclkRecovery (s : State) : Host.Outcome State Fault Refusal :=
  go (fun d =>
    let d := d.wr PWR.CLK_STAT.PRESENT (setBit (d.rd PWR.CLK_STAT.PRESENT) 0 true)
    if ¬ d.pwr.heldClk then d
    else
      let d : Dev := { d with pwr := { d.pwr with heldClk := false } }
      if d.pwr.heldDie then d else if opState d ≤ 1 then (if d.crust.vaux ∧ d.pins.mpg then mpgStart d else d) else warmReset 1 d) s

/-- A lost clock input other than REFCLK and CAN_CLK is valid again (R75): its PRESENT bit and detector condition follow, and what
its loss had stopped goes on. -/
def execClockReturn (i : Fin 8) (s : State) : Host.Outcome State Fault Refusal :=
  go (fun d =>
    let n := i.val
    let d := d.wr PWR.CLK_STAT.PRESENT (setBit (d.rd PWR.CLK_STAT.PRESENT) n true)
    clockReturnHook n d) s

/-- The lock detector of a PLL changes (R76, R79): LOCK follows. At a loss APP and SOLV are switched off and held by the FCU, a lane is isolated, the
system PLL acts as REFCLK loss, and on the TIME PLL service time goes on from the holdover counter; a PLL that has locked again ends the condition
of its detector, and the system PLL's return is that of R75. -/
def execPllLockLost (i : Fin 7) (locked : Bool) (s : State) : Host.Outcome State Fault Refusal :=
  go (fun d =>
    let n := i.val
    let had := bitOf (d.rd PWR.CLK_STAT.LOCK) n
    let d := d.wr PWR.CLK_STAT.LOCK (setBit (d.rd PWR.CLK_STAT.LOCK) n locked)
    if locked ∨ ¬ had then d
    else if ¬ dieRunning d then (if n = 5 ∧ 2 ≤ opState d then { d with pwr := { d.pwr with heldClk := true } } else d)
    else if n = 5 then raiseAtRestart 25 (clockHold (lastGasp 0x012 0 0 d))
    else raise (20 + n) 0 d) s

/-! ### Islands (R69 to R74) -/

/-- The host switches off a lane island whose lane takes part or is being re-admitted: the lane is isolated at once (R70, R465), and OFF is the
island's requested state (R69). -/
def hostLaneOff (l : Nat) (d : Dev) : Dev := isolate l 8 (d.wr (PWR.ISL_CTRL.EN (3 + l)) 0)

/-- Lane l takes part or is being re-admitted: LSTATE 1 to 5. -/
def laneBusy (d : Dev) (l : Nat) : Bool := decide (1 ≤ lstate d l) && decide (lstate d l ≤ 5)

/-- The island is a lane's that takes part or is being re-admitted, and is ON: a host off isolates the lane at once (R70); during STARTING the off
waits until ON (R72). -/
def laneAtWork (d : Dev) (n : Nat) : Bool := decide (3 ≤ n) && decide (n ≤ 5) && laneBusy d (n - 3) && islState d n == 2

/-- The request of a write of EN of island n, 2 to 11 or 13 (R69). -/
def islCtrlEffect (n : Nat) (en : Bool) (d : Dev) : Dev :=
  if en then requestOn n d
  else if laneAtWork d n then hostLaneOff (n - 3) d
  else requestOff n causeHost d

/-- A write of PWR.ISL_CTRL[n].EN before lock (R69, R74): islands 0, 1 and 12 ignore a 0, which is counted, and a 1 has no effect. -/
def islCtrlWrite (p n v : Nat) (d : Dev) : Dev :=
  let en := v % 2 == 1
  let a := 0x200100 + 4 * n
  if n ≤ 1 ∨ n = 12 then (if en then d else ignoreWrite p a d)
  else if locked d ∨ d.boot.committing then (if en = d.flag (PWR.ISL_CTRL.EN n) then d else ignoreWrite p a d)
  else islCtrlEffect n en d

/-- ISL_CTRL_EN: the row of such a write. -/
def execIslCtrlEn (p : Fin 2) (n : Fin 14) (v : Nat) (s : State) : Host.Outcome State Fault Refusal :=
  go (guardWrite p.val (0x200100 + 4 * n.val) (islCtrlWrite p.val n.val v)) s

/-- An island completes STOPPING and is OFF (R70), its minimum off time starting; the requests waiting complete. -/
def execIslandStopEnd (n : Fin 14) (s : State) : Host.Outcome State Fault Refusal :=
  go (fun d => if islState d n.val = 3 then nowOff n.val d else d) s

/-- An island completes STARTING and is ON (R70): an enable, and an off request that it cancelled, complete with success, and an off request that waits
is carried out now (R72), which isolates a lane that is being re-admitted. A restart by the update system switches it on again. -/
def execIslandStartEnd (n : Fin 14) (s : State) : Host.Outcome State Fault Refusal :=
  go (fun d =>
    if islState d n.val ≠ 1 then d
    else
      let d := onHook n.val (d.wr (PWR.ISL_STAT.STATE n.val) 2)
      let d := finishIsland n.val true d
      match look d.pwr.waitOff n.val with
      | some c =>
        if c = causeUpd then requestOn n.val (beginStop n.val c d)
        else if laneAtWork d n.val then hostLaneOff (n.val - 3) { d with pwr := { d.pwr with waitOff := del n.val d.pwr.waitOff } }
        else beginStop n.val c d
      | none => d) s

/-- An island's minimum off time ends (R71): a latched enable starts it. -/
def execIslandMinoffEnd (n : Fin 14) (s : State) : Host.Outcome State Fault Refusal :=
  go (fun d =>
    let d := d.wr (PWR.ISL_STAT.MINOFF n.val) 0
    if islState d n.val = 0 ∧ d.flag (PWR.ISL_STAT.PENDING_REARM n.val) ∧ ¬ held d n.val then beginStart n.val d else d) s

/-- The HOST return time ends and the island powers on by itself; CAUSE 6 shows it (R21, R74). -/
def execHostReturnTimer (s : State) : Host.Outcome State Fault Refusal :=
  go (fun d =>
    match d.host.returnSecs with
    | none => d
    | some _ =>
      let d : Dev := { d with host := { d.host with returnSecs := none } }
      if held d 12 ∨ (islState d 12 ≠ 0 ∧ islState d 12 ≠ 3) then d
      else
        let d := d.wr (PWR.ISL_STAT.CAUSE 12) causeTimer
        if islState d 12 = 0 ∧ ¬ d.flag (PWR.ISL_STAT.MINOFF 12) then beginStart 12 d
        else d.wr (PWR.ISL_STAT.PENDING_REARM 12) 1) s

/-- 100 µs after its completion a warm reset, a retry-Proof or a HOST off begins (R132). That an enable of HOST which completes within these 100 µs does
not cancel the off is the model's choice (DESIGN CHOICE, log 95). -/
def execActionDelayEnd (s : State) : Host.Outcome State Fault Refusal :=
  go (fun d =>
    match d.host.delayed with
    | [] => d
    | a :: rest =>
      let d : Dev := { d with host := { d.host with delayed := rest } }
      match a with
      | .warmReset => warmReset 5 d
      | .retryProof => warmReset 4 d
      | .hostOff secs => requestOff 12 causeHost { d with host := { d.host with returnSecs := some secs } }) s

/-- The ring command ISLAND_POWER (R130, R132): island 2 to 13, off or on; HOST off names its return time and begins 100 µs after the
completion; a HELD island refuses an enable; lane islands follow R476. -/
def execIslandPower (h : CmdHdr) (isl on ret : Nat) (s : State) : Host.Outcome State Fault Refusal :=
  go (runCmd { unit := 0, op := 6, c := true, kw := true } h fun d =>
    if isl < 2 ∨ 13 < isl ∨ 1 < on ∨ (isl = 12 ∧ on = 0 ∧ (ret < 1 ∨ 600 < ret)) then .done d stBadParam []
    else if on = 1 then
      let d' := requestOn isl d
      if held d isl then .done d' stRefused [islWord d' isl]
      else if islState d' isl = 2 then .done d' stOK [islWord d' isl]
      else if d'.flag (PWR.ISL_STAT.PENDING_REARM isl) then .done d' stOK [islWord d' isl]
      else .later d' (.island isl true) []
    else if isl = 12 then
      if held d 12 then .done { d with host := { d.host with returnSecs := some ret } } stOK [islWord d 12]
      else if islState d 12 = 0 then .done d stOK [islWord d 12]
      else .done { d with host := { d.host with delayed := d.host.delayed ++ [.hostOff ret] } } stOK [islWord d 12]
    else if laneAtWork d isl then
      if inServ d - b2n (laneIn d (isl - 3)) < 2 then .done d 0x0A01 [islWord d isl]
      else
        let d' := hostLaneOff (isl - 3) d
        .done d' stOK [islWord d' isl]
    else
      let d' := requestOff isl causeHost d
      if held d isl ∨ islState d' isl = 0 then .done d' stOK [islWord d' isl]
      else .later d' (.island isl false) []) s

/-! ### AVSBus (R65 to R68) -/

/-- VDDC is held at the last commanded value (R42, R67): in RUN, while the SAFE path is applied, and while the voltage would adapt but for CAP, when the
IK9600 has stopped adjusting. That nothing changes VCMD then, and that outside RUN R66's 750 mV goes before R42's hold, is the model's choice (DESIGN
CHOICE, log 81). -/
def vddcHeld (d : Dev) : Bool :=
  opState d == 3 && (safeAct d || (d.flag PWR.AVS_STAT.CAP && d.flag PWR.AVS_CTRL.ADAPT && decide (avsMin d ≤ avsMax d)))

/-- The VDDC a voltage write commands: 750 mV unless the voltage adapts; else within VMIN to VMAX, not below what the clocks in effect and those
waiting for it need, and within 10 mV of the last (R65, R66). -/
def avsTarget (mv : Nat) (d : Dev) : Nat :=
  let w := wantedSteps d
  let need := max (vddcNeed d w.1 w.2) (vddcNeed d (d.rd PWR.THERM_STAT.SOLV_STEP) (d.rd PWR.THERM_STAT.APP_STEP))
  let goal := if avsAdapt d then max need (clampN (avsMin d) (avsMax d) mv) else 750
  clampN (d.rd PWR.AVS_STAT.VCMD - 10) (d.rd PWR.AVS_STAT.VCMD + 10) goal

/-- What AVS_COMMAND does where its conditions hold (R65, R68). -/
def avsCommandEffect (c : AvsCmd) (answer : Option Nat) (d : Dev) : Dev :=
  let d := d.put PWR.AVS_STAT.CFG_ERR (decide (avsMax d < avsMin d))
  let d := match c with
    | .voltWrite mv => if vddcHeld d then d else d.wr PWR.AVS_STAT.VCMD (avsTarget mv d)
    | _ => d
  match answer with
  | none =>
    let n := d.pwr.avsMiss + 1
    let d : Dev := { d with pwr := { d.pwr with avsMiss := if n = 3 then 0 else n } }
    if n = 3 then clockSteps (raise 27 0 ((d.wr PWR.AVS_STAT.NO_RESP 1).wr PWR.AVS_STAT.CAP 1)) else d
  | some x =>
    let d : Dev := { d with pwr := { d.pwr with avsMiss := 0 } }
    match c with
    | .voltWrite _ => d
    | .voltRead => clockSteps { d with pwr := { d.pwr with vRead := x } }
    | .currentRead => d.wr PWR.AVS_STAT.IOUT (min 255 x)
    | .tempRead => d
    | .statusRead =>
      let d := d.wr PWR.AVS_STAT.RSTAT x
      if d.flag PWR.AVS_STAT.CAP ∧ 750 ≤ d.pwr.vRead then clockSteps (d.wr PWR.AVS_STAT.CAP 0) else d

/-- An AVSBus command and its answer (R65 to R68); three commands without a valid answer set NO_RESP and the cap, which lifts when a
Status read succeeds with at least 750 mV read back. -/
def execAvsCommand (c : AvsCmd) (answer : Option Nat) (s : State) : Host.Outcome State Fault Refusal :=
  go (fun d =>
    if ¬ dieRunning d then d
    else
      avsCommandEffect c answer d) s

/-! ### Thermal manager (R81 to R87); temperatures in 0.5 °C -/

/-- T_THR of the grade, lowered by THR_DOWN (R82, R87), in 0.5 °C. -/
def tThr (d : Dev) : Int := 2 * ((if d.pwr.gradeE then 125 else 105) - (min 20 (d.rd PWR.THERM_CFG.THR_DOWN) : Nat))
/-- HYST, 2 to 10 °C (R87), in 0.5 °C. -/
def tHyst (d : Dev) : Int := 2 * (clampN 2 10 (d.rd PWR.THERM_CFG.HYST) : Nat)
/-- The index and value of the hottest sensor; the lowest index on a tie. -/
def hottest : List Int → Nat → Nat × Int → Nat × Int
  | [], _, best => best
  | x :: t, i, best => hottest t (i + 1) (if best.2 < x then (i, x) else best)

/-- One throttle step down: the solver clock to 200 MHz in 100 MHz steps, then the application cores to 800 MHz in 200 MHz steps (R83). -/
def stepDown (d : Dev) : Dev :=
  if d.pwr.solvSteps < 6 ∨ d.pwr.appSteps < 4 then
    let p := if d.pwr.solvSteps < 6 then { d.pwr with solvSteps := d.pwr.solvSteps + 1, stepTj := tj d }
             else { d.pwr with appSteps := d.pwr.appSteps + 1, stepTj := tj d }
    raise 28 0 (clockSteps (({ d with pwr := p } : Dev).bump PWR.THERM_STAT.STEP_COUNT))
  else d

/-- One step undone: application steps first, then solver steps (R83). -/
def stepUp (d : Dev) : Dev :=
  let p := if 0 < d.pwr.appSteps then { d.pwr with appSteps := d.pwr.appSteps - 1 } else { d.pwr with solvSteps := d.pwr.solvSteps - 1 }
  clockSteps { d with pwr := p }

/-- What THERMAL_READ does where its conditions hold (R81, R82, R83, R85). -/
def thermalReadEffect (temps : List Int) (d : Dev) : Dev :=
  let best := hottest temps 0 (0, temps.headD 0)
  let t := clampI (-512) 511 best.2
  let d := (d.wr PWR.THERM_STAT.TJ (wrapI 10 t)).wr PWR.THERM_STAT.HOT best.1
  let d := d.put PWR.THERM_STAT.GRADE_CAP (d.pwr.gradeE && decide (210 < t))
  let run := if tKw d ≤ t then d.pwr.kwRun + 1 else 0
  let d : Dev := { d with pwr := { d.pwr with kwRun := run } }
  let d := clockSteps d
  let d := if tThr d ≤ t ∧ d.pwr.solvSteps + d.pwr.appSteps = 0 then stepDown d else d
  if run = 3 then clockSteps (raise 29 0 (d.wr PWR.THERM_STAT.KW_THERM 1)) else d

/-- The thermal manager reads the twelve sensors (R81, R82, R83, R85): TJ and HOT, the grade cap, the first throttle step when T_THR is
reached, and Keep-Warm after three readings at T_KW or above. -/
def execThermalRead (temps : List Int) (s : State) : Host.Outcome State Fault Refusal :=
  go (fun d =>
    if ¬ dieRunning d ∨ temps = [] then d
    else
      thermalReadEffect temps d) s

/-- A throttle interval ends (R83): after 2 s a further step while TJ is at or above T_THR and has not fallen since the previous step;
after 10 s at or below T_THR − HYST one step is undone. That "the previous step" is the last step down, and not one that was undone, is the model's
choice (DESIGN CHOICE, log 94). -/
def execThrottleStep (s : State) : Host.Outcome State Fault Refusal :=
  go (fun d =>
    if d.pwr.solvSteps + d.pwr.appSteps = 0 then d
    else if tThr d ≤ tj d then (if d.pwr.stepTj ≤ tj d then stepDown d else d)
    else if tj d ≤ tThr d - tHyst d then stepUp d
    else d) s

/-- CS acts on a thermal trip (R86): the SAFE path, the last-gasp entry, and power removed from islands 1 to 8 and 10 to 13 without STOPPING. The
control die is lost until WRST_N or MPG restarts it below 110 °C. -/
def tripActs (d : Dev) : Dev :=
  let d := lastGasp 0x013 0 0 (d.wr PWR.THERM_STAT.TRIP_SEEN 1)
  let d := raiseAtRestart 30 (applySafe 4 d)
  let d := [2, 3, 4, 5, 6, 7, 8, 10, 11, 12, 13].foldl (fun (d : Dev) n => offHook n (d.wr (PWR.ISL_STAT.STATE n) 0)) d
  { d with pwr := { d.pwr with tripHold := true }, host := { d.host with waits := [] } }

/-- The trip comparator signals CS (R86). -/
def execThermalTrip (s : State) : Host.Outcome State Fault Refusal := go (fun d => if dieRunning d then tripActs d else d) s

/-- A dual-clock queue sees no read for 1 µs: FD91 with the reader's island (R77). -/
def execDcqReaderTimeout (n : Fin 14) (s : State) : Host.Outcome State Fault Refusal :=
  go (fun d =>
    raise 91 n.val { d with pwr := { d.pwr with dcqStopped := if d.pwr.dcqStopped.contains n.val then d.pwr.dcqStopped else d.pwr.dcqStopped ++ [n.val] } }) s

end Sys2Proof.Machine
end

