-- ==== Sys2Proof/Machine/HostRows.lean ====
section
/-! DEFINITION. Ports, rings, doorbells, and the commands of the device and HOST units (spec/05), but for the BAR0 writes whose
effects reach into every unit (Machine/BarRows.lean). -/
namespace Sys2Proof.Machine
open Sys2Proof

/-! ### Rings start and stop (R123) -/

/-- The configuration of ring n passes the start test (R123). -/
def startTest (d : Dev) (n : Nat) : Bool :=
  let k := ringKind d n
  let c := d.rd (HOST.RING.CFG.CRING n)
  decide (k ≤ 5) && decide (4 ≤ d.rd (HOST.RING.CFG.LOG2SIZE n)) && decide (d.rd (HOST.RING.CFG.LOG2SIZE n) ≤ 16) &&
    (decide (2 ≤ k) || (ringState d c == 1 && ringKind d c == 2 && ringPort c == ringPort n))

/-- Start a stopped ring: RUNNING with its index at 0, or ERROR with code 1 (R117, R123). A recorder stream is set up anew on it (R518). -/
def startRing (n : Nat) (d : Dev) : Dev :=
  let d : Dev := { d with evr := { d.evr with streams := d.evr.streams.filter fun t => t.ring != n } }
  let d := (setRingSt n {} (d.wr (HOST.RING.INDEX n) 0)).wr (HOST.RING.STAT.ERR_CODE n) 0
  if startTest d n then d.wr (HOST.RING.STAT.STATE n) 1 else ringError n 1 d

/-- A running ring of the same port completes into ring n (R123). -/
def completesInto (d : Dev) (n : Nat) : Bool :=
  (List.range 16).any fun k =>
    let m := 16 * ringPort n + k
    ringState d m == 1 && decide (ringKind d m ≤ 1) && d.rd (HOST.RING.CFG.CRING m) == n

/-- Stop ring n (R123): a running ring enters STOPPING, from which `settleStopping` takes it on; a ring in ERROR stops. The answer says whether the
request is ignored, as for a completion ring in use. -/
def stopRing (n : Nat) (d : Dev) : Dev × Bool :=
  match ringState d n with
  | 1 => if ringKind d n = 2 ∧ completesInto d n then (d, true) else ((d.wr (HOST.RING.CFG.EN n) 0).wr (HOST.RING.STAT.STATE n) 2, false)
  | 3 => ((d.wr (HOST.RING.CFG.EN n) 0).wr (HOST.RING.STAT.STATE n) 0, false)
  | _ => (d.wr (HOST.RING.CFG.EN n) 0, false)

/-- The HOST.RING[n].STAT word (R124). -/
def ringStatWord (d : Dev) (n : Nat) : Nat :=
  d.rd (HOST.RING.STAT.STATE n) + d.rd (HOST.RING.STAT.DROPS n) * 2 ^ 8 + d.rd (HOST.RING.STAT.ERR_CODE n) * 2 ^ 24

/-- BAR0 address of HOST.RING[n].CFG. -/
def ringCfgAddr (n : Nat) : Nat := 0x101008 + 0x20 * n

/-- A write of HOST.RING[n].CFG (R123, R124, R595), by BAR0 or, with `lift`, by CFG_WRITE. EN 1 starts a stopped ring; in STOPPING the request is
ignored and counted. EN 0 stops the ring and is admitted in every state; a completion ring in use stays, and the write is counted. Where the lock or
its commit refuses EN, nothing starts or stops. -/
def ringCfgWrite (lift : Bool) (p n v : Nat) (d : Dev) : Dev :=
  let a := ringCfgAddr n
  let put (d : Dev) : Dev :=
    let (d', refused) := writeFields lift a v d
    if refused then ignoreWrite p a d' else d'
  if ¬ lift ∧ (d.boot.committing ∨ locked d) ∧ ¬ adminReg a then plainWrite p a v d
  else if bitOf v 31 then
    if ringState d n = 2 then ignoreWrite p a d
    else
      let d' := put d
      if ringState d n = 0 ∧ d'.flag (HOST.RING.CFG.EN n) then startRing n d' else d'
  else
    match stopRing n d with
    | (_, true) => ignoreWrite p a d
    | (s, false) =>
      -- the other fields are judged on the ring as the write finds it; EN 0 is always admitted
      let (d', refused) := writeFields lift a (v + d.rd (HOST.RING.CFG.EN n) * 2 ^ 31) d
      let d' := (d'.wr (HOST.RING.CFG.EN n) 0).wr (HOST.RING.STAT.STATE n) (ringState s n)
      if refused then ignoreWrite p a d' else d'

/-- The same by BAR0: a ring that was to stop goes on to STOPPED when nothing is in execution (R123). -/
def ringCfgBar (p n v : Nat) (d : Dev) : Dev := settleStopping n (ringCfgWrite false p n v d)

/-- RING_EN_SET: EN of ring n is set. -/
def execRingEnSet (p : Fin 2) (n : Fin 32) (v : Nat) (s : State) : Host.Outcome State Fault Refusal :=
  go (guardWrite p.val (ringCfgAddr n.val) (ringCfgBar p.val n.val (v ||| 2 ^ 31))) s

/-- RING_EN_CLEAR: EN of ring n is cleared. -/
def execRingEnClear (p : Fin 2) (n : Fin 32) (v : Nat) (s : State) : Host.Outcome State Fault Refusal :=
  go (guardWrite p.val (ringCfgAddr n.val) (ringCfgBar p.val n.val (v % 2 ^ 31))) s

/-! ### Doorbells (R117 to R122, R126) -/

/-- A descriptor's 64 bytes as read from slot i of ring n. -/
def descAt (d : Dev) (n i : Nat) : List Byte := memRead d (ringPort n) (ringBase d n + i % ringSize d n * 64) 64

/-- What fetching gives: the commands, the new index, and an error code (0 none). -/
structure FetchRes where
  cmds : List Fetched
  idx : Nat
  err : Nat
deriving Repr, DecidableEq

/-- The opcodes each unit defines (R130 and the command table of each chapter). -/
def definedOps : Nat → List Nat
  | 0 => [1, 2, 3, 4, 5, 6, 7, 8, 9]
  | 1 => [1, 2, 3, 4]
  | 2 => [1, 2, 3, 4, 0x101, 0x102, 0x103]
  | 3 => [1, 2, 3, 4, 5, 6, 7]
  | 4 => [1, 2, 3, 4, 5]
  | 5 => [1, 2, 3, 4, 5]
  | 6 => [1, 2, 3, 4, 0x10, 0x11, 0x12]
  | 7 => [1, 2, 3, 4]
  | 8 => [1, 2, 3, 4, 5, 6, 7]
  | 9 => [1, 2, 3, 4, 5, 6, 7]
  | 10 => [1, 2, 3]
  | 11 => [1, 2, 3, 4, 5]
  | 12 => [1, 2, 3, 4]
  | 13 => [1, 2, 3, 4]
  | 14 => [1, 2, 3, 4, 5]
  | 15 => [1, 2, 3, 4, 5, 6, 7, 8, 9, 10]
  | _ => []

/-- The status with which a command that cannot execute completes (R11, R125, R130). -/
def badStatus (unit op flags : Nat) : Nat :=
  if 16 ≤ unit then stBadUnit else if ¬ (definedOps unit).contains op then stBadOpcode else if 8 ≤ flags then stBadParam else 0

/-- Fetch commands from index i, of which `left` descriptors may be read, up to the producer index (R118, R121, R126). `start` is the
first descriptor of a chain in progress and `len` how many of it were seen. A chain takes opcode, target and tag of its first descriptor; that it asks
for an interrupt, and has a reserved flag set, when any of its descriptors does is the model's choice (DESIGN CHOICE, log 87). -/
def fetchFrom (d : Dev) (n prod : Nat) : Nat → Nat → Option (List Byte × Nat) → Nat → List Fetched → FetchRes
  | 0, i, chain, len, acc => { cmds := acc, idx := if chain.isSome then (i + 2 ^ 32 - len) % 2 ^ 32 else i, err := 0 }
  | k + 1, i, chain, len, acc =>
    if i = prod then { cmds := acc, idx := if chain.isSome then (i + 2 ^ 32 - len) % 2 ^ 32 else i, err := 0 }
    else
      let b := descAt d n i
      let fl := fieldAt b 2 1
      let nxt := (i + 1) % 2 ^ 32
      if fl % 2 ≠ phaseOf (ringSize d n) i then { cmds := acc, idx := (i + 2 ^ 32 - len) % 2 ^ 32, err := 3 }
      else if bitOf fl 1 then
        if 15 ≤ len then { cmds := acc, idx := (i + 2 ^ 32 - len) % 2 ^ 32, err := 4 }
        else
          let orfl := match chain with | some (_, f) => f ||| fl | none => fl
          fetchFrom d n prod k nxt (some ((match chain with | some (x, _) => x | none => b), orfl)) (len + 1) acc
      else
        let head := match chain with | some (x, _) => x | none => b
        let orfl := match chain with | some (_, f) => f ||| fl | none => fl
        let u := fieldAt head 3 1
        let o := fieldAt head 0 2
        let f : Fetched := { unit := u, op := o, tag := fieldAt head 4 4, ioc := bitOf orfl 2, chained := chain.isSome, bad := badStatus u o orfl }
        fetchFrom d n prod k nxt none 0 (acc ++ [f])

/-- Take a doorbell entry of a ring in which the host produces (R117, R121): up to 32 descriptors are fetched and the shadow entry is written. A
descriptor read, or a shadow write, that fails on the link is ERROR 5 (R129). -/
def pollProducer (link : LinkRes) (n idx : Nat) (d : Dev) : Dev :=
  let dist := sdiff 32 idx (ringIdx d n)
  if dist < 0 ∨ (ringSize d n : Int) < dist then ringError n 2 d
  else if 0 < dist ∧ ¬ link.desc then ringError n 5 d
  else
    let r := fetchFrom d n (idx % 2 ^ 32) 32 (ringIdx d n) none 0 []
    let st := ringSt d n
    let d := setRingSt n { st with hostIdx := idx, fetched := st.fetched ++ r.cmds } d
    if r.idx ≠ ringIdx d n ∧ d.host.ringDmaBad.contains n then ringError n 5 d
    else
      let d := if r.idx = ringIdx d n then d else writeShadow n (d.wr (HOST.RING.INDEX n) r.idx)
      let d := settleRing n d
      if r.err = 0 then d else ringError n r.err d

/-- Take a doorbell entry of a ring in which the controller produces: the host's consumer index; completions that waited for room are written, and
an event ring with drops gets its overflow entry (R116, R117, R135). That the overflow entry's unit byte is that of HOST and that it takes a sequence
number of its ring is the model's choice (DESIGN CHOICE, log 87). -/
def pollConsumer (n idx : Nat) (d : Dev) : Dev :=
  let dist := sdiff 32 (ringIdx d n) idx
  if dist < 0 ∨ (ringSize d n : Int) < dist then ringError n 2 d
  else
    let d := setRingSt n { ringSt d n with hostIdx := idx % 2 ^ 32 } d
    let r := ringSt d n
    let d :=
      if ringKind d n = 3 ∧ 0 < r.overflow ∧ ringSpace d n then
        let d := setRingSt n { r with overflow := 0, evSeq := r.evSeq + 1 } d
        moderate n false (pushOrError n (eventBytes d 0xFFFF 1 (r.evSeq + 1) r.overflow 0 true false) d)
      else if ringKind d n = 2 then roomIn (d.host.waits.length + 1) n d
      else d
    ringSpaceHook n (streamPump n (streamBound n d) d)

/-- A table exists: a standard one (R31), or one an image allocated and has published. -/
def benchKnown (d : Dev) (t : Nat) : Bool := benchProducer t != 0 || (look d.bench t).isSome

/-- Bytes a BENCH_READ of table t gives: header and body (R27, R130). -/
def benchBytes (d : Dev) (t : Nat) : List Byte := benchHeader t (benchProducer t) (benchTab d t).current ++ (benchTab d t).current.body

/-- Make a publication that waited for a lease current, once the buffer is free (R29). -/
def publishWaiting (t : Nat) (d : Dev) : Dev :=
  let b := benchTab d t
  match b.waiting with
  | some x => if b.otherLeases = [] then { d with bench := ins t (b.make { x with seq := ((if b.fresh then 0 else b.current.seq) + 1) % 2 ^ 32 }) d.bench } else d
  | none => d

/-- The leases on buffer b of a table, and the table with them changed. -/
def BenchTab.leases (b : BenchTab) (buffer : Bool) : List (Nat × Nat) := if buffer then b.lease1 else b.lease0
def BenchTab.setLeases (b : BenchTab) (buffer : Bool) (l : List (Nat × Nat)) : BenchTab := if buffer then { b with lease1 := l } else { b with lease0 := l }
/-- Consumer c takes a lease on the current buffer at the present time (R29). -/
def BenchTab.lease (b : BenchTab) (c now : Nat) : BenchTab := b.setLeases b.cur (b.leases b.cur ++ [(c, now)])

/-- Take one lease of consumer c away. -/
def dropLease (c : Nat) (l : List (Nat × Nat)) : List (Nat × Nat) := l.eraseP (·.1 == c)

/-- The reads of table t under leases on one of its buffers that are held up on the link of port p complete, once it flows: the buffer's snapshot goes to
the host, and the lease is released (R29, R130). -/
def releaseReads (p t : Nat) (buffer : Bool) (d : Dev) : Dev :=
  let b := benchTab d t
  let x := if buffer then b.buf1 else b.buf0
  let bs := benchHeader t (benchProducer t) x ++ x.body
  let mine (w : Wait) : Bool := w.kind == .benchRead t && w.hdr.port.val == p && (b.leases buffer).any (·.1 == w.hdr.ring.val)
  let ends := d.host.waits.filter mine
  let rings := ends.map (·.hdr.ring.val)
  let d := ends.foldl (fun (d : Dev) w => outBuf w.hdr bs d) d
  let b := { b.setLeases buffer ((b.leases buffer).filter fun l => !rings.contains l.1) with retry := b.retry.filter fun c => !rings.contains c }
  finishWaits (fun w => if mine w then some (stOK, [x.seq, bs.length]) else none) (publishWaiting t { d with bench := ins t b d.bench })

/-- Every read of port p that was held up completes. -/
def releasePort (p : Nat) (d : Dev) : Dev :=
  d.bench.foldl (fun (d : Dev) e => releaseReads p e.1 true (releaseReads p e.1 false d)) d

/-- What the link does with the accesses of ring n from here on (R129). -/
def linkSeen (link : LinkRes) (n : Nat) (d : Dev) : Dev :=
  let without (l : List Nat) (k : Nat) : List Nat := l.filter (· != k)
  { d with host := { d.host with
    ringDmaBad := if link.entry then without d.host.ringDmaBad n else without d.host.ringDmaBad n ++ [n]
    stalled := if link.flow then without d.host.stalled (ringPort n) else without d.host.stalled (ringPort n) ++ [ringPort n] } }

/-- Read ring n's doorbell entry (R119, R121, R129): a failed read is ERROR 5, an entry of another epoch is ignored. -/
def pollRing (link : LinkRes) (n : Nat) (d : Dev) : Dev :=
  if ringState d n ≠ 1 then d
  else
    let d := linkSeen link n d
    let d := if link.flow then releasePort (ringPort n) d else d
    if ¬ link.doorbell then ringError n 5 d
    else
      let e := memRead d (ringPort n) (doorbellPage d (ringPort n) + 8 * n) 8
      if fieldAt e 4 4 ≠ d.rd (HOST.RING.EPOCH n) then d
      else if ringKind d n ≤ 1 then pollProducer link n (fieldAt e 0 4) d
      else pollConsumer n (fieldAt e 0 4) d

/-- Every DB_POLL the controller reads the doorbell entries of a port's running rings in one read (R121). -/
def execDoorbellPoll (p : Fin 2) (link : LinkRes) (s : State) : Host.Outcome State Fault Refusal :=
  go (fun d =>
    if ¬ islandOn d 12 ∨ portIsGone d p.val ∨ ¬ portEnabled d p.val then d
    else (List.range 16).foldl (fun (d : Dev) k => pollRing link (16 * p.val + k) d) d) s

/-- A write of a ring number to HOST.KICK (R121): the ring's entry is read at once; a KICK for a ring that is not running or belongs to the
other port is ignored and counted. -/
def kickWrite (p v : Nat) (link : LinkRes) (d : Dev) : Dev :=
  let n := v % 32
  if ringState d n ≠ 1 ∨ ringPort n ≠ p then ignoreWrite p 0x100000 d else pollRing link n d

/-- KICK: the row of such a write. -/
def execKick (p : Fin 2) (v : Nat) (link : LinkRes) (s : State) : Host.Outcome State Fault Refusal :=
  go (guardWrite p.val 0x100000 (kickWrite p.val v link)) s

/-- MOD_TIME, at most 1,000 µs, has run since the first pending entry of ring n (R133): the clock stands there at the latest, and the message is sent. -/
def execModerationTimeout (n : Fin 32) (s : State) : Host.Outcome State Fault Refusal :=
  go (fun d =>
    let r := ringSt d n.val
    if r.pend = 0 ∨ ¬ islandOn d 12 then d
    else
      let d := toUp (1000 * (r.first + min 1000 (d.rd (HOST.RING.MOD.MOD_TIME n.val)))) d
      sendVector (ringPort n.val) (d.rd (HOST.RING.CFG.VECTOR n.val)) (setRingSt n.val { r with pend := 0 } d)) s

/-! ### Ports (R122, R138, R139) -/

/-- A port's link goes down, PERST, FLR, BME clear, D3hot or heartbeat timeout (R138). -/
def execPortGone (p : Fin 2) (cause : Fin 6) (s : State) : Host.Outcome State Fault Refusal :=
  go (fun d => portGoneOp p.val (cause.val + 1) d) s

/-- PERST of a port is asserted (R47, R88, R138): a port reset, and the port is gone; PERST1_N is ignored when port 1 is disabled. A port that was
gone already is reset too. -/
def execPerstAssert (p : Fin 2) (s : State) : Host.Outcome State Fault Refusal :=
  go (fun d =>
    if ¬ portEnabled d p.val then d
    else
      let d : Dev := { d with host := { d.host with perst := d.host.perst.filter (· != p.val) ++ [p.val], training := d.host.training.filter (· != p.val) } }
      if portIsGone d p.val then portReset p.val d else portGoneOp p.val 2 d) s

/-- PERST of a port is released (R580): link training starts. -/
def execPerstRelease (p : Fin 2) (s : State) : Host.Outcome State Fault Refusal :=
  go (fun d =>
    { d with host := { d.host with perst := d.host.perst.filter (· != p.val), training := if portEnabled d p.val then d.host.training.filter (· != p.val) ++ [p.val] else d.host.training } }) s

/-- A gone port returns, its link up at the width and rate it trained to and its configuration space set up by the host (R106, R139): rings and routing
at reset values, EV3 at the other port. A link no wider than the strap allows comes up (R47). -/
def execPortReturn (p : Fin 2) (up : LinkUp) (s : State) : Host.Outcome State Fault Refusal :=
  go (fun d =>
    if ¬ portEnabled d p.val ∨ d.host.perst.contains p.val ∨ ¬ islandOn d 12 then d
    else
      let was := portIsGone d p.val
      let d := resetPortRings p.val { d with host := { d.host with gone := d.host.gone.filter (· != p.val), training := d.host.training.filter (· != p.val) } }
      let d := onPci p.val (fun c => { c with bar := up.bar / 2 ^ 25 * 2 ^ 25 % 2 ^ 64, width := clampN 1 (linkWidth d) up.width, rate := clampN 1 4 up.rate, d3hot := false }) d
      let d := (d.wr (HOST.PORT.STAT.LINK_UP p.val) 1).wr (HOST.PORT.STAT.BME p.val) 1
      if was then raiseEvAt [1 - p.val] 0 3 0 0 d else d) s

/-- Every 100 ms the controller reads the host heartbeat at doorbell offset 0xFF8 (R122): unchanged for HB_TIMEOUT, the port is gone. -/
def execHostHeartbeatCheck (p : Fin 2) (s : State) : Host.Outcome State Fault Refusal :=
  go (fun d =>
    let tmo := min 60 (d.rd (HOST.PORT.CFG.HB_TIMEOUT p.val))
    if tmo = 0 ∨ portIsGone d p.val ∨ ¬ portEnabled d p.val ∨ ¬ islandOn d 12 then d
    else
      let v := ofBytes (memRead d p.val (doorbellPage d p.val + 0xFF8) 4)
      let same := if look d.host.hbLast p.val = some v then lookD d.host.hbSame p.val 0 + 1 else 0
      let d : Dev := { d with host := { d.host with hbLast := ins p.val v d.host.hbLast, hbSame := ins p.val same d.host.hbSame } }
      if tmo * 10 ≤ same then portGoneOp p.val 6 d else d) s

/-! ### Reads with side effects -/

/-- A read of the low word of a 64-bit quantity, or of `size` bytes of it (R3, R4): the word, with the port's shadow loaded. -/
def execLowWordRead (p : Fin 2) (addr size : Nat) (s : State) : Host.Outcome State Fault Refusal := go (answerRead p.val addr size) s

/-- A read of a register with RC fields, or of `size` bytes of it (R3, R7): the word, and the fields cleared. -/
def execClearOnRead (p : Fin 2) (addr size : Nat) (s : State) : Host.Outcome State Fault Refusal := go (answerRead p.val addr size) s

/-! ### Device and HOST commands (R130 to R132) -/

/-- NOP (R130). -/
def execNop (h : CmdHdr) (s : State) : Host.Outcome State Fault Refusal :=
  go (runCmd { unit := 0, op := 1, proof := true } h fun d => .done d stOK []) s

/-- Read BAR0 offsets in order, as reads of port p (R4, R7). -/
def readAll (p : Nat) : List Nat → Dev → List Nat × Dev
  | [], d => ([], d)
  | a :: t, d =>
    let (v, d) := barRead p a d
    let (vs, d) := readAll p t d
    (v :: vs, d)

/-- REG_READ (R4, R130): one to five BAR0 offsets; a diagnostic read, accepted in every state with rings. -/
def execRegRead (h : CmdHdr) (count : Nat) (offs : List Nat) (s : State) : Host.Outcome State Fault Refusal :=
  go (runCmd { unit := 0, op := 2, kw := true, rack := true, proof := true } h fun d =>
    if count < 1 ∨ 5 < count ∨ (offs.take count).any (fun a => a % 4 != 0 || decide (0x2000000 ≤ a)) then .done d stBadParam []
    else
      let (vs, d) := readAll h.port.val (offs.take count) d
      .done d stOK vs) s

/-- A class-4 fault record is open (R90, R491). -/
def class4Open (d : Dev) : Bool := (openRecords d).any fun n => d.rd (FCU.REC.STATE.CLASS n) == 4

/-- STATE_CMD (R90, R91, R101, R132): Keep-Warm entry and exit, warm reset, retry-Proof. That an exit while a class-4 record is open completes with
REFUSED is the model's choice: R90 names no status (DESIGN CHOICE, log 95). -/
def execStateCmd (h : CmdHdr) (action : Nat) (s : State) : Host.Outcome State Fault Refusal :=
  go (runCmd { unit := 0, op := 4, c := true, kw := true, rack := true } h fun d =>
    let w := stateWord d
    let st := opState d
    match action with
    | 1 => if st = 5 then .done d stWrongState [w] else .done (enterKeepWarm 1 d) stOK [w]
    | 2 =>
      if st = 5 then .done d stWrongState [w]
      else if st = 3 then .done d stOK [w]
      else if class4Open d then .done d stRefused [w]
      else .done (exitKeepWarm d) stOK [w]
    | 3 => .done { d with host := { d.host with delayed := d.host.delayed ++ [.warmReset] } } stOK [w]
    | 4 =>
      if st = 4 then .done d stWrongState [w]
      else .done { d with host := { d.host with delayed := d.host.delayed ++ [.retryProof] } } stOK [w]
    | _ => .done d stBadParam []) s

/-- START_POLICY (R96, R101): DEGRADED_RUN, stored in eMRAM. -/
def execStartPolicy (h : CmdHdr) (v : Nat) (s : State) : Host.Outcome State Fault Refusal :=
  go (runCmd { unit := 0, op := 5, c := true, rack := true } h fun d =>
    if 1 < v then .done d stBadParam [] else .done (d.wr GLB.START_POLICY.DEGRADED_RUN v) stOK []) s

/-- BENCH_READ (R29, R130): a snapshot of the current buffer, obtained under a read lease; while the host's flow control holds the
transfer back, the lease stays and the command goes on. -/
def execBenchRead (h : CmdHdr) (table : Nat) (s : State) : Host.Outcome State Fault Refusal :=
  go (runCmd { unit := 0, op := 7, kw := true } h fun d =>
    if table = 0 ∨ 255 < table ∨ ¬ benchKnown d table then .done d stBadParam []
    else
      let bs := benchBytes d table
      if ¬ bufOk h ∨ bufLen h < bs.length then .done d stBadBuffer []
      else if d.host.stalled.contains h.port.val then
        .later { d with bench := ins table ((benchTab d table).lease h.ring.val (nowUs d)) d.bench } (.benchRead table) []
      else .done (outBuf h bs d) stOK [(benchTab d table).current.seq, bs.length]) s

/-- What LEASE_EXPIRY does where its conditions hold (R29, R132): the consumer's read fails, and it reads once more, or, when that was its second read,
completes with LEASE_LOST. -/
def leaseExpiryEffect (table : Fin 256) (buffer : Bool) (consumer : Nat) (d : Dev) : Dev :=
  let t := table.val
  let b := benchTab d t
  let lost := (b.lost.filter fun u => decide (nowUs d < u + 1000000)) ++ [nowUs d]
  let second := b.retry.contains consumer
  let b := { b.setLeases buffer (dropLease consumer (b.leases buffer)) with lost := lost, retry := if second then b.retry.erase consumer else b.retry ++ [consumer] }
  let d := publishWaiting t { d with bench := ins t b d.bench }
  let d := if 16 < lost.length then raise 90 t d else d
  let mine (w : Wait) : Bool := w.kind == .benchRead t && w.hdr.ring.val == consumer
  if second then finishWaits (fun w => if mine w then some (stLeaseLost, []) else none) d
  else if ¬ d.host.waits.any mine then d
  else
    -- the consumer re-reads once
    let d : Dev := { d with bench := ins t ((benchTab d t).lease consumer (nowUs d)) d.bench }
    [0, 1].foldl (fun (d : Dev) p => if d.host.stalled.contains p then d else releaseReads p t (benchTab d t).cur d) d

/-- A read lease expires 1 ms after it began (R29, R132): the consumer's read fails and the producer is free; a first failure makes the consumer
re-read once, a second one completes with LEASE_LOST. More than 16 lost leases of a table within 1 s raise FD90. -/
def execLeaseExpiry (table : Fin 256) (buffer : Bool) (consumer : Nat) (s : State) : Host.Outcome State Fault Refusal :=
  go (fun d =>
    match ((benchTab d table.val).leases buffer).find? (·.1 == consumer) with
    | none => d
    | some l => leaseExpiryEffect table buffer consumer (toUp (1000 * (l.2 + 1000)) d)) s

/-- BENCH_WRITE (R31, R132): publishes a host-produced table; the controller sets sequence, tempo index, stamp and check itself. HOST_PLAN has no
tempo tick (R31: "as written"): that its tempo index is one more than the last publication's is the model's choice (DESIGN CHOICE, log 58). -/
def execBenchWrite (h : CmdHdr) (table : Nat) (s : State) : Host.Outcome State Fault Refusal :=
  go (runCmd { unit := 0, op := 8 } h fun d =>
    if benchProducer table ≠ 1 then .done d stBadParam []
    else if ¬ bufOk h ∨ bufLen h < 32 then .done d stBadBuffer []
    else
      let bs := inBuf h d
      let fl := fieldAt bs 3 1
      let d := publish table ((benchTab d table).current.tempo + 1) (bitOf fl 0) (bitOf fl 1) (bs.drop 32) d
      .done d stOK [match (benchTab d table).waiting with | some x => x.seq | none => (benchTab d table).current.seq]) s

/-- UNLOCK with a maintenance grant of scope bit 0 (R114, R539): GLB.LOCK returns to 0. -/
def execUnlock (h : CmdHdr) (s : State) : Host.Outcome State Fault Refusal :=
  go (runCmd { unit := 0, op := 9, c := true } h fun d =>
    if d.boot.committing then .done d stBusy []
    else
      match checkGrant 0 h d with
      | (0, d) => .done { d.wr GLB.LOCK.LOCK 0 with boot := { d.boot with committedLocked := false } } stOK []
      | (st, d) => .done d st []) s

/-- RING_SETUP and RING_STOP act only on rings of the sending port, and on no ring that carries or completes the command (R132). -/
def ringTarget (h : CmdHdr) (ring : Nat) (d : Dev) : Nat :=
  if 31 < ring then stBadParam
  else if ringPort ring ≠ h.port.val then stNotOwner
  else if ring = h.ring.val ∨ ring = d.rd (HOST.RING.CFG.CRING h.ring.val) then stBadParam
  else stOK

/-- RING_SETUP (R123, R130, R132): configures a stopped ring of the sending port and starts it. R123 gives a ring that fails the start test ERROR and no
completion status: that the command completes with success, its word showing the ring in ERROR, is the model's choice (DESIGN CHOICE, log 87). -/
def execRingSetup (h : CmdHdr) (ring kind log2size cring vector modCount modTime epoch base : Nat) (s : State) : Host.Outcome State Fault Refusal :=
  go (runCmd { unit := 1, op := 1, proof := true } h fun d =>
    match ringTarget h ring d with
    | 0 =>
      if base % 64 ≠ 0 ∨ 31 < cring ∨ 63 < vector then .done d stBadParam []
      else if ringState d ring = 2 then .done (ignoreWrite h.port.val (ringCfgAddr ring) d) stWrongState [ringStatWord d ring]
      else if ringState d ring ≠ 0 then .done d stWrongState [ringStatWord d ring]
      else
        let d := ((d.wr (HOST.RING.BASE_LO.ADDR ring) (base % 2 ^ 32 / 64)).wr (HOST.RING.BASE_HI ring) (base / 2 ^ 32)).wr (HOST.RING.CFG.KIND ring) (min 7 kind)
        let d := ((d.wr (HOST.RING.CFG.LOG2SIZE ring) (min 31 log2size)).wr (HOST.RING.CFG.CRING ring) cring).wr (HOST.RING.CFG.VECTOR ring) vector
        let d := ((d.wr (HOST.RING.MOD.MOD_COUNT ring) modCount).wr (HOST.RING.MOD.MOD_TIME ring) (min 1000 modTime)).wr (HOST.RING.EPOCH ring) epoch
        let d := startRing ring (d.wr (HOST.RING.CFG.EN ring) 1)
        .done d stOK [ringStatWord d ring]
    | st => .done d st []) s

/-- RING_STOP (R123, R132). R123 counts the stop of a completion ring in use as an ignored request; that the command then completes with success, its
word showing the ring RUNNING, is the model's choice (DESIGN CHOICE, log 87). -/
def execRingStop (h : CmdHdr) (ring : Nat) (s : State) : Host.Outcome State Fault Refusal :=
  go (runCmd { unit := 1, op := 2, proof := true } h fun d =>
    match ringTarget h ring d with
    | 0 =>
      let (d, ignored) := stopRing ring d
      let d := if ignored then ignoreWrite h.port.val (ringCfgAddr ring) d else settleStopping ring d
      .done d stOK [ringStatWord d ring]
    | st => .done d st []) s

/-- Write routing words to consecutive entries of port p (R134). -/
def setRoutes (p : Nat) : Nat → List Nat → Dev → Dev
  | _, [], d => d
  | e, w :: t, d =>
    setRoutes p (e + 1) t (((d.wr (HOST.ROUTE.EN p e) (w / 2 ^ 31)).wr (HOST.ROUTE.URGENT p e) (w / 2 ^ 30)).wr (HOST.ROUTE.ERING p e) (w / 2 ^ 21))

/-- ROUTE_SET (R130, R134): one to ten routing entries of the sending port. -/
def execRouteSet (h : CmdHdr) (first count : Nat) (words : List Nat) (s : State) : Host.Outcome State Fault Refusal :=
  go (runCmd { unit := 1, op := 3, proof := true } h fun d =>
    if count < 1 ∨ 10 < count ∨ 256 < first + count then .done d stBadParam []
    else .done (setRoutes h.port.val first (words.take count) d) stOK []) s

/-- What OWN_SET does where its conditions hold (R112). -/
def ownSetEffect (h : CmdHdr) (mask : Nat) (d : Dev) : CmdOut :=
  let own := d.rd HOST.OWN.BLOCK
  let p := h.port.val
  let m := mask % 2 ^ 32
  let toOne := own ||| m
  let toZero := own &&& (0xFFFFFFFF - m)
  let new := if p = 0 then toZero else toOne
  let d := d.wr HOST.OWN.BLOCK new
  .done (if new = own then d else raiseEv 4 0 0 d) stOK [new]

/-- OWN_SET (R112): the owner gives blocks to the other port, or a non-owner claims blocks whose owner is gone. -/
def execOwnSet (h : CmdHdr) (mask claim : Nat) (s : State) : Host.Outcome State Fault Refusal :=
  go (runCmd { unit := 1, op := 4, c := true } h fun d =>
    let own := d.rd HOST.OWN.BLOCK
    let p := h.port.val
    let mine := if p = 1 then own else 0xFFFFFFFF - own
    let m := mask % 2 ^ 32
    let toOne := own ||| m
    let toZero := own &&& (0xFFFFFFFF - m)
    if 1 < claim then .done d stBadParam []
    else if claim = 0 then
      if m &&& mine ≠ m then .done d stNotOwner [own]
      else
        let new := if p = 0 then toOne else toZero
        let d := d.wr HOST.OWN.BLOCK new
        .done (if new = own then d else raiseEv 4 0 0 d) stOK [new]
    else if m &&& mine ≠ m ∧ ¬ portIsGone d (1 - p) then .done d stNotOwner [own]
    else
      ownSetEffect h mask d) s

end Sys2Proof.Machine
end

