-- ==== Sys2Proof/Machine/FcuRows.lean ====
section
/-! DEFINITION. The commands and events of the FCU (spec/18). -/
namespace Sys2Proof.Machine
open Sys2Proof

/-- FCU status codes (R502). -/
abbrev stFaultActive : Nat := 0x0C01
abbrev stNotArmed : Nat := 0x0C02
abbrev stInjScope : Nat := 0x0C03
abbrev stInjNoPath : Nat := 0x0C04
abbrev stInjReserved : Nat := 0x0C05
abbrev stInjBusy : Nat := 0x0C06

/-- Acknowledge (action 0) or clear (action 1) record n; the answer says whether it was left open because its condition is active (R489). -/
def clearOne (n action : Nat) (d : Dev) : Dev × Bool :=
  if ¬ d.flag (FCU.REC.STATE.OPEN n) then (d, false)
  else if action = 0 then (ackRecord n d, false)
  else if condActive d n then (ackRecord n d, true)
  else (clearRecord n d, false)

/-- Acknowledge or clear every record of a list: records acknowledged or cleared, and records left open because ACTIVE, which were acknowledged
(R489, R501). -/
def clearMany (action : Nat) : List Nat → Dev → Dev × Nat × Nat
  | [], d => (d, 0, 0)
  | n :: t, d =>
    let (d, left) := clearOne n action d
    let (d, a, b) := clearMany action t d
    (d, a + 1, if left then b + 1 else b)

/-- FCU_CLEAR (R489 to R491, R501). -/
def execFcuClear (h : CmdHdr) (det action : Nat) (s : State) : Host.Outcome State Fault Refusal :=
  go (runCmd { unit := 12, op := 1, c := true, kw := true, rack := true } h fun d =>
    if 1 < action ∨ (191 < det ∧ det ≠ 0xFFFF) then .done d stBadParam []
    else if det = 0xFFFF then
      let (d, a, b) := clearMany action (openRecords d) d
      .done d stOK [a, b]
    else if ¬ d.flag (FCU.REC.STATE.OPEN det) then .done d stOK [0, 0]
    else
      let (d, left) := clearOne det action d
      if left then .done d stFaultActive [1, 1] else .done d stOK [1, 0]) s

/-- An injection session ends (R496): FD171 and EV148, unfired injections cancelled with INJ_NO_PATH. -/
def endSession (d : Dev) : Dev :=
  if d.fcu.session.isNone then d
  else
    let d : Dev := { d with fcu := { d.fcu with session := none, injections := [] } }
    let d := raiseEv 148 0 0 (d.wr FCU.INJ.ARMED 0)
    finishWaits (fun w => match w.kind with | .inject n => some (stInjNoPath, [recStateWord d n]) | _ => none) (raise 171 0 d)

/-- What FCU_ARM does where its conditions hold (R496). -/
def fcuArmEffect (secs : Nat) (d : Dev) : CmdOut :=
  let d := endSession d
  if secs = 0 then .done d stOK [0]
  else
    let d : Dev := { d with fcu := { d.fcu with session := some (d.rd KEYS.GRANT.LAST_SCOPE, d.rd (CRUST.CNT.VALUE 3)), sessEnd := d.up + secs * 1000000000 } }
    let d := raiseEv 148 secs 0 (d.wr FCU.INJ.ARMED 1)
    .done (raise 171 secs d) stOK [secs]

/-- FCU_ARM (R496, R540): a session opened, replaced or ended under a maintenance grant with scope bit 1, which KE checks before anything else. -/
def execFcuArm (h : CmdHdr) (secs : Nat) (s : State) : Host.Outcome State Fault Refusal :=
  go (runCmd { unit := 12, op := 2, c := true } h fun d =>
    match checkGrant 1 h d with
    | (0, d) => if 3600 < secs then .done d stBadParam [] else fcuArmEffect secs d
    | (st, d) => .done d st []) s

/-- What FCU_INJECT does where its conditions hold (R497, R498). -/
def fcuInjectEffect (h : CmdHdr) (det flags src : Nat) (d : Dev) : CmdOut :=
  let dry := bitOf flags 0
  let lane := bitsOf flags 2 1
  match d.fcu.session with
  | none => .done d stNotArmed [recStateWord d det]
  | some (scope, _) =>
    if fdInj det = 0 then .done d stInjReserved [recStateWord d det]
    else if fdInj det = 2 ∧ lane = 3 then .done d stBadParam []
    else if d.flag (FCU.REC.STATE.OPEN det) then .done d stInjBusy [recStateWord d det]
    else if ¬ dry ∧ 4 ≤ classOf d det ∧ ¬ bitOf scope 2 then .done d stInjScope [recStateWord d det]
    else .later { d with fcu := { d.fcu with injections := d.fcu.injections ++ [{ det := det, dry := dry, lane := lane, src := src, port := h.port.val, up := d.up }] } } (.inject det) []

/-- FCU_INJECT (R497, R498): the injection waits for the next use of its path. -/
def execFcuInject (h : CmdHdr) (det flags src : Nat) (s : State) : Host.Outcome State Fault Refusal :=
  go (runCmd { unit := 12, op := 3, c := true } h fun d =>
    if 191 < det then .done d stBadParam [] else fcuInjectEffect h det flags src d) s

/-- FCU_READ (R501, R597): up to 192 records in the layout of REC[d]. -/
def execFcuRead (h : CmdHdr) (first count : Nat) (s : State) : Host.Outcome State Fault Refusal :=
  go (runCmd { unit := 12, op := 4, kw := true, rack := true } h fun d =>
    if 191 < first ∨ count < 1 ∨ 192 < count then .done d stBadParam []
    else
      let n := min count (192 - first)
      if ¬ recvOk h (32 * count) then .done d stBadBuffer []
      else .done (outBuf h ((List.range n).flatMap fun k => recBytes d (first + k)) d) stOK [n]) s

/-- The Bench tables that engine e may use, and whether it writes the table (R31; which engine works for a partition is DEDUCED, log 80): the
tables' producers and consumers. For tables 0x60 to 0xFF the images that allocate them register the engines, which the manual does not give: here none is
registered (DESIGN CHOICE, log 80). -/
def engineBench (e t : Nat) (write : Bool) : Bool :=
  let sq := decide (10 ≤ e) && decide (e ≤ 11)
  let md := decide (13 ≤ e) && decide (e ≤ 16)
  let be := decide (18 ≤ e) && decide (e ≤ 19)
  match t with
  | 0x01 => e == 17 || (!write && sq)
  | 0x02 => be || (!write && sq)
  | 0x03 => md || (!write && sq)
  | 0x04 => md || (!write && sq)
  | 0x10 => sq || (!write && e == 12)
  | 0x11 => e == 12 || (!write && sq)
  | 0x20 => sq
  | 0x21 => sq
  | 0x30 => sq
  | 0x40 => !write && e == 23
  | 0x50 => !write && sq
  | _ => false

/-- An access of engine e, in the order of FD46 on and CS last, lies within the engine's windows (R20): its own private memory, the Bench tables it
is registered for, and the hardware blocks of its own island. -/
def engineMay (e : Nat) (t : EngineTarget) (write : Bool) : Bool := match t with
  | .privMem o => o.val == e
  | .bench n => engineBench e n write
  | .hw i => i.val == (if e = 23 then 0 else engineIsland e)

/-- What the detector found calls for a raise: an engine's access is outside its windows (R20), correctable errors in the hour exceed CE_LIMIT (R495). -/
def findingRaises (d : Dev) (f : DetFinding) : Bool := match f with
  | .access e t w => !engineMay e.val t w
  | .errors n => decide (max 1 (d.rd FCU.CFG.CE_LIMIT) < n)
  | _ => true

/-- The Bench table whose body check failed stays so until its producer publishes again (R30). -/
def spoilBench (f : DetFinding) (d : Dev) : Dev := match f with
  | .body t => if (benchTab d t.val).current.seq = 0 ∨ benchBad d t.val then d else
      let b := benchTab d t.val
      let x : BenchBuf := { b.current with check := b.current.check ^^^ 1 }
      { d with bench := ins t.val (if b.cur then { b with buf1 := x } else { b with buf0 := x }) d.bench }
  | _ => d

/-- A detector raises (R480, R485): the FCU takes it; CS's line to the FCU no longer holds the raise (R493). An engine's access within its windows, and
errors up to the limit, raise nothing; an access outside is blocked and has no effect of its own (R20). -/
def execDetectorRaise (det : Fin 192) (src detail loc : Nat) (f : DetFinding) (s : State) : Host.Outcome State Fault Refusal :=
  go (fun d =>
    if ¬ findingRaises d f then d
    else
    let d := spoilBench f d
    { d with fcu := { d.fcu with csPending := d.fcu.csPending.filter (· != det.val), todo := d.fcu.todo ++ [{ det := det.val, src := src % 2 ^ 32, detail := detail % 2 ^ 32, loc := loc % 2 ^ 32 }] } }) s

/-- A handling window has run out (R482; log 20): the open record escalates; one that is acknowledged or dry has no window. -/
def execWindowExpiry (det : Fin 192) (s : State) : Host.Outcome State Fault Refusal :=
  go (fun d =>
    match look d.fcu.winEnd det.val with
    | some t => if d.flag (FCU.REC.STATE.OPEN det.val) then escalate det.val (toUp t d) else d
    | none => d) s

/-- A raise that CS makes itself: heartbeats and the detectors of mode C (R493). -/
def csRaised (n : Nat) : Bool := (decide (46 ≤ n) && decide (n ≤ 68)) || fdInj n == 3

/-- The FCU does not acknowledge a CS raise within 20 µs (R493): CS applies the SAFE path with cause 3 and writes a last-gasp record; the raise
stays asserted until the FCU takes it. -/
def execCsRaiseUnacknowledged (det : Fin 192) (s : State) : Host.Outcome State Fault Refusal :=
  go (fun d =>
    if ¬ csRaised det.val then d
    else
      let d := lastGasp 0x014 det.val 0 (csActs det.val d)
      { d with fcu := { d.fcu with csPending := d.fcu.csPending.filter (· != det.val) ++ [det.val] } }) s

/-- The heartbeat watch of engine e runs (R494): its island is ON, a lane from SHADOW on. -/
def watched (d : Dev) (e : Nat) : Bool :=
  islandOn d (engineIsland e) &&
    (if 4 ≤ e ∧ e ≤ 9 then decide (4 ≤ lstate d (engineIsland e - 3)) && decide (lstate d (engineIsland e - 3) ≤ 5) else true)

/-- An engine's heartbeat has not come within its timeout (R35, R92, R494): CS raises its detector; a silent BT makes CS act itself, and
in PROOF it is a Proof hang. -/
def execHeartbeatTimeout (e : Fin 23) (s : State) : Host.Outcome State Fault Refusal :=
  go (fun d =>
    if ¬ watched d e.val then d
    else if e.val = 22 ∧ opState d = 2 then proofHang d
    else
      let d := raise (46 + e.val) e.val d
      if e.val = 22 then lastGasp 0x014 68 0 d else d) s

/-- The FCU sees no heartbeat of CS for 10 ms (R494). -/
def execCsHeartbeatTimeout (s : State) : Host.Outcome State Fault Refusal := go (raise 69 0) s

/-- The occurrences that a change of the device hands to the recorder's queue carry INJ (R504). -/
def markInj (f : Dev → Dev) (d : Dev) : Dev :=
  let n := d.evr.queue.length
  let d := f d
  { d with evr := { d.evr with queue := d.evr.queue.take n ++ (d.evr.queue.drop n).map fun o => { o with inj := true } } }

/-- What CS does itself on a fault it handles with a reset or hold of the control die, when the fault is injected without DRY and has opened its
record (R61, R75, R76, R86, R499). -/
def csInjected (i : Inj) (was : Bool) (d : Dev) : Dev :=
  if i.dry ∨ was then d
  else if i.det ≤ 11 ∧ railClass i.det = 0 then railReact i.det (lastGasp 0x011 (d.rd PWR.RAIL_STAT.GOOD) 0 d)
  else if i.det = 12 ∨ i.det = 25 then raiseAtRestart i.det (clockHold (lastGasp 0x012 0 0 d))
  else if i.det = 30 then tripActs d
  else d

/-- An injection takes effect at the next use of its path (R498, R499): the raise opens its record with INJ, EV147 is raised, and the command
completes with the record's STATE. -/
def execInjectionFire (det : Fin 192) (s : State) : Host.Outcome State Fault Refusal :=
  go (fun d =>
    match d.fcu.injections.find? (fun i => i.det == det.val) with
    | none => d
    | some i =>
      let d : Dev := { d with fcu := { d.fcu with injections := d.fcu.injections.filter (fun j => j.det != i.det) } }
      let d := markInj (fun d =>
        let d := raiseEvFrom (1 + i.port) 147 i.det (b2n i.dry + 2 * i.lane) (d.bump FCU.INJ.FIRED)
        takeRaise { det := i.det, src := i.src % 2 ^ 32, detail := i.lane, inj := true, dry := i.dry } d) d
      let was := s.dev.flag (FCU.REC.STATE.OPEN det.val)
      csInjected i was (finishKindWith (.inject i.det) stOK [recStateWord d i.det] d)) s

/-- An injection found no use of its path within 1 s (R498; log 20). -/
def execInjectionNoPath (det : Fin 192) (s : State) : Host.Outcome State Fault Refusal :=
  go (fun d =>
    match d.fcu.injections.find? (fun i => i.det == det.val) with
    | none => d
    | some i =>
      let d := toUp (i.up + 1000000000) d
      finishKindWith (.inject det.val) stInjNoPath [recStateWord d det.val]
        { d with fcu := { d.fcu with injections := d.fcu.injections.filter (fun j => j.det != det.val) } }) s

/-- The time of an injection session runs out (R496; log 20). -/
def execInjectionSessionEnd (s : State) : Host.Outcome State Fault Refusal :=
  go (fun d => if d.fcu.session.isSome then endSession (toUp d.fcu.sessEnd d) else d) s

end Sys2Proof.Machine
end

