-- ==== Sys2Proof/Machine/EvrRows.lean ====
section
/-! DEFINITION. The commands and events of the event recorder, and its window registers (spec/19). -/
namespace Sys2Proof.Machine
open Sys2Proof

/-- EVR status codes (R520). -/
abbrev stEvrNotHeld : Nat := 0x0D01
abbrev stEvrNoSpace : Nat := 0x0D02
abbrev stEvrNoMemdie : Nat := 0x0D03

/-- EVR_READ (R518, R519, R597): the held records of a range of sequences. -/
def execEvrRead (h : CmdHdr) (area first count : Nat) (s : State) : Host.Outcome State Fault Refusal :=
  go (runCmd { unit := 13, op := 1, kw := true, rack := true, proof := true } h fun d =>
    if 1 < area ∨ (area = 1 ∧ d.rd EVR.CFG.CONF = 2) ∨ count < 1 ∨ 65536 < count then .done d stBadParam []
    else if ¬ recvOk h (32 * count) then .done d stBadBuffer []
    else
      let rs := (readableArea (area = 1) d).filter fun r => decide (0 ≤ sdiff 32 r.seq first) && decide (sdiff 32 r.seq first < count)
      match rs with
      | [] => .done d stEvrNotHeld []
      | r :: _ => .done (outBuf h (rs.flatMap recordBytes) d) stOK [rs.length, r.seq]) s

/-- What EVR_STREAM does where its conditions hold (R515, R519). -/
def evrStreamEffect (ring area first : Nat) (d : Dev) : CmdOut :=
  let others := d.evr.streams.filter fun t => t.ring != ring
  let l := readableArea (area = 1) d
  let from_ := if first % 2 ^ 32 = 0xFFFFFFFF then (l.getLast?.map (·.seq)).getD d.evr.nextSeq else first % 2 ^ 32
  let sent := ((l.find? fun r => decide (0 ≤ sdiff 32 r.seq from_)).map (·.seq)).getD d.evr.nextSeq
  let d : Dev := { d with evr := { d.evr with streams := others ++ [{ ring := ring, areaF := decide (area = 1), next := from_ }] } }
  .done (streamPump ring (streamBound ring d) d) stOK [sent]

/-- EVR_STREAM (R515, R519): start or stop a stream to a running recorder-stream ring of the sending port. -/
def execEvrStream (h : CmdHdr) (ring area start first : Nat) (s : State) : Host.Outcome State Fault Refusal :=
  go (runCmd { unit := 13, op := 2, c := true, kw := true, rack := true, proof := true } h fun d =>
    if 1 < area ∨ (area = 1 ∧ d.rd EVR.CFG.CONF = 2) ∨ 1 < start then .done d stBadParam []
    else if 31 < ring ∨ ringPort ring ≠ h.port.val ∨ ringKind d ring ≠ 5 ∨ ringState d ring ≠ 1 then .done d stNotOwner []
    else
      let others := d.evr.streams.filter fun t => t.ring != ring
      if start = 0 then .done { d with evr := { d.evr with streams := others } } stOK [0]
      else
        evrStreamEffect ring area first d) s

/-- MiB of recorder partition a configuration needs (R508). -/
def confMiB (conf : Nat) : Nat := if conf = 0 then 2 else if conf = 1 then 64 else 1024

/-- What EVR_CLEAR does where its conditions hold (R516): open records sealed, the named areas emptied, the mirror with area C, a new CONF, and the
clear record. CONF 0 ends a fallback (log 92). -/
def evrClearEffect (h : CmdHdr) (areas conf : Nat) (d : Dev) : CmdOut :=
  let a := if conf ≠ 0xFF then 3 else areas
  let d := d.evr.openSeqs.foldl (fun d q => sealRec q d) d
  let d : Dev := if bitOf a 0 then { d with evr := { d.evr with areaC := [], mirror := [], closeMark := none } } else d
  let d : Dev := if bitOf a 1 then { d with evr := { d.evr with areaF := [] } }.wr EVR.STAT.F_FULL 0 else d
  let d := if conf ≠ 0xFF then d.wr EVR.CFG.CONF conf else d
  let d := if conf = 0 then d.wr EVR.STAT.FALLBACK 0 else d
  let kept := ((d.evr.areaC.head?.map (·.seq)).getD d.evr.nextSeq)
  let d := writeNow 13 0x002 kept (d.rd (CRUST.CNT.VALUE 3)) (1 + h.port.val) d
  .done (raiseEv 155 0 0 d) stOK [kept]

/-- EVR_CLEAR (R516, R540): KE checks the grant, scope bit 3, before anything else; then areas are emptied and a new configuration is set. -/
def execEvrClear (h : CmdHdr) (areas conf : Nat) (s : State) : Host.Outcome State Fault Refusal :=
  go (runCmd { unit := 13, op := 3, c := true } h fun d =>
    match checkGrant 3 h d with
    | (0, d) =>
      if 3 < areas ∨ (2 < conf ∧ conf ≠ 0xFF) ∨ (bitOf areas 1 ∧ d.rd EVR.CFG.CONF = 2 ∧ conf = 0xFF) then .done d stBadParam []
      else if conf ≠ 0xFF ∧ d.evr.partA < confMiB conf then .done d stEvrNoSpace []
      else if (conf = 1 ∨ conf = 2) ∧ d.pwr.memLost then .done d stEvrNoMemdie []
      else evrClearEffect h areas conf d
    | (st, d) => .done d st []) s

/-- EVR_NOTE (R519): event code 0xD005 with the sending port as source. -/
def execEvrNote (h : CmdHdr) (w0 w1 : Nat) (s : State) : Host.Outcome State Fault Refusal :=
  go (runCmd { unit := 13, op := 4 } h fun d =>
    let q := d.evr.nextSeq
    let d := takeOcc (occOf d 13 0x005 w0 w1 (1 + h.port.val)) d
    .done d stOK [if d.evr.nextSeq = q then ((d.evr.areaC.find? fun r => d.evr.openSeqs.contains r.seq && r.code == 0xD005 && r.src == 1 + h.port.val && r.w0 == w0 % 2 ^ 32).map (·.seq)).getD q else q]) s

/-- The recorder takes occurrences: in Proof only once BT has written the gap record and copied the last-gasp log, which the records made in Proof
follow (R513). -/
def recorderTakes (d : Dev) : Bool := opState d != 2 || d.boot.proofRun

/-- The recorder takes the oldest occurrence of its queue; once there is space, the drops get their record (R507). -/
def execRecordIntake (s : State) : Host.Outcome State Fault Refusal :=
  go (fun d =>
    if ¬ recorderTakes d then d else
    match d.evr.queue with
    | [] => d
    | o :: t =>
      let d := takeOcc o { d with evr := { d.evr with queue := t } }
      if d.evr.dropped = 0 then d
      else writeNow 13 0x006 d.evr.dropped 0 0 { d with evr := { d.evr with dropped := 0 } }) s

/-- Write records to the mirror (R511): on port A, else on port B if its partition is large enough for CONF (R516), else MIRROR_ERR, EV156 and FD169. -/
def mirrorWrite (okA okB : Bool) (rs : List Rec) (d : Dev) : Dev :=
  if rs = [] then d
  else if okA ∨ (okB ∧ confMiB (d.rd EVR.CFG.CONF) ≤ d.evr.partB) then mirrorRecords rs d
  else raise 169 0 (raiseEv 156 0 0 (d.wr EVR.STAT.MIRROR_ERR 1))

/-- RECORD_MIRROR (R511): pages that have filled are written at once; with none waiting, the mirror period runs out (log 20) and the records present
are mirrored. -/
def execRecordMirror (okA okB : Bool) (s : State) : Host.Outcome State Fault Refusal :=
  go (fun d =>
    if fullPages d ≠ [] then mirrorWrite okA okB (fullPages d) d
    else
      let d := toUp (d.evr.mirrorAt + mirrorPeriod d) d
      mirrorWrite okA okB (toMirror (d.rd EVR.STAT.WSTAGE) false d) { d with evr := { d.evr with mirrorAt := d.up } }) s

/-- The rebuild of area C from the mirror ends (R512), in configurations M and L only after PROOF: the mirror's records precede those made since the
start. -/
def execAreaCReloadEnd (s : State) : Host.Outcome State Fault Refusal :=
  go (fun d =>
    if ¬ d.flag EVR.STAT.RELOADING ∨ (confC d ≠ 0 ∧ opState d = 2) then d
    else
      let old := d.evr.mirror.filter fun r => (findRec r.seq d.evr.areaC).isNone
      let old := old.map fun r => { r with isOpen := false }
      let c := old ++ d.evr.areaC
      evrIndexRegs ({ d with evr := { d.evr with areaC := c.drop (c.length - capC d) } }.wr EVR.STAT.RELOADING 0)) s

/-- SERVICE_Y in effect (R521). -/
def serviceY (d : Dev) : Nat := clampN 1 40 (d.rd EVR.CFG.SERVICE_Y)

/-- The wear check (R517), with the forecast in 0.1 years as the flash ports' erase counts give it: a short forecast takes the next
stage, 30 days above the target by 10 % undo one. The check that follows a change of stage is the comparison of that change and counts
no day; every other is the day's (log 92). -/
def execWearCheck (forecast : Nat) (s : State) : Host.Outcome State Fault Refusal :=
  go (fun d =>
    let f := min forecast 65535
    let day := if d.evr.stageChk then 0 else 1
    let days := d.evr.ageDays + day
    let d : Dev := { d with evr := { d.evr with ageDays := days, stageChk := false } }
    let age := min 65535 (days * 10 / 365)
    let d := (d.wr EVR.WEAR.FORECAST f).wr EVR.WEAR.AGE age
    let target := serviceY d * 10 - age
    let st := d.rd EVR.STAT.WSTAGE
    if f < target then
      let d : Dev := { d with evr := { d.evr with goodDays := 0, stageChk := decide (st < 3) } }
      let d := raise 168 f (d.wr EVR.STAT.WEAR_LIMIT 1)
      raiseEv 153 (min 3 (st + 1)) 0 (d.wr EVR.STAT.WSTAGE (min 3 (st + 1)))
    else if target * 11 < f * 10 then
      let g := d.evr.goodDays + day
      if 30 ≤ g ∧ 0 < st then
        let d : Dev := { d with evr := { d.evr with goodDays := 0, stageChk := true } }
        let d := d.wr EVR.STAT.WSTAGE (st - 1)
        raiseEv 153 (st - 1) 0 (if st = 1 then d.wr EVR.STAT.WEAR_LIMIT 0 else d)
      else { d with evr := { d.evr with goodDays := g } }
    else { d with evr := { d.evr with goodDays := 0 } }) s

/-! ### The window (R514) -/

/-- Decide LATE after a write to the cursor, the area or NEXT: a cursor older than the oldest record moves there (R514). -/
def settleCursor (d : Dev) : Dev :=
  let l := windowArea d
  match l.head? with
  | some r => if 0 < sdiff 32 r.seq (d.rd EVR.CUR_SEQ) then (d.wr EVR.CUR_SEQ r.seq).wr EVR.CUR.LATE 1 else d.wr EVR.CUR.LATE 0
  | none => d.wr EVR.CUR.LATE 0

/-- Advance the window past its eight slots (R514). -/
def cursorNext (d : Dev) : Dev :=
  let l := windowArea d
  match ((windowRecs d)[7]?).filter (windowLoaded d) with
  | some r => d.wr EVR.CUR_SEQ (r.seq + 1)
  | none => match l.getLast? with
    | some r => d.wr EVR.CUR_SEQ (r.seq + 1)
    | none => d

/-- A write to EVR.CUR_SEQ (R514). -/
def execCurSeqWrite (p : Fin 2) (v : Nat) (s : State) : Host.Outcome State Fault Refusal :=
  go (guardWrite p.val 0x400024 fun d => settleCursor (d.wr EVR.CUR_SEQ v)) s

/-- The effect of a write to EVR.CUR: AREA, and 1 to NEXT (R514). -/
def curWrite (v : Nat) (d : Dev) : Dev :=
  let d := settleCursor (d.wr EVR.CUR.AREA (bitsOf v 31 31))
  if bitOf v 30 then settleCursor (cursorNext d) else d

/-- A write of EVR.CUR.AREA (R514). -/
def execAreaWrite (p : Fin 2) (v : Nat) (s : State) : Host.Outcome State Fault Refusal := go (guardWrite p.val 0x400020 (curWrite v)) s

/-- Writing 1 to EVR.CUR.NEXT (R514); the write carries AREA as well. -/
def execNext (p : Fin 2) (v : Nat) (s : State) : Host.Outcome State Fault Refusal :=
  go (guardWrite p.val 0x400020 fun d => curWrite v d) s

end Sys2Proof.Machine
end

