-- ==== Sys2Proof/Machine/SessRx.lean ====
section
/-! DEFINITION. What the bus engines do with the PDUs of stations (spec/09): reassembly of CAN segments, UDP datagrams, the tests of R229 to R231, joins
(R232, R233) and the effect of each class. -/
namespace Sys2Proof.Machine
open Sys2Proof

/-! ### Joining (R232, R233) -/

/-- Sessions in JOINING of an engine. -/
def joiningOn (d : Dev) (e : Nat) : Nat := ((activeSess d).filter fun s => sessState d s == 1 && sessEngine d s == e).length

/-- The JOIN answer (R231). -/
def joinAnswer (d : Dev) (n res : Nat) : List Byte :=
  toBytes 1 res ++ toBytes 1 (d.rd (SESS.CTX.STAT.EPOCH n)) ++ toBytes 2 (sessPeriodMs d n / 10) ++ toBytes 6 (svcSec d) ++ toBytes 4 (svcNs d)

/-- The session takes no join: EN at 0, stopping, or its latched enable still waits for the minimum off time (R232, R235). -/
def joinShut (d : Dev) (n : Nat) : Bool := !sessEn d n || d.flag (SESS.CTX.STAT.STOPPING n) || d.flag (SESS.CTX.STAT.PENDING_REARM n)

/-- The result of a JOIN request by the tests in order (R232, R233). -/
def joinResult (d : Dev) (n : Nat) (src : PduSrc) (b : List Byte) : Nat :=
  let f (k : Nat) := fieldAt b k 1
  let ident := fieldAt b 0 8
  let want := d.rd (SESS.CTX.ID n)
  let st := sessState d n
  if joinShut d n ∨ ¬ carriedOn d n src then 3
  else if (want ≠ 0 ∧ ident ≠ want) ∨ (st ≠ 0 ∧ st ≠ 4 ∧ ident ≠ (sessSt d n).ident) then 1
  else if f 9 ≠ inWords d n ∨ f 10 ≠ bitBytes (inBits d n) ∨ f 11 ≠ outWords d n ∨ f 12 ≠ bitBytes (outBits d n) ∨ f 13 ≠ spCount d n then 2
  else if 32 ≤ joiningOn d (sessEngine d n) then 4
  else 0

/-- An accepted join (R230, R232, R233). -/
def joinAccept (n : Nat) (src : PduSrc) (b : List Byte) (d : Dev) : Dev :=
  let st := sessState d n
  let d := if st = 0 ∨ st = 4 then d else d.bump (SESS.CTX.STAT.REJOINS n)
  let d := (d.wr (SESS.CTX.STAT.EPOCH n) (d.rd (SESS.CTX.STAT.EPOCH n) + 1)).wr (SESS.CTX.OUTSEQ.SENT n) 0
  let x := sessSt d n
  let d := setSess n { x with ident := fieldAt b 0 8, ip := if src.udp then some src.ip else none, spSeq := 0, joinAt := d.up, firstSlot := true, returned := true, pollAt := none, outAt := none } d
  setSessState n 1 d

/-- A JOIN request of at least 16 bytes (R232, R233): the answer goes to the channel or port and the address it came from. -/
def joinRequestEffect (n : Nat) (src : PduSrc) (b : List Byte) (d : Dev) : Dev :=
  let res := joinResult d n src b
  if res = 0 then
    let d := joinAccept n src b d
    sendPdu n 0 (joinAnswer d n 0) d
  else
    let st := sessState d n
    let dup : Bool := res == 1 && st != 0 && st != 4 && fieldAt b 0 8 != (sessSt d n).ident
    let d := if dup then raise 132 n (raiseEv 76 0 0 (d.wr (SESS.CTX.STAT.DUP_ADDR n) 1)) else d
    sendPduTo src n 0 (joinAnswer d n res) (raiseEv 73 n res d)

/-! ### The classes (R231, R234, R240, R241, R244, R245) -/

/-- The session is polled: JOINING, LIVE, STALE or FALLBACK, and no stop has begun. -/
def isPolled (d : Dev) (n : Nat) : Bool :=
  let st := sessState d n
  (st == 1 || st == 2 || st == 3 || st == 5) && !d.flag (SESS.CTX.STAT.STOPPING n)

/-- A valid response, stamped at device time t (R234, R237, R241): inputs, state, and the STATUS request of a return. -/
def pollValid (n t : Nat) (b : List Byte) (d : Dev) : Dev :=
  let st := fieldAt b 2 1
  let mask := fieldAt b 4 4
  let nb := bitBytes (inBits d n)
  let x := sessSt d n
  let zero := d.flag (SESS.CTX.CFG.SUBST_ZERO n)
  let inW := (List.range (inWords d n)).foldl (fun m i =>
    if bitOf mask i then ins i (fieldAt b (8 + nb + 4 * i) 4) m else if zero then ins i 0 m else m) x.inW
  let inB := (List.range (inBits d n)).foldl (fun m i => ins i (bitOf (fieldAt b (8 + i / 8) 1) (i % 8)) m) x.inB
  -- the answer to a return: a STATUS request, and the present setpoints in the next slot
  let back := x.returned || sessState d n == 3
  let d := setSess n { x with inW := inW, inB := inB, pollAt := none, rxAt := some t, returned := false, spNew := x.spNew || (back && x.sp != []) } d
  let d := (d.wr (SESS.CTX.STAT.MISS_RUN n) 0).wr (SESS.CTX.LAST_RX n) ((svcTotalNs d - (d.up - t)) / 1000)
  let d := setSessState n (if st = 1 then 5 else 2) d
  let d := handInputs n (fun i => if bitOf mask i then 0 else 2) 0 d
  if back then sendPdu n 5 (toBytes 1 (d.rd (SESS.CTX.STAT.EPOCH n))) d else d

/-- A POLL response whose receive stamp lies at device time t (R186, R211, R234): valid with the poll sequence of the request, stamped within RESP_TMO of
it. -/
def pollAnswered (n t : Nat) (b : List Byte) (d : Dev) : Dev :=
  match (sessSt d n).pollAt with
  | none => d
  | some t0 => if sessState d n ≠ 4 ∧ fieldAt b 1 1 = (sessSt d n).pollSeq ∧ t ≤ t0 + respNs d n ∧ fieldAt b 2 1 ≤ 2 then pollValid n t b d else d

/-- The confirmation of an OUT counts (R240, R241). -/
def outConfirmed (n seq res : Nat) (d : Dev) : Dev :=
  let d := (d.wr (SESS.CTX.OUTSEQ.CONF n) seq).wr (SESS.CTX.STAT.UNCONF n) 0
  let d := setSess n { sessSt d n with outAt := none, outRep := false } d
  let d := if res = 0 then d.wr (SESS.CTX.STAT.UNDELIVERED n) 0 else raiseEv 75 0 0 d
  if res = 3 ∨ res = 4 then d.bump (SESS.CTX.OUTSEQ.CONF_FAIL n) else d

/-- A confirmation of an OUT: it counts for the last one sent, by sequence and CRC (R240). -/
def outAnswered (n : Nat) (b : List Byte) (d : Dev) : Dev :=
  if (sessSt d n).lastOut.isSome ∧ fieldAt b 1 1 = d.rd (SESS.CTX.OUTSEQ.SENT n) ∧ fieldAt b 2 4 = (sessSt d n).crc then outConfirmed n (fieldAt b 1 1) (fieldAt b 6 1) d else d

/-- A confirmation of the last SETPT, which carries CRC 0 (R231, R240). -/
def spAnswered (n : Nat) (b : List Byte) (d : Dev) : Dev :=
  if fieldAt b 1 1 = (sessSt d n).spSeq ∧ fieldAt b 2 4 = 0 ∧ fieldAt b 6 1 ≠ 0 then raiseEv 75 0 0 d else d

/-- An ALARM is acknowledged at once (R245). -/
def alarmTaken (n : Nat) (b : List Byte) (d : Dev) : Dev :=
  raiseEv 74 n (fieldAt b 2 2) (sendPdu n 4 (toBytes 1 (d.rd (SESS.CTX.STAT.EPOCH n)) ++ toBytes 1 (fieldAt b 1 1)) d)

/-- A STATUS answer: the fallback duration is kept with the return (R241). -/
def statusTaken (n : Nat) (b : List Byte) (d : Dev) : Dev := setSess n { sessSt d n with fallback := fieldAt b 2 4 } d

/-- The wait of a PARAM request. -/
def paramTag (n id : Nat) : WaitKind := .other 40 (256 * n + id)

/-- A PARAM answer: the value goes to the buffer of the waiting read (R231, R244). -/
def paramTaken (n : Nat) (b : List Byte) (d : Dev) : Dev :=
  let id := fieldAt b 1 1
  let len := min 58 (fieldAt b 3 1)
  if (look (sessSt d n).paramAt id).isNone then d
  else
    let d := setSess n { sessSt d n with paramAt := del id (sessSt d n).paramAt } d
    let d := d.host.waits.foldl (fun (d : Dev) w => if w.kind = paramTag n id ∧ w.words = [0] then outBuf w.hdr ((b.drop 6).take len) d else d) d
    finishKindWith (paramTag n id) stOK [fieldAt b 2 1, len] d

/-- A LEAVE of the station (R235): IDLE with EN unchanged. -/
def leaveTaken (n : Nat) (d : Dev) : Dev := if d.flag (SESS.CTX.STAT.STOPPING n) then d else sessIdle n d

/-- The shortest PDU of a class that a station sends session n (R231). -/
def pduLeast (d : Dev) (n cls : Nat) : Nat := match cls with
  | 0 => 16 | 1 => 8 + bitBytes (inBits d n) + 4 * inWords d n | 2 => 7 | 3 => 7 | 4 => 8 | 5 => 8 | 6 => 6 | _ => 2

/-- The effect of a class's PDU, stamped at device time t, that the session takes. -/
def pduEffect (n cls t : Nat) (b : List Byte) (d : Dev) : Dev := match cls with
  | 1 => pollAnswered n t b d
  | 2 => outAnswered n b d
  | 3 => spAnswered n b d
  | 4 => alarmTaken n b d
  | 5 => statusTaken n b d
  | 6 => paramTaken n b d
  | _ => leaveTaken n d

/-! ### Reception (R228 to R231) -/

/-- The station that a PDU for address n comes from (R229): where it is, a PRP pair being one port (R174), and its identity, which a JOIN request names;
another PDU is the joined station's. -/
def stationOf (d : Dev) (n cls : Nat) (src : PduSrc) (b : List Byte) : PduSrc × Nat :=
  (if src.udp then { src with chan := ethOwner d src.chan } else src, if cls = 0 then fieldAt b 0 8 else (sessSt d n).ident)
/-- The sequence of the last PDU received from a station (R229). -/
def lastRxSeq (d : Dev) (n : Nat) (st : PduSrc × Nat) : Option Nat := (d.rxSeqs.find? fun e => e.1 == n && e.2.1 == st).map (·.2.2)
/-- Remember it. -/
def setRxSeq (n : Nat) (st : PduSrc × Nat) (seq : Nat) (d : Dev) : Dev :=
  { d with rxSeqs := (n, st, seq) :: d.rxSeqs.filter fun e => !(e.1 == n && e.2.1 == st) }

/-- A PDU of the joined station's kind comes from where the session is carried, from the address learned, in its epoch (R230, R231). -/
def pduOurs (d : Dev) (n : Nat) (src : PduSrc) (b : List Byte) : Bool :=
  carriedOn d n src && (!src.udp || (sessSt d n).ip == some src.ip) && decide (b.length ≠ 0) && fieldAt b 0 1 == d.rd (SESS.CTX.STAT.EPOCH n)

/-- A whole PDU for address n is received, stamped at device time t (R229 to R232): a reserved or broadcast class, one that is short, from elsewhere or of another epoch is
discarded and counted; a duplicate is discarded; an IDLE session takes a JOIN alone. -/
def rxPdu (n cls seq t : Nat) (src : PduSrc) (b : List Byte) (d : Dev) : Dev :=
  let st := stationOf d n cls src b
  if 8 ≤ cls then segErr n src d
  else if lastRxSeq d n st = some seq then d
  else
    let d := setRxSeq n st seq d
    if cls ≠ 0 ∧ ¬ pduOurs d n src b then segErr n src d
    else if cls ≠ 0 ∧ sessState d n = 0 then d
    else if b.length < pduLeast d n cls then segErr n src d
    else if cls = 0 then joinRequestEffect n src b d
    else pduEffect n cls t b d

/-- A PDU of a datagram (R230): address, class and sequence, direction, whether it is there whole and unsegmented, and its bytes. -/
structure DgPdu where
  addr : Nat
  cls : Nat
  seq : Nat
  up : Bool
  whole : Bool
  data : List Byte
deriving DecidableEq, Repr

/-- The PDUs of a datagram, as MORE chains them (R230). -/
def dgPdus : Nat → List Byte → List DgPdu
  | 0, _ => []
  | k + 1, b =>
    if b.length < 8 then []
    else
      let w := fieldAt b 2 2
      let len := fieldAt b 4 2
      let fits := decide (8 + len ≤ b.length)
      { addr := fieldAt b 0 2 % 4096, cls := fieldAt b 0 2 / 4096, seq := w % 16, up := bitOf w 9,
        whole := fits && decide (len ≤ 1024) && bitOf w 8 && w / 16 % 16 == 0, data := (b.drop 8).take len } ::
      (if fits && bitOf (fieldAt b 6 1) 0 then dgPdus k (b.drop (8 + len)) else [])

/-- A datagram is received on port q (R230, R243): from and to the Tyrid port, at most 1,472 bytes, every PDU of a station in it in turn. -/
def rxDatagram (q : Nat) (g : Datagram) (d : Dev) : Dev :=
  if ¬ sessServed d ∨ ¬ engEth d q ∨ g.sport ≠ tyridPort d ∨ g.dport ≠ tyridPort d ∨ 1472 < g.data.length then d
  else
    let src : PduSrc := { udp := true, chan := q, ip := g.ip.getD 0 }
    (dgPdus g.data.length g.data).foldl (fun (d : Dev) u =>
      if ¬ u.up then d else if ¬ u.whole then segErr u.addr src d else rxPdu u.addr u.cls u.seq d.up src u.data d) d

/-- The engine's buffer for the station of address a on channel n. -/
def setPduSeg (n a : Nat) (x : Option SegBuf) (d : Dev) : Dev :=
  let y := canSt d n
  setCan n { y with segs := match x with
    | some b => ins a b y.segs
    | none => del a y.segs } d

/-- A PDU whose segments came out of order or incomplete is discarded and counted once; its later segments are passed over (R229). -/
def segBad (n a cls seq : Nat) (last : Bool) (d : Dev) : Dev :=
  setPduSeg n a (if last then none else some { cls := cls, seq := seq, bad := true }) (segErr a { chan := n } d)

/-- The engine takes a segment, stamped at device time t, from its receive queue on channel n (R228, R229): in order, each but the last full. A PDU's stamp
is its last segment's (DESIGN CHOICE, log 28). -/
def rxSegment (n : Nat) (f : CanFrame) (t : Nat) (d : Dev) : Dev :=
  let cls := f.id / 2 ^ 21 % 16
  let a := f.id / 2 ^ 9 % 4096
  let last := bitOf f.id 8
  let seg := f.id / 16 % 16
  let seq := f.id % 16
  let data := frameData f
  let full := data.length == (if d.flag (CAN.CTRL.FD_EN n) then 64 else 8)
  let src : PduSrc := { chan := n }
  let old := look (canSt d n).segs a
  if 8 ≤ cls then segErr a src d
  else if seg = 0 then
    let d := match old with
      | some b => if b.bad then d else segErr a src d
      | none => d
    if last then rxPdu a cls seq t src data (setPduSeg n a none d)
    else if full then setPduSeg n a (some { cls := cls, seq := seq, next := 1, data := data }) d
    else segBad n a cls seq last d
  else match old with
    | none => segBad n a cls seq last d
    | some b =>
      if b.cls ≠ cls ∨ b.seq ≠ seq then segBad n a cls seq last d
      else if b.bad then (if last then setPduSeg n a none d else d)
      else if b.next ≠ seg ∨ ¬ (last ∨ full) then segBad n a cls seq last d
      else if last then rxPdu a cls seq t src (b.data ++ data) (setPduSeg n a none d)
      else setPduSeg n a (some { b with next := seg + 1, data := b.data ++ data }) d

/-- The engine takes the frames of its receive queue on channel n, at once (R236; DESIGN CHOICE, log 28); outside RUN and KEEP-WARM it discards them
(R243). -/
def engServe (n : Nat) (d : Dev) : Dev :=
  let fs := (canSt d n).engIn
  if fs = [] then d
  else
    let d := setCan n { canSt d n with engIn := [] } d
    if sessServed d then fs.foldl (fun (d : Dev) e => rxSegment n e.1 e.2 d) d else d

end Sys2Proof.Machine
end

