-- ==== Sys2Proof/Machine/TimeRows.lean ====
section
/-! DEFINITION. The commands and events of network time and the Ethernet ports, and the diagnostic service (spec/07). -/
namespace Sys2Proof.Machine
open Sys2Proof

/-- Status codes of network time (R197). -/
abbrev stDomNotLocked : Nat := 0x0201
abbrev stDomDisabled : Nat := 0x0202
abbrev stAddrInvalid : Nat := 0x0203
abbrev stTbSrc : Nat := 0x0204

/-- The SVC_STAT word (R198). -/
def svcStatWord (d : Dev) : Nat :=
  svcState d * 2 ^ 29 + d.rd TIME.SVC.STAT.VALID * 2 ^ 28 + d.rd TIME.SVC.STAT.SEL * 2 ^ 27 + d.rd TIME.SVC.STAT.TEMPOS_RUN * 2 ^ 26 +
  d.rd TIME.SVC.STAT.STEPPED * 2 ^ 25 + d.rd TIME.SVC.STAT.RATE_CLAMP * 2 ^ 24 + d.rd TIME.SVC.STAT.SWITCHES * 2 ^ 16

/-- Commit fields to eMRAM as a CFG_WRITE would (R131, R195). -/
def commitField (f : FRef) (d : Dev) : Dev := { d with emram := bankWr d.emram f (d.rd f) }

/-! ### Ring commands (R195) -/

/-- DOM_SELECT: PREF and AUTO together, committed (R184, R195). -/
def execDomSelect (h : CmdHdr) (dom auto : Nat) (s : State) : Host.Outcome State Fault Refusal :=
  go (runCmd { unit := 2, op := 1, c := true, isl := [10] } h fun d =>
    if 1 < dom ∨ 1 < auto then .done d stBadParam []
    else if ¬ d.flag (TIME.DOM.CFG.EN dom) then .done d stDomDisabled [svcStatWord d]
    else if domState d dom ≠ 3 then .done d stDomNotLocked [svcStatWord d]
    else
      let d := (d.wr TIME.SVC.CFG.PREF dom).wr TIME.SVC.CFG.AUTO auto
      let d := reselect (commitField TIME.SVC.CFG.AUTO (commitField TIME.SVC.CFG.PREF d))
      .done d stOK [svcStatWord d]) s

/-- A PORT_ADDR record is valid (R195, R197). -/
def addrRecordOk (r : List Byte) : Bool :=
  decide (fieldAt r 4 1 ≤ 32) && decide (fieldAt r 5 1 < 8) && decide (fieldAt r 28 1 ≤ 128) && fieldAt r 6 2 / 2 ^ 12 % 2 == 0 &&
    fieldAt r 29 3 == 0 && fieldAt r 48 16 == 0

/-- PORT_ADDR: the six ports' addresses, whole or not at all (R195, R197). -/
def execPortAddr (h : CmdHdr) (s : State) : Host.Outcome State Fault Refusal :=
  go (runCmd { unit := 2, op := 2, c := true, isl := [10] } h fun d =>
    if ¬ sendOk h 384 then .done d stBadBuffer []
    else
      let b := inBuf h d
      if (chunksOf 64 6 b).all addrRecordOk then .done { d with time := { d.time with addrs := b } } stOK [] else .done d stAddrInvalid []) s

/-- What PORT_POWER does where its conditions hold (R173, R195, R132). -/
def portPowerEffect (port on : Nat) (d : Dev) : CmdOut :=
  let d := ethRequest port (on == 1) d
  if on = 1 then
    if badFunc d (106 + port) ∨ (d.flag (ETH.PORT.STAT.CFG_ERR port) ∧ ethState d port = 0) then .done d stRefused [ethStatWord d port]
    else if ethState d port = 1 then .later d (.ethPort port true) []
    else .done d stOK [ethStatWord d port]
  else if ethState d port = 3 ∨ ethState d port = 1 then .later d (.ethPort port false) []
  else .done d stOK [ethStatWord d port]

/-- PORT_POWER (R173, R195): completes when the port has reached ON or OFF, or PENDING_REARM is latched (DEDUCED, as R132); a
configuration that does not let it start is refused. -/
def execPortPower (h : CmdHdr) (port on : Nat) (s : State) : Host.Outcome State Fault Refusal :=
  go (runCmd { unit := 2, op := 3, c := true, isl := [10] } h fun d =>
    if 5 < port ∨ 1 < on then .done d stBadParam []
    else
      portPowerEffect port on d) s

/-- TB_LOAD (R190, R195): only while SRC is 0. -/
def execTbLoad (h : CmdHdr) (n v : Nat) (s : State) : Host.Outcome State Fault Refusal :=
  go (runCmd { unit := 2, op := 4, c := true, isl := [10] } h fun d =>
    if 3 < n then .done d stBadParam []
    else if d.rd (TIME.TB.CFG.SRC n) ≠ 0 then .done d stTbSrc []
    else .done ({ d.wr (TIME.TB.CNT n) v with time := { d.time with tbFrac := del n d.time.tbFrac } }) stOK []) s

/-! ### Ports (R173) -/

/-- What a change of EN of port q does (R173). -/
def portEnEffect (q : Nat) (was : Bool) (d : Dev) : Dev :=
  if d.flag (ETH.PORT.CFG.EN q) = was then d else ethRequest q (d.flag (ETH.PORT.CFG.EN q)) d

/-- A write of ETH.PORT[q].CFG.EN, with the register's other fields (R7, R173). -/
def execPortEnWrite (p : Fin 2) (q : Fin 6) (v : Nat) (s : State) : Host.Outcome State Fault Refusal :=
  go (guardWrite p.val (0xA00000 + 0x100 * q.val) fun d =>
    let was := d.flag (ETH.PORT.CFG.EN q.val)
    let (d', refused) := writeFields false (0xA00000 + 0x100 * q.val) v d
    portEnEffect q.val was (if refused then ignoreWrite p.val (0xA00000 + 0x100 * q.val) d' else d')) s

/-- A port completes STOPPING (R173): OFF, the minimum off time starts, the waiting commands complete. -/
def execPortStopEnd (q : Fin 6) (s : State) : Host.Outcome State Fault Refusal :=
  go (fun d =>
    if ethState d q.val ≠ 3 then d
    else
      let d := (d.wr (ETH.PORT.STAT.PSTATE q.val) 0).wr (ETH.PORT.STAT.MINOFF q.val) 1
      finishKindWith (.ethPort q.val true) stRefused [ethStatWord d q.val] (finishKindWith (.ethPort q.val false) stOK [ethStatWord d q.val] d)) s

/-- A port completes STARTING (R173): ON, acting on a waiting off request. -/
def execPortStartEnd (q : Fin 6) (s : State) : Host.Outcome State Fault Refusal :=
  go (fun d =>
    if ethState d q.val ≠ 1 then d
    else
      let d := d.wr (ETH.PORT.STAT.PSTATE q.val) 2
      let d := finishKindWith (.ethPort q.val true) stOK [ethStatWord d q.val] d
      if d.time.ethOff.contains q.val then ethStop q.val d else d) s

/-- A port's 1 ms minimum off time ends (R173): a latched enable starts it. -/
def execPortMinoffEnd (q : Fin 6) (s : State) : Host.Outcome State Fault Refusal :=
  go (fun d =>
    let d := d.wr (ETH.PORT.STAT.MINOFF q.val) 0
    if ethState d q.val = 0 ∧ d.flag (ETH.PORT.STAT.PENDING_REARM q.val) ∧ islandOn d 10 then ethStart q.val d else d) s

/-- A link goes up, with its speed, or down (R173): 10GBASE-R runs at 10 Gbit/s, 1000BASE-X at 1 Gbit/s, the other modes at 1 Gbit/s or 100 Mbit/s
(R170). -/
def execLinkChange (q : Fin 6) (up : Bool) (speed : Fin 3) (s : State) : Host.Outcome State Fault Refusal :=
  go (fun d =>
    if up then (if ethState d q.val = 2 then 
      let m := d.rd (ETH.PORT.CFG.MODE q.val)
      (setLink q.val true d).wr (ETH.PORT.STAT.SPEED q.val) (if m = 1 then 2 else if m = 2 then 1 else min 1 speed.val) else d)
    else setLink q.val false d) s

/-! ### Received frames (R171, R172, R174, R181) -/

/-- A frame has arrived on port q of a PRP pair, whatever it is: its LAN is receiving; a failed LAN recovers with EV33 (R174). -/
def lanSeen (q : Nat) (d : Dev) : Dev :=
  let k := q / 2
  let f := if q % 2 = 0 then ETH.PRP.STAT.LAN_A_OK k else ETH.PRP.STAT.LAN_B_OK k
  if ¬ prpOn d k ∨ d.flag f then d else raiseEv 33 0 0 (d.wr f 1)

/-- A frame with a trailer arrived on a LAN of a pair (R174): a wrong LanId is counted. The answer says whether the frame is a duplicate, to be
discarded; the node table learns it otherwise. -/
def prpReceive (q : Nat) (src : Nat) (lanA : Bool) (seq : Nat) (d : Dev) : Dev × Bool :=
  let k := q / 2
  let d := if lanA = (q % 2 == 0) then d else d.bump (ETH.PRP.STAT.WRONG_LAN k)
  let x := prpSt d k
  match x.nodes.find? (fun n => n.1 == src) with
  | some (_, seqs) =>
    if seqs.contains (seq % 65536) then (d, true)
    else
      let seqs' := ((seq % 65536) :: seqs).take 1024
      (setPrp k { x with nodes := x.nodes.map fun n => if n.1 = src then (src, seqs') else n } d, false)
  | none => (setPrp k { x with nodes := if x.nodes.length < 1024 then x.nodes ++ [(src, [seq % 65536])] else x.nodes } d, false)

/-! ### The best master clock algorithm (R175, R181, R182) -/

/-- PROFILE, ROLE and TRANSPORT in effect (R181, R198): PROFILE 2 requires Ethernet, and takes it whatever TRANSPORT says (DESIGN CHOICE, log 88). -/
def domProfile (d : Dev) (i : Nat) : Nat := if d.rd (TIME.DOM.CFG.PROFILE i) ≤ 2 then d.rd (TIME.DOM.CFG.PROFILE i) else 0
def domRole (d : Dev) (i : Nat) : Nat := if d.rd (TIME.DOM.CFG.ROLE i) ≤ 2 then d.rd (TIME.DOM.CFG.ROLE i) else 0
def domTransport (d : Dev) (i : Nat) : Nat := if domProfile d i = 2 ∨ d.rd (TIME.DOM.CFG.TRANSPORT i) = 3 then 0 else d.rd (TIME.DOM.CFG.TRANSPORT i)

/-- The order of the default data set comparison: priority1, clockClass, clockAccuracy, offsetScaledLogVariance, priority2 and the grandmaster's
identity; for one grandmaster, stepsRemoved, the sender's identity and the receiving port (the standard's order; log 88). A smaller value is better. -/
def annRank (a : AnnSet) : Nat :=
  ((((a.prio1 % 256 * 256 + a.cls % 256) * 256 + a.acc % 256) * 65536 + a.var % 65536) * 256 + a.prio2 % 256) * 2 ^ 64 + a.gm % 2 ^ 64
def annOrder (q : Nat) (a : AnnSet) : Nat := ((annRank a * 65536 + a.steps % 65536) * 2 ^ 64 + a.sender % 2 ^ 64) * 8 + q

/-- The device's own data set for domain i: PRIO1, CLASS and PRIO2 of BMCA, its own accuracy and variance (free values), its clock identity. -/
def ownSet (d : Dev) (i : Nat) : AnnSet :=
  { prio1 := d.rd (TIME.DOM.BMCA.PRIO1 i), cls := d.rd (TIME.DOM.BMCA.CLASS i), acc := Config.clockAccuracy.toNat, var := Config.clockVariance.toNat,
    prio2 := d.rd (TIME.DOM.BMCA.PRIO2 i), gm := eui64 (ethMac d 0) false }

/-- The best data set announced at the ports of a domain. -/
def bestAnn (l : SMap AnnSet) : Option (Nat × AnnSet) :=
  l.foldl (fun best e => match best with
    | some b => if annOrder e.1 e.2 < annOrder b.1 b.2 then some e else some b
    | none => some e) none

/-- Domain i may be a master (R181). -/
def masterCapable (d : Dev) (i : Nat) : Bool := domRole d i == 1 || domRole d i == 2

/-- The best master clock algorithm on domain i (R175, R181, R182): a master-capable domain whose own data set is best is MASTER, with its domain time
at service time; else the port with the best data set is the slave port, its grandmaster and UTC offset are shown, and a MASTER listens. A change of
the slave port changes no domain state (R175). -/
def bmca (i : Nat) (d : Dev) : Dev :=
  let x := domSt d i
  let master (d : Dev) : Dev := domTo i 5 (setDom i { domSt d i with ofs := 0, slave := none, seq := none } d)
  match bestAnn x.ann with
  | none => if masterCapable d i ∧ (domState d i = 1 ∨ domState d i = 4) then master d else setDom i { x with slave := none, seq := none } d
  | some (q, a) =>
    if masterCapable d i ∧ annRank (ownSet d i) < annRank a then (if domState d i = 5 then d else master d)
    else
      let d := if x.slave = some q then d else setDom i { x with slave := some q, seq := none } d
      let d := (d.wr (TIME.DOM.GM i) a.gm).wr (TIME.DOM.STAT.UTC_RX i) a.utc
      if domState d i = 5 then domTo i 1 d else d

/-- A PTP message with this header, received on port q, is domain i's: its number, its transport, and a port it lists (R181). -/
def ptpForDom (d : Dev) (i q : Nat) (m : PtpHdr) : Bool :=
  domState d i != 0 && d.rd (TIME.DOM.CFG.DNUM i) == m.dnum && bitOf (d.rd (TIME.DOM.CFG.PORTS i)) q && m.tr.val == domTransport d i

/-- An Announce acts on the domains of its number that list the port (R181, R182). -/
def announceTo (i q : Nat) (m : PtpHdr) (a : AnnSet) (d : Dev) : Dev :=
  if ptpForDom d i q m then bmca i (setDom i { domSt d i with ann := ins q a (domSt d i).ann } d) else d

/-- Port q is a master port of domain i: the domain is MASTER, or a boundary clock whose slave port is another (R181). -/
def masterPort (d : Dev) (i q : Nat) : Bool :=
  domState d i == 5 || (domRole d i == 2 && match (domSt d i).slave with
    | some k => k != q
    | none => false)

/-- A Delay_Req is answered with Delay_Resp by a master port under PROFILE 0, a Pdelay_Req with Pdelay_Resp by every port under the peer-to-peer
profiles, with its stamp and a Follow_Up under TWO_STEP (R181, R189). -/
def answerDelay (i q : Nat) (m : PtpHdr) (peer : Bool) (d : Dev) : Dev :=
  if ¬ ptpForDom d i q m then d
  else
    let rx := domAt d i (rxStamp4 d q)
    let two := d.flag (TIME.DOM.CFG.TWO_STEP i)
    if peer then (if domProfile d i = 0 then d else ptpSend q i 3 m.seq rx two two d)
    else if domProfile d i = 0 ∧ masterPort d i q then ptpSend q i 9 m.seq rx false false d
    else d

/-- Domain i has measured the mean path delay at port q, in 0.25 ns (R181); PDELAY shows that of the port it follows (R198). -/
def setPath (i q : Nat) (p : Int) (d : Dev) : Dev :=
  let d := setDom i { domSt d i with path := ins q p (domSt d i).path } d
  if (domSt d i).slave = some q ∨ (domSt d i).slave = none then d.wr (TIME.DOM.PDELAY i) (wrapI 32 (p / 4)) else d

/-- A Delay_Resp to the slave port's own request gives the mean path delay of the request-response mechanism (R181): the mean of Sync's way and of the
request's, from four stamps. -/
def delayRespTo (i q : Nat) (m : PtpHdr) (rxNs : Nat) (d : Dev) : Dev :=
  let x := domSt d i
  if ¬ ptpForDom d i q m ∨ domProfile d i ≠ 0 ∨ x.slave ≠ some q then d
  else match x.sync, look x.req q with
    | some (t1, t2), some (seq, t3) => if seq = m.seq % 65536 then setPath i q (((t2 - t1) + (4 * (rxNs : Int) - t3)) / 2) d else d
    | _, _ => d

/-- The mean path delay of the peer mechanism (R181): half of the time from the request's sending t1 to the response's receipt t4 less the time the
responder held it. -/
def peerDelay (i q seq : Nat) (t2 t3 t4 : Int) (d : Dev) : Dev :=
  match look (domSt d i).req q with
  | some (n, t1) => if n = seq then setPath i q (((t4 - t1) - (t3 - t2)) / 2) d else d
  | none => d

/-- A Pdelay_Resp to the port's own request: one-step it gives the delay at once, two-step with its Follow_Up (R181). -/
def pdelayRespTo (i q : Nat) (m : PtpHdr) (rxNs : Nat) (txNs : Option Nat) (d : Dev) : Dev :=
  if ¬ ptpForDom d i q m ∨ domProfile d i = 0 then d
  else
    let t4 := domAt d i (rxStamp4 d q)
    match txNs with
    | some t3 => peerDelay i q (m.seq % 65536) (4 * (rxNs : Int)) (4 * (t3 : Int)) t4 d
    | none => setDom i { domSt d i with resp := ins q (m.seq % 65536, 4 * (rxNs : Int), t4) (domSt d i).resp } d

/-- The Follow_Up of a Pdelay_Resp (R181). -/
def pdelayFollowUpTo (i q : Nat) (m : PtpHdr) (txNs : Nat) (d : Dev) : Dev :=
  if ¬ ptpForDom d i q m ∨ domProfile d i = 0 then d
  else match look (domSt d i).resp q with
    | some (n, t2, t4) => if n = m.seq % 65536 then peerDelay i q n t2 (4 * (txNs : Int)) t4 (setDom i { domSt d i with resp := del q (domSt d i).resp } d) else d
    | none => d

/-- A port answers ARP for its IPv4 address, and neighbour discovery for its IPv6 addresses, of which it always has the link-local one (R172); the
addresses of a record are little-endian fields (R5, R195). -/
def ownsIp (d : Dev) (q : Nat) (v6 : Bool) (ip : Nat) : Bool :=
  let r := ethAddr d q
  if v6 then ip == linkLocal d q || (bitOf (fieldAt r 5 1) 1 && ip == fieldAt r 12 16)
  else bitOf (fieldAt r 5 1) 0 && ip == fieldAt r 0 4

/-- The application cores answer a management frame with a frame of theirs, with its transmit stamp where they ask for it, as requester 1 (R186, R189). -/
def appSend (q : Nat) (a : AppFrame) (d : Dev) : Dev :=
  ethSend q { kind := .app, stamp := a.stamp.map fun (ty, dn, seq) => ty.val * 2 ^ 28 + 2 ^ 24 + dn.val * 2 ^ 16 + seq.val } d

/-- Duration of a pause quantum, 512 bit times, in tenths of a ns (IEEE 802.3). -/
def quantum (d : Dev) (q : Nat) : Nat := if d.rd (ETH.PORT.STAT.SPEED q) = 0 then 51200 else if d.rd (ETH.PORT.STAT.SPEED q) = 1 then 5120 else 512

/-- Pass a frame to its role, or drop and count it (R171, R172, R181). -/
def frameToRole (q : Nat) (f : EthFrame) (d : Dev) : Dev :=
  let x := ethCount d q
  let role (b : Nat) := bitOf (d.rd (ETH.PORT.CFG.ROLE q)) b
  let runs := opState d = 3 ∨ opState d = 4
  let drop := setEth q { x with dropped := x.dropped + 1 } d
  let ptpOk := role 0 ∧ runs
  let ptp := setEth q { x with ptp := x.ptp + 1 } d
  let neighbour (v6 : Bool) (ip : Nat) :=
    let d := setEth q { x with neighbour := x.neighbour + 1 } d
    if ownsIp d q v6 ip then ethSend q { kind := .neighbour } d else d
  match f.kind with
  | .announce m a => if ptpOk then announceTo 1 q m a (announceTo 0 q m a ptp) else drop
  | .delayReq m peer => if ptpOk then answerDelay 1 q m peer (answerDelay 0 q m peer ptp) else drop
  | .delayResp m t own => if ptpOk then (if own then delayRespTo 1 q m t (delayRespTo 0 q m t ptp) else ptp) else drop
  | .pdelayResp m t t' own => if ptpOk then (if own then pdelayRespTo 1 q m t t' (pdelayRespTo 0 q m t t' ptp) else ptp) else drop
  | .pdelayFollowUp m t own => if ptpOk then (if own then pdelayFollowUpTo 1 q m t (pdelayFollowUpTo 0 q m t ptp) else ptp) else drop
  | .ptpManagement => if ptpOk then setEth q { x with ptpDiscarded := x.ptpDiscarded + 1 } d else drop
  | .ptp => if ptpOk then ptp else drop
  | .tyrid g => if role 1 ∧ runs then rxDatagram q g (setEth q { x with tyrid := x.tyrid + 1 } d) else drop
  | .mgmt a =>
    if role 2 ∧ islandOn d 2 ∧ runs then
      let d := setEth q { x with mgmt := x.mgmt + 1 } d
      match a with
      | some f => appSend q f d
      | none => d
    else drop
  | .diag => if role 3 ∨ ¬ runs then setEth q { x with diag := x.diag + 1 } d else drop
  | .arp ip => neighbour false ip
  | .solicit ip => neighbour true ip
  | .pause n => if d.flag (ETH.PORT.CFG.PAUSE_EN q) then ethPump q (setEth q { x with paused := d.up + n % 65536 * quantum d q / 10 } d) else drop
  | .other => drop

/-- MTU in effect (R198). -/
def ethMtu (d : Dev) (q : Nat) : Nat := clampN 1522 9216 (d.rd (ETH.PORT.CFG.MTU q))

/-- A frame is a PTP message, which bypasses PRP (R175). -/
def kindIsPtp : EthKind → Bool
  | .announce .. => true
  | .delayReq .. => true
  | .delayResp .. => true
  | .pdelayResp .. => true
  | .pdelayFollowUp .. => true
  | .ptpManagement => true
  | .ptp => true
  | _ => false

/-- The address filter of port q (R171): its own unicast address, broadcast, and its 32 multicast entries. -/
def ethFilter (d : Dev) (q : Nat) (dst : Nat) : Bool := dst == ethMac d q || dst == 2 ^ 48 - 1 || ((Config.multicast q).take 32).contains dst

/-- A frame that port q takes: it passes the address filter, or is a pause frame, which comes to IEEE 802.3's reserved multicast address (R171). -/
def ethTakes (d : Dev) (q : Nat) (f : EthFrame) : Bool :=
  ethFilter d q f.dst || (match f.kind with
    | .pause _ => f.dst == 0x0180C2000001
    | _ => false)

/-- The kinds that port 0 takes in PROOF and RACK (R172, R193, R194). -/
def rackKind : EthKind → Bool
  | .diag => true
  | .arp _ => true
  | .solicit _ => true
  | _ => false

/-- What FRAME_RX does where its conditions hold (R171, R172, R174, R186, R194). A frame shorter than 64 bytes or longer than MTU is discarded, the longer
one counted. That a frame with a wrong checksum is discarded and counted, and that one with another VLAN tag than the address record's matches no
role, is the model's choice (DESIGN CHOICE, log 88). -/
def frameRxEffect (q : Fin 6) (f : EthFrame) (d : Dev) : Dev :=
  let n := q.val
  let d := setEth n { ethCount d n with stamp := portStamp d n, rxUp := d.up } d
  let drop (d : Dev) : Dev := setEth n { ethCount d n with dropped := (ethCount d n).dropped + 1 } d
  if f.len < 64 then d
  else if ethMtu d n < f.len then setEth n { ethCount d n with tooLong := (ethCount d n).tooLong + 1 } d
  else if ¬ f.sumOk then setEth n { ethCount d n with badSum := (ethCount d n).badSum + 1 } d
  else if (opState d = 2 ∨ opState d = 5) ∧ ¬ (n = 0 ∧ rackKind f.kind) then drop d
  else if f.vlan.isSome ∧ f.vlan.map (· % 4096) ≠ (ethVlan d n).map (· % 4096) then drop d
  else
    let d := lanSeen n d
    match f.prp with
    | some (src, lanA, seq) =>
      if prpOn d (n / 2) ∧ ¬ kindIsPtp f.kind ∧ (opState d = 3 ∨ opState d = 4) then
        let (d, dup) := prpReceive n src lanA seq d
        if dup then setEth n { ethCount d n with duplicates := (ethCount d n).duplicates + 1 } d else frameToRole n f d
      else frameToRole n f d
    | none => frameToRole n f d

/-- A frame is received on port q (R171, R172, R174, R186). In PROOF and RACK only port 0 answers, and only the diagnostic service with what finds
its address (R172, R194). -/
def execFrameRx (q : Fin 6) (f : EthFrame) (s : State) : Host.Outcome State Fault Refusal :=
  go (fun d =>
    let n := q.val
    if ¬ (ethUp d n ∨ (ethState d n = 2 ∧ d.flag (ETH.PORT.STAT.LINK n))) ∨ ¬ islandOn d 10 ∨ ¬ ethTakes d n f then d
    else
      frameRxEffect q f d) s

/-- Every LIFE_MS a PRP pair sends supervision frames on both LANs (R174). -/
def execPrpSupervision (pair : Fin 2) (s : State) : Host.Outcome State Fault Refusal :=
  go (fun d =>
    if ¬ prpOn d pair.val ∨ ¬ (opState d = 3 ∨ opState d = 4) ∨ ethState d (2 * pair.val) ≠ 2 ∧ ethState d (2 * pair.val + 1) ≠ 2 then d
    else
      ethSend (2 * pair.val) { kind := .supervision } (setPrp pair.val { prpSt d pair.val with supervision := (prpSt d pair.val).supervision + 1 } d)) s

/-- LIFE_MS in effect (R198). -/
def lifeMs (d : Dev) (pair : Nat) : Nat := clampN 100 10000 (d.rd (ETH.PRP.CFG.LIFE_MS pair))

/-- No frame on a LAN for 3 × LIFE_MS (R174): the time has run when this comes, and the LAN is marked failed, with EV33 and FD112 + pair. -/
def execPrpLanTimeout (pair : Fin 2) (lanB : Bool) (s : State) : Host.Outcome State Fault Refusal :=
  go (fun d =>
    let f := if lanB then ETH.PRP.STAT.LAN_B_OK pair.val else ETH.PRP.STAT.LAN_A_OK pair.val
    if ¬ prpOn d pair.val ∨ ¬ d.flag f then d
    else
      let d := toUp ((ethCount d (2 * pair.val + b2n lanB)).rxUp + 3000000 * lifeMs d pair.val) d
      raise (112 + pair.val) (b2n lanB) (raiseEv 33 0 0 (d.wr f 0))) s

/-- The node forget time, or the entry forget time of one sequence number, runs out (R174). -/
def execNodeForget (pair : Fin 2) (src : Nat) (seq : Option Nat) (s : State) : Host.Outcome State Fault Refusal :=
  go (fun d =>
    let x := prpSt d pair.val
    match seq with
    | none => setPrp pair.val { x with nodes := x.nodes.filter fun n => n.1 != src } d
    | some q => setPrp pair.val { x with nodes := x.nodes.map fun n => if n.1 = src then (n.1, n.2.filter (· != q % 65536)) else n } d) s

/-! ### PTP (R181 to R184, R187, R189) -/

/-- LOCK_NS in ns: 10 ns units, 0 acts as 1. -/
def lockNs (d : Dev) (i : Nat) : Nat := 10 * max 1 (d.rd (TIME.DOM.CFG.LOCK_NS i))

/-- The offset a Sync received now gives, domain time minus master time, in 0.25 ns: its stamp less INGRESS_LAT, against its origin time, the mean
path delay measured at the port (0 before the first measurement: DESIGN CHOICE, log 78) and ASYM (R186, R187). -/
def syncOffset (i q : Nat) (m : PtpSync) (d : Dev) : Int :=
  domAt d i (rxStamp4 d q) - (4 * (m.originNs : Int) + lookD (domSt d i).path q 0 + sgn 32 (d.rd (ETH.PORT.ASYM q)))

/-- A time base of domain i shows that the domain stepped (R190). -/
def tbStepped (i : Nat) (d : Dev) : Dev :=
  (List.range 4).foldl (fun (d : Dev) n => if d.rd (TIME.TB.CFG.SRC n) = 2 + i then d.wr (TIME.TB.CFG.STEPPED n) 1 else d) d

/-- Step the domain's time by a measured offset in 0.25 ns (R183); the times it has measured with are carried over. -/
def domStep (i : Nat) (off4 : Int) (d : Dev) : Dev :=
  let x := domSt d i
  tbStepped i ((setDom i { x with
    ofs := x.ofs - off4 * (2 ^ 30 : Nat)
    sync := x.sync.map fun (a, b) => (a, b - off4)
    req := x.req.map fun (q, n, t) => (q, n, t - off4)
    resp := x.resp.map fun (q, n, a, t) => (q, n, a, t - off4) } d).bump (TIME.DOM.STAT.STEPS i))

/-- The servo's new rate in 0.001 ppm: the manual gives no gains, so it is a free value within ±500 ppm (R177, R182; log 1). -/
def domSlew (i : Nat) (d : Dev) : Dev :=
  let (v, d) := takeFree 32 d
  setDom i { domSt d i with rate := clampI (-500000) 500000 (sgn 32 v) } d

/-- A Sync in ACQUIRING (R183): step or slew, then the lock test over 8 messages; the first lock may step service time (R179). -/
def syncAcquiring (i : Nat) (off4 : Int) (d : Dev) : Dev :=
  let x := domSt d i
  let first := !x.first
  let d := setDom i { x with first := true, run := if off4.natAbs ≤ 4 * lockNs d i then x.run + 1 else 0 } d
  let d := if first ∨ 4000000 < off4.natAbs then domStep i off4 d else domSlew i d
  if 8 ≤ (domSt d i).run then
    let d := setDom i { domSt d i with run := 0 } d
    domTo i 3 (acquisitionStep i d)
  else d

/-- A Sync in LOCKED (R183): slew; four messages in a row beyond ten times the threshold give ACQUIRING. -/
def syncLocked (i : Nat) (off4 : Int) (d : Dev) : Dev :=
  let x := domSt d i
  let d := domSlew i (setDom i { x with run := if 40 * lockNs d i < off4.natAbs then x.run + 1 else 0 } d)
  if 4 ≤ (domSt d i).run then domTo i 2 (setDom i { domSt d i with run := 0 } d) else settleResidual d

/-- What PTP_SYNC_RX does where its conditions hold (R182, R183, R187). -/
def ptpSyncRxEffect (dom : Fin 2) (q : Fin 6) (m : PtpSync) (d : Dev) : Dev :=
  let i := dom.val
  let st := domState d i
  let off4 := syncOffset i q.val m d
  let d := setDom i { domSt d i with seq := some (m.seq % 65536), sync := some (4 * (m.originNs : Int), domAt d i (rxStamp4 d q.val)) }
    (d.wr (TIME.DOM.PDELAY i) (wrapI 32 (lookD (domSt d i).path q.val 0 / 4)))
  if st = 3 then syncLocked i off4 d
  else
    let d := if st = 2 then d else domTo i 2 (setDom i { domSt d i with run := 0 } d)
    syncAcquiring i off4 d

/-- A Sync from port q is one the domain takes: from the slave port, where the best master clock algorithm has chosen one, and with a sequenceId ahead of
the last one's by the signed difference of R10 (R175, R181, R192). -/
def syncTaken (d : Dev) (i q : Nat) (m : PtpSync) : Bool :=
  (match (domSt d i).slave with
    | some k => k == q
    | none => true) &&
  (match (domSt d i).seq with
    | some n => decide (0 < sdiff 16 m.seq n)
    | none => true)

/-- A Sync message is received on a port of the domain (R175, R181 to R183, R187). -/
def execPtpSyncRx (dom : Fin 2) (q : Fin 6) (m : PtpSync) (s : State) : Host.Outcome State Fault Refusal :=
  go (fun d =>
    let i := dom.val
    if domState d i = 5 ∨ ¬ domainsOn d ∨ ¬ ptpForDom d i q.val { dnum := d.rd (TIME.DOM.CFG.DNUM i), tr := m.tr } ∨ ¬ bitOf (d.rd (ETH.PORT.CFG.ROLE q.val)) 0 ∨
        ethState d q.val ≠ 2 ∨ ¬ syncTaken d i q.val m then d
    else
      ptpSyncRxEffect dom q m d) s

/-- A domain that follows a master loses it: HOLDOVER at its last rate (R183). -/
def domHoldover (i : Nat) (d : Dev) : Dev :=
  if domState d i = 2 ∨ domState d i = 3 then domTo i 4 (setDom i { domSt d i with run := 0, seq := none } d) else d

/-- Announce receipt timeout at a port of the domain (R175, R181 to R183): the port's data set is gone. Another port's becomes the best: only a PTP port
state changes. With none left, a domain that followed a master enters HOLDOVER, and a listening or holding master-capable one is MASTER. -/
def execAnnounceTimeout (dom : Fin 2) (q : Fin 6) (s : State) : Host.Outcome State Fault Refusal :=
  go (fun d =>
    let i := dom.val
    if domState d i = 0 then d
    else
      let d := setDom i { domSt d i with ann := del q.val (domSt d i).ann } d
      if (domSt d i).ann = [] ∧ (domState d i = 2 ∨ domState d i = 3) then domHoldover i (setDom i { domSt d i with slave := none } d) else bmca i d) s

/-- No Sync for 4 Sync intervals (R183). -/
def execSyncTimeout (dom : Fin 2) (s : State) : Host.Outcome State Fault Refusal := go (domHoldover dom.val) s

/-- The next sequenceId of the messages of a kind that domain i sends on port q. -/
def ptpSeqKey (i kind q : Nat) : Nat := 64 * i + 8 * kind + q

/-- messageType of what an interval of each kind sends: Sync, Announce, Pdelay_Req, Delay_Req. -/
def ptpType (kind : Nat) : Nat := match kind with
  | 0 => 0
  | 1 => 11
  | 2 => 2
  | _ => 1

/-- TE takes its own stamps of domain i on port q, those not ahead of the last message sent by the signed difference of R10, and sends the Follow_Ups
they belong to (R189, R192). -/
def takeTxStamps (i q : Nat) (d : Dev) : Dev :=
  let dn := d.rd (TIME.DOM.CFG.DNUM i)
  let l := lookD d.time.txts q []
  let mine (y : TxStamp) : Bool :=
    y.ident / 2 ^ 16 % 2 ^ 12 == dn && (2 < y.ident / 2 ^ 28 ||
      (let k := if y.ident / 2 ^ 28 = 0 then 0 else if y.ident / 2 ^ 28 = 2 then 2 else 3
       decide (0 < sdiff 16 (lookD d.time.ptpSeq (ptpSeqKey i k q) 0) (y.ident % 2 ^ 16))))
  let keep := l.filter fun y => !mine y
  let ups := l.filter fun y => mine y && y.twoStep
  let d := { d with time := { d.time with txts := ins q keep d.time.txts } }.wr (ETH.PORT.TXTS.LEVEL q) keep.length
  ups.foldl (fun (d : Dev) y => ptpSend q i (if y.ident / 2 ^ 28 = 0 then 8 else 10) (y.ident % 2 ^ 16) y.domAt false false d) d

/-- Domain i sends messages of a kind on port q: Sync and Announce on a master port, Pdelay_Req under a peer-to-peer profile, Delay_Req on the slave port
under PROFILE 0 (R181). -/
def ptpSends (d : Dev) (i q kind : Nat) : Bool :=
  match kind with
  | 0 => masterPort d i q
  | 1 => masterPort d i q
  | 2 => domProfile d i != 0
  | _ => domProfile d i == 0 && !masterPort d i q && (domSt d i).slave == some q

/-- A profile interval ends (R181, R189): TE sends Sync (kind 0), Announce (1), Pdelay_Req (2) or Delay_Req (3); event messages go by queue 7 with a
transmit stamp, a one-step Sync without, and TE takes the stamps of its earlier ones. -/
def execPtpTxInterval (dom : Fin 2) (q : Fin 6) (kind : Fin 4) (s : State) : Host.Outcome State Fault Refusal :=
  go (fun d =>
    let i := dom.val
    if domState d i = 0 ∨ ¬ domainsOn d ∨ ¬ bitOf (d.rd (TIME.DOM.CFG.PORTS i)) q.val ∨ ¬ bitOf (d.rd (ETH.PORT.CFG.ROLE q.val)) 0 ∨ ethState d q.val ≠ 2 ∨ ¬ d.flag (ETH.PORT.STAT.LINK q.val)
        ∨ ¬ ptpSends d i q.val kind.val then d
    else
      let d := takeTxStamps i q.val d
      let key := ptpSeqKey i kind.val q.val
      let seq := lookD d.time.ptpSeq key 0
      let d : Dev := { d with time := { d.time with ptpSeq := ins key ((seq + 1) % 65536) d.time.ptpSeq } }
      let two := kind.val == 0 && d.flag (TIME.DOM.CFG.TWO_STEP i)
      ptpSend q.val i (ptpType kind.val) seq 0 (two || decide (2 ≤ kind.val)) two d) s

/-- An entry of a transmit timestamp queue has not been taken within 1 s (R189). -/
def execTxtsStale (q : Fin 6) (s : State) : Host.Outcome State Fault Refusal :=
  go (fun d =>
    match lookD d.time.txts q.val [] with
    | [] => d
    | x :: t =>
      let dn := x.ident / 2 ^ 16 % 2 ^ 8
      let dom := if d.rd (TIME.DOM.CFG.DNUM 0) = dn then 0 else 1
      let d := ({ d with time := { d.time with txts := ins q.val t d.time.txts } }.wr (ETH.PORT.TXTS.LEVEL q.val) t.length).bump (ETH.PORT.TXTS.STALE q.val)
      if x.twoStep then d.bump (TIME.DOM.STAT.LOST_FUP dom) else d) s

/-- PREF has been LOCKED for 60 s with REVERT 1 (R184). -/
def execRevertTimer (s : State) : Host.Outcome State Fault Refusal :=
  go (fun d =>
    let pref := d.rd TIME.SVC.CFG.PREF
    if d.flag TIME.SVC.CFG.AUTO ∧ d.flag TIME.SVC.CFG.REVERT ∧ domState d pref = 3 then follow pref d else d) s

/-- HOLD_VALID seconds of HOLDOVER have passed since LOCKED was left (R178). -/
def execHoldValidExpiry (s : State) : Host.Outcome State Fault Refusal :=
  go (fun d =>
    if svcState d = 4 then { d with time := { d.time with lockedLeft := none } }.wr TIME.SVC.STAT.VALID 0 else d) s

/-- At the first whole second of service time after it first reached LOCKED, or after ACQ_WAIT seconds, at most 3,600, since the entry to RUN, the
tempos start (R179): without a lock, the time has run to there when this comes. -/
def execTemposStart (s : State) : Host.Outcome State Fault Refusal :=
  go (fun d =>
    if d.flag TIME.SVC.STAT.TEMPOS_RUN ∨ ¬ (opState d = 3 ∨ opState d = 4) then d
    else
      let d := if d.time.everLocked then d else toUp (d.time.runAt + min 3600 (d.rd TIME.SVC.CFG.ACQ_WAIT) * 1000000000) d
      lanesStart ((atWholeSecond d).wr TIME.SVC.STAT.TEMPOS_RUN 1)) s

/-! ### Triggers and PPS (R191, R198) -/

/-- An edge on TIME_TRIGk (R191); the ball is ignored in its safe state (R42). -/
def execTrigCapture (k : Fin 2) (rise : Bool) (s : State) : Host.Outcome State Fault Refusal :=
  go (fun d =>
    let e := d.rd (TIME.TRIG.CFG.EDGE k.val)
    let sel := if e = 3 then true else if e = 2 then !rise else rise
    if ¬ d.flag (TIME.TRIG.CFG.EN k.val) ∨ ¬ sel ∨ safeAct d ∨ ¬ (opState d = 3 ∨ opState d = 4) ∨ ¬ islandOn d 10 then d
    else
      let l := lookD d.time.trigQ k.val []
      if 4 ≤ l.length then d.bump (TIME.TRIG.CFG.OVF k.val)
      else
        let c : Capture := { rise := rise, sec := svcSec d, ns := svcNs d / 8 * 8 }
        raiseEv 31 0 0 ({ d with time := { d.time with trigQ := ins k.val (l ++ [c]) d.time.trigQ } }.wr (TIME.TRIG.CFG.LEVEL k.val) (l.length + 1))) s

/-- Pulse width in ns (R198). -/
def ppsWidth (d : Dev) (k : Nat) : Nat := clampN 1 999 (d.rd (TIME.PPS.CFG.WIDTH_MS k)) * 1000000

/-- A PPS output gives a pulse from now on; in PROOF and RACK it stays low (R191). -/
def ppsFire (k : Nat) (d : Dev) : Dev :=
  if opState d = 3 ∨ opState d = 4 then
    { d with time := { d.time with ppsUntil := ins k (svcTotalNs d + ppsWidth d k) d.time.ppsUntil, ppsPulses := ins k (lookD d.time.ppsPulses k 0 + 1) d.time.ppsPulses } }
  else d

/-- The level of a PPS output: low in PROOF and Rack state (R42, R191). -/
def ppsLevel (d : Dev) (k : Nat) : Bool := (opState d == 3 || opState d == 4) && decide (svcTotalNs d < lookD d.time.ppsUntil k 0)

/-- In per-second mode an output rises at each whole second of its source (R191); with service time as the source that is a whole second
of service time. -/
def execPpsPulse (k : Fin 2) (s : State) : Host.Outcome State Fault Refusal :=
  go (fun d =>
    if ¬ d.flag (TIME.PPS.CFG.EN k.val) ∨ d.flag (TIME.PPS.CFG.MODE k.val) ∨ ¬ islandOn d 10 then d
    else
      let src := d.rd (TIME.PPS.CFG.SRC k.val)
      ppsFire k.val (if src = 1 ∨ src = 2 then d else atWholeSecond d)) s

/-- How far a compare target lies after service time, in ns: the seconds compared by signed difference over 48 bits (R10, R192, R198). -/
def ppsAhead (d : Dev) (k : Nat) : Int :=
  sdiff 48 (d.rd (TIME.PPS.TGT_SEC_LO.SEC_LO k) + d.rd (TIME.PPS.TGT_SEC_HI.SEC_HI k) * 2 ^ 32) (svcSec d) * 1000000000 +
    (min 999999999 (d.rd (TIME.PPS.TGT_NS.NS k)) : Nat) - (svcNs d : Nat)

/-- A compare output with EN and MODE 1 waits for its target, while that lies ahead of service time (R191); else nothing waits. -/
def ppsWait (k : Nat) (d : Dev) : Dev :=
  let rest := d.time.ppsArmed.filter (· != k)
  { d with time := { d.time with ppsArmed := if d.flag (TIME.PPS.CFG.EN k) && d.flag (TIME.PPS.CFG.MODE k) && decide (0 < ppsAhead d k) then rest ++ [k] else rest } }

/-- A compare target is complete (R191): not after service time, it fires at once with LATE; else it waits. -/
def ppsArm (k : Nat) (d : Dev) : Dev :=
  let d := ppsWait k d
  if d.flag (TIME.PPS.CFG.EN k) ∧ d.flag (TIME.PPS.CFG.MODE k) ∧ ppsAhead d k ≤ 0 then ppsFire k (d.wr (TIME.PPS.CFG.LATE k) 1) else d

/-- A write of PPS[k]'s target nanoseconds, which completes the target (R191; the seconds are written before, log 21). -/
def execPpsTargetWrite (p : Fin 2) (k : Fin 2) (v : Nat) (s : State) : Host.Outcome State Fault Refusal :=
  go (guardWrite p.val (0x60030C + 0x10 * k.val) fun d =>
    let (d, refused) := writeFields false (0x60030C + 0x10 * k.val) v d
    if refused then ignoreWrite p.val (0x60030C + 0x10 * k.val) d else ppsArm k.val d) s

/-- Service time reaches an armed compare target (R191): one pulse. -/
def execPpsCompare (k : Fin 2) (s : State) : Host.Outcome State Fault Refusal :=
  go (fun d =>
    if ¬ d.time.ppsArmed.contains k.val then d
    else
      let d := if 0 < ppsAhead d k.val then toSvc ((svcTotalNs d + (ppsAhead d k.val).toNat) * 2 ^ 32) d else d
      ppsFire k.val { d with time := { d.time with ppsArmed := d.time.ppsArmed.filter (· != k.val) } }) s

/-- A read of SVC_SEC_LO, which latches the other three words for the port (R198). -/
def execSvcSecLoRead (p : Fin 2) (s : State) : Host.Outcome State Fault Refusal := go (answerRead p.val 0x600000 4) s

/-- A read of CAP_SEC_LO, which removes the oldest capture and latches CAP_SEC_HI and CAP_NS for the port (R198). -/
def execCapSecLoRead (p : Fin 2) (k : Fin 2) (s : State) : Host.Outcome State Fault Refusal := go (answerRead p.val (0x600344 + 0x10 * k.val) 4) s

/-! ### Diagnostic service (R193) -/

/-- The service answers a request on port q (R193): in PROOF from the end of Proof step 6, and in Rack state, on port 0 alone. -/
def diagAnswers (d : Dev) (q : Nat) : Bool :=
  islandOn d 10 &&
    (if opState d = 2 then q == 0 && proofStep6Over d
     else if opState d = 5 then q == 0
     else (opState d == 3 || opState d == 4) && bitOf (d.rd (ETH.PORT.CFG.ROLE q)) 3 && ethState d q == 2 && islandOn d 2)

/-- Give a response (R193): the 16-byte header and the data, at most 1,000 a second. -/
def diagRespond (q kind ident off status : Nat) (data : List Byte) (d : Dev) : Dev :=
  if ¬ diagAnswers d q then d
  else
    let same := d.time.diagSec == svcSec d
    let n := if same then d.time.diagCount else 0
    if 1000 ≤ n then d
    else
      let hdr := toBytes 2 1 ++ toBytes 2 kind ++ toBytes 4 ident ++ toBytes 4 off ++ toBytes 2 status ++ toBytes 2 data.length
      ethSend q { kind := .diag (hdr ++ data) } { d with time := { d.time with diagResp := hdr ++ data, diagSec := svcSec d, diagCount := n + 1 } }

/-- A diagnostic request over a byte image (R193): the bytes that are there from the offset on; BAD_PARAM for more than 1,400. -/
def diagImage (q kind ident off len : Nat) (image : Dev → List Byte) (d : Dev) : Dev :=
  if 1400 < len then diagRespond q kind ident off stBadParam [] d
  else diagRespond q kind ident off stOK (((image d).drop off).take len) d

/-- Kind 1: BAR0 register contents, which the read does not change (R193). -/
def execDiagBar0Read (q : Fin 6) (ident off len : Nat) (s : State) : Host.Outcome State Fault Refusal :=
  go (fun d =>
    if 1400 < len ∨ off % 4 ≠ 0 ∨ len % 4 ≠ 0 ∨ 0x2000000 < off + len then diagRespond q.val 1 ident off stBadParam [] d
    else diagRespond q.val 1 ident off stOK ((List.range (len / 4)).flatMap fun k => toBytes 4 (barRead 0 (off + 4 * k) d).1) d) s

/-- Kind 2: the Proof report; WRONG_STATE in PROOF (R193). -/
def execDiagProofReport (q : Fin 6) (ident off len : Nat) (s : State) : Host.Outcome State Fault Refusal :=
  go (fun d => if opState d = 2 then diagRespond q.val 2 ident off stWrongState [] d else diagImage q.val 2 ident off len (·.boot.report) d) s

/-- Kind 3: fault records from an index on (R193). -/
def execDiagFaultRecords (q : Fin 6) (ident first len : Nat) (s : State) : Host.Outcome State Fault Refusal :=
  go (fun d =>
    if 1400 < len ∨ 191 < first then diagRespond q.val 3 ident first stBadParam [] d
    else diagRespond q.val 3 ident first stOK (((List.range (192 - first)).flatMap fun k => recBytes d (first + k)).take len) d) s

/-- Kind 4: recorder records from a sequence on (R193). -/
def execDiagRecorderRecords (q : Fin 6) (ident seq len : Nat) (s : State) : Host.Outcome State Fault Refusal :=
  go (fun d =>
    if 1400 < len then diagRespond q.val 4 ident seq stBadParam [] d
    else
      let rs := (readableArea false d).filter fun r => decide (0 ≤ sdiff 32 r.seq seq)
      diagRespond q.val 4 ident seq stOK ((rs.take 44).flatMap recordBytes |>.take len) d) s

/-- Kind 5: the Crust status, the CRUST.STATUS word (R193). -/
def execDiagCrustStatus (q : Fin 6) (ident off len : Nat) (s : State) : Host.Outcome State Fault Refusal :=
  go (diagImage q.val 5 ident off len fun d => toBytes 4 (barRead 0 0x500000 d).1) s

end Sys2Proof.Machine
end

