-- ==== Sys2Proof/Machine/CrustRows.lean ====
section
/-! DEFINITION. The commands and events of the Crust: supplies, witness, RTC, alarms, PONCTL, tamper, counters and the Crust port
(spec/06). -/
namespace Sys2Proof.Machine
open Sys2Proof

/-- Status codes of the Crust (R168). -/
abbrev stTimeInvalid : Nat := 0x0240
abbrev stStepNeeded : Nat := 0x0241
abbrev stCalRange : Nat := 0x0242
abbrev stCountLost : Nat := 0x0243
abbrev stCountMax : Nat := 0x0244
abbrev stCountReserved : Nat := 0x0245

/-! ### Wake (R157) -/

/-- A wake source occurs, with its PON_CAUSE code: in STANDBY PONCTL rises and waits for MPG; elsewhere nothing changes. -/
def wake (cause : Nat) (d : Dev) : Dev :=
  if opState d ≠ 1 ∨ ¬ d.flag CRUST.RTC_CFG.PON_MODE ∨ d.crust.ponctl then d
  else ({ d with crust := { d.crust with ponctl := true, waking := true } } : Dev).wr CRUST.RTC_STAT.PON_CAUSE cause

/-- MPG has not risen within PON_TIMEOUT after a wake (R157). -/
def execPonTimeout (s : State) : Host.Outcome State Fault Refusal :=
  go (fun d =>
    if ¬ d.crust.waking then d
    else ({ d with crust := { d.crust with ponctl := false, waking := false } } : Dev).wr CRUST.RTC_STAT.PON_FAIL 1) s

/-! ### Supplies and witness (R142 to R148) -/

/-- VAUX33 falls below its range (R142). -/
def execVaux33Fall (s : State) : Host.Outcome State Fault Refusal := go vauxLost s

/-- VAUX33 has been in range for 1 ms (R142, R146): the Crust switches back, checks its witness `w`, and may wake (R157). -/
def execCrustSwitchBack (w : Witness) (s : State) : Host.Outcome State Fault Refusal :=
  go (fun d =>
    if d.crust.vaux ∨ opState d = 0 then d
    else
      let d : Dev := { d with crust := { d.crust with vaux := true } }
      let d := crustEvent 20 ((d.wr CRUST.STATUS.ON_VBAT 0).wr PWR.RAIL_STAT.GOOD (setBit (d.rd PWR.RAIL_STAT.GOOD) 0 true))
      let d := checkWitness w d
      -- an MPG that fell meanwhile is seen now (R43, R62)
      let d := if 2 ≤ opState d ∧ ¬ d.pins.mpg then mpgLow d else d
      let d := if d.flag CRUST.RTC_CFG.PON_MODE then d else (({ d with crust := { d.crust with ponctl := true } } : Dev).wr CRUST.RTC_STAT.PON_CAUSE 1)
      if d.flag CRUST.RTC_CFG.AUX_WAKE then wake 1 d else d) s

/-- The Crust die powers up after both supplies were absent (R90, R146): the witness `w` is checked before anything else, and the device is in
STANDBY. `vaux` says whether it is VAUX33 that has come, or VBAT. -/
def execCrustPowerUp (vaux : Bool) (w : Witness) (s : State) : Host.Outcome State Fault Refusal :=
  go (fun d =>
    if opState d ≠ 0 then d
    else
      let d := checkWitness w { d with crust := { d.crust with vaux := vaux, vbat := !vaux } }
      let d := ((d.wr GLB.STATE.STATE 1).put CRUST.STATUS.ON_VBAT !vaux).wr PWR.RAIL_STAT.GOOD (setBit (setBit (d.rd PWR.RAIL_STAT.GOOD) 0 vaux) 11 !vaux)
      let d := if vaux then (d.wr CRUST.STATUS.BAT_LOW 1).wr CRUST.STATUS.BAT_ABSENT 1 else d.wr CRUST.STATUS.BAT_ABSENT 0
      if d.flag CRUST.RTC_CFG.PON_MODE then d else ({ d with crust := { d.crust with ponctl := true } } : Dev).wr CRUST.RTC_STAT.PON_CAUSE 1) s

/-- VAUX33 and VBAT are both absent (R90): OFF; every output is without supply. The supply passes below 1.6 V, so LOW_RET latches (R145), and an
update of Crust state that the loss cut short leaves the witness broken (R143). -/
def execCrustPowerLoss (cutUpdate : Bool) (s : State) : Host.Outcome State Fault Refusal :=
  go (fun d =>
    let d := ((d.wr CRUST.STATUS.LOW_RET 1).wr GLB.STATE.STATE 0)
    let wit := if cutUpdate then { d.crust.wit with crc := false } else d.crust.wit
    { d with crust := { d.crust with vaux := false, vbat := false, ponctl := false, waking := false, smbusBusy := false, acked := false, wit := wit }, host := { d.host with waits := [] }, pwr := { d.pwr with heldRail := false, heldClk := false, heldHang := false }, pins := { d.pins with mpg := false, strapped := false } }) s

/-- VBAT crosses 2.2 V or 2.0 V (R63, R144). -/
def execBatLevelChange (mv : Nat) (s : State) : Host.Outcome State Fault Refusal := go (batLevel (decide (mv < 2200)) (decide (mv < 2000))) s

/-- The retention detector latches LOW_RET (R145). -/
def execLowRetLatch (s : State) : Host.Outcome State Fault Refusal := go (fun d => d.wr CRUST.STATUS.LOW_RET 1) s

/-- The once-per-second parity scrub (R148): an error is a declared loss at once, raised through the Crust's detector FD32. -/
def execScrub (parityError : Bool) (s : State) : Host.Outcome State Fault Refusal :=
  go (fun d => if ¬ d.crust.vaux ∨ ¬ parityError then d else raise 32 0 (declareLoss d)) s

/-! ### Alarms (R153 to R156) -/

/-- An alarm fires (R156). -/
def fireAlarm (i : Nat) (d : Dev) : Dev :=
  let act := d.rd (CRUST.ALM.CTRL.ACT i)
  let d := (d.wr (CRUST.ALM.STAT.FIRED i) 1).wr (if i = 0 then CRUST.STATUS.ALM0 else CRUST.STATUS.ALM1) 1
  let d := if bitOf act 0 then crustEvent (16 + i) d else d
  let d := if bitOf act 1 then alertSet (1 + i) d else d
  if bitOf act 2 then wake (2 + i) d else d

/-- NEXT_MATCH as a seconds count. -/
def almNext (d : Dev) (i : Nat) : Nat := d.rd (CRUST.ALM.NEXT_LO i) + d.rd (CRUST.ALM.NEXT_HI i) * 2 ^ 32

/-- The seconds count reaches an alarm's NEXT_MATCH (R153, R156): the count stands there (log 20), the alarm fires, and the next match is
computed. -/
def execAlmFire (i : Fin 2) (s : State) : Host.Outcome State Fault Refusal :=
  go (fun d =>
    let n := i.val
    if ¬ d.flag (CRUST.ALM.CTRL.EN n) ∨ timeLost d ∨ d.flag (CRUST.ALM.STAT.NEVER n) then d
    else
      let d : Dev := if d.crust.sec < almNext d n then { d with crust := { d.crust with sec := almNext d n, sub := 0 } } else d
      recomputeAlarm n (fireAlarm n d)) s

/-- A backward step sets BACKSTEP on an enabled alarm (R155). -/
def almBack (i : Nat) (d : Dev) : Dev := if d.flag (CRUST.ALM.CTRL.EN i) then d.wr (CRUST.ALM.STAT.BACKSTEP i) 1 else d

/-- A step of the calendar from UTC second `old` to `new` acts on alarm i (R154, R155). -/
def almStep (i old new : Nat) (d : Dev) : Dev :=
  if ¬ d.flag (CRUST.ALM.CTRL.EN i) then d
  else if new < old then almBack i d
  else
    let skipped := countMatches (almMatch d i) 256 old new
    let atNew := almHits (almMatch d i) new && decide (calFirst ≤ new) && decide (new ≤ calLast) && decide (old < new)
    let d := if 0 < skipped then (d.wr (CRUST.ALM.STAT.SKIPPED i) 1).wr (CRUST.ALM.STAT.SKIPCNT i) (min 255 skipped) else d
    if 0 < skipped ∨ atNew then fireAlarm i d else d

/-- Both alarms after a step of the calendar, and their next matches (R153 to R155). -/
def almSteps (old new : Nat) (d : Dev) : Dev := recomputeAlarms (almStep 1 old new (almStep 0 old new d))

/-- A change of UTC_OFFSET is a step of the calendar of the same size (R155). -/
def utcOffsetChanged (oldOff : Nat) (d : Dev) : Dev :=
  if timeLost d then recomputeAlarms d else almSteps (d.crust.sec - oldOff) (rtcUtc d) d

/-! ### Setting the RTC (R152) -/

/-- The calendar of a seconds count lies in its range (R149). -/
def inCalRange (d : Dev) (secs : Nat) : Bool :=
  let off := d.rd CRUST.RTC_CFG.UTC_OFFSET
  decide (calFirst + off ≤ secs) && decide (secs ≤ calLast + off)

/-- Service time minus RTC time, in 0.0001 ns. -/
def rtcOffset (d : Dev) : Int :=
  10000 * ((svcTotalNs d : Int) - (d.crust.sec * 1000000000 + d.crust.sub * 30517578125 / 1000000 : Nat))

/-- 100 ms in 0.0001 ns. -/
def hundredMs : Nat := 1000000000000

/-- RTC_SET (R149, R152, R166): a set outside the calendar's range is refused; modes 0 and 1 wait for their second boundary, mode 2 completes when the slew starts. -/
def execRtcSet (h : CmdHdr) (mode secs : Nat) (s : State) : Host.Outcome State Fault Refusal :=
  go (runCmd { unit := 2, op := 0x101, c := true } h fun d =>
    match mode with
    | 0 => if inCalRange d (secs % 2 ^ 48) then .later { d with crust := { d.crust with slew := 0, pendingSets := d.crust.pendingSets ++ [{ hdr := h, cseq := none, mode := 0, secs := secs % 2 ^ 48 }] } } (.other 1 0) []
           else .done d stCalRange [rtcLoWord d, rtcHiWord d]
    | 1 => if ¬ svcValid d then .done d stTimeInvalid [rtcLoWord d, rtcHiWord d]
           else if ¬ inCalRange d (svcSec d + 1) then .done d stCalRange [rtcLoWord d, rtcHiWord d]
           else .later { d with crust := { d.crust with slew := 0, pendingSets := d.crust.pendingSets ++ [{ hdr := h, cseq := none, mode := 1, secs := 0 }] } } (.other 1 0) []
    | 2 =>
      if ¬ svcValid d ∨ timeLost d then .done d stTimeInvalid [rtcLoWord d, rtcHiWord d]
      else if hundredMs < (rtcOffset d).natAbs then .done d stStepNeeded [rtcLoWord d, rtcHiWord d]
      else .done { d with crust := { d.crust with slew := rtcOffset d } } stOK [rtcLoWord d, rtcHiWord d]
    | _ => .done d stBadParam []) s

/-- Make the RTC `new` seconds exactly, from the running time given in ms: a step if time was valid and the difference is not 0, recorded
under TIME with number 0x001; otherwise TIME_LOST ends (R152, R154, R155). -/
def setRtc (new oldMs : Nat) (oldSec : Nat) (d : Dev) : Dev :=
  let wasLost := timeLost d
  let diff : Int := (new * 1000 : Nat) - (oldMs : Int)
  let off := d.rd CRUST.RTC_CFG.UTC_OFFSET
  let exact := decide (new = oldSec) && d.crust.sub == 0
  let d := { d with crust := { d.crust with sec := new, sub := 0, frac := 0, slew := 0, calEnd := false } }.wr CRUST.RTC_STAT.CAL_RANGE 0
  if wasLost then recomputeAlarms (d.wr CRUST.STATUS.TIME_LOST 0)
  else if exact then d
  else
    let d := record 2 0x001 new (wrapI 32 (clampI (-2147483648) 2147483647 diff)) 0 (d.bump CRUST.RTC_STAT.STEPS)
    -- a backward step within one second leaves the second as it is, and is a backward step all the same (R155)
    if new = oldSec then recomputeAlarms (almBack 1 (almBack 0 d)) else almSteps (oldSec - off) (new - off) d

/-- The oldest pending set takes effect (R152): mode 0 at the next RTC second boundary, mode 1 at the next whole second of service
time, where service time stands (log 20). -/
def execRtcStep (s : State) : Host.Outcome State Fault Refusal :=
  go (fun d =>
    match d.crust.pendingSets with
    | [] => d
    | p :: t =>
      let d : Dev := { d with crust := { d.crust with pendingSets := t } }
      let d :=
        if p.mode = 0 then
          let old := d.crust.sec + (if d.crust.sub = 0 ∧ d.crust.frac = 0 then 0 else 1)
          setRtc p.secs (old * 1000) old { d with crust := { d.crust with sec := old, sub := 0, frac := 0 } }
        else
          let before := svcTotalNs d
          let d := atWholeSecond d
          let rtcNs := d.crust.sec * 1000000000 + d.crust.sub * 30517578125 / 1000000 + (svcTotalNs d - before)
          let d : Dev := { d with crust := { d.crust with sec := rtcNs / 1000000000, sub := rtcNs % 1000000000 * 32768 / 1000000000 } }
          setRtc (svcSec d) (rtcNs / 1000000) d.crust.sec d
      finishWaits (fun w => if w.kind = .other 1 0 ∧ w.hdr = p.hdr then some (stOK, [rtcLoWord d, rtcHiWord d]) else none) d) s

/-- CS slews the RTC towards LOCKED service time, or sets DISC_LIMIT (R152), at a whole second of service time whose count is a multiple of 64: the
clock is carried forward to the next (log 20). -/
def execDiscipline (s : State) : Host.Outcome State Fault Refusal :=
  go (fun d =>
    let d := toSvcNs ((svcTotalNs d + 63999999999) / 64000000000 * 64000000000) d
    if ¬ d.flag CRUST.RTC_CFG.DISC_EN ∨ svcState d ≠ 3 ∨ timeLost d ∨ ¬ d.crust.vaux then d
    else if hundredMs < (rtcOffset d).natAbs then crustEvent 22 (d.wr CRUST.RTC_STAT.DISC_LIMIT 1)
    else { d with crust := { d.crust with slew := rtcOffset d } }) s

/-- The factory curve between its points (R151): 0.01 ppm at a temperature in °C. That an interpolated value is rounded down to 0.01 ppm, and that a
temperature beyond the curve takes its end point, is the model's choice (DESIGN CHOICE, log 96). -/
def crystalAt (t : Int) : Int :=
  let x := (clampI (-45) 125 t + 45).toNat
  let k := min 16 (x / 10)
  let a := Config.crystalCurve k
  let b := Config.crystalCurve (k + 1)
  a + (b - a) * ((x - 10 * k : Nat) : Int) / 10

/-- CS measures the crystal temperature and updates the correction: the curve plus AGING, within ±250 ppm (R151). -/
def execCompStep (temp : Int) (s : State) : Host.Outcome State Fault Refusal :=
  go (fun d =>
    if ¬ d.crust.vaux ∧ ¬ d.crust.vbat then d
    else
      let aging := clampI (-5000) 5000 (sgn 16 (d.rd CRUST.COMP.AGING))
      let corr := clampI (-25000) 25000 (crystalAt temp + aging)
      (d.wr CRUST.RTC_STAT.TEMP (wrapI 8 (clampI (-128) 127 temp))).wr CRUST.COMP.CORR (wrapI 16 corr)) s

/-- The seconds count passes the end of the calendar range (R149). -/
def execCalendarEnd (s : State) : Host.Outcome State Fault Refusal :=
  go (fun d =>
    if timeLost d then d
    else
      let d : Dev := if calLast < rtcUtc d then d else { d with crust := { d.crust with sec := calLast + 1 + d.rd CRUST.RTC_CFG.UTC_OFFSET, sub := 0 } }
      ({ d with crust := { d.crust with calEnd := true } } : Dev).wr CRUST.RTC_STAT.CAL_RANGE 1) s

/-- Reading RTC_LO latches RTC_HI, CAL0 and CAL1 for the port (R150). -/
def execRtcLoRead (p : Fin 2) (s : State) : Host.Outcome State Fault Refusal := go (answerRead p.val 0x500010 4) s

/-! ### Monotonic counters (R161, R166) -/

/-- CNT_INCR. -/
def execCntIncr (h : CmdHdr) (n : Nat) (s : State) : Host.Outcome State Fault Refusal :=
  go (runCmd { unit := 2, op := 0x102, c := true } h fun d =>
    if 15 < n then .done d stBadParam []
    else if n < 4 then .done d stCountReserved []
    else if countLost d then .done d stCountLost []
    else if d.rd (CRUST.CNT.VALUE n) = 0xFFFFFFFF then .done d stCountMax []
    else
      let v := d.rd (CRUST.CNT.VALUE n) + 1
      .done (setCnt n v d) stOK [v]) s

/-! ### Tamper (R158 to R160) -/

/-- EN, ZERO, SAFE and WAKE of input n. -/
def tampEn (n : Nat) : FRef := tampField n 7 7
def tampZero (n : Nat) : FRef := tampField n 3 3
def tampSafe (n : Nat) : FRef := tampField n 2 2
def tampWake (n : Nat) : FRef := tampField n 1 1
/-- The TAMP_CFG byte of input n. -/
def tampByte (v n : Nat) : Nat := v / 2 ^ (8 * n) % 256
/-- The TAMP_CFG word in effect. -/
def tampCfg (d : Dev) : Nat :=
  (List.range 4).foldl (fun acc n => acc + 2 ^ (8 * n) * ([7, 6, 5, 4, 3, 2, 1].foldl (fun (a : Nat) k => a + bitsOf (d.rd (if k = 5 ∨ k = 4 then tampField n 5 4 else tampField n k k)) (if k = 5 then 1 else 0) (if k = 5 then 1 else 0) * 2 ^ k) 0)) 0
/-- Write the TAMP_CFG fields of input n. -/
def setTamp (v n : Nat) (d : Dev) : Dev :=
  let b := tampByte v n
  (((((d.wr (tampEn n) (b / 128)).wr (tampField n 6 6) (b / 64)).wr (tampField n 5 4) (b / 16)).wr (tampZero n) (b / 8)).wr
    (tampSafe n) (b / 4)).wr (tampWake n) (b / 2)

/-- Copy the tamper configuration to eMRAM (R159). -/
def commitTamp (d : Dev) : Dev :=
  let own (k : Nat) : Bool := decide (32 * 0x500080 ≤ k) && decide (k < 32 * 0x500081)
  { d with emram := overlay (keepKeys own d.regs) (keepKeys (fun k => !own k) d.emram) }

/-- TAMPER_CFG (R159): a command that clears EN or ZERO on any input needs a maintenance grant with scope bit 4. -/
def execTamperCfg (h : CmdHdr) (v : Nat) (s : State) : Host.Outcome State Fault Refusal :=
  go (runCmd { unit := 2, op := 0x103, c := true } h fun d =>
    let disarms := (List.range 4).any fun n => (d.flag (tampEn n) && !bitOf v (8 * n + 7)) || (d.flag (tampZero n) && !bitOf v (8 * n + 3))
    let apply := fun (d : Dev) => settleTamp (commitTamp (setTamp v 3 (setTamp v 2 (setTamp v 1 (setTamp v 0 d)))))
    if ¬ disarms then let d := apply d; .done d stOK [tampCfg d]
    else if h.bufs = [] then .done d stAuthFailed [tampCfg d]
    else
      match checkGrant 4 h d with
      | (0, d) => let d := apply d; .done d stOK [tampCfg d]
      | (st, d) => .done d st [tampCfg d]) s

/-- ZERO zeroes the Starter (R158): KEY_LOST with cause 2, and a last-gasp record. -/
def zeroise (n : Nat) (d : Dev) : Dev :=
  let d := (d.wr CRUST.STATUS.KEY_LOST 1).wr CRUST.STATUS.KEY_CAUSE 2
  starterGone (lastGasp 0x016 n 0 (raiseEv 160 0 0 { d with crust := { d.crust with starter := some 0 } }))

/-- A tamper event of input k is accepted (R158, R160): logged, LATCH, the alert, EV18, FD164, and the input's actions. -/
def tamperAccepted (k : Nat) (d : Dev) : Dev :=
  let zero := d.flag (tampZero k)
  let safe := d.flag (tampSafe k) && d.crust.vaux
  let wk := d.flag (tampWake k)
  let secs := if timeLost d then 2 ^ 48 - 1 else d.crust.sec % 2 ^ 48
  let entry := (secs, k + b2n (!d.crust.vaux) * 128, b2n zero + 2 * b2n safe + 4 * b2n wk)
  let full := decide (16 ≤ d.crust.tamperLog.length)
  let log := (if full then d.crust.tamperLog.drop 1 else d.crust.tamperLog) ++ [entry]
  let d : Dev := { d with crust := { d.crust with tamperLog := log }, pins := { d.pins with tampAcc := setBit d.pins.tampAcc k true } }
  let d := d.wr CRUST.TAMP_STAT.LOG_COUNT log.length
  let d := if full then d.wr CRUST.TAMP_STAT.LOG_OVF 1 else d
  let d := (d.wr CRUST.TAMP_STAT.LATCH (setBit (d.rd CRUST.TAMP_STAT.LATCH) k true)).wr CRUST.STATUS.TAMPER 1
  let d := alertSet 0 d
  let d := if zero then zeroise k d else d
  let d := if safe then applySafe 5 d else d
  let d := if wk then wake 4 d else d
  if dieRunning d then raise 164 k (raiseEv 18 0 0 d) else d

/-- The tamper input n has stood at a level for `heldNs` (R158): ACTIVE follows, and an armed input that has been at its active level for its filter
time is accepted, once per activation. -/
def execTamperEvent (n : Fin 4) (level : Bool) (heldNs : Nat) (s : State) : Host.Outcome State Fault Refusal :=
  go (fun d =>
    let k := n.val
    let was := bitOf d.pins.tamper k
    let d := settleTamp { d with pins := { d.pins with tamper := setBit d.pins.tamper k level, tampAcc := if was = level then d.pins.tampAcc else setBit d.pins.tampAcc k false } }
    if ¬ d.flag (tampEn k) ∨ level ≠ d.flag (tampPol k) ∨ heldNs < filtNs (d.rd (tampFilt k)) ∨ bitOf d.pins.tampAcc k ∨
        (¬ d.crust.vaux ∧ ¬ d.crust.vbat) then d
    else tamperAccepted k d) s

/-! ### Crust port (R163, R164, R583) -/

/-- A Crust port read answers while VAUX33 is present. -/
def crpAnswer (bytes : Dev → List Byte) (d : Dev) : Dev :=
  if d.crust.vaux then { d with crust := { d.crust with answer := bytes d, acked := true } } else { d with crust := { d.crust with answer := [], acked := false } }

/-- The bytes of CRUST.STATUS and of CNT[0] to CNT[15]. -/
def crpStatus (d : Dev) : List Byte := toBytes 4 (liveWord 0 0x500000 d)
def crpCounters (d : Dev) : List Byte := (List.range 16).flatMap fun n => toBytes 4 (d.rd (CRUST.CNT.VALUE n))
/-- Code 0x01: CRUST.STATUS. -/
def execCrpReadStatus (s : State) : Host.Outcome State Fault Refusal := go (crpAnswer crpStatus) s
/-- Code 0x02: RTC_LO and RTC_HI of one instant. -/
def execCrpReadRtc (s : State) : Host.Outcome State Fault Refusal := go (crpAnswer fun d => toBytes 4 (rtcLoWord d) ++ toBytes 4 (rtcHiWord d)) s
/-- Code 0x03: TAMP_STAT. -/
def execCrpReadTampStat (s : State) : Host.Outcome State Fault Refusal := go (crpAnswer fun d => toBytes 4 (liveWord 0 0x500084 d)) s
/-- The tamper log's 128 bytes (R160). -/
def tamperLogBytes (d : Dev) : List Byte := padTo 128 (d.crust.tamperLog.flatMap fun e => toBytes 6 e.1 ++ toBytes 1 e.2.1 ++ toBytes 1 e.2.2)
/-- Code 0x04: the tamper log. -/
def execCrpReadTamperLog (s : State) : Host.Outcome State Fault Refusal := go (crpAnswer tamperLogBytes) s
/-- Code 0x05: CNT[0] to CNT[15]. -/
def execCrpReadCounters (s : State) : Host.Outcome State Fault Refusal := go (crpAnswer crpCounters) s
/-- Code 0x06: the device identity. -/
def execCrpReadIdentity (s : State) : Host.Outcome State Fault Refusal := go (crpAnswer deviceId) s
/-- The bytes that the port answers a Block Read of a command code with (R164): 0x10 to 0x17 are last-gasp record 0 to 7; none for a code that the table
does not list as a read. -/
def crpRead (code : Nat) (d : Dev) : Option (List Byte) :=
  match code with
  | 0x01 => some (crpStatus d)
  | 0x02 => some (toBytes 4 (rtcLoWord d) ++ toBytes 4 (rtcHiWord d))
  | 0x03 => some (toBytes 4 (liveWord 0 0x500084 d))
  | 0x04 => some (tamperLogBytes d)
  | 0x05 => some (crpCounters d)
  | 0x06 => some (deviceId d)
  | c => if 0x10 ≤ c ∧ c ≤ 0x17 then some (padTo 32 (((lgImage d).drop (32 * (c - 0x10))).take 32)) else none
/-- Codes 0x10 to 0x17: a last-gasp record. The row also presents the port a command code that R164 does not list, which is not acknowledged. -/
def execCrpReadLastGasp (code : Fin 256) (s : State) : Host.Outcome State Fault Refusal :=
  go (fun d => match crpRead code.val d with
    | some bs => crpAnswer (fun _ => bs) d
    | none => { d with crust := { d.crust with answer := [], acked := false } }) s

/-- Send Byte 0x20, WAKE: with a valid PEC it is a wake source when PORT_WAKE is 1 (R157, R163). -/
def execCrpWake (pecOk : Bool) (s : State) : Host.Outcome State Fault Refusal :=
  go (fun d =>
    let d : Dev := { d with crust := { d.crust with answer := [], acked := d.crust.vaux } }
    if d.crust.vaux ∧ pecOk ∧ d.flag CRUST.RTC_CFG.PORT_WAKE then wake 5 d else d) s

/-- Send Byte 0x21, ALERT_CLR: CRP_ALERT_N is released (R163). -/
def execAlertClr (pecOk : Bool) (s : State) : Host.Outcome State Fault Refusal :=
  go (fun d =>
    let d : Dev := { d with crust := { d.crust with answer := [], acked := d.crust.vaux } }
    if d.crust.vaux ∧ pecOk then { d with crust := { d.crust with alert := 0 } } else d) s

/-- The Alert Response Address: the port answers with its address while it asserts CRP_ALERT_N (R163, SMBus). -/
def execAlertResponse (s : State) : Host.Outcome State Fault Refusal :=
  go (fun d =>
    if d.crust.vaux ∧ d.crust.alert ≠ 0 then { d with crust := { d.crust with answer := toBytes 1 (0x5A * 2), acked := true } }
    else { d with crust := { d.crust with answer := [], acked := false } }) s

/-- SCL held low for 25 ms to 35 ms resets the interface (R583). -/
def execSmbusTimeout (s : State) : Host.Outcome State Fault Refusal :=
  go (fun d => { d with crust := { d.crust with smbusBusy := false, answer := [], acked := false } }) s

end Sys2Proof.Machine
end

