-- ==== Sys2Proof/Machine/CanRows.lean ====
section
/-! DEFINITION. The commands and events of the CAN FD field channels (spec/08). -/
namespace Sys2Proof.Machine
open Sys2Proof

/-- Channel status codes of the FIELD unit (R226). -/
abbrev stChanOff : Nat := 0x0301
abbrev stObjOwned : Nat := 0x0302
abbrev stObjDir : Nat := 0x0303
abbrev stTxPending : Nat := 0x0304
abbrev stNotFd : Nat := 0x0305
abbrev stCfgInvalid : Nat := 0x0306

/-- A channel is OFF or STOPPING (R226). -/
def chanOff (d : Dev) (n : Nat) : Bool := canState d n == 0 || canState d n == 4
/-- An object belongs to the bus engine (R206). -/
def objOwned (d : Dev) (n k : Nat) : Bool := d.flag (CAN.OBJ.CFG.OWNER n k)

/-! ### Ring commands (R223, R224) -/

/-- CAN_POWER (R201, R202, R217, R218, R224): off and on set EN, commit it, and complete as ISLAND_POWER does; sleep completes on entry;
wake acts at once. -/
def execCanPower (h : CmdHdr) (ch action : Nat) (s : State) : Host.Outcome State Fault Refusal :=
  go (runCmd { unit := 3, op := 1, c := true, isl := [11] } h fun d =>
    if 15 < ch ∨ 3 < action then .done d stBadParam []
    else if action = 1 ∧ badFunc d (115 + ch) then .done d stRefused [canStatWord d ch]
    else if action = 1 then
      let d := commitField (CAN.CTRL.EN ch) (canRequest ch true d)
      if canState d ch = 0 ∧ d.flag (CAN.STAT.CFG_ERR ch) ∧ ¬ d.flag (CAN.STAT.PENDING_REARM ch) then .done d stCfgInvalid [canStatWord d ch]
      else if canState d ch = 1 then .later d (.can ch true) []
      else .done d stOK [canStatWord d ch]
    else if action = 0 then
      let d := commitField (CAN.CTRL.EN ch) (canRequest ch false d)
      if canState d ch = 4 then .later d (.can ch false) [] else .done d stOK [canStatWord d ch]
    else if action = 2 then
      if canState d ch = 3 ∨ canState d ch = 4 then .done d stOK [canStatWord d ch]
      else if canState d ch ≠ 2 then .done d stWrongState []
      else .later (setCan ch { canSt d ch with sleepReq := true, haltAt := if (canSt d ch).sleepReq then (canSt d ch).haltAt else d.up } d) (canSleepTag ch) []
    else
      let d := if canState d ch = 3 then canWakeUp ch d else d
      .done d stOK [canStatWord d ch]) s

/-- What CAN_TX does where its conditions hold (R212, R224). -/
def canTxEffect (h : CmdHdr) (ch obj dlc flags : Nat) (inline : List Byte) (d : Dev) : CmdOut :=
  let dl := dlc % 16
  let fdf := d.flag (CAN.OBJ.CFG.FDF ch obj)
  let n := dlcBytes fdf dl
  let bytes := if h.bufs = [] then (inline ++ List.replicate 40 0).take n else inBuf h d
  let d := setPending ch obj ((objPutData ch obj bytes d).wr (CAN.OBJ.STAT.DLC ch obj) dl)
  if bitOf flags 0 then .later d (canTxTag ch obj) [] else .done d stOK [5, 0, objStatWord d ch obj]

/-- CAN_TX (R212, R224): set TXREQ on a host-owned transmit object; with WAIT the command completes at the outcome. -/
def execCanTx (h : CmdHdr) (ch obj dlc flags : Nat) (inline : List Byte) (s : State) : Host.Outcome State Fault Refusal :=
  go (runCmd { unit := 3, op := 2, isl := [11] } h fun d =>
    let dl := dlc % 16
    if 15 < ch ∨ 127 < obj then .done d stBadParam []
    else if chanOff d ch then .done d stChanOff []
    else if objOwned d ch obj then .done d stObjOwned []
    else if ¬ isTxObj d ch obj then .done d stObjDir []
    else if d.flag (CAN.OBJ.STAT.TXREQ ch obj) then .done d stTxPending []
    else
      let fdf := d.flag (CAN.OBJ.CFG.FDF ch obj)
      let n := dlcBytes fdf dl
      if fdf ∧ (¬ d.flag (CAN.CTRL.FD_EN ch) ∨ d.flag (CAN.OBJ.CFG.RTR ch obj)) then .done d stNotFd []
      else if (h.bufs = [] ∧ 40 < n) ∨ (h.bufs ≠ [] ∧ ¬ sendOk h n) then .done d stBadBuffer []
      else
        canTxEffect h ch obj dlc flags inline d) s

/-- The object whose frame, begun at device time t, is on the bus: the one a cancel is latched on, else the one offered then (R207, R213). -/
def canOnBus (d : Dev) (n t : Nat) : Option Nat :=
  match (canSt d n).cancels with
  | k :: _ => some k
  | [] => canOffered d n t

/-- The first device time at which a start of frame can have taken object k: it was pending, the frame before had ended, and a forced bus monitoring was
over (R207, R220). -/
def firstSof (d : Dev) (n k : Nat) : Nat :=
  d.gate.spans.foldl (fun t e => if e.1 ≤ t ∧ t < e.2 then e.2 else t) (max (lookD (canSt d n).reqAt k 0) (canSt d n).busAt)

/-- Object k's frame can be the one on the bus now (R207, R213): a start of frame since the last frame's end took it, or a cancel is latched on it. Objects
that became pending later do not change a choice that was made. -/
def canDrives (d : Dev) (n k : Nat) : Bool :=
  if (canSt d n).cancels = [] then canOffered d n (firstSof d n k) == some k else (canSt d n).cancels.contains k

/-- The frame on the bus has ended, however (R207). -/
def busEnded (n : Nat) (d : Dev) : Dev := setCan n { canSt d n with busAt := d.up } d

/-- CAN_CANCEL (R213). `phase` says where the object's frame stands when the cancel is latched: 0 before SOF, 1 in arbitration, 2 after it
is won; only the object on the bus can be past SOF. -/
def execCanCancel (h : CmdHdr) (ch obj : Nat) (phase : Fin 3) (s : State) : Host.Outcome State Fault Refusal :=
  go (runCmd { unit := 3, op := 3, isl := [11] } h fun d =>
    if 15 < ch ∨ 127 < obj then .done d stBadParam []
    else if objOwned d ch obj then .done d stObjOwned []
    else if ¬ d.flag (CAN.OBJ.STAT.TXREQ ch obj) then .done d stOK [6, 0]
    else if phase.val ≠ 0 ∧ canDrives d ch obj then
      .later (setCan ch { canSt d ch with cancels := [obj] } d) (canCancelTag ch obj) []
    else .done (txDone ch obj d.up 2 false d) stOK [2, 0]) s

/-- The receive record of an object (R224). -/
def objRecord (d : Dev) (n k : Nat) : List Byte :=
  rxRecord k (d.rd (CAN.OBJ.STAT.RX_FDF n k) + 2 * d.rd (CAN.OBJ.STAT.RX_BRS n k) + 4 * d.rd (CAN.OBJ.STAT.RX_ESI n k) + 8 * d.rd (CAN.OBJ.STAT.RX_IDE n k) +
      16 * d.rd (CAN.OBJ.STAT.RX_RTR n k) + 32 * d.rd (CAN.OBJ.STAT.MSGLOST n k))
    (d.rd (CAN.OBJ.STAT.DLC n k)) (d.rd (CAN.OBJ.RXID n k)) (d.rd (CAN.OBJ.STAMP n k)) (objData d n k)

/-- CAN_RX_READ (R209, R224): the new frames of a range of objects, whose NEWDAT clears. A range that takes in an object of the bus engine
names it (R206; DEDUCED, log 22). -/
def execCanRxRead (h : CmdHdr) (ch first count : Nat) (s : State) : Host.Outcome State Fault Refusal :=
  go (runCmd { unit := 3, op := 4, isl := [11], kw := true } h fun d =>
    if 15 < ch ∨ 127 < first ∨ count < 1 ∨ 128 < count then .done d stBadParam []
    else
      let range := (List.range 128).filter fun k => first ≤ k && k < first + count
      if range.any (objOwned d ch) then .done d stObjOwned []
      else if ¬ recvOk h (80 * count) then .done d stBadBuffer []
      else
        let new := range.filter fun k => d.flag (CAN.OBJ.STAT.NEWDAT ch k)
        let d := outBuf h (new.flatMap (objRecord d ch)) d
        .done (new.foldl (fun (d : Dev) k => d.wr (CAN.OBJ.STAT.NEWDAT ch k) 0) d) stOK [new.length]) s

/-- CAN_HPB_READ (R210, R224): take the frames of the high-priority buffer. -/
def execCanHpbRead (h : CmdHdr) (ch : Nat) (s : State) : Host.Outcome State Fault Refusal :=
  go (runCmd { unit := 3, op := 5, isl := [11], kw := true } h fun d =>
    if 15 < ch then .done d stBadParam []
    else if ¬ recvOk h 320 then .done d stBadBuffer []
    else
      let l := (canSt d ch).hpb
      let d := outBuf h (l.flatMap hpbRecord) d
      .done ((setCan ch { canSt d ch with hpb := [] } d).wr (CAN.HPB_STAT.LEVEL ch) 0) stOK [l.length]) s

/-- CAN_RESUME (R216, R224): resume every suspended object; LONELY stays set. -/
def execCanResume (h : CmdHdr) (ch : Nat) (s : State) : Host.Outcome State Fault Refusal :=
  go (runCmd { unit := 3, op := 6, isl := [11] } h fun d =>
    if 15 < ch then .done d stBadParam []
    else
      let l := (List.range 128).filter fun k => d.flag (CAN.OBJ.STAT.SUSPENDED ch k)
      .done ((resumeAll ch d).wr (CAN.CNT.ACK_RUN ch) 0) stOK [l.length]) s

/-- CAN_BO_RECOVER (R215, R224). -/
def execCanBoRecover (h : CmdHdr) (ch : Nat) (s : State) : Host.Outcome State Fault Refusal :=
  go (runCmd { unit := 3, op := 7, isl := [11] } h fun d =>
    if 15 < ch then .done d stBadParam []
    else if ¬ d.flag (CAN.STAT.BO_WAIT ch) then .done d stWrongState []
    else
      let d := d.wr (CAN.STAT.BO_WAIT ch) 0
      .done d stOK [canStatWord d ch]) s

/-! ### States (R200 to R203, R215, R217, R218) -/

/-- What a change of EN of channel n does (R201). -/
def canEnEffect (n : Nat) (was : Bool) (d : Dev) : Dev :=
  if d.flag (CAN.CTRL.EN n) = was then d else canRequest n (d.flag (CAN.CTRL.EN n)) d

/-- A write of CAN[n].CTRL with its EN bit (R7, R201). -/
def execCanEnWrite (p : Fin 2) (n : Fin 16) (v : Nat) (s : State) : Host.Outcome State Fault Refusal :=
  go (guardWrite p.val (0x800000 + 0x10000 * n.val) fun d =>
    let was := d.flag (CAN.CTRL.EN n.val)
    let (d', refused) := writeFields false (0x800000 + 0x10000 * n.val) v d
    canEnEffect n.val was (if refused then ignoreWrite p.val (0x800000 + 0x10000 * n.val) d' else d')) s

/-- Integration ends (R200, R201): ACTIVE, and the commands waiting for the start complete. -/
def execCanStartEnd (n : Fin 16) (s : State) : Host.Outcome State Fault Refusal :=
  go (fun d =>
    if canState d n.val ≠ 1 then d
    else
      let d := d.wr (CAN.STAT.CSTATE n.val) 2
      finishKindWith (.can n.val true) stOK [canStatWord d n.val] d) s

/-- The frame on the bus has ended and STOPPING ends (R202). -/
def execCanStopEnd (n : Fin 16) (s : State) : Host.Outcome State Fault Refusal :=
  go (fun d => if canState d n.val = 4 then canStopped n.val d else d) s

/-- 2 ms after the stop began the channel's own transmission has not ended (R202): CAN_TXD is released, and its object is flushed as all pending ones are. -/
def execCanStopTimeout (n : Fin 16) (s : State) : Host.Outcome State Fault Refusal :=
  go (fun d =>
    if canState d n.val ≠ 4 then d
    else canStopped n.val d) s

/-- The 100 µs minimum off time ends (R202): a latched enable starts the channel. -/
def execCanMinoffEnd (n : Fin 16) (s : State) : Host.Outcome State Fault Refusal :=
  go (fun d =>
    let d := d.wr (CAN.STAT.MINOFF n.val) 0
    if canState d n.val = 0 ∧ d.flag (CAN.STAT.PENDING_REARM n.val) ∧ islandOn d 11 then canBegin n.val d else d) s

/-- CAN_CLK has been valid for 1 ms (R75, R203): every enabled channel starts. -/
def execCanClkRecovery (s : State) : Host.Outcome State Fault Refusal :=
  go (fun d =>
    let d := canClockBack (d.wr PWR.CLK_STAT.PRESENT (setBit (d.rd PWR.CLK_STAT.PRESENT) 4 true))
    if islandOn d 11 then canStartEnabled d else d) s

/-- Bus-off recovery ends (R215): ACTIVE with TEC and REC at 0. -/
def execBusoffRecoveryEnd (n : Fin 16) (s : State) : Host.Outcome State Fault Refusal :=
  go (fun d =>
    if canState d n.val ≠ 5 ∨ d.flag (CAN.STAT.BO_WAIT n.val) then d
    else
      let d := ((d.wr (CAN.ERR.TEC n.val) 0).wr (CAN.ERR.REC n.val) 0).wr (CAN.STAT.ESTATE n.val) 0
      setEvt n.val 5 (d.wr (CAN.STAT.CSTATE n.val) 2)) s

/-- Bus idle after an accepted sleep request (R217). -/
def execSleepEntry (n : Fin 16) (s : State) : Host.Outcome State Fault Refusal :=
  go (fun d =>
    if canState d n.val ≠ 2 ∨ ¬ (canSt d n.val).sleepReq then d
    else
      let d := setCan n.val { canSt d n.val with sleepReq := false } (d.wr (CAN.STAT.CSTATE n.val) 3)
      finishKindWith (canSleepTag n.val) stOK [canStatWord d n.val] d) s

/-- CAN_RXD has been low for WAKE_FILT (R218): in SLEEP with WAKE_MODE 1 the channel wakes. -/
def execCanWake (n : Fin 16) (s : State) : Host.Outcome State Fault Refusal :=
  go (fun d => if canState d n.val = 3 ∧ d.rd (CAN.CTRL.WAKE_MODE n.val) = 1 then canWakeUp n.val d else d) s

/-! ### Frames and errors (R199, R205, R208, R212 to R216, R218 to R220) -/

/-- In PROOF and RACK a channel checks and discards what it receives (R219). -/
def canServes (d : Dev) : Bool := opState d == 3 || opState d == 4

/-- A protocol exception of channel n (R199): counted, with its event. -/
def protocolException (n : Nat) (d : Dev) : Dev := setEvt n 11 (d.bump (CAN.CNT.PEXC n))

/-- A frame is received without error on channel n, the sample point of whose SOF bit lay `age` ns ago (R208, R211, R216, R218 to R220): in ACTIVE, or as
the frame that ends in STOPPING, it is tested, and the bus engine takes what its objects store (R236); in SLEEP with WAKE_MODE 2 a wake frame wakes the
channel. A frame in FD format with FD_EN at 0 is a protocol exception (R199). -/
def canFrameIn (n : Nat) (f : CanFrame) (age : Nat) (d : Dev) : Dev :=
  let t := d.up - age
  let d := busEnded n d
  if ¬ islandOn d 11 ∨ ¬ canServes d then d
  else if f.fdf ∧ ¬ d.flag (CAN.CTRL.FD_EN n) then (if canState d n = 2 ∨ canState d n = 4 then protocolException n d else d)
  else if canState d n = 3 ∧ d.rd (CAN.CTRL.WAKE_MODE n) = 2 then
    if d.flag (CAN.WAKE_ID.IDE n) = f.ide ∧ idMatches (d.rd (CAN.WAKE_ID.ID n)) (d.rd (CAN.WAKE_MASK.MASK n)) f.id f.ide then canWakeUp n (hpbPut n 8 t f d).1 else d
  else if canState d n = 2 ∨ canState d n = 4 then engServe n (rxTest n t f (recDown n d))
  else d

/-- CAN_FRAME_RX. -/
def execCanFrameRx (n : Fin 16) (f : CanFrame) (age : Nat) (s : State) : Host.Outcome State Fault Refusal := go (canFrameIn n.val f age) s

/-- The acknowledgement error of an own transmission (R216): ACK_RUN, LONELY, and suspension under LONELY_ACT. -/
def ackError (n k : Nat) (d : Dev) : Dev :=
  let d := d.bump (CAN.CNT.ACK_RUN n)
  let d := if max 1 (d.rd (CAN.CTRL.LONELY_N n)) ≤ d.rd (CAN.CNT.ACK_RUN n) ∧ ¬ d.flag (CAN.STAT.LONELY n) then setEvt n 6 (d.wr (CAN.STAT.LONELY n) 1) else d
  if d.flag (CAN.STAT.LONELY n) ∧ d.flag (CAN.CTRL.LONELY_ACT n) ∧ d.flag (CAN.OBJ.STAT.TXREQ n k) then d.wr (CAN.OBJ.STAT.SUSPENDED n k) 1 else d

/-- TEC rises by 8 as often (R214). -/
def tecMore (n : Nat) : Nat → Dev → Dev
  | 0, d => d
  | k + 1, d => tecMore n k (tecUp n d)

/-- Object k's own frame, begun at device time t, succeeded (R208, R212 to R214, R216). The frame is the one sent, with the ESI of its start. -/
def txSuccess (n k t more : Nat) (d : Dev) : Dev :=
  let f := objFrame d n k
  let d := settleEstate n (notLonely n (d.wr (CAN.ERR.TEC n) (d.rd (CAN.ERR.TEC n) - 1)))
  let late := (canSt d n).cancels.contains k
  let d := if late then d.wr (CAN.OBJ.STAT.CXL_LATE n k) 1 else d
  let d := tecMore n (min more 32) (txDone n k t (b2n late) true d)
  if canMode d n = 2 then engServe n (rxTest n t f d) else d

/-- Object k's own frame ended with an error (R212 to R216): the code in LEC or DLEC, TEC by 8, the end of a one-shot or cancelled object. TEC stays
as it is at an acknowledgement error of a passive node, and at a stuff error in the arbitration field, where the transmitter sent a recessive stuff bit
and saw it dominant: the two exceptions of the standard (R214). -/
def txError (n k t code : Nat) (place : CanPlace) (more : Nat) (d : Dev) : Dev :=
  let arb : Bool := place == .arb
  let passive := d.rd (CAN.STAT.ESTATE n) == 1
  let d := if place = .data then d.wr (CAN.ERR.DLEC n) code else d.wr (CAN.ERR.LEC n) code
  let d :=
    if (canSt d n).cancels.contains k then
      (if arb then txDone n k t 2 false d else txDone n k t 3 false (d.wr (CAN.OBJ.STAT.CXL_LATE n k) 1))
    else if d.flag (CAN.OBJ.CFG.ONE_SHOT n k) then txDone n k t 4 false d
    else d
  let d := if code = 3 then ackError n k d else d.wr (CAN.CNT.ACK_RUN n) 0
  tecMore n (min more 32) (if (code = 3 ∧ passive) ∨ (code = 1 ∧ arb) then d else tecUp n d)

/-- The end in effect (R205): TDC measures the delay of a frame with BRS that gets past its FDF-to-res edge, and one that reaches its data phase with a
secondary sample point beyond 255 cycles ends with a bit error there, of code 4 or 5 as the bit has it (a free value; log 1). TDCV holds at most 255 (DESIGN CHOICE, log
89: the field has eight bits). -/
def tdcEnd (n k tdcv : Nat) (r : CanEnd) (d : Dev) : CanEnd × Dev :=
  let early : Bool := match r with
    | .lostArb => true
    | .error _ place _ => place == .arb || place == .early
    | .success _ => false
  let noData : Bool := match r with
    | .error _ place _ => place == .edge
    | _ => false
  if ¬ ((objFrame d n k).brs ∧ d.flag (CAN.CTRL.TDC_EN n)) ∨ early then (r, d)
  else
    let d := d.wr (CAN.TDC.TDCV n) (min 255 tdcv)
    if ¬ noData ∧ 255 < tdcv + d.rd (CAN.DBT.TDCO n) then
      let (v, d) := takeFree 1 d
      (.error ⟨4 + v % 2, by omega⟩ .data 0, d)
    else (r, d)

/-- What CAN_TX_END does where its conditions hold (R205, R207, R212, R216, R220). -/
def canTxEndEffect (n : Fin 16) (r : CanEnd) (tdcv age : Nat) (d : Dev) : Dev :=
  let m := n.val
  let t := d.up - age
  match canOnBus d m t with
  | none => d
  | some k =>
    match tdcEnd m k tdcv r d with
    | (.success more, d) => txSuccess m k t more d
    | (.lostArb, d) =>
      if (canSt d m).cancels.contains k then txDone m k t 2 false d
      else if d.flag (CAN.OBJ.CFG.ONE_SHOT m k) then txDone m k t 4 false d
      else d
    | (.error code place more, d) =>
      if code.val = 0 then d else txError m k t code.val (if place = .data ∧ ¬ (objFrame d m k).brs then .early else place) more d

/-- The transmission attempt ends whose frame's SOF bit had its sample point `age` ns ago: the object offered at that start of frame was on the bus
(R205, R207, R211 to R216, R220). -/
def execCanTxEnd (n : Fin 16) (r : CanEnd) (tdcv age : Nat) (s : State) : Host.Outcome State Fault Refusal :=
  go (fun d =>
    let m := n.val
    if ¬ islandOn d 11 ∨ ¬ canServes d ∨ ¬ (canState d m = 2 ∨ canState d m = 4) ∨ canMode d m = 1 then d
    else
      busEnded m (canTxEndEffect n r tdcv age d)) s

/-- A protocol exception (R199): handling is always on, in the frame that ends in STOPPING too. -/
def execProtocolException (n : Fin 16) (s : State) : Host.Outcome State Fault Refusal :=
  go (fun d => if islandOn d 11 ∧ (canState d n.val = 2 ∨ canState d n.val = 4) then protocolException n.val (busEnded n.val d) else d) s

/-- An error in a frame being received (R214): REC by 1, or by 8 where the standard says so; LEC or DLEC. -/
def execCanRxError (n : Fin 16) (code : Fin 7) (dataPhase plus8 : Bool) (s : State) : Host.Outcome State Fault Refusal :=
  go (fun d =>
    let m := n.val
    if ¬ islandOn d 11 ∨ ¬ (canState d m = 2 ∨ canState d m = 4) ∨ code.val = 0 then d
    else
      let d := busEnded m d
      let d := if dataPhase then d.wr (CAN.ERR.DLEC m) code.val else d.wr (CAN.ERR.LEC m) code.val
      settleEstate m (d.wr (CAN.ERR.REC m) (min 255 (d.rd (CAN.ERR.REC m) + if plus8 then 8 else 1)))) s

end Sys2Proof.Machine
end

