-- ==== Sys2Proof/Machine/PioRows.lean ====
section
/-! DEFINITION. The commands and events of process inputs and outputs (spec/10). -/
namespace Sys2Proof.Machine
open Sys2Proof

/-! ### Ring commands (R278) -/

/-- An injection of `need` ps can run on SAR k now (R256). -/
def injectOk (k need : Nat) (d : Dev) : Bool :=
  let st := sarState d k
  if st = 1 then
    let room (q : Nat) : Bool := sarFor d q != some k || decide (1000 * svcTotalNs d + need + 1000000 ≤ 1000 * (tickNs * nextDue d q))
    decide ((sarSt d k).conv ≤ d.up) && room 0 && room 1
  else st == 0 || st == 2

/-- What ADC_INJECT does where its conditions hold (R256). -/
def adcInjectEffect (sar cfg tim gain ofs param : Nat) (codes refs : List Int) (d : Dev) : CmdOut :=
  let e := entryCfg cfg tim
  let r := convert sar e gain ofs param codes refs (1000 * d.up) d
  let d := setSar sar { sarSt d sar with conv := (r.fin + 999) / 1000, ovrEnd := r.ovrEnd } d
  let d := if r.ovr then d.bump (PIO.SAR.CNT.OVR_CNT sar) else d
  let d := if r.taint then d.bump (PIO.SAR.CNT.TAINT_CNT sar) else d
  .done d stOK [resultStat r false false, r.value, svcAt d r.first / 1000 % 2 ^ 32]

/-- ADC_INJECT: one conversion outside the sequence, or dropped with EV83 (R256); dropped too while ADC_CLK is absent (R75). -/
def execAdcInject (h : CmdHdr) (sar cfg tim gain ofs param : Nat) (codes refs : List Int) (s : State) : Host.Outcome State Fault Refusal :=
  go (runCmd { unit := 5, op := 1, isl := [9] } h fun d =>
    if 1 < sar then .done d stBadParam []
    else
      let e := entryCfg cfg tim
      if ¬ sarsCan d ∨ ¬ injectOk sar e.time d then .done (raiseEv 83 sar 0 (d.bump (PIO.SAR.CNT.INJ_DROP sar))) 0x0501 []
      else
        adcInjectEffect sar cfg tim gain ofs param codes refs d) s

/-- What ADC_CAL does where its conditions hold (R265, R267). -/
def adcCalEffect (sar entry action ref : Nat) (d : Dev) : CmdOut :=
  match action, calSess d sar entry with
  | 1, none =>
    let d := (setCal sar entry { opened := d.up } d).wr (PIO.RESULT.STAT.CAL sar entry) 1
    .done (if d.flag (PIO.RESULT.STAT.STALE sar entry) then d else handWordAt 0 (entKey sar entry) (entSt d sar entry).clean 2 d) stOK [0, 0, 0]
  | 2, some c => if c.step = 1 then .later (setCal sar entry { c with step := 2, left := 64, sum := some 0, ref := ref } d) (.adcCal (entKey sar entry)) [] else .done d 0x0504 []
  | 3, some c => if c.step = 3 then .later (setCal sar entry { c with step := 4, left := 64, sum := some 0, ref := ref } d) (.adcCal (entKey sar entry)) [] else .done d 0x0504 []
  | 4, some c =>
    if c.step = 5 then
      let d := (d.wr (PIO.ENTRY.GAIN sar entry) c.gain).wr (PIO.ENTRY.OFS sar entry) c.ofs
      .done (closeCal sar entry (commitField (PIO.ENTRY.GAIN sar entry) (commitField (PIO.ENTRY.OFS sar entry) d))) stOK [0, 0, 0]
    else .done d 0x0504 []
  | 5, some _ => .done (abandonCal sar entry d) stOK [0, 0, 0]
  | _, _ => .done d 0x0504 []

/-- ADC_CAL: the actions of a system calibration (R265 to R267). -/
def execAdcCal (h : CmdHdr) (sar entry action ref : Nat) (s : State) : Host.Outcome State Fault Refusal :=
  go (runCmd { unit := 5, op := 2, c := true, isl := [9] } h fun d =>
    if 1 < sar ∨ 255 < entry ∨ action = 0 ∨ 5 < action then .done d stBadParam []
    else if ¬ d.flag (PIO.ENTRY.CFG.USE sar entry) ∨ (entryOf d sar entry).kind = 4 then .done d 0x0505 []
    else
      adcCalEffect sar entry action ref d) s

/-- SAR_SERVICE: take a SAR out or return it (R268, R269). -/
def execSarService (h : CmdHdr) (sar action : Nat) (s : State) : Host.Outcome State Fault Refusal :=
  go (runCmd { unit := 5, op := 3, c := true, isl := [9] } h fun d =>
    if 1 < sar ∨ 1 < action then .done d stBadParam []
    else if action = 0 then
      if (sarSt d sar).out then .done d stOK [sarStatWord d sar]
      else if (sarSt d (1 - sar)).out ∨ sarState d (1 - sar) ≠ 1 ∨ (sarSt d (1 - sar)).stopping then .done d 0x0502 [sarStatWord d sar]
      else let d := sarTakeOut sar false d; .done d stOK [sarStatWord d sar]
    else if ¬ (sarSt d sar).out then .done d stOK [sarStatWord d sar]
    else if (sarSt d sar).failed then .done d stRefused [sarStatWord d sar]
    else if sarState d sar = 3 then .later d (.sar sar true) []
    else let d := sarReturn sar d; .done d stOK [sarStatWord d sar]) s

/-- DAC_CAL: GAIN and OFS together, from the next drive (R271). -/
def execDacCal (h : CmdHdr) (n gain ofs : Nat) (s : State) : Host.Outcome State Fault Refusal :=
  go (runCmd { unit := 5, op := 4, c := true, isl := [9] } h fun d =>
    if 31 < n then .done d stBadParam [] else .done ((d.wr (PIO.DAC.GAIN n) gain).wr (PIO.DAC.OFS n) ofs) stOK []) s

/-- PIN_LOAD: a count that takes effect at the next base tick (R275). -/
def execPinLoad (h : CmdHdr) (n count : Nat) (s : State) : Host.Outcome State Fault Refusal :=
  go (runCmd { unit := 5, op := 5, c := true, isl := [9] } h fun d =>
    if 63 < n then .done d stBadParam []
    else .done { d with pio := { d.pio with loads := ins n (count % 2 ^ 32) d.pio.loads } } stOK [d.rd (PIO.PIN.COUNT n)]) s

/-! ### Registers -/

/-- What a change of CTRL of SAR k does (R255): EN switches it; one held back by its period starts once the period is right. -/
def sarCtrlEffect (k : Nat) (was : Bool) (d : Dev) : Dev :=
  let en := d.flag (PIO.SAR.CTRL.EN k)
  if en ≠ was then sarRequest k en d
  else if en ∧ d.flag (PIO.SAR.STAT.CFG_ERR k) then sarStart k d else d

/-- A write of PIO.SAR[k].CTRL with its EN bit (R7, R255). -/
def execSarEnWrite (p : Fin 2) (k : Fin 2) (v : Nat) (s : State) : Host.Outcome State Fault Refusal :=
  go (guardWrite p.val (0xC00000 + 0x40 * k.val) fun d =>
    let was := d.flag (PIO.SAR.CTRL.EN k.val)
    let (d', refused) := writeFields false (0xC00000 + 0x40 * k.val) v d
    sarCtrlEffect k.val was (if refused then ignoreWrite p.val (0xC00000 + 0x40 * k.val) d' else d')) s

/-! ### Passes (R252, R254, R257 to R263) -/

/-- The entries of a pass in order with their codes: each is converted, its result comes when the entry ends, and the next one follows. -/
def passEntries (k conv passNo : Nat) : List (Nat × List Int × List Int) → Nat → Dev → Nat × Dev
  | [], t, d => (t, d)
  | (e, codes, refs) :: rest, t, d =>
    let r := convert conv (entryOf d k e) (d.rd (PIO.ENTRY.GAIN k e)) (d.rd (PIO.ENTRY.OFS k e)) (d.rd (PIO.ENTRY.PARAM k e)) codes refs t d
    let fin := r.fin / 1000
    let x : SarRes := { k := k, e := e, pass := passNo, half := halfRate d, mean := r.mean, value := r.value, raw := r.raw, ovr := r.ovr, taint := r.taint, wire := r.wire,
                        stamp := svcAt d r.first, fin := fin, tick := effTick (20000 + (fin - d.up)) d }
    let d := setSar conv { sarSt d conv with ovrEnd := r.ovrEnd } d
    passEntries k conv passNo rest r.fin { d with pio := { d.pio with due := addDue x d.pio.due } }

/-- The entries of sequence k whose turn pass `n` is (R252). -/
def dueEntries (d : Dev) (k n : Nat) : List Nat :=
  (List.range 256).filter fun e => d.flag (PIO.ENTRY.CFG.USE k e) && n % (d.rd (PIO.ENTRY.TIM.DIV k e) + 1) == 0

/-- What SAR_PASS does where its conditions hold (R252, R254, R268). -/
def sarPassEffect (k : Fin 2) (convs : List (List Int × List Int)) (conv : Nat) (d : Dev) : Dev :=
  let n := nextDue d k.val
  let d := toSvcNs (tickNs * n) d
  let x := sarSt d k.val
  let d := setSar k.val { x with last := some n } d
  if d.up < x.seq then raiseEv 80 k.val 0 (d.bump (PIO.SAR.CNT.SKIPS k.val))
  else
    let start := max d.up (sarSt d conv).conv
    let no := passNumber d k.val n
    let es := dueEntries d k.val no
    let work := (List.range es.length).map fun i => (es.getD i 0, (convs.getD i ([], [])).1, (convs.getD i ([], [])).2)
    let (t, d) := passEntries k.val conv no work (1000 * start) d
    let fin := (t + 999) / 1000
    let d := setSar k.val { sarSt d k.val with seq := fin } d
    let d := setSar conv { sarSt d conv with conv := fin } d
    d.wr (PIO.SAR.STAT.PASS_US k.val) (min 65535 ((t - 1000 * start) / 1000000))

/-- A pass of sequence k falls due: it runs, or is skipped because the one before still runs (R252, R254, R268). `convs` are the codes of the due
entries in order, of the input and of the reference. -/
def execSarPass (k : Fin 2) (convs : List (List Int × List Int)) (s : State) : Host.Outcome State Fault Refusal :=
  go (fun d =>
    match sarFor d k.val with
    | none => d
    | some conv =>
      sarPassEffect k convs conv d) s

/-- The minimum off time of SAR k, 100 µs from the end of a requested stop, ends (R255). -/
def execSarMinoffEnd (k : Fin 2) (s : State) : Host.Outcome State Fault Refusal :=
  go (fun d =>
    let d := if (sarSt d k.val).stopping then settlePio (toUp ((sarSt d k.val).conv + 3) d) else d
    if ¬ d.flag (PIO.SAR.STAT.MINOFF k.val) then d
    else
      let d := (toUp ((sarSt d k.val).offAt + 100000) d).wr (PIO.SAR.STAT.MINOFF k.val) 0
      if d.flag (PIO.SAR.STAT.PENDING_REARM k.val) then sarStart k.val d else d) s

/-- The self-calibration of a taken-out SAR ends; a return that waits for it is made (R268, R269). -/
def execSarSelfcalEnd (k : Fin 2) (s : State) : Host.Outcome State Fault Refusal :=
  go (fun d =>
    if sarState d k.val ≠ 3 then d
    else
      let d := d.wr (PIO.SAR.STAT.SSTATE k.val) 2
      if d.host.waits.any fun w => w.kind == .sar k.val true then
        let d := sarReturn k.val d
        finishKindWith (.sar k.val true) stOK [sarStatWord d k.val] d
      else d) s

/-- A calibration session has been open for 600 s (R266). -/
def execCalTimeout (k : Fin 2) (e : Fin 256) (s : State) : Host.Outcome State Fault Refusal :=
  go (fun d => match calSess d k.val e.val with
    | some c => abandonCal k.val e.val (toUp (c.opened + 600000000000) d)
    | none => d) s

/-- An entry has had no result for its limit (R263); one that a new sequence no longer uses has none either. -/
def execInputStaleTimeout (k : Fin 2) (e : Fin 256) (s : State) : Host.Outcome State Fault Refusal :=
  go (fun d =>
    match (entSt d k.val e.val).lastAt with
    | some t =>
      if ¬ d.flag (PIO.RESULT.STAT.STALE k.val e.val) then
        entStale k.val e.val (toUp (t + 2 * (d.rd (PIO.ENTRY.TIM.DIV k.val e.val) + 1) * sarPeriod d k.val * tickNs + 1000000) d)
      else d
    | none => d) s

/-! ### Digital and pulse inputs, excitation, DAC (R249, R271, R273 to R275) -/

/-- What DIO_LEVEL_CHANGE does where its conditions hold (R273, R400). -/
def dioLevelChangeEffect (n : Fin 128) (v : Bool) (d : Dev) : Dev :=
  let f := PIO.DIO.LVL (n.val / 32)
  let d := d.wr f (setBit (d.rd f) (n.val % 32) v)
  if ¬ pioRuns d then d
  else
    let d := handOver [.inBit n.val { v := b2n v, q := 0 }] d
    if lrd d LOOP.CFG.TRIG_PIN = n.val then trigEdge v d else d

/-- A level of DIO pin n passes its filter (R273): LVL, the lanes, and the trigger of class 7 (R400). -/
def execDioLevelChange (n : Fin 128) (v : Bool) (s : State) : Host.Outcome State Fault Refusal :=
  go (fun d =>
    if ¬ islandOn d 9 ∨ opState d < 2 ∨ dioLvl d n.val = v then d
    else
      dioLevelChangeEffect n v d) s

/-- A driven pin's filtered level differs from the driven one (R274). -/
def execDioMismatch (n : Fin 128) (s : State) : Host.Outcome State Fault Refusal :=
  go (fun d =>
    let p := dioPin d n.val
    let f := PIO.DIO.MISM (n.val / 32)
    if ¬ islandOn d 9 ∨ p = 2 ∨ p = b2n (dioLvl d n.val) ∨ bitOf (d.rd f) (n.val % 32) then d
    else raise 137 n.val (raiseEv 86 n.val 0 (d.wr f (setBit (d.rd f) (n.val % 32) true)))) s

/-- A filtered edge of pulse input n (R275). -/
def execPinEdge (n : Fin 64) (rise : Bool) (s : State) : Host.Outcome State Fault Refusal :=
  go (fun d =>
    let e := d.rd (PIO.PIN.CFG.EDGE n.val)
    if ¬ pioRuns d ∨ ¬ d.flag (PIO.PIN.CFG.EN n.val) ∨ ¬ (e = 3 ∨ (e = 2 ∧ ¬ rise) ∨ (e ≤ 1 ∧ rise)) then d
    else
      let rate := match look d.pio.edge n.val with
        | some t => if d.up ≤ t then f32Inf false else f32OfRatio 1000000000 (d.up - t)
        | none => d.rd (PIO.PIN.RATE n.val)
      let d := ((d.wr (PIO.PIN.COUNT n.val) (d.rd (PIO.PIN.COUNT n.val) + 1)).wr (PIO.PIN.STAMP n.val) (svcTotalNs d / 1000)).wr (PIO.PIN.RATE n.val) rate
      { d with pio := { d.pio with edge := ins n.val d.up d.pio.edge } }) s

/-- No edge of input n has counted for RATE_TMO seconds (R275). -/
def execRateTimeout (n : Fin 64) (s : State) : Host.Outcome State Fault Refusal :=
  go (fun d =>
    match look d.pio.edge n.val with
    | some t => (toUp (t + max 1 (d.rd (PIO.PIN.CFG.RATE_TMO n.val)) * 1000000000) d).wr (PIO.PIN.RATE n.val) 0
    | none => d) s

/-- Excitation source n has missed, or meets again, its compliance (R249). -/
def execExcOpen (n : Fin 16) (now : Bool) (s : State) : Host.Outcome State Fault Refusal :=
  go (fun d =>
    if ¬ islandOn d 9 ∨ d.rd (PIO.EXC.CFG.CUR n.val) = 0 ∨ d.flag (PIO.EXC.CFG.OPEN n.val) = now then d
    else
      let d := d.put (PIO.EXC.CFG.OPEN n.val) now
      if now then raise 138 n.val d else d) s

/-- A compliance shortfall of a DAC in current mode has lasted 100 µs, or has ended (R271). -/
def execDacOpen (n : Fin 32) (now : Bool) (s : State) : Host.Outcome State Fault Refusal :=
  go (fun d =>
    if ¬ islandOn d 9 then d
    else if now then if d.rd (PIO.DAC.CFG.MODE n.val) ≠ 2 then d else dacFault n.val (PIO.DAC.CFG.OPEN n.val) d else d.wr (PIO.DAC.CFG.OPEN n.val) 0) s

/-- A base tick of service time (R262, R275): loads take effect and changed pulse words go to the lanes. -/
def execBaseTick (s : State) : Host.Outcome State Fault Refusal :=
  go (fun d =>
    if opState d < 2 then d
    else
      let d := toSvcNs ((svcTotalNs d / tickNs + 1) * tickNs) d
      -- METER's copy takes the loaded count with the hand-over of this tick (R262, R315)
      let at_ := d.gate.t0.getD 0 + effTick 20000 d * tickNs
      let d := d.pio.loads.foldl (fun (d : Dev) e => onMeter (fun k => { k with loadAt := ins e.1 (at_ :: (lookD k.loadAt e.1 []).filter fun t => decide (d.up < t + 2000000000)) k.loadAt }) (d.wr (PIO.PIN.COUNT e.1) e.2)) d
      let d : Dev := { d with pio := { d.pio with loads := [] } }
      let ws := pulseWords false d
      if pioRuns d ∧ ws ≠ [] then handPulse ws 0 d else d) s

end Sys2Proof.Machine
end

