-- ==== Sys2Proof/Machine/LoopRows.lean ====
section
/-! DEFINITION. The commands and events of the loop engine (spec/15). -/
namespace Sys2Proof.Machine
open Sys2Proof

/-! ### Scheduling (R416) -/

/-- A change of a context takes effect at the first sample at least 1 ms away. -/
def loopEff (d : Dev) : Nat := effTick 1000000 d
/-- The class of loop n. -/
def loopCls (d : Dev) (n : Nat) : Nat := (lookD (lowSt d).binds n {}).cls.val
/-- Index of the first sample of loop n at or after tick `eff` (R397, R400, R416). -/
def loopIdx (d : Dev) (n eff : Nat) : Nat :=
  let x := lowSt d
  let c := loopCls d n
  if c = 7 then x.trigIdx + (x.trig.filter fun t => decide (t < eff)).length else (eff + clsTicks c - 1) / clsTicks c
/-- Loop n is in use (R425). -/
def loopInUse (d : Dev) (n : Nat) : Bool := (look (lowSt d).binds n).isSome

/-- The changes accepted so far that act by the sample of effective tick `eff`. -/
def pendingBy (d : Dev) (n eff : Nat) : List LoopChange := ((lookD (lowSt d).lpend n []).filter fun e => decide (e.1 ≤ eff)).map (·.2)

/-- The mode of loop n at the sample of effective tick `eff` once the changes accepted for it or earlier have acted (R396, R417). -/
def pendingMode (d : Dev) (n eff : Nat) : Nat :=
  let x := lowSt d
  let now := x.rd (LOOP.CTX.CTRL.MODE n)
  let trip := if now = 2 then (x.hidOf n).trip else 0
  let m0 := if trip = 2 then 1 else if trip = 1 then 3 else now
  (pendingBy d n eff).foldl (fun m e => match e with
    | .mode (some k) _ => if k = 3 ∧ m = 0 then 0 else k
    | .bind _ => if 2 ≤ m then 1 else m
    | _ => m) m0
/-- The setpoint source as scheduled. -/
def pendingSrc (d : Dev) (n eff : Nat) : Nat :=
  (pendingBy d n eff).foldl (fun m e => match e with
    | .mode _ (some k) => k
    | _ => m) ((lowSt d).rd (LOOP.CTX.CTRL.SP_SRC n))
/-- The settings of CTRL, bits 27–22, as a lane holds them. -/
def ctrlBits (x : LaneSt) (n : Nat) : Nat :=
  x.rd (LOOP.CTX.CTRL.START_MODE n) * 2 ^ 26 + x.rd (LOOP.CTX.CTRL.SPTRK n) * 2 ^ 25 + x.rd (LOOP.CTX.CTRL.SUBST_HOLD n) * 2 ^ 24 + x.rd (LOOP.CTX.CTRL.FE_ACT n) * 2 ^ 22
/-- A settings word of a context once the writes accepted for the sample of effective tick `eff` or earlier have acted (R418, R423); of CTRL, its
settings' bits. -/
def pendingWord (d : Dev) (n eff off : Nat) : Nat :=
  let x := lowSt d
  (pendingBy d n eff).foldl (fun v e => match e with
    | .write ws _ => (ws.foldl (fun v w => if w.1 = off then (if off = 0x10 then bitsOf w.2 27 22 * 2 ^ 22 else w.2) else v) v)
    | _ => v) (if off = 0x10 then ctrlBits x n else x.rd (ctxWord n off))

/-! ### Checks (R417 to R419) -/

/-- The offsets of the 13 coefficients and of the 9 limits (R417, R419). -/
def coefOffs : List Nat := (List.range 13).map fun i => 0x48 + 4 * i
def limOffs : List Nat := (List.range 9).map fun i => 0x7C + 4 * i

/-- The coefficients pass R418: exact tests, the values as numerators over 2¹⁴⁹. -/
def coefsOk (ws : List Nat) : Bool :=
  match ws.map f32Exact with
  | [some kp, some ki, some kd, some tf, some beta, some gamma, some _, some _, some b0, some b1, some b2, some a1, some a2] =>
    let one : Int := (2 ^ 149 : Nat)
    decide (0 ≤ kp) && decide (0 ≤ ki) && decide (0 ≤ kd) && decide (0 ≤ tf) && decide (0 ≤ beta ∧ beta ≤ one) && decide (0 ≤ gamma ∧ gamma ≤ one) &&
      decide ((a2.natAbs : Int) < one) && decide ((a1.natAbs : Int) < one + a2) &&
      decide (10000 * (b0 + b1 + b2 - (one + a1 + a2)).natAbs ≤ (one + a1 + a2).natAbs)
  | _ => false

/-- The limits pass R419. -/
def limitsOk (ws : List Nat) : Bool :=
  match ws with
  | [lo, hi, rl, smin, smax, felim, fetime, ilk, feout] =>
    ws.all f32Finite && f32Lt lo hi && f32Le smin smax && f32Le 0 rl && f32Le 0 felim && f32Le 0x3C23D70A fetime && f32Le fetime 0x45610000 && f32Finite ilk && f32Finite feout
  | _ => false

/-- A change of coefficients is locked (R417). -/
def coefLocked (d : Dev) (n : Nat) : Bool := decide (2 ≤ pendingMode d n (loopEff d))
/-- The coefficients of loop n with some words replaced; of two values for one word the later counts. -/
def coefsWith (d : Dev) (n : Nat) (ws : List (Nat × Nat)) : List Nat :=
  coefOffs.map fun o => (ws.reverse.find? fun w => w.1 == o).elim (pendingWord d n (loopEff d) o) (·.2)

/-- A write of context words as a change; it re-initialises the notch where a coefficient is among them (R405). -/
def wordsChange (ws : List (Nat × Nat)) : LoopChange := .write ws (ws.any fun w => coefOffs.contains w.1)

/-- Schedule writes of context words on every lane; a loop that is not in use and does not enter it takes them at once (R416). -/
def scheduleWords (n : Nat) (ws : List (Nat × Nat)) (d : Dev) : Dev :=
  if loopInUse d n ∨ lookD (lowSt d).lpend n [] ≠ [] then handLoop (loopEff d) n (wordsChange ws) d else eachLane (fun x => applyChange n (wordsChange ws) x) d

/-- Commit words of a context to eMRAM (R419). -/
def commitWords (n : Nat) (ws : List (Nat × Nat)) (d : Dev) : Dev :=
  { d with emram := ws.foldl (fun m w => if w.1 = 0x10 then bankWr (bankWr (bankWr (bankWr m (LOOP.CTX.CTRL.START_MODE n) (w.2 / 2 ^ 26)) (LOOP.CTX.CTRL.SPTRK n) (w.2 / 2 ^ 25)) (LOOP.CTX.CTRL.SUBST_HOLD n) (w.2 / 2 ^ 24)) (LOOP.CTX.CTRL.FE_ACT n) (w.2 / 2 ^ 22) else if w.1 = 0x14 then m else bankWr m (ctxWord n w.1) w.2) d.emram }

/-! ### Ring commands (R423) -/

/-- A LOOP command on loop n: range, lanes, use. -/
def onLoop (n : Nat) (d : Dev) (f : Dev → CmdOut) : CmdOut :=
  if 1023 < n then .done d stBadParam []
  else if (lowLane d).isNone then .done d stUnavailable []
  else if ¬ loopInUse d n then .done d 0x0905 []
  else f d

/-- CTRL as scheduled for the sample of effective tick `eff` (R423). -/
def ctrlWord (d : Dev) (n eff m src : Nat) : Nat := m * 2 ^ 30 + src * 2 ^ 28 + pendingWord d n eff 0x10

/-- LOOP_MODE (R406, R408, R423). -/
def execLoopMode (h : CmdHdr) (n mode src : Nat) (s : State) : Host.Outcome State Fault Refusal :=
  go (runCmd { unit := 9, op := 1, c := true, kw := true } h fun d => onLoop n d fun d =>
    if (3 < mode ∧ mode ≠ 255) ∨ (2 < src ∧ src ≠ 255) then .done d stBadParam []
    else if src = 2 ∧ ¬ (lookD (lowSt d).binds n {}).cas then .done d 0x0906 []
    else
      let eff := loopEff d
      let old := pendingMode d n eff
      if mode = 3 ∧ old = 0 then .done d 0x0904 []
      else
        let m := if mode = 255 then old else mode
        let sr := if src = 255 then pendingSrc d n eff else src
        let d' := handLoop eff n (.mode (if mode = 255 ∨ mode = old then none else some mode) (if src = 255 then none else some src)) d
        .done d' stOK [loopIdx d n eff, ctrlWord d n eff m sr]) s

/-- LOOP_SP (R409, R423). -/
def execLoopSp (h : CmdHdr) (n v : Nat) (s : State) : Host.Outcome State Fault Refusal :=
  go (runCmd { unit := 9, op := 2, c := true } h fun d => onLoop n d fun d =>
    if ¬ f32Finite v then .done d stBadParam [] else .done (handLoop (loopEff d) n (.lsp v) d) stOK [loopIdx d n (loopEff d)]) s

/-- LOOP_MANUAL (R404, R423). -/
def execLoopManual (h : CmdHdr) (n v : Nat) (s : State) : Host.Outcome State Fault Refusal :=
  go (runCmd { unit := 9, op := 3, c := true, kw := true } h fun d => onLoop n d fun d =>
    if ¬ f32Finite v then .done d stBadParam [] else .done (handLoop (loopEff d) n (.man v) d) stOK [loopIdx d n (loopEff d)]) s

/-- LOOP_COEF: the 13 coefficients, whole or not at all, committed (R417 to R419). -/
def execLoopCoef (h : CmdHdr) (n : Nat) (s : State) : Host.Outcome State Fault Refusal :=
  go (runCmd { unit := 9, op := 4, c := true } h fun d => onLoop n d fun d =>
    if ¬ sendOk h 52 then .done d stBadBuffer []
    else
      let ws := coefOffs.zip (bytesToWords 13 (inBuf h d))
      if coefLocked d n then .done d 0x0901 []
      else if ¬ coefsOk (ws.map (·.2)) then .done d 0x0902 []
      else .done (commitWords n ws (scheduleWords n ws d)) stOK [loopIdx d n (loopEff d)]) s

/-- LOOP_LIMITS: the nine limits in every mode, committed (R419). -/
def execLoopLimits (h : CmdHdr) (n : Nat) (s : State) : Host.Outcome State Fault Refusal :=
  go (runCmd { unit := 9, op := 5, c := true } h fun d => onLoop n d fun d =>
    if ¬ sendOk h 36 then .done d stBadBuffer []
    else
      let ws := limOffs.zip (bytesToWords 9 (inBuf h d))
      if ¬ limitsOk (ws.map (·.2)) then .done d 0x0903 []
      else .done (commitWords n ws (scheduleWords n ws d)) stOK [loopIdx d n (loopEff d)]) s

/-- LOOP_FORCE: force or release, copied to eMRAM, EV123 (R414). -/
def execLoopForce (h : CmdHdr) (n on v : Nat) (s : State) : Host.Outcome State Fault Refusal :=
  go (runCmd { unit := 9, op := 6, c := true } h fun d => onLoop n d fun d =>
    if 1 < on ∨ (on = 1 ∧ ¬ f32Finite v) then .done d stBadParam []
    else
      let eff := loopEff d
      let idx := loopIdx d n eff
      if on = 1 then
        let d : Dev := { d with frc := { d.frc with loop := ins n v d.frc.loop } }
        .done (raiseEvFrom (laneSrc d) 123 n 1 (handLoop eff n (.force (some v)) d)) stOK [idx]
      else if (look d.frc.loop n).isNone then .done d stOK [idx]
      else
        let d : Dev := { d with frc := { d.frc with loop := del n d.frc.loop, relTick := max d.frc.relTick eff } }
        .done (raiseEvFrom (laneSrc d) 123 n 0 (handLoop eff n (.force none) d)) stOK [idx]) s

/-- The 256 bytes of context n as a lane holds them. -/
def ctxBytes (x : LaneSt) (n : Nat) : List Byte :=
  (List.range 64).flatMap fun i => toBytes 4 (match findReg regMap (0xE10000 + 0x100 * n + 4 * i) with
    | some (fs, high) => wordOf x.regs fs high
    | none => 0)

/-- LOOP_READ: contexts as the lowest-lettered lane holds them (R423, R597). -/
def execLoopRead (h : CmdHdr) (n count : Nat) (s : State) : Host.Outcome State Fault Refusal :=
  go (runCmd { unit := 9, op := 7, kw := true } h fun d => onLoop n d fun d =>
    if count = 0 ∨ 64 < count then .done d stBadParam []
    else if ¬ recvOk h (256 * count) then .done d stBadBuffer []
    else
      let k := min count (1024 - n)
      .done (outBuf h ((List.range k).flatMap fun i => ctxBytes (lowSt d) (n + i)) d) stOK [k]) s

/-! ### Writes before lock (R416 to R418) -/

/-- COEF_REFUSED is set on every lane (R417). -/
def coefRefuse (n : Nat) (d : Dev) : Dev := eachLane (fun x => x.wr (LOOP.CTX.STAT.COEF_REFUSED n) 1) d

/-- The writable bits of a context word by access: RWL 0x10 27–22, 0x40, 0x44 and the limits; RWO the coefficients; W1C in 0x14 (R426). -/
def ctxKind (off : Nat) : Nat :=
  if off = 0x10 ∨ off = 0x40 ∨ off = 0x44 ∨ limOffs.contains off then 1 else if coefOffs.contains off then 2 else if off = 0x14 then 3 else 0
/-- A write of v would change an RWL field of the word. -/
def ctxChanges (d : Dev) (n off v : Nat) : Bool :=
  if off = 0x10 then
    bitsOf v 27 22 * 2 ^ 22 != pendingWord d n (loopEff d) 0x10
  else pendingWord d n (loopEff d) off != v

/-- A BAR0 write to a loop context (R38, R416 to R418): checked, then scheduled on all lanes; or ignored and counted, with COEF_REFUSED for a
coefficient. -/
def loopCtxWriteOp (p a v : Nat) (d : Dev) : Dev :=
  let n := (a - 0xE10000) / 0x100
  let off := (a - 0xE10000) % 0x100
  let shut := locked d || d.boot.committing
  match ctxKind off with
  | 1 => if shut then (if ctxChanges d n off v then ignoreWrite p a d else d) else scheduleWords n [(off, v)] d
  | 2 =>
    if shut ∨ coefLocked d n ∨ ¬ coefsOk (coefsWith d n [(off, v)]) then coefRefuse n (if ctxChanges d n off v then ignoreWrite p a d else d)
    else scheduleWords n [(off, v)] d
  | 3 => scheduleWords n [(off, v)] d
  | _ => d

/-- LOOP_CTX_WRITE: the row of such a write; an address outside the contexts is none of its concern. -/
def execLoopCtxWrite (p : Fin 2) (addr v : Nat) (s : State) : Host.Outcome State Fault Refusal :=
  go (fun d => if addr < 0xE10000 ∨ 0xE50000 ≤ addr ∨ addr % 4 ≠ 0 then d else guardWrite p.val addr (loopCtxWriteOp p.val addr (v % 2 ^ 32)) d) s

/-! ### Samples -/

/-- A sample of class c starts on lane l (R397 to R403); `late` when the next one was due before it had published (R399). -/
def execLoopSample (l : Fin 3) (c : Fin 8) (late : Bool) (s : State) : Host.Outcome State Fault Refusal :=
  go (laneSample l.val c.val late) s

end Sys2Proof.Machine
end

