-- ==== Sys2Proof/Machine/ClpRows.lean ====
section
/-! DEFINITION. The commands and events of the cyclic logic processor, and its instructions as a lane executes them (spec/16). -/
namespace Sys2Proof.Machine
open Sys2Proof

/-! ### Forces (R444 to R447) -/

/-- An address lies in its space (R437). -/
def spaceOk (space a : Nat) : Bool :=
  match space with
  | 0 => decide (a < 65536)
  | 1 => decide (a < 65536)
  | 2 => decide (a < 16384)
  | 4 => decide (a < 1024)
  | 5 => decide (a < 32768)
  | 6 => decide (a < 32768)
  | 7 => decide (a < 8192)
  | _ => false

/-- The force table's entry of an item. -/
def forceEntry (d : Dev) (space a : Nat) : Option Nat := (d.frc.clp.find? fun e => e.2.space == space && e.2.addr == a).map (·.1)
/-- The lowest free entry. -/
def freeEntry (d : Dev) : Option Nat := (List.range 512).find? fun k => (look d.frc.clp k).isNone

/-- Release entry k at tick eff: EV130, and FORCE_N stays low until that tick (R447). -/
def releaseForce (eff k : Nat) (d : Dev) : Dev :=
  match look d.frc.clp k with
  | none => d
  | some e =>
    let d : Dev := { d with frc := { d.frc with clp := del k d.frc.clp, relTick := max d.frc.relTick eff } }
    raiseEvFrom (laneSrc d) 130 k 0 (handAt eff [.unforce e.space e.addr] d)

/-- What CLP_FORCE does where its conditions hold (R444, R445, R447, R454). -/
def clpForceEffect (space addr v : Nat) (d : Dev) : CmdOut :=
  let eff := effTick 1000000 d
  match forceEntry d space addr <|> freeEntry d with
  | none => .done d 0x0B03 []
  | some k =>
    let d : Dev := { d with frc := { d.frc with clp := ins k { space := space, addr := addr, v := v % 2 ^ 32, eff := eff } d.frc.clp } }
    .done (raiseEvFrom (laneSrc d) 130 k 1 (handAt eff [.force space addr (v % 2 ^ 32)] d)) stOK [eff, k]

/-- CLP_FORCE: set or release a force (R444, R445, R447, R454). -/
def execClpForce (h : CmdHdr) (action space addr v : Nat) (s : State) : Host.Outcome State Fault Refusal :=
  go (runCmd { unit := 11, op := 1, c := true } h fun d =>
    let bitSp := decide (space ≤ 1)
    if 1 < action ∨ ¬ (space ≤ 1 ∨ space = 5 ∨ space = 6) ∨ ¬ spaceOk space addr ∨ (action = 1 ∧ bitSp ∧ 1 < v) then .done d stBadParam []
    else if (lowLane d).isNone then .done d stUnavailable []
    else
      let eff := effTick 1000000 d
      if action = 0 then
        match forceEntry d space addr with
        | none => .done d stOK [eff, 0xFFFFFFFF]
        | some k => .done (releaseForce eff k d) stOK [eff, k]
      else if (lowSt d).clp.img.unforce.contains (space, addr) then .done d 0x0B02 []
      else if space = 6 ∧ loopOwned (lowSt d) addr then .done d 0x0B04 []
      else
        clpForceEffect space addr v d) s

/-- CLP_FORCE_ALL: release every CLP force (R454). -/
def execClpForceAll (h : CmdHdr) (s : State) : Host.Outcome State Fault Refusal :=
  go (runCmd { unit := 11, op := 2, c := true } h fun d =>
    if (lowLane d).isNone then .done d stUnavailable []
    else
      let eff := effTick 1000000 d
      let ks := d.frc.clp.map (·.1)
      .done (ks.foldl (fun (d : Dev) k => releaseForce eff k d) d) stOK [ks.length, eff]) s

/-! ### Running control (R451) -/

/-- The CLP is asked to stop: STOPPING until the next tick, EN 0; a run that has not begun is cancelled. -/
def clpStopReq (d : Dev) : Dev :=
  let d := eachLane (fun x => { (x.wr CLP.STAT.PENDING_REARM 0).wr CLP.CFG.EN 0 with pend := x.pend.filter fun e => e.2 != .clpRun }) d
  if lrd d CLP.STAT.STATE = 1 ∨ lrd d CLP.STAT.STATE = 4 then
    let low := lrd d CLP.STAT.STATE
    let d := handAt (nextTick d) [.clpStop] (eachLane (fun x => if x.rd CLP.STAT.STATE = 3 then x else x.wr CLP.STAT.STATE 2) d)
    if low = 2 then d else raiseEvFrom (laneSrc d) 133 2 0 d
  else d

/-- The CLP is asked to run: the first grid start at least 1 ms away, or latched while it stops or its minimum off time runs. -/
def clpRunReq (d : Dev) : Dev :=
  let d := eachLane (fun x => x.wr CLP.CFG.EN 1) d
  if lrd d CLP.STAT.STATE = 2 ∨ lflag d CLP.STAT.MINOFF then eachLane (fun x => x.wr CLP.STAT.PENDING_REARM 1) d
  else if lrd d CLP.STAT.STATE = 0 then handAt (effTick 1000000 d) [.clpRun] d
  else d

/-- CLP_RUN (R451, R454). -/
def execClpRun (h : CmdHdr) (action : Nat) (s : State) : Host.Outcome State Fault Refusal :=
  go (runCmd { unit := 11, op := 3, c := true } h fun d =>
    if 1 < action then .done d stBadParam []
    else if (lowLane d).isNone then .done d stUnavailable []
    else if action = 1 then (let d := clpRunReq d; .done d stOK [clpStatWord d])
    else
      let d := clpStopReq d
      if lrd d CLP.STAT.STATE = 2 then .later d (.clpRun false) [] else .done d stOK [clpStatWord d]) s

/-- What a change of CLP.CFG does (R448, R451): MIN_TICKS is handed to the lanes, EN stops or runs the CLP. -/
def clpCfgEffect (was : Bool) (ticks : Nat) (d : Dev) : Dev :=
  let d := if lrd d CLP.CFG.MIN_TICKS = ticks then d else handAt (effTick 1000000 d) [.period (lrd d CLP.CFG.MIN_TICKS)] d
  let en := lflag d CLP.CFG.EN
  if en = was then d else if en then clpRunReq d else clpStopReq d

/-- A write of CLP.CFG with its EN bit before lock (R451). -/
def execClpEnWrite (p : Fin 2) (v : Nat) (s : State) : Host.Outcome State Fault Refusal :=
  go (guardWrite p.val 0xF00000 fun d =>
    let was := lflag d CLP.CFG.EN
    let ticks := lrd d CLP.CFG.MIN_TICKS
    let (d', refused) := writeFields false 0xF00000 v d
    let d' := if refused then ignoreWrite p.val 0xF00000 d' else d'
    clpCfgEffect was ticks d') s

/-- The CLP's minimum off time of 1 ms ends; a latched enable acts (R451). -/
def execClpMinoffEnd (s : State) : Host.Outcome State Fault Refusal :=
  go (fun d =>
    if ¬ lflag d CLP.STAT.MINOFF then d
    else
      let re := lflag d CLP.STAT.PENDING_REARM
      let d := eachLane (fun x => (x.wr CLP.STAT.MINOFF 0).wr CLP.STAT.PENDING_REARM 0) d
      if re then clpRunReq d else d) s

/-! ### Data (R431, R452, R454) -/

/-- CLP_DATA: one marker, data word or counter value on every lane (R452). -/
def execClpData (h : CmdHdr) (space addr v : Nat) (s : State) : Host.Outcome State Fault Refusal :=
  go (runCmd { unit := 11, op := 4, c := true } h fun d =>
    if ¬ (space = 2 ∨ space = 4 ∨ space = 7) ∨ ¬ spaceOk space addr ∨ (space = 2 ∧ 1 < v) then .done d stBadParam []
    else if (lowLane d).isNone then .done d stUnavailable []
    else
      let eff := effTick 1000000 d
      .done (handAt eff [.data space addr (v % 2 ^ 32)] d) stOK [eff]) s

/-- The items of an area of CLP_READ: how many there are, bits of an item, and item i (R454). -/
def clpArea (d : Dev) (x : LaneSt) (area : Nat) : Option (Nat × Nat × (Nat → Nat)) :=
  match area with
  | 0 => some (65536, 1, fun i => (snapBit x i).v % 2)
  | 1 => some (65536, 1, fun i => b2n (lookD x.clp.outB i false))
  | 2 => some (16384, 1, fun i => b2n (lookD x.clp.m i false))
  | 3 => some (65536, 2, fun i => (snapBit x i).q)
  | 4 => some (32768, 2, fun i => (snapWord x i).q)
  | 5 => some (32768, 32, fun i => (snapWord x i).v)
  | 6 => some (32768, 32, fun i => lookD x.clp.outW i 0)
  | 7 => some (8192, 32, fun i => lookD x.clp.dw i 0)
  | 8 => some (2048, 64, fun i => (x.tim i).et + x.preset i * 2 ^ 32)
  | 9 => some (1024, 64, fun i => (x.ctr i).cv + x.ctrPv i % 2 ^ 32 * 2 ^ 32)
  | 10 => some (512, 128, fun i => match look d.frc.clp i with
    | some e => 2 ^ 31 + e.space * 2 ^ 28 + e.addr + e.v * 2 ^ 32 + (if e.space = 0 then (lookD x.inB e.addr {}).v else if e.space = 5 then (lookD x.inW e.addr {}).v else 0) * 2 ^ 64 + e.eff % 2 ^ 32 * 2 ^ 96
    | none => 0)
  | 11 => some (x.clp.img.code.length, 32, fun i => x.clp.img.code.getD i 0)
  | _ => none

/-- Items packed into bytes: bits 32 to a word, qualities 16 to a word, the others in their own bytes. -/
def packItems (w : Nat) (vs : List Nat) : List Byte :=
  if w < 32 then
    let n := (vs.length * w + 31) / 32
    toBytes (4 * n) (vs.reverse.foldl (fun acc v => acc * 2 ^ w + v % 2 ^ w) 0)
  else vs.flatMap fun v => toBytes (w / 8) v

/-- What CLP_READ does where its conditions hold (R454, R597). -/
def clpReadEffect (h : CmdHdr) (area first count : Nat) (d : Dev) : CmdOut :=
  let x := lowSt d
  match clpArea d x area with
  | none => .done d stBadParam []
  | some (total, w, item) =>
    if total ≤ first then .done d stBadParam []
    else if ¬ recvOk h (if w < 32 then (count * w + 31) / 32 * 4 else count * (w / 8)) then .done d stBadBuffer []
    else
      let k := min count (total - first)
      let cyc := x.rd CLP.CYC.CYCLE
      .done (outBuf h (packItems w ((List.range k).map fun i => item (first + i))) d) stOK [k, cyc % 2 ^ 32, cyc / 2 ^ 32]

/-- CLP_READ: a consistent set of items of the lowest-lettered lane (R454, R597). -/
def execClpRead (h : CmdHdr) (area first count : Nat) (s : State) : Host.Outcome State Fault Refusal :=
  go (runCmd { unit := 11, op := 5, kw := true } h fun d =>
    if (lowLane d).isNone then .done d stUnavailable []
    else
      clpReadEffect h area first count d) s

/-- The retentive ranges are copied every 10 s, counted from the lanes' start (R431; log 20). -/
def execRetentiveCopyEv (s : State) : Host.Outcome State Fault Refusal :=
  go (fun d =>
    if d.gate.t0.isNone ∨ (lowLane d).isNone then d
    else
      let d := toUp (d.gate.retAt + 10000000000) d
      retentiveCopy { d with gate := { d.gate with retAt := d.up } }) s

/-! ### Cycles (R432 to R434) -/

/-- A grid position of lane l's CLP; `late` when the cycle had not published by the next (R434). -/
def execClpCycle (l : Fin 3) (late : Bool) (s : State) : Host.Outcome State Fault Refusal := go (laneCycle l.val late) s

/-- A program has not reached END by S_k + WD_MULT × P: the lane's CLP is halted, and CS isolates the lane (R434, R464). -/
def execClpWatchdog (l : Fin 3) (s : State) : Host.Outcome State Fault Refusal :=
  go (fun d =>
    let st := (laneSt d l.val).rd CLP.STAT.STATE
    if ¬ laneRuns d l.val ∨ d.gate.t0.isNone ∨ st = 0 ∨ st = 3 then d
    else isolate l.val 4 (raiseEvFrom (4 + l.val) 129 l.val 0 (clpSetState l.val 3 d))) s

/-! ### Instructions (R436 to R442): lane l executes one instruction of its program -/

/-- Lane l's CLP runs its program: RUNNING, or STOPPING until its cycle completes (R451, R457). -/
def clpRunning (d : Dev) (l : Nat) : Bool :=
  laneRuns d l && d.gate.t0.isSome && ((laneSt d l).rd CLP.STAT.STATE == 1 || (laneSt d l).rd CLP.STAT.STATE == 2)

/-- Execute an instruction's operation on lane l in the present cycle; the first setting of ERR after a cycle without it raises EV132 (R440). -/
def clpExec (l : Fin 3) (op : LaneSt → LaneSt) (d : Dev) : Dev :=
  if ¬ clpRunning d l.val then d
  else
    let x := laneSt d l.val
    let y := op x
    let evs : List LaneEv := if y.clp.err && !x.clp.err && !x.clp.prevErr then [(132, x.clp.pc, 0)] else []
    raiseLane l.val evs (setLane l.val y d)

def execINopInstr (l : Fin 3) (s : State) : Host.Outcome State Fault Refusal := go (clpExec l clpNop) s
/-- The operands of bit instructions: space, N, QMASK, address (R436, R437). -/
def execILd (l : Fin 3) (sp : Fin 16) (n : Bool) (qm : Fin 16) (a : Nat) (s : State) : Host.Outcome State Fault Refusal := go (clpExec l (clpLd sp.val n qm.val a)) s
def execIAnd (l : Fin 3) (sp : Fin 16) (n : Bool) (qm : Fin 16) (a : Nat) (s : State) : Host.Outcome State Fault Refusal := go (clpExec l (clpAnd sp.val n qm.val a)) s
def execIOr (l : Fin 3) (sp : Fin 16) (n : Bool) (qm : Fin 16) (a : Nat) (s : State) : Host.Outcome State Fault Refusal := go (clpExec l (clpOr sp.val n qm.val a)) s
def execIXor (l : Fin 3) (sp : Fin 16) (n : Bool) (qm : Fin 16) (a : Nat) (s : State) : Host.Outcome State Fault Refusal := go (clpExec l (clpXor sp.val n qm.val a)) s
def execINot (l : Fin 3) (s : State) : Host.Outcome State Fault Refusal := go (clpExec l clpNot) s
def execIBopen (l : Fin 3) (combine : Fin 4) (s : State) : Host.Outcome State Fault Refusal := go (clpExec l (clpBopen combine.val)) s
def execIBclose (l : Fin 3) (s : State) : Host.Outcome State Fault Refusal := go (clpExec l clpBclose) s
def execISt (l : Fin 3) (sp : Fin 16) (n : Bool) (a : Nat) (s : State) : Host.Outcome State Fault Refusal := go (clpExec l (clpSt sp.val n a)) s
def execISet (l : Fin 3) (sp : Fin 16) (a : Nat) (s : State) : Host.Outcome State Fault Refusal := go (clpExec l (clpSet sp.val a)) s
def execIRst (l : Fin 3) (sp : Fin 16) (a : Nat) (s : State) : Host.Outcome State Fault Refusal := go (clpExec l (clpRst sp.val a)) s
def execIPedge (l : Fin 3) (a : Nat) (s : State) : Host.Outcome State Fault Refusal := go (clpExec l (clpPedge a)) s
def execINedge (l : Fin 3) (a : Nat) (s : State) : Host.Outcome State Fault Refusal := go (clpExec l (clpNedge a)) s
def execITon (l : Fin 3) (t : Nat) (s : State) : Host.Outcome State Fault Refusal := go (clpExec l (clpTon t)) s
def execITof (l : Fin 3) (t : Nat) (s : State) : Host.Outcome State Fault Refusal := go (clpExec l (clpTof t)) s
def execITp (l : Fin 3) (t : Nat) (s : State) : Host.Outcome State Fault Refusal := go (clpExec l (clpTp t)) s
def execITpre (l : Fin 3) (t : Nat) (s : State) : Host.Outcome State Fault Refusal := go (clpExec l (clpTpre t)) s
def execITrst (l : Fin 3) (t : Nat) (s : State) : Host.Outcome State Fault Refusal := go (clpExec l (clpTrst t)) s
def execICtu (l : Fin 3) (a : Nat) (s : State) : Host.Outcome State Fault Refusal := go (clpExec l (clpCtu a)) s
def execICtd (l : Fin 3) (a : Nat) (s : State) : Host.Outcome State Fault Refusal := go (clpExec l (clpCtd a)) s
def execICrst (l : Fin 3) (a : Nat) (s : State) : Host.Outcome State Fault Refusal := go (clpExec l (clpCrst a)) s
def execICld (l : Fin 3) (a : Nat) (s : State) : Host.Outcome State Fault Refusal := go (clpExec l (clpCld a)) s
def execILdw (l : Fin 3) (sp : Fin 16) (a : Nat) (s : State) : Host.Outcome State Fault Refusal := go (clpExec l (clpLdw sp.val a)) s
def execILdkh (l : Fin 3) (imm : Nat) (s : State) : Host.Outcome State Fault Refusal := go (clpExec l (clpLdkh imm)) s
def execIStw (l : Fin 3) (sp : Fin 16) (a : Nat) (s : State) : Host.Outcome State Fault Refusal := go (clpExec l (clpStw sp.val a)) s
def execIStwc (l : Fin 3) (sp : Fin 16) (a : Nat) (s : State) : Host.Outcome State Fault Refusal := go (clpExec l (clpStwc sp.val a)) s
def execIAdd (l : Fin 3) (sp : Fin 16) (a : Nat) (s : State) : Host.Outcome State Fault Refusal := go (clpExec l (clpAdd sp.val a)) s
def execISub (l : Fin 3) (sp : Fin 16) (a : Nat) (s : State) : Host.Outcome State Fault Refusal := go (clpExec l (clpSub sp.val a)) s
def execIMul (l : Fin 3) (sp : Fin 16) (a : Nat) (s : State) : Host.Outcome State Fault Refusal := go (clpExec l (clpMul sp.val a)) s
def execIDiv (l : Fin 3) (sp : Fin 16) (a : Nat) (s : State) : Host.Outcome State Fault Refusal := go (clpExec l (clpDiv sp.val a)) s
def execIAndw (l : Fin 3) (sp : Fin 16) (a : Nat) (s : State) : Host.Outcome State Fault Refusal := go (clpExec l (clpAndw sp.val a)) s
def execIOrw (l : Fin 3) (sp : Fin 16) (a : Nat) (s : State) : Host.Outcome State Fault Refusal := go (clpExec l (clpOrw sp.val a)) s
def execIXorw (l : Fin 3) (sp : Fin 16) (a : Nat) (s : State) : Host.Outcome State Fault Refusal := go (clpExec l (clpXorw sp.val a)) s
def execIShl (l : Fin 3) (k : Fin 32) (s : State) : Host.Outcome State Fault Refusal := go (clpExec l (clpShl k.val)) s
def execIShr (l : Fin 3) (k : Fin 32) (s : State) : Host.Outcome State Fault Refusal := go (clpExec l (clpShr k.val)) s
def execICmp (l : Fin 3) (sp : Fin 16) (n : Bool) (rel : Fin 6) (a : Nat) (s : State) : Host.Outcome State Fault Refusal := go (clpExec l (clpCmp sp.val n rel.val a)) s
def execIFadd (l : Fin 3) (sp : Fin 16) (a : Nat) (s : State) : Host.Outcome State Fault Refusal := go (clpExec l (clpFadd sp.val a)) s
def execIFsub (l : Fin 3) (sp : Fin 16) (a : Nat) (s : State) : Host.Outcome State Fault Refusal := go (clpExec l (clpFsub sp.val a)) s
def execIFmul (l : Fin 3) (sp : Fin 16) (a : Nat) (s : State) : Host.Outcome State Fault Refusal := go (clpExec l (clpFmul sp.val a)) s
def execIFdiv (l : Fin 3) (sp : Fin 16) (a : Nat) (s : State) : Host.Outcome State Fault Refusal := go (clpExec l (clpFdiv sp.val a)) s
def execIFmin (l : Fin 3) (sp : Fin 16) (a : Nat) (s : State) : Host.Outcome State Fault Refusal := go (clpExec l (clpFmin sp.val a)) s
def execIFmax (l : Fin 3) (sp : Fin 16) (a : Nat) (s : State) : Host.Outcome State Fault Refusal := go (clpExec l (clpFmax sp.val a)) s
def execIFcmp (l : Fin 3) (sp : Fin 16) (n : Bool) (rel : Fin 6) (a : Nat) (s : State) : Host.Outcome State Fault Refusal := go (clpExec l (clpFcmp sp.val n rel.val a)) s
def execIItof (l : Fin 3) (s : State) : Host.Outcome State Fault Refusal := go (clpExec l clpItof) s
def execIFtoi (l : Fin 3) (s : State) : Host.Outcome State Fault Refusal := go (clpExec l clpFtoi) s
def execIJmp (l : Fin 3) (t : Nat) (s : State) : Host.Outcome State Fault Refusal := go (clpExec l (clpJmp t)) s
def execIJc (l : Fin 3) (t : Nat) (s : State) : Host.Outcome State Fault Refusal := go (clpExec l (clpJc t)) s
def execIJnc (l : Fin 3) (t : Nat) (s : State) : Host.Outcome State Fault Refusal := go (clpExec l (clpJnc t)) s

/-- END: the cycle ends and the output image is published (R433). -/
def execIEnd (l : Fin 3) (s : State) : Host.Outcome State Fault Refusal :=
  go (fun d =>
    let d' := clpExec l clpEnd d
    if ¬ clpRunning d l.val then d' else clpCycleEnd l.val false none d') s

end Sys2Proof.Machine
end

