-- ==== Sys2Proof/Machine/LaneRows.lean ====
section
/-! DEFINITION. The commands and events of the lanes, the vote and CS's arbitration (spec/17). -/
namespace Sys2Proof.Machine
open Sys2Proof

/-- LANES.STAT as a word. -/
def lanesStatWord (d : Dev) : Nat :=
  d.rd LANES.STAT.READMIT * 2 ^ 17 + d.rd LANES.STAT.SAFE_ACT * 2 ^ 16 + d.rd LANES.STAT.INSERV * 2 ^ 12 +
  lstate d 2 * 2 ^ 8 + lstate d 1 * 2 ^ 4 + lstate d 0

/-! ### Commands (R470, R472, R477) -/

/-- A lane may be re-admitted (R472): OFF and HELD with CAUSE 3 and nothing else running; a lane that another source holds too, and a device with no
lane in service to mirror from, answer LANE_BUSY (DEDUCED, log 25). -/
def canReadmit (l : Nat) (d : Dev) : Bool :=
  islState d (3 + l) == 0 && held d (3 + l) && setBit (holdBits d (3 + l)) 3 false == 0 && d.rd (PWR.ISL_STAT.CAUSE (3 + l)) == 3 && (lstate d l == 6 || lstate d l == 0) &&
    d.gate.readmit.isNone && (firstLane d).isSome

/-- Re-admission begins (R472): the hold is released, the lane is STARTING, and its source is chosen. -/
def beginReadmit (l : Nat) (d : Dev) : Dev :=
  let d := setLState l 1 (d.wr LANES.STAT.READMIT 1)
  let d : Dev := { d with gate := { d.gate with readmit := some { lane := l, source := (firstLane d).getD 0 } } }
  releaseHold (3 + l) 3 (d.wr (PWR.ISL_CTRL.EN (3 + l)) 1)

/-- LANE_REQ: isolate or re-admit a lane (R472, R477). -/
def execLaneReq (h : CmdHdr) (lane action : Nat) (s : State) : Host.Outcome State Fault Refusal :=
  go (runCmd { unit := 10, op := 1, c := true, kw := true } h fun d =>
    if 2 < lane ∨ 1 < action then .done d stBadParam []
    else if action = 0 then
      if inServ d - b2n (laneIn d lane) < 2 then .done d 0x0A01 []
      else
        let d := isolate lane 7 d
        .done d stOK [lanesStatWord d]
    else if canReadmit lane d then
      let d := beginReadmit lane d
      .done d stOK [lanesStatWord d]
    else .done d 0x0A02 []) s

/-- SAFE_CMD: apply or release the SAFE path (R469, R470, R477). A release needs every cause bit clear but the command's own, bit 2. -/
def execSafeCmd (h : CmdHdr) (v : Nat) (s : State) : Host.Outcome State Fault Refusal :=
  go (runCmd { unit := 10, op := 2, c := true, kw := true } h fun d =>
    if 1 < v then .done d stBadParam []
    else if v = 1 then
      let d := applySafe 2 d
      .done d stOK [d.rd LANES.SAFE.CAUSE]
    else if setBit (d.rd LANES.SAFE.CAUSE) 2 false = 0 ∧ 2 ≤ inServ d then
      let d := releaseSafe (clearSafeCause 2 d)
      .done d stOK [d.rd LANES.SAFE.CAUSE]
    else .done d 0x0A03 []) s

/-- The bytes of a disagreement log record (R477, R479). -/
def dlogBytes (d : Dev) (k : Nat) : List Byte :=
  toBytes 4 (d.rd (LANES.DLOG.IDX.INDEX k)) ++
  toBytes 4 (d.rd (LANES.DLOG.SRC.SOURCE k) * 2 ^ 28 + d.rd (LANES.DLOG.SRC.MINOR k) * 2 ^ 25 + d.rd (LANES.DLOG.SRC.ABS k) * 2 ^ 22 +
    d.rd (LANES.DLOG.SRC.WORD k) * 2 ^ 21 + d.rd (LANES.DLOG.SRC.ITEM k)) ++
  toBytes 4 (d.rd (LANES.DLOG.VAL k)) ++ toBytes 4 (d.rd (LANES.DLOG.VAL2 k))

/-- LANE_LOG_READ (R477, R597). -/
def execLaneLogRead (h : CmdHdr) (first count : Nat) (s : State) : Host.Outcome State Fault Refusal :=
  go (runCmd { unit := 10, op := 3, kw := true } h fun d =>
    if 15 < first ∨ count = 0 ∨ 16 < count then .done d stBadParam []
    else if ¬ recvOk h (16 * count) then .done d stBadBuffer []
    else
      let n := min count (16 - first)
      .done (outBuf h ((List.range n).flatMap fun i => dlogBytes d (first + i)) d) stOK [n]) s

/-! ### Publications and votes (R460, R461, R464) -/

/-- A single difference, or a missing publication, in SHADOW fails the re-admission (R474). -/
def failShadow (d : Dev) : Dev :=
  match d.gate.readmit with
  | some r => if r.bad then failReadmit 0x0A05 d else d
  | none => d

/-- The oldest publication of a lane reaches the Output Gate, as the lane's faults leave it (R460, R465, R472, R474). -/
def execLanePublication (l : Fin 3) (upsets : List PubUpset) (s : State) : Host.Outcome State Fault Refusal :=
  go (fun d =>
    match popOutbox l.val d with
    | none => d
    | some (x, d) =>
      let x := upsetPub upsets x
      if lstate d l.val = 5 then
        if lookD d.gate.inFrom l.val 0 ≤ x.tick then gateTake l.val x d else d
      else if lstate d l.val = 4 then failShadow (shadowTake l.val x d)
      else d) s

/-- A vote window closes (R461); sessions with OUT_IMMED send a changed image (R239), and outputs for a session that is
STALE or LOST are undelivered (R241). -/
def execVoteWindowClose (src : Fin 9) (s : State) : Host.Outcome State Fault Refusal := go (fun d => sendImmediate (failShadow (closeWindow src.val (markUndelivered src.val d)))) s

/-- A strike against an absent lane, and its isolation at ABSENT_N (R464, R467). -/
def strike (l : Nat) (d : Dev) : Dev :=
  if ¬ laneIn d l then d
  else
    let d := d.bump (LANES.LANE.CNT.STRIKES l)
    if max 1 (d.rd LANES.CFG.ABSENT_N) ≤ d.rd (LANES.LANE.CNT.STRIKES l) then isolate l 2 d else d

/-- CS decides a finding (R464, R466, R467): every minority lane is isolated, absent lanes take a strike, and a disagreement without a majority
applies the SAFE path with cause 1 and raises the LANES class-4 detector. -/
def arbitrate (f : Finding) (d : Dev) : Dev :=
  let d := if f.differ then raise 96 f.src (applySafe 1 d) else d
  let d := [0, 1, 2].foldl (fun (d : Dev) l => if bitOf f.minor l ∧ laneIn d l then isolate l 1 d else d) d
  [0, 1, 2].foldl (fun (d : Dev) l => if bitOf f.absent l then strike l d else d) d

/-- CS_ARBITRATION: a lane reports a change applied late, or CS takes the oldest finding record (R464). -/
def execCsArbitration (late : Option (Fin 3)) (s : State) : Host.Outcome State Fault Refusal :=
  go (fun d =>
    match late with
    | some l => if laneIn d l.val then isolate l.val 3 d else d
    | none =>
      match d.gate.findings with
      | [] => d
      | f :: t => arbitrate f { d with gate := { d.gate with findings := t } }) s

/-- CS measures the offset of lane l against the lowest-lettered lane in service (R459, R478). -/
def offsetLane (l : Nat) (o : Int) (d : Dev) : Dev :=
  if ¬ (laneIn d l || lstate d l == 4 || lstate d l == 3) then d
  else
    let o := if firstLane d = some l then 0 else o
    let d := d.wr (LANES.LANE.OFFSET l) (wrapI 32 o)
    if (clampN 5 50 (d.rd LANES.CFG.PHASE_MAX) : Int) * 100 < o.natAbs then
      isolate l 6 (raiseEv 140 l (wrapI 32 o) d)
    else d

/-- OFFSET_CHECK: the second's measurement, in units of 10 ns (R459). -/
def execOffsetCheck (offs : List Int) (s : State) : Host.Outcome State Fault Refusal :=
  go (fun d => [0, 1, 2].foldl (fun (d : Dev) l => offsetLane l (offs.getD l 0) d) d) s

/-! ### Re-admission (R472 to R474) -/

/-- The readmission, while its lane is in phase `ph`. -/
def readmitIn (ph : Nat) (d : Dev) : Option Readmit :=
  match d.gate.readmit with
  | some r => if lstate d r.lane = ph then some r else none
  | none => none

/-- Phase 1 ends: the island is ON, and images and committed settings are loaded (R472). -/
def execReadmitStartingEnd (s : State) : Host.Outcome State Fault Refusal :=
  go (fun d =>
    match readmitIn 1 d with
    | some r => if islandOn d (3 + r.lane) then setLState r.lane 2 (laneLoad true r.lane d) else d
    | none => d) s

/-- Phase 2 ends: mirroring from the lowest-lettered lane in service begins (R472); with none left, MIRROR_ABORT (R474; DEDUCED, log 25). -/
def execReadmitSelftestEnd (s : State) : Host.Outcome State Fault Refusal :=
  go (fun d =>
    match readmitIn 2 d with
    | some r =>
      match firstLane d with
      | some l => setLState r.lane 3 { d with gate := { d.gate with readmit := some { r with source := l, since := d.up } } }
      | none => failReadmit 0x0A06 d
    | none => d) s

/-- The key belongs to the mirrored part of a loop context: offsets +0x10 to +0x3C and +0xA0 to +0xCF (R473). -/
def mirroredKey (k : Nat) : Bool :=
  let a := k / 32
  decide (0xE10000 ≤ a) && decide (a < 0xE50000) &&
    (let o := a % 0x100
     (decide (0x10 ≤ o) && decide (o < 0x40)) || (decide (0xA0 ≤ o) && decide (o < 0xD0)))

/-- The key belongs to the CLP's running state, which the checkpoint aligns: CFG, STAT and CYC. -/
def clpRunKeys : List FRef := [CLP.CFG.EN, CLP.STAT.STATE, CLP.STAT.PENDING_REARM, CLP.STAT.MINOFF, CLP.STAT.PERIOD, CLP.CYC.CYCLE]

/-- The returning lane after the copy of R473: its own settings and images, the source's dynamic state, and the force table. -/
def mirror (x y : LaneSt) : LaneSt :=
  let regs := overlay (keepKeys mirroredKey x.regs) (keepKeys (fun k => !mirroredKey k) y.regs)
  let z : LaneSt := { y with regs := regs, inB := x.inB, inW := x.inW, forces := x.forces, safe := x.safe, kw := x.kw, voted := x.voted, pend := x.pend, lpend := x.lpend, hid := x.hid, next := x.next, trig := x.trig, trigIdx := x.trigIdx, runs := x.runs, busy := x.busy, outbox := [] }
  let z := clpRunKeys.foldl (fun (z : LaneSt) f => z.wr f (x.rd f)) z
  { z with clp := { x.clp with img := y.clp.img } }

/-- MIRROR_CHECKPOINT: the END of a source cycle that publishes at least 100 µs before the next start; SHADOW begins (R473). -/
def execMirrorCheckpoint (s : State) : Host.Outcome State Fault Refusal :=
  go (fun d =>
    match readmitIn 3 d, d.gate.t0 with
    | some r, some t =>
      let x := laneSt d r.source
      if t + x.clp.next * tickNs < d.up + 100000 then d
      else
        let d := setLane r.lane (mirror x (laneSt d r.lane)) d
        setLState r.lane 4 { d with gate := { d.gate with readmit := some { r with since := d.up, seen := [] } } }
    | _, _ => d) s

/-- MIRROR_TIMEOUT: no suitable cycle within 1,000 periods of the source's CLP since MIRRORING began (R473; log 20). -/
def execMirrorTimeout (s : State) : Host.Outcome State Fault Refusal :=
  go (fun d =>
    match readmitIn 3 d with
    | some r => failReadmit 0x0A04 (toUp (r.since + 1000 * max 1 ((laneSt d r.source).rd CLP.STAT.PERIOD) * tickNs) d)
    | none => d) s

/-- The sources a lane must have published in SHADOW: the CLP, and every class in use with a period of 1 s or less (R474). -/
def shadowNeeds (d : Dev) : List Nat :=
  8 :: (List.range 5).filter fun c => (lowSt d).binds.any fun e => e.2.cls.val == c

/-- SHADOW_END (R472, R474): the lane is voted from the next base tick, or the re-admission fails. -/
def execShadowEnd (s : State) : Host.Outcome State Fault Refusal :=
  go (fun d =>
    match readmitIn 4 d with
    | none => d
    | some r =>
      let due := r.since + max 1 (d.rd LANES.CFG.SHADOW) * 100000000
      let d := toUp (due + 3) d
      if ¬ (shadowNeeds d).all r.seen.contains then failReadmit 0x0A05 d
      else
        let d := setLState r.lane 5 (d.wr (LANES.LANE.CNT.STRIKES r.lane) 0)
        endReadmit r.lane 0 (checkPair { d with gate := { d.gate with inFrom := ins r.lane (nextTick d) d.gate.inFrom } })) s

/-! ### LANE_STAT (R478) -/

/-- LANE_STAT's body (R478): STAT, SAFE, and for each lane its OFFSET, strikes, minority and absence counts and a byte 0. -/
def laneStatBody (d : Dev) : List Byte :=
  toBytes 4 (lanesStatWord d) ++ toBytes 4 (d.rd LANES.SAFE.CAUSE) ++
  ((List.range 3).flatMap fun l => toBytes 4 (d.rd (LANES.LANE.OFFSET l)) ++ toBytes 1 (d.rd (LANES.LANE.CNT.STRIKES l)) ++
    toBytes 1 (d.rd (LANES.LANE.CNT.MINORITY l)) ++ toBytes 1 (d.rd (LANES.LANE.CNT.ABSENT l)) ++ toBytes 1 0) ++
  List.replicate 32 0

/-- LANE_STAT_PUBLICATION (R31, R478): table 0x0040. -/
def execLaneStatPublication (s : State) : Host.Outcome State Fault Refusal :=
  go (fun d =>
    if 3 ≤ opState d then
      let n := d.time.svc / (secUnits / 10)
      publish 0x40 (n % 2 ^ 32) true false (laneStatBody d) d
    else d) s

end Sys2Proof.Machine
end

