-- ==== Sys2Proof/Machine/SessRows.lean ====
section
/-! DEFINITION. The commands and events of Tyrid sessions (spec/09). -/
namespace Sys2Proof.Machine
open Sys2Proof

/-! ### Commands (R244) -/

/-- Address of session s's context. -/
def sessCtx (s : Nat) : Nat := 0xB10000 + 0x40 * s

/-- What SESS_CFG does where its conditions hold (R244, R247). -/
def sessCfgEffect (h : CmdHdr) (n : Nat) (d : Dev) : CmdOut :=
  let im := inBuf h d
  let w (k : Nat) := fieldAt im (4 * k) 4
  let put (a v : Nat) (d : Dev) : Dev := (writeFields true a v d).1
  let d := [0, 1, 2, 3, 4, 7].foldl (fun (d : Dev) k => put (sessCtx n + 4 * k) (if k = 0 then w 0 % 2 ^ 31 else w k) d) d
  let d := d.wr (SESS.CTX.ID n) (w 5 + w 6 * 2 ^ 32)
  let fields : List FRef := [SESS.CTX.CFG.TRANSPORT n, SESS.CTX.CFG.ENGINE n, SESS.CTX.CFG.OUT_IMMED n, SESS.CTX.CFG.CHAN n, SESS.CTX.CFG.PERIOD n, SESS.CTX.CFG.PHASE n, SESS.CTX.CFG.STALE_N n, SESS.CTX.CFG.RETRY n, SESS.CTX.CFG.SUBST_ZERO n, SESS.CTX.CFG.SPCOUNT n, SESS.CTX.IN.WBASE n, SESS.CTX.IN.WCOUNT n, SESS.CTX.INB.BBASE n, SESS.CTX.INB.BCOUNT n, SESS.CTX.OUT.WBASE n, SESS.CTX.OUT.WCOUNT n, SESS.CTX.OUTB.BBASE n, SESS.CTX.OUTB.BCOUNT n, SESS.CTX.ID n, SESS.CTX.TMO.LOST_TMO n, SESS.CTX.TMO.RESP_TMO n, SESS.CTX.TMO.JOIN_TMO n]
  .done (fields.foldl (fun (d : Dev) f => commitField f d) d) stOK []

/-- SESS_CFG (R244, R247): the registers CFG to TMO, written whole and committed; the image's EN is not taken (log 29). -/
def execSessCfg (h : CmdHdr) (n : Nat) (s : State) : Host.Outcome State Fault Refusal :=
  go (runCmd { unit := 4, op := 1, c := true, isl := [11] } h fun d =>
    if 4095 < n then .done d stBadParam []
    else if ¬ sendOk h 32 then .done d stBadBuffer []
    else if sessEn d n ∨ sessState d n ≠ 0 then .done d 0x0401 []
    else
      sessCfgEffect h n d) s

/-- The slices lie inside the image (log 29). -/
def slicesFit (d : Dev) (n : Nat) : Bool :=
  decide (d.rd (SESS.CTX.IN.WBASE n) + inWords d n ≤ 32768) && decide (d.rd (SESS.CTX.OUT.WBASE n) + outWords d n ≤ 32768) &&
    decide (d.rd (SESS.CTX.INB.BBASE n) + inBits d n ≤ 65536) && decide (d.rd (SESS.CTX.OUTB.BBASE n) + outBits d n ≤ 65536)

/-- SESS_POWER (R235 to R237, R244). -/
def execSessPower (h : CmdHdr) (n action : Nat) (s : State) : Host.Outcome State Fault Refusal :=
  go (runCmd { unit := 4, op := 2, c := true, isl := [2, 11] } h fun d =>
    if 4095 < n ∨ 1 < action then .done d stBadParam []
    else if action = 1 then
      if ¬ slicesFit d n then .done d stBadParam []
      else
        match sessRefused (d.wr (SESS.CTX.CFG.EN n) 1) n with
        | some st => .done (if st = 0x0403 then raiseEv 77 0 0 d else d) st []
        | none =>
          let d := commitField (SESS.CTX.CFG.EN n) (sessRequest n true d)
          let polled := sessState d n = 1 ∨ sessState d n = 2 ∨ sessState d n = 3 ∨ sessState d n = 5
          if d.flag (SESS.CTX.STAT.PENDING_REARM n) ∨ polled then .done d stOK [sessStatWord d n] else .later d (.session n true) []
    else
      let d := finishSess n true (commitField (SESS.CTX.CFG.EN n) (sessRequest n false d))
      if sessState d n = 0 then .done d stOK [sessStatWord d n] else .later d (.session n false) []) s

/-- SESS_READ (R244): 16-byte records. -/
def execSessRead (h : CmdHdr) (first count : Nat) (s : State) : Host.Outcome State Fault Refusal :=
  go (runCmd { unit := 4, op := 3, isl := [11], kw := true } h fun d =>
    if 4095 < first ∨ count = 0 ∨ 256 < count then .done d stBadParam []
    else if ¬ recvOk h (16 * count) then .done d stBadBuffer []
    else
      let n := min count (4096 - first)
      let recs := (List.range n).flatMap fun i => toBytes 4 (sessStatWord d (first + i)) ++ toBytes 4 (d.rd (SESS.CTX.LAST_RX (first + i))) ++ toBytes 4 (sessOutseqWord d (first + i)) ++ toBytes 4 0
      .done (outBuf h recs d) stOK [n]) s

/-- What SESS_PARAM does where its conditions hold (R231, R244). -/
def sessParamEffect (h : CmdHdr) (n rw len param : Nat) (d : Dev) : CmdOut :=
  let x := sessSt d n
  let id := x.paramId
  let val := if rw = 1 ∧ len ≠ 0 then inBuf h d else []
  let pdu := toBytes 1 (d.rd (SESS.CTX.STAT.EPOCH n)) ++ toBytes 1 id ++ toBytes 1 rw ++ toBytes 1 len ++ toBytes 2 param ++ val
  let d := setSess n { x with paramId := (id + 1) % 256, paramAt := x.paramAt ++ [(id, d.up)] } d
  .later (sendPdu n 6 pdu d) (paramTag n id) [rw]

/-- SESS_PARAM (R231, R244): a PARAM read or write, which completes at its answer or with NO_ANSWER. -/
def execSessParam (h : CmdHdr) (n rw len param : Nat) (s : State) : Host.Outcome State Fault Refusal :=
  go (runCmd { unit := 4, op := 4, isl := [11] } h fun d =>
    if 4095 < n ∨ 1 < rw ∨ 58 < len ∨ 65535 < param then .done d stBadParam []
    else if len ≠ 0 ∧ ¬ (if rw = 1 then sendOk h len else recvOk h len) then .done d stBadBuffer []
    else if sessState d n ≠ 2 ∧ sessState d n ≠ 5 then .done d 0x0402 []
    else
      let x := sessSt d n
      let id := x.paramId
      let val := if rw = 1 ∧ len ≠ 0 then inBuf h d else []
      let pdu := toBytes 1 (d.rd (SESS.CTX.STAT.EPOCH n)) ++ toBytes 1 id ++ toBytes 1 rw ++ toBytes 1 len ++ toBytes 2 param ++ val
      if pduLimit d n < pdu.length then .done d 0x0406 []
      else
        sessParamEffect h n rw len param d) s

/-- SESS_BCAST (R231, R244): a rejoin request or a freeze, on the channels and ports named. -/
def execSessBcast (h : CmdHdr) (sub cans ports : Nat) (s : State) : Host.Outcome State Fault Refusal :=
  go (runCmd { unit := 4, op := 5, c := true, isl := [11] } h fun d =>
    if ¬ (sub = 2 ∨ sub = 3) ∨ 2 ^ 16 ≤ cans ∨ 64 ≤ ports then .done d stBadParam []
    else .done (broadcast ((List.range 16).filter (bitOf cans)) ((List.range 6).filter (bitOf ports)) (toBytes 1 sub) d) stOK []) s

/-- What a change of EN of session n does (R235): the tests of SESS_POWER decide an enable; a refused one is an ignored write of port p. -/
def sessEnEffect (p n : Nat) (was : Bool) (d : Dev) : Dev :=
  let en := sessEn d n
  if en = was then d
  else if en then
    match (if slicesFit d n then sessRefused d n else some stBadParam) with
    | some st => ignoreWrite p (sessCtx n) ((if st = 0x0403 then raiseEv 77 0 0 d else d).wr (SESS.CTX.CFG.EN n) 0)
    | none => sessRequest n true d
  else sessRequest n false d

/-- A write of SESS.CTX[n].CFG with its EN bit (R7, R235): the tests of SESS_POWER decide an enable; a refused one is an ignored write. -/
def execSessEnWrite (p : Fin 2) (n : Fin 4096) (v : Nat) (s : State) : Host.Outcome State Fault Refusal :=
  go (guardWrite p.val (sessCtx n.val) fun d =>
    let was := sessEn d n.val
    let (d', refused) := writeFields false (sessCtx n.val) v d
    sessEnEffect p.val n.val was (if refused then ignoreWrite p.val (sessCtx n.val) d' else d')) s

/-! ### PDUs of stations (R228 to R233) -/

/-- The class and address of the first PDU of what is received (R228, R230). -/
def pduFirst : PduIn → Option (Nat × Nat)
  | .can _ [] => none
  | .can _ (f :: _) => some (f.id / 2 ^ 21 % 16, f.id / 2 ^ 9 % 4096)
  | .udp _ g => if g.data.length < 8 then none else some (fieldAt g.data 0 2 / 4096, fieldAt g.data 0 2 % 4096)

/-- Frames are received on a CAN channel one after another, or a datagram on an Ethernet port (R228 to R230). -/
def receive (p : PduIn) (d : Dev) : Dev :=
  match p with
  | .can n fs => fs.foldl (fun (d : Dev) f => canFrameIn n.val f 0 d) d
  | .udp q g => rxDatagram q.val g d

/-- The row of a PDU of class `cls` for session n: what brings such a PDU is received, with every PDU in it (R228 to R231). -/
def receiveAs (cls n : Nat) (p : PduIn) (d : Dev) : Dev := if pduFirst p = some (cls, n) then receive p d else d

/-- JOIN_REQUEST (R232, R233). -/
def execJoinRequest (n : Fin 4096) (p : PduIn) (s : State) : Host.Outcome State Fault Refusal := go (receiveAs 0 n.val p) s

/-! ### Polling (R234, R236) -/

/-- The first slot of session n at or after the present service time that has not run yet, in ns (R236). A fixed poll schedule has no layout in the
manual: its slots are where POLL_SLOT comes (DESIGN CHOICE, log 61). -/
def nextSlot (d : Dev) (n : Nat) : Nat :=
  if fixedSchedule d (sessEngine d n) then svcTotalNs d else
  let per := sessPeriodMs d n * 1000000
  let off := per * d.rd (SESS.CTX.CFG.PHASE n) / 256
  let k := (svcTotalNs d + per - off + per - 1) / per - 1
  let t := k * per + off
  if (sessSt d n).slotAt = some t then t + per else t

/-- A miss (R234): STALE once MISS_RUN reaches STALE_N in LIVE or FALLBACK. -/
def pollMiss (n : Nat) (d : Dev) : Dev :=
  let d := setSess n { sessSt d n with pollAt := none } (d.bump (SESS.CTX.STAT.MISS_RUN n))
  let st := sessState d n
  if (st = 2 ∨ st = 5) ∧ max 1 (d.rd (SESS.CTX.CFG.STALE_N n)) ≤ d.rd (SESS.CTX.STAT.MISS_RUN n) then setSessState n 3 d else d

/-- What POLL_SLOT does where its conditions hold (R234, R236, R239, R241). -/
def pollSlotEffect (n : Nat) (d : Dev) : Dev :=
  let t := nextSlot d n
  let d := toSvcNs t d
  -- a slot still unanswered when the next one comes is a miss
  let d := if (sessSt d n).pollAt.isSome then pollMiss n d else d
  let x := sessSt d n
  let d := setSess n { x with pollSeq := (x.pollSeq + 1) % 256, tries := 0, slotAt := some t } d
  let d := sendPoll n d
  let st := sessState d n
  let d :=
    if islandOn d 11 ∧ (st = 2 ∨ st = 5 ∨ (st = 1 ∧ (sessSt d n).firstSlot)) then
      let d := if hasOut d n then sendOut n false d else d
      -- remote setpoints stay as last sent in KEEP-WARM (R243)
      if opState d = 3 then sendSetpoints n (if st = 1 then setSess n { sessSt d n with spNew := (sessSt d n).sp != [] } d else d) else d
    else d
  finishSess n true (setSess n { sessSt d n with firstSlot := false } d)

/-- POLL_SLOT: the request, then the image and the setpoints that are due (R234, R236, R239, R241). -/
def execPollSlot (n : Fin 4096) (s : State) : Host.Outcome State Fault Refusal :=
  go (fun d =>
    let n := n.val
    if ¬ sessServed d ∨ ¬ isPolled d n then d
    else
      pollSlotEffect n d) s

/-- POLL_RESPONSE (R234). -/
def execPollResponse (n : Fin 4096) (p : PduIn) (s : State) : Host.Outcome State Fault Refusal := go (receiveAs 1 n.val p) s

/-- No confirmation within RESP_TMO (R240). -/
def outMiss (n : Nat) (d : Dev) : Dev :=
  let x := sessSt d n
  if x.outRep then raiseEv 75 0 0 (setSess n { x with outAt := none, outRep := false } d)
  else
    let d := (d.wr (SESS.CTX.STAT.UNCONF n) 1).bump (SESS.CTX.OUTSEQ.CONF_FAIL n)
    if (sessState d n = 2 ∨ sessState d n = 5 ∨ sessState d n = 1) ∧ isPolled d n then sendOut n true d else setSess n { sessSt d n with outAt := none } d

/-- What RESP_TIMEOUT does where its conditions hold (R234, R240, R244). -/
def respTimeoutEffect (n : Nat) (d : Dev) : Dev :=
  match (sessSt d n).paramAt with
  | [] => d
  | (id, t) :: rest =>
    let d := toUp (t + respNs d n * (d.rd (SESS.CTX.CFG.RETRY n) + 1)) d
    finishKindWith (paramTag n id) 0x0405 [] (setSess n { sessSt d n with paramAt := rest } d)

/-- RESP_TIMEOUT: of a poll (0), an OUT (1) or the oldest PARAM request (2) (R234, R240, R244). -/
def execRespTimeout (n : Fin 4096) (what : Fin 3) (s : State) : Host.Outcome State Fault Refusal :=
  go (fun d =>
    let n := n.val
    if what.val = 0 then
      match (sessSt d n).pollAt with
      | none => d
      | some t =>
        let d := toUp (t + respNs d n) d
        if (sessSt d n).tries < d.rd (SESS.CTX.CFG.RETRY n) ∧ isPolled d n then sendPoll n (setSess n { sessSt d n with tries := (sessSt d n).tries + 1 } d)
        else pollMiss n d
    else if what.val = 1 then
      match (sessSt d n).outAt with
      | none => d
      | some t => outMiss n (toUp (t + respNs d n) d)
    else
      respTimeoutEffect n d) s

/-- JOIN_TIMEOUT (R234): JOIN_TMO without a valid response in JOINING. -/
def execJoinTimeout (n : Fin 4096) (s : State) : Host.Outcome State Fault Refusal :=
  go (fun d =>
    if sessState d n.val ≠ 1 then d
    else setSessState n.val 3 (toUp ((sessSt d n.val).joinAt + max 1 (d.rd (SESS.CTX.TMO.JOIN_TMO n.val)) * 100000000) d)) s

/-- LOST_TIMEOUT (R234): LOST_TMO since the last valid response, in STALE; since the join where there was none. -/
def execLostTimeout (n : Fin 4096) (s : State) : Host.Outcome State Fault Refusal :=
  go (fun d =>
    if sessState d n.val ≠ 3 then d
    else
      let x := sessSt d n.val
      let d := toUp (x.rxAt.getD x.joinAt + max 10 (d.rd (SESS.CTX.TMO.LOST_TMO n.val)) * 100000000) d
      setSessState n.val 4 (setSess n.val { sessSt d n.val with pollAt := none, outAt := none, statusAt := d.up } d)) s

/-- LOST_POLL (R234): a STATUS request to a LOST session, SESS.CFG.LOST_POLL seconds after the last one or after it went LOST. -/
def execLostPoll (n : Fin 4096) (s : State) : Host.Outcome State Fault Refusal :=
  go (fun d =>
    if ¬ sessServed d ∨ sessState d n.val ≠ 4 then d
    else
      let d := toUp ((sessSt d n.val).statusAt + max 1 (d.rd SESS.CFG.LOST_POLL) * 1000000000) d
      sendPdu n.val 5 (toBytes 1 (d.rd (SESS.CTX.STAT.EPOCH n.val))) (setSess n.val { sessSt d n.val with statusAt := d.up } d)) s

/-! ### Other PDUs (R240, R241, R244, R245) -/

/-- OUT_CONFIRMATION: of an OUT or a SETPT (R231, R240). -/
def execOutConfirmation (n : Fin 4096) (p : PduIn) (s : State) : Host.Outcome State Fault Refusal :=
  go (fun d => receiveAs 3 n.val p (receiveAs 2 n.val p d)) s

/-- ALARM_PDU (R245). -/
def execAlarmPdu (n : Fin 4096) (p : PduIn) (s : State) : Host.Outcome State Fault Refusal := go (receiveAs 4 n.val p) s

/-- STATUS_ANSWER (R241). -/
def execStatusAnswer (n : Fin 4096) (p : PduIn) (s : State) : Host.Outcome State Fault Refusal := go (receiveAs 5 n.val p) s

/-- PARAM_ANSWER (R231, R244). -/
def execParamAnswer (n : Fin 4096) (p : PduIn) (s : State) : Host.Outcome State Fault Refusal := go (receiveAs 6 n.val p) s

/-- LEAVE_PDU (R235). -/
def execLeavePdu (n : Fin 4096) (p : PduIn) (s : State) : Host.Outcome State Fault Refusal := go (receiveAs 7 n.val p) s

/-! ### Stops (R235) -/

/-- SESSION_STOP_END: one RESP_TMO after LEAVE the session is IDLE, and its minimum off time runs. -/
def execSessionStopEnd (n : Fin 4096) (s : State) : Host.Outcome State Fault Refusal :=
  go (fun d =>
    let n := n.val
    if ¬ d.flag (SESS.CTX.STAT.STOPPING n) then d
    else
      let d := sessIdle n (toUp ((sessSt d n).stopAt + respNs d n) d)
      let d := setSess n { sessSt d n with minoff := true, stopAt := d.up } d
      finishSess n false d) s

/-- SESS_MINOFF_END: 10 ms after IDLE a latched enable acts: the session takes joins again (R235). -/
def execSessMinoffEnd (n : Fin 4096) (s : State) : Host.Outcome State Fault Refusal :=
  go (fun d =>
    let n := n.val
    if ¬ (sessSt d n).minoff then d
    else
      let d := toUp ((sessSt d n).stopAt + 10000000) d
      (setSess n { sessSt d n with minoff := false } d).wr (SESS.CTX.STAT.PENDING_REARM n) 0) s

/-- TIME_BROADCAST (R231, R244): 10 s after the last one, on the channels that carry enabled sessions and the ports with the TYRID role. -/
def execTimeBroadcast (s : State) : Host.Outcome State Fault Refusal :=
  go (fun d =>
    if ¬ sessServed d ∨ ¬ islandOn d 11 then d
    else
      let d := toUp (d.timeSentAt + 10000000000) d
      broadcast (sessChans d) (List.range 6) (toBytes 1 1 ++ toBytes 6 (svcSec d) ++ toBytes 4 (svcNs d)) { d with timeSentAt := d.up }) s

end Sys2Proof.Machine
end

