-- ==== Sys2Proof/Machine/MeterRows.lean ====
section
/-! DEFINITION. The commands and events of electrical metering (spec/11). -/
namespace Sys2Proof.Machine
open Sys2Proof

/-! ### Commands (R306, R310, R311) -/

/-- Close a channel's session. -/
def mcalClose (c : Nat) (d : Dev) : Dev := settleMeter (onMeter (fun m => { m with cal := del c m.cal }) (d.wr (METER.CH.CFG.CAL c) 0))
/-- The result words of MTR_CAL. -/
def mcalWords (d : Dev) (c measured : Nat) : List Nat := match look d.meter.cal c with
  | some s => [s.gain, s.phase, measured]
  | none => [d.rd (METER.CH.GAIN c), d.rd (METER.CH.PHASE c), measured]

/-- What MTR_CAL does where its conditions hold (R310). -/
def mtrCalEffect (ch action ref : Nat) (d : Dev) : CmdOut :=
  match look d.meter.cal ch with
  | none =>
    if action = 1 then
      let d := onMeter (fun m => { m with cal := ins ch { gain := d.rd (METER.CH.GAIN ch), phase := d.rd (METER.CH.PHASE ch), opened := d.up } m.cal }) (d.wr (METER.CH.CFG.CAL ch) 1)
      .done (settleMeter d) stOK (mcalWords d ch 0)
    else .done d 0x0603 []
  | some x =>
    if (x.busy.isSome ∧ action ≠ 5) ∨ action = 1 ∨ (action = 4 ∧ ¬ x.got) then .done d 0x0603 []
    else if action = 2 ∨ action = 3 then
      .later (onMeter (fun m => { m with cal := ins ch { x with busy := some (action == 3, ref % 2 ^ 32, 10, some 0) } m.cal }) d) (mcalTag ch) []
    else if action = 4 then
      let old := chanCal d ch
      let d := (d.wr (METER.CH.GAIN ch) x.gain).wr (METER.CH.PHASE ch) x.phase
      let d := commitField (METER.CH.GAIN ch) (commitField (METER.CH.PHASE ch) (onMeter (fun m => { m with oldCal := ins ch old m.oldCal }) d))
      .done (mcalClose ch d) stOK [x.gain, x.phase, 0]
    else .done (raiseEv 94 ch 0 (mcalClose ch (finishKindWith (mcalTag ch) 0x0603 [] d))) stOK (mcalWords d ch 0)

/-- MTR_CAL (R310). -/
def execMtrCal (h : CmdHdr) (ch action ref : Nat) (s : State) : Host.Outcome State Fault Refusal :=
  go (runCmd { unit := 6, op := 1, c := true, isl := [8] } h fun d =>
    if 59 < ch ∨ action = 0 ∨ 5 < action then .done d stBadParam []
    else if action = 3 ∧ ch % 15 = 0 then .done d stBadParam []
    else
      mtrCalEffect ch action ref d) s

/-- MTR_SERVICE (R306): the take-out or return completes with the hand-over at the next sample boundary, at once while no samples are taken. -/
def execMtrService (h : CmdHdr) (k action : Nat) (s : State) : Host.Outcome State Fault Refusal :=
  go (runCmd { unit := 6, op := 2, c := true, isl := [8] } h fun d =>
    if 3 < k ∨ 1 < action then .done d stBadParam []
    else
      let out := bitOf (d.rd METER.DSP.OUT) k
      if action = 0 then
        if out then .done d stOK [dspWord d]
        else if d.rd METER.DSP.OUT ≠ 0 ∨ d.meter.svc.isSome then .done d 0x0601 []
        else if meterRuns d then .later (onMeter (fun m => { m with svc := some (k, false) }) d) (.mtrService k) []
        else let d := dspOut k true d; .done d stOK [dspWord d]
      else if ¬ out then .done d stOK [dspWord d]
      else if bitOf (d.rd METER.DSP.FAIL) k then .done d 0x0605 []
      else if bitOf (d.rd METER.DSP.TEST) k then .later (onMeter (fun m => { m with retWait := some k }) d) (.mtrService k) []
      else if meterRuns d then .later (onMeter (fun m => { m with svc := some (k, true) }) d) (.mtrService k) []
      else let d := dspBack k d; .done d stOK [dspWord d]) s

/-- MTR_STREAM (R303, R311). -/
def execMtrStream (h : CmdHdr) (ring period fmask bmask flags : Nat) (s : State) : Host.Outcome State Fault Refusal :=
  go (runCmd { unit := 6, op := 3, c := true, isl := [8], kw := true } h fun d =>
    if 1 < period ∨ 65535 < fmask ∨ 15 < bmask ∨ 15 < flags then .done d stBadParam []
    else if 31 < ring ∨ ringPort ring ≠ h.port.val ∨ ringKind d ring ≠ 4 ∨ ringState d ring ≠ 1 then .done d stNotOwner []
    else .done (onMeter (fun m => { m with stream := some { ring := ring, perSec := period == 1, fmask := fmask, bmask := bmask, flags := flags } }) d) stOK []) s

/-- The held records of a list with sequences first .. first + count − 1 (R311, R331). -/
def recsFrom (l : List (List Byte)) (first count : Nat) : List (List Byte) :=
  l.filter fun r => decide (first ≤ fieldAt r 4 4) && decide (fieldAt r 4 4 < first + count)

/-- MTR_IVL_READ (R311). -/
def execMtrIvlRead (h : CmdHdr) (f first count : Nat) (s : State) : Host.Outcome State Fault Refusal :=
  go (runCmd { unit := 6, op := 4, isl := [8], kw := true } h fun d =>
    if 15 < f ∨ count = 0 ∨ 96 < count then .done d stBadParam []
    else if ¬ recvOk h (192 * count) then .done d stBadBuffer []
    else
      let rs := recsFrom (fdrSt d f).recs first count
      if rs = [] then .done d 0x0604 [] else .done (outBuf h rs.flatten d) stOK [rs.length]) s

/-! ### Register rows (R287, R296) -/

/-- What a write of CTT[t].CFG does (R287): the shadow points become the table, each channel following at its next window boundary; or CFG_ERR. -/
def cttEffect (t : Nat) (d : Dev) : Dev :=
  match tabPoints d t with
  | none => d.wr (METER.CTT.CFG.CFG_ERR t) 1
  | some ps =>
    let old := lookD d.meter.tabs t []
    let users := (List.range 60).filter fun c => d.rd (METER.CH.CFG.TABLE c) == t && (look d.meter.oldTab c).isNone
    onMeter (fun m => { m with tabs := if ps = [] then del t m.tabs else ins t ps m.tabs, oldTab := users.foldl (fun o c => ins c old o) m.oldTab }) (d.wr (METER.CTT.CFG.CFG_ERR t) 0)

/-- A write to METER.CTT[t].CFG (R287): the shadow points become the table, each channel following at its next window boundary; or CFG_ERR. -/
def execCttCfgWrite (p : Fin 2) (t : Fin 32) (v : Nat) (s : State) : Host.Outcome State Fault Refusal :=
  go (guardWrite p.val (0xD03000 + 0x80 * t.val) fun d =>
    let (d, refused) := writeFields false (0xD03000 + 0x80 * t.val) v d
    if refused then ignoreWrite p.val (0xD03000 + 0x80 * t.val) d else cttEffect t.val d) s

/-- A read of METER.FDR[f].SNAP[r], which latches WRAPCNT[r] for the next read from the same port (R296). -/
def execSnapRead (p : Fin 2) (f : Fin 16) (r : Fin 8) (s : State) : Host.Outcome State Fault Refusal :=
  go (answerRead p.val (0xD01088 + 0x100 * f.val + 4 * r.val) 4) s

/-! ### Samples, cycles, windows -/

/-- METER_SAMPLE: pending hand-overs of a DSP, then one sample of all 60 channels (R286, R306). -/
def execMeterSample (raw : List Int) (s : State) : Host.Outcome State Fault Refusal :=
  go (fun d => if meterRuns d then takeSamples raw (dspHandOver (settleMeter d)) else d) s

/-- The unit of the energy residues: one LSB of 0.1 mWh is 0.36 W s, at 8,000 samples/s and products in 2⁻²⁹⁸ (R293, R295). -/
def eUnit : Nat := 2880 * 2 ^ 298

/-- POUT[k] takes the increment of its register (R299). -/
def poutAdd (k inc : Nat) (d : Dev) : Dev :=
  let c := max 1 (d.rd (METER.POUT.CONST k))
  let r := lookD d.meter.pres k 0 + inc
  let n := d.rd (METER.POUT.STAT.BACKLOG k) + r / c
  let d := onMeter (fun m => { m with pres := ins k (r % c) m.pres }) (d.wr (METER.POUT.STAT.BACKLOG k) (min n 65535))
  if 65535 < n then raiseEv 92 k 0 (d.wr (METER.POUT.STAT.OVF k) 1) else d

/-- WRAPCNT of a register of feeder f has changed (R296, R304). -/
def fdrWrapped (f : Nat) (d : Dev) : Dev :=
  let d := setFdr f { fdrSt d f with ivl := { runIvl d (fdrSt d f).ivl with wrap := true } } d
  raiseEv 90 f 0 (d.wr (METER.FDR.STAT.WRAP f) 1)

/-- Add `units` of residue to register r of feeder f (R293, R295, R296, R299). -/
def addEnergy (f r units : Nat) (d : Dev) : Dev :=
  let x := fdrSt d f
  let t := lookD x.res r 0 + units
  let inc := t / eUnit
  let w := wrapOf d f r
  let d := setFdr f { x with res := ins r (t % eUnit) x.res } d
  let d := onMeter (fun m => { m with e := ins (8 * f + r) ((energy d f r + inc) % 2 ^ 64) m.e }) d
  let d := if wrapOf d f r = w then d else fdrWrapped f d
  (List.range 32).foldl (fun (d : Dev) k =>
    if d.flag (METER.POUT.CFG.EN k) ∧ d.rd (METER.POUT.CFG.FDR k) = f ∧ d.rd (METER.POUT.CFG.REG k) = r then poutAdd k inc d else d) d

/-- A signed energy as the residue unit's magnitude; what is no number adds nothing (log 32). -/
def eMag (o : Option Int) : Int := o.getD 0

/-- The test outputs of feeder f follow its last cycle's power (R300). -/
def dtfUpdate (f : Nat) (d : Dev) : Dev :=
  (List.range 4).foldl (fun (d : Dev) k =>
    if d.flag (METER.DTF.CFG.EN k) ∧ d.rd (METER.DTF.CFG.FDR k) = f then
      let q := (fdrSt d f).pqs
      let x := f32Abs (match d.rd (METER.DTF.CFG.QTY k) with
        | 1 => q.2.1
        | 2 => q.2.2
        | _ => q.1)
      -- CONST 1 to 1,000,000
      let c := f32Clamp (d.rd (METER.DTF.CONST k)) 0x3F800000 0x49742400
      let fr := f32Div false (f32Mul false x c) 0x4A5BBA00
      if f32Lt 0x461C4000 fr then (d.wr (METER.DTF.FREQ k) 0x461C4000).wr (METER.DTF.CFG.CLAMP k) 1 else d.wr (METER.DTF.FREQ k) fr
    else d) d

/-- The cycle that ends, of the n samples up to number hi, adds its energies to feeder f (R293); one in which P_VALID was 0 adds nothing and ends
the gap it belongs to when P_VALID is 1 again (R294, R307). -/
def cycleEnergy (f hi n freq : Nat) (d : Dev) : Dev :=
  let d := settleFdr f d
  let valid := d.flag (METER.FDR.STAT.P_VALID f)
  let lapse := (fdrSt d f).lapse
  let d := setFdr f { fdrSt d f with lapse := !valid } d
  if ¬ valid then d.wr (METER.FDR.STAT.QUAD f) 0
  else if lapse then gapClose f (svcTotalNs d) (d.wr (METER.FDR.STAT.QUAD f) 0)
  else
    let b := busOfFdr d f
    let u := fun p => lastX d (chanV b p) hi n
    let i := fun p => lastX d (chanI f p) hi n
    let ep : Int := (phases fun p => eMag (sumProd (u p) (i p))).foldl (· + ·) 0
    let q := powerOf d f hi n freq
    let eq : Int := eMag (f32Exact q.qt) * (n : Int) * (2 ^ 149 : Nat)
    let es : Int := (phases fun p => eMag (f32Exact (rmsOf (u p))) * eMag (f32Exact (q.irms.getD p 0))).foldl (· + ·) 0 * (n : Int)
    let d := dtfUpdate f (setFdr f { fdrSt d f with pqs := (q.pt, q.qt, q.st) } d)
    if q.irms.all fun x => f32Lt x (d.rd (METER.FDR.ISTART f)) then d.wr (METER.FDR.STAT.QUAD f) 0
    else
      let pos := decide (0 ≤ ep)
      let qpos := decide (0 ≤ eq)
      let quad := if pos && qpos then 1 else if qpos then 2 else if pos then 4 else 3
      let d := d.wr (METER.FDR.STAT.QUAD f) quad
      let d := addEnergy f (if pos then 0 else 1) ep.natAbs d
      let d := addEnergy f (1 + quad) eq.natAbs d
      addEnergy f (if pos then 6 else 7) es.natAbs d

/-- Cycles of a window (R290). -/
def winCycles (d : Dev) (b : Nat) : Nat := if d.flag (METER.BUS.CFG.NOM_F b) then 12 else 10

/-- Cycles over the distance of two positions, in Hz (R291). -/
def freqOf (cycles dist : Nat) : Nat := if dist = 0 then 0 else f32OfRatio (cycles * 8000 * 2 ^ 32 : Nat) dist

/-- The measurement of a calibration at a window's end (R310): the tenth gives the new value. -/
def mcalWindow (c hi n freq : Nat) (d : Dev) : Dev :=
  match look d.meter.cal c with
  | none => d
  | some x =>
    match x.busy with
    | none => d
    | some (ang, ref, left, sum) =>
      let v := if ang then fundAngle (lastX d (chanV (busOfChan d c) 0) hi n) (lastX d c hi n) freq else rmsOf (lastX d c hi n)
      let sum := match sum, f32Exact v with
        | some s, some a => some (s + a)
        | _, _ => none
      if 1 < left then onMeter (fun m => { m with cal := ins c { x with busy := some (ang, ref, left - 1, sum) } m.cal }) d
      else
        let meas := match sum with
          | some s => f32OfRatioE s 10 (-149)
          | none => f32NaN
        let eff := chanCal d c
        let new := if ang then f32Sub false (f32Add false eff.2 ref) meas else f32Div false (f32Mul false eff.1 ref) meas
        let ok := if ang then f32Le 0xC0A00000 new && f32Le new 0x40A00000 else f32Le 0x3F666666 new && f32Le new 0x3F8CCCCD
        let x' : MCal := { x with busy := none, gain := if ok && !ang then new else x.gain, phase := if ok && ang then new else x.phase, got := x.got || ok }
        let d := onMeter (fun m => { m with cal := ins c x' m.cal }) d
        finishKindWith (mcalTag c) (if ok then stOK else 0x0602) (if ang then [x.gain, new, meas] else [new, x.phase, meas]) d

/-- The quantities of feeder f at a window's end (R291). -/
def fdrWindow (f hi n freq cycles : Nat) (stream : Bool) (d : Dev) : Dev :=
  let b := busOfFdr d f
  let q := powerOf d f hi n freq
  let d := (List.range 3).foldl (fun (d : Dev) p => d.wr (METER.FDR.IRMS f p) (q.irms.getD p 0)) d
  let d :=
    if d.flag (METER.FDR.STAT.P_VALID f) then
      let d := (List.range 3).foldl (fun (d : Dev) p => (d.wr (METER.FDR.P f p) (q.p.getD p 0)).wr (METER.FDR.ANG f p)
        (if d.flag (METER.BUS.STAT.FREQ_VALID b) then fundAngle (lastX d (chanV b p) hi n) (lastX d (chanI f p) hi n) freq else 0)) d
      (((d.wr (METER.FDR.PT f) q.pt).wr (METER.FDR.QT f) q.qt).wr (METER.FDR.ST f) q.st).wr (METER.FDR.PF f) q.pf
    else d
  if stream ∧ streamWants (·.fmask) f d then
    let w (r : FRef) := toBytes 4 (d.rd r)
    mtrSend 1 f (fdrFlags d f) cycles
      (((List.range 3).flatMap fun p => w (METER.FDR.IRMS f p)) ++ ((List.range 3).flatMap fun p => w (METER.FDR.P f p)) ++ w (METER.FDR.QT f) ++ w (METER.FDR.ST f) ++ w (METER.FDR.PF f) ++ w (METER.BUS.FREQ b)) d
  else d

/-- A window of busbar b ends with its last complete cycle (R290, R291). -/
def windowEnd (b : Nat) (d : Dev) : Dev :=
  let x := busSt d b
  let hi := x.cyc / 2 ^ 32
  let n := hi - x.win / 2 ^ 32
  let cycles := x.winCyc
  let valid := d.flag (METER.BUS.STAT.FREQ_VALID b)
  let d := if valid then d.wr (METER.BUS.FREQ b) (freqOf cycles (x.cyc - x.win)) else d
  let freq := d.rd (METER.BUS.FREQ b)
  -- an unused channel reads 0 (R284)
  let used (p : Nat) := d.rd (METER.CH.SCALE (chanV b p)) % 2 ^ 31 != 0
  let d := (List.range 3).foldl (fun (d : Dev) p => (d.wr (METER.BUS.URMS b p) (rmsOf (lastX d (chanV b p) hi n))).wr (METER.BUS.ANG b p)
    (if p ≠ 0 ∧ valid ∧ used p then fundAngle (lastX d (chanV b 0) hi n) (lastX d (chanV b p) hi n) freq else 0)) d
  let stream : Bool := match d.meter.stream with
    | some s => !s.perSec || lookD s.sent b 0 != svcSec d
    | none => false
  let d := onMeter (fun m => { m with stream := m.stream.map fun s => { s with sent := ins b (svcSec d) s.sent } }) d
  let d := if stream ∧ streamWants (·.bmask) b d then
      mtrSend 2 b (busFlags d b) cycles (((List.range 3).flatMap fun p => toBytes 4 (d.rd (METER.BUS.URMS b p))) ++ toBytes 4 freq ++ toBytes 4 (d.rd (METER.BUS.ANG b 1)) ++ toBytes 4 (d.rd (METER.BUS.ANG b 2))) d
    else d
  let d := (fdrsOf d b).foldl (fun (d : Dev) f => fdrWindow f hi n freq cycles stream d) d
  let chans := (List.range 60).filter fun c => busOfChan d c == b
  let d := chans.foldl (fun (d : Dev) c => mcalWindow c hi n freq d) d
  let d := onMeter (fun m => { m with oldTab := keepKeys (fun c => !chans.contains c) m.oldTab, oldCal := keepKeys (fun c => !chans.contains c) m.oldCal }) d
  setBus b { busSt d b with win := (busSt d b).cyc, winCyc := 0 } d

/-- Nominal frequency of busbar b in Hz (R290). -/
def nomHz (d : Dev) (b : Nat) : Nat := if d.flag (METER.BUS.CFG.NOM_F b) then 60 else 50

/-- The L1 fundamental of busbar b, of magnitude `mag` and a frequency, makes the frequency valid (R290). -/
def freqInRange (d : Dev) (b mag freq : Nat) : Bool :=
  let ud := d.rd (METER.BUS.UDIN b)
  chanOk d (chanV b 0) && f32Le (f32Mul false ud 0x3DCCCCCD) mag && f32Le mag (f32Mul false ud 0x40000000) && f32Le 0x422A0000 freq && f32Le freq 0x428A0000

/-- A cycle of busbar b ends at a position (R290, R291, R293): its energies, FREQ_VALID, and the frequency over each 10 s of service time whose
cycles were whole. -/
def cycleAt (b pos freq : Nat) (valid : Bool) (d : Dev) : Dev :=
  let x := busSt d b
  let hi := pos / 2 ^ 32
  let n := hi - x.cyc / 2 ^ 32
  let d := (fdrsOf d b).foldl (fun (d : Dev) f => cycleEnergy f hi n freq d) (setFreqValid b valid d)
  let ten := svcSec d / 10
  let next := decide (ten ≠ x.ten)
  let d := match x.tenPos with
    | some p => if next ∧ x.tenCyc ≠ 0 ∧ valid then d.wr (METER.BUS.FREQ10 b) (freqOf x.tenCyc (x.cyc - p)) else d
    | none => d
  -- the first 10 s after a start, and one with an invalid cycle, is not whole
  let tenPos := if ¬ valid ∨ x.cycN = 0 then none else if next then some pos else x.tenPos
  setBus b { busSt d b with marks := if valid then (pos :: x.marks).filter (fun p => decide (pos ≤ p + 8000 * 2 ^ 32)) else [], cyc := pos, cycAt := svcTotalNs d - (d.meter.n * 2 ^ 32 - pos) * 125000 / 2 ^ 32, cycN := n, winCyc := x.winCyc + 1, ten := ten, tenPos := tenPos, tenCyc := if next || !valid then 0 else x.tenCyc + 1 } d

/-- METER_CYCLE_END (R290, R293): a positive-going crossing of busbar b's L1 fundamental lies at fraction `cross` / 2³² of the newest sample interval; or
there is none, and a block of 1/NOM_F ends the cycle where the frequency is not valid, or is no longer. -/
def execMeterCycleEnd (b : Fin 4) (cross : Option Nat) (s : State) : Host.Outcome State Fault Refusal :=
  go (fun d =>
    let b := b.val
    -- a window whose last cycle has ended is formed first: windows follow each other without gap or overlap
    let d := if meterRuns d ∧ winCycles d b ≤ (busSt d b).winCyc then windowEnd b d else d
    let x := busSt d b
    let last := d.meter.n * 2 ^ 32
    let was := d.flag (METER.BUS.STAT.FREQ_VALID b)
    if ¬ meterRuns d ∨ d.meter.n ≤ x.from_ then d
    else
      match cross with
      | some frac =>
        let pos := last - 2 ^ 32 + frac % 2 ^ 32
        if pos ≤ x.cyc then d
        else
          match x.cross with
          | none => setBus b { x with cross := some pos } d
          | some c =>
            if pos ≤ c then d
            else
              let freq := freqOf 1 (pos - c)
              let valid := freqInRange d b (fundMag (lastX d (chanV b 0) (pos / 2 ^ 32) (pos / 2 ^ 32 - c / 2 ^ 32)) freq) freq
              let d := setBus b { x with cross := some pos } d
              if valid ∨ was then cycleAt b pos freq valid d else d
      | none =>
        let pos := x.cyc + 8000 * 2 ^ 32 / nomHz d b
        let nom := f32OfInt (nomHz d b)
        let gone := x.cross.all (fun c => decide (8000 * 2 ^ 32 * 10 / 425 < last - c)) || !freqInRange d b (fundMag (lastX d (chanV b 0) d.meter.n (8000 / nomHz d b)) nom) nom
        if last < pos ∨ (was ∧ ¬ gone) then d else cycleAt b pos nom false d) s

/-- METER_WINDOW_END (R290, R291). -/
def execMeterWindowEnd (b : Fin 4) (s : State) : Host.Outcome State Fault Refusal :=
  go (fun d => if meterRuns d ∧ winCycles d b.val ≤ (busSt d b.val).winCyc then windowEnd b.val d else d) s

/-! ### Voltage events (R298) -/

/-- x against a percentage of UDIN: x × 100 < pct × UDIN, exactly. -/
def belowPct (x udin pct : Nat) : Bool := match f32Exact x, f32Exact udin with
  | some a, some u => decide (a * 100 < (pct : Int) * u)
  | _, _ => false
/-- x above the percentage. -/
def abovePct (x udin pct : Nat) : Bool := match f32Exact x, f32Exact udin with
  | some a, some u => decide ((pct : Int) * u < a * 100)
  | _, _ => false

/-- The samples of Urms(1/2): those of the last complete cycle's length, of 1/NOM_F before there is one. -/
def halfCycleN (d : Dev) (b : Nat) : Nat := if (busSt d b).cycN = 0 then 8000 / nomHz d b else (busSt d b).cycN

/-- What URMS_HALF_CYCLE does where its conditions hold (R298). -/
def urmsHalfCycleEffect (b : Nat) (d : Dev) : Dev :=
  let ud := d.rd (METER.BUS.UDIN b)
  let u := phases fun p => rmsOf (lastX d (chanV b p) d.meter.n (halfCycleN d b))
  let sag := d.rd (METER.BUS.CFG.SAG_THR b)
  let swell := d.rd (METER.BUS.CFG.SWELL_THR b)
  let int := d.rd (METER.BUS.CFG.INT_THR b)
  let hy := d.rd (METER.BUS.CFG.HYST b)
  let mask (t : Nat → Bool) : Nat := b2n (t (u.getD 0 0)) + 2 * b2n (t (u.getD 1 0)) + 4 * b2n (t (u.getD 2 0))
  let lo := u.foldl (fun m x => if f32Lt x m then x else m) (u.getD 0 0)
  let hi := u.foldl (fun m x => if f32Lt m x then x else m) (u.getD 0 0)
  let run (kind m : Nat) (starts ends : Bool) (val : Nat) (d : Dev) : Dev :=
    match look (busSt d b).evt kind with
    | none => if starts then evtStart b kind m val d else d
    | some e =>
      let worse := if kind = 1 then f32Lt val e.val else f32Lt e.val val
      let d := setBus b { busSt d b with evt := ins kind { e with mask := e.mask ||| m, val := if worse then val else e.val } (busSt d b).evt } d
      if ends then evtEnd b kind false d else d
  let mSag := mask fun x => belowPct x ud sag
  let mSw := mask fun x => abovePct x ud swell
  let mInt := mask fun x => belowPct x ud int
  let d := run 1 mSag (mSag != 0) (u.all fun x => !belowPct x ud (sag + hy)) lo d
  let d := run 2 mSw (mSw != 0) (u.all fun x => !abovePct x ud (swell - hy)) hi d
  run 3 mInt (mInt == 7) (u.any fun x => !belowPct x ud (int + hy)) 0 d

/-- URMS_HALF_CYCLE: Urms(1/2) of the last cycle's length against the thresholds, once a cycle's samples have been taken since metering started (R298). -/
def execUrmsHalfCycle (b : Fin 4) (s : State) : Host.Outcome State Fault Refusal :=
  go (fun d =>
    let b := b.val
    let ud := d.rd (METER.BUS.UDIN b)
    if ¬ meterRuns d ∨ ud % 2 ^ 31 = 0 ∨ bitOf ud 31 ∨ d.meter.n < (busSt d b).from_ + halfCycleN d b then d
    else
      urmsHalfCycleEffect b d) s

/-! ### Records and checkpoints (R304, R305, R308) -/

/-- What METER_INTERVAL_CLOSE does where its conditions hold (R304). -/
def meterIntervalCloseEffect  (d : Dev) : Dev :=
  let per := ivlMinutes (d.rd METER.CFG.IVL) 2 * 60
  let off := d.rd CRUST.RTC_CFG.UTC_OFFSET
  let now := d.time.svc + secUnits - 1
  let t := ((now / secUnits - off) + per - 1) / per * per + off
  let t := if d.meter.ivlAt = some t then t + per else t
  let d := onMeter (fun m => { m with ivlAt := some t }) (toSvcNs (t * 1000000000) d)
  (List.range 16).foldl (fun (d : Dev) f => if fdrEn d f then closeIvl f (t - off) d else d) d

/-- METER_INTERVAL_CLOSE: at the next UTC multiple of IVL every enabled feeder closes its record (R304; log 20); none with METER off (R309). -/
def execMeterIntervalClose (s : State) : Host.Outcome State Fault Refusal :=
  go (fun d =>
    if ¬ (opState d = 3 ∨ opState d = 4) ∨ ¬ islandOn d 8 then d
    else
      meterIntervalCloseEffect d) s

/-- RECORD_SIGNING: KE signs or releases the oldest waiting record (R305, R327). -/
def execRecordSigning (s : State) : Host.Outcome State Fault Refusal := go signNext s

/-- METER_CHECKPOINT: 60 s after the last one (R308). -/
def execMeterCheckpoint (s : State) : Host.Outcome State Fault Refusal :=
  go (fun d =>
    if ¬ (opState d = 3 ∨ opState d = 4) then d
    else
      let d := toUp (d.meter.ckptUp + 60000000000) d
      meterCkpt false (onMeter (fun m => { m with ckptUp := d.up }) d)) s

/-! ### Outputs (R299, R300) -/

/-- POUT_PULSE: one pulse of the backlog, high and low for WIDTH_MS each (R299). -/
def execPoutPulse (k : Fin 32) (s : State) : Host.Outcome State Fault Refusal :=
  go (fun d =>
    let k := k.val
    if ¬ d.flag (METER.POUT.CFG.EN k) ∨ d.rd (METER.POUT.STAT.BACKLOG k) = 0 ∨ localSafe d ∨ ¬ meterRuns d then d
    else
      let d := toUp (lookD d.meter.pBusy k 0) d
      let w := clampN 2 250 (d.rd (METER.POUT.CFG.WIDTH_MS k)) * 1000000
      let d := d.wr (METER.POUT.STAT.BACKLOG k) (d.rd (METER.POUT.STAT.BACKLOG k) - 1)
      onMeter (fun m => { m with pBusy := ins k (d.up + 2 * w) m.pBusy, pSent := ins k (lookD m.pSent k 0 + 1) m.pSent }) d) s

/-- What DTF_PULSE does where its conditions hold (R300). -/
def dtfPulseEffect (k : Nat) (d : Dev) : Dev :=
  match f32Exact (d.rd (METER.DTF.FREQ k)) with
  | some fr =>
    if fr ≤ 0 then d
    else
      let t := lookD d.meter.dtfAt k (d.up * 1000) + 1000000000000 * 2 ^ 149 / fr.toNat
      let d := toUp (t / 1000) d
      onMeter (fun m => { m with dtfAt := ins k (max t (d.up * 1000)) m.dtfAt, dtfSent := ins k (lookD m.dtfSent k 0 + 1) m.dtfSent }) d
  | none => d

/-- DTF_PULSE: the next pulse of a test output, one period after the one before (R300). -/
def execDtfPulse (k : Fin 4) (s : State) : Host.Outcome State Fault Refusal :=
  go (fun d =>
    let k := k.val
    let f := d.rd (METER.DTF.CFG.FDR k)
    if ¬ d.flag (METER.DTF.CFG.EN k) ∨ ¬ d.flag (METER.FDR.STAT.P_VALID f) ∨ localSafe d ∨ ¬ meterRuns d then d
    else
      dtfPulseEffect k d) s

/-! ### Timers -/

/-- MCAL_TIMEOUT: a session open for 600 s is abandoned (R310). -/
def execMcalTimeout (c : Fin 60) (s : State) : Host.Outcome State Fault Refusal :=
  go (fun d =>
    match look d.meter.cal c.val with
    | none => d
    | some x =>
      let d := toUp (x.opened + 600000000000) d
      let d := finishKindWith (mcalTag c.val) 0x0603 [] d
      raiseEv 94 c.val 0 (mcalClose c.val d)) s

/-- What DSP_SELFTEST_END does where its conditions hold (R306). -/
def dspSelftestEndEffect (k : Nat) (pass : Bool) (d : Dev) : Dev :=
  let d := d.wr METER.DSP.TEST (setBit (d.rd METER.DSP.TEST) k false)
  let wait := d.meter.retWait = some k
  let d := if wait then onMeter (fun m => { m with retWait := none }) d else d
  if pass then (if wait then onMeter (fun m => { m with svc := some (k, true) }) d else d)
  else
    let d := d.wr METER.DSP.FAIL (setBit (d.rd METER.DSP.FAIL) k true)
    let d := raise (139 + k) 0 (raiseEv 91 (dspWord d) 0 d)
    if wait then finishKindWith (.mtrService k) 0x0605 [] d else d

/-- DSP_SELFTEST_END (R306): a failure keeps the DSP out and raises its detector; a waiting return goes on. -/
def execDspSelftestEnd (k : Fin 4) (pass : Bool) (s : State) : Host.Outcome State Fault Refusal :=
  go (fun d =>
    let k := k.val
    if ¬ bitOf (d.rd METER.DSP.TEST) k then d
    else
      dspSelftestEndEffect k pass d) s

/-- Whether the last value of an entry is GOOD, and the value (R263): the sources of a correction table are entries of KIND 2 or 3 (R288). -/
def entryGood (d : Dev) (k e : Nat) : Option Nat :=
  if d.rd (PIO.ENTRY.CFG.KIND k e) = 2 ∨ d.rd (PIO.ENTRY.CFG.KIND k e) = 3 then
    (let i := d.meter.copy.inWord (256 * k + e)
     if i.q = 0 then some i.v else none)
  else none

/-- METER's copy of the input side as it stands now: hand-overs whose tick has come are applied (R315). -/
def copyNow (d : Dev) : Dev :=
  let T := match d.gate.t0 with
    | none => 0
    | some t => (d.up - t) / tickNs
  onMeter (fun m => { m with copy := applyDue false T m.copy }) d

/-- What CTT_TEMP_UPDATE does where its conditions hold (R287, R288). -/
def cttTempUpdateEffect (t : Nat) (d : Dev) : Dev :=
  let d := copyNow d
  let tdef := d.rd (METER.CTT.TDEF t)
  let good := if d.flag (METER.CTT.CFG.FIXED t) then none else entryGood d (d.rd (METER.CTT.CFG.SAR t)) (d.rd (METER.CTT.CFG.ENTRY t))
  let d := match good with
    | some v => onMeter (fun m => { m with ttemp := ins t (v, d.up) m.ttemp }) d
    | none => d
  let kept := match look d.meter.ttemp t with
    | some (v, at_) => if d.up ≤ at_ + 600000000000 then some v else none
    | none => none
  let fixed := d.flag (METER.CTT.CFG.FIXED t)
  let temp := if fixed then tdef else kept.getD tdef
  let usesDef := !fixed && kept.isNone
  let (_, _, out) := tabAt (lookD d.meter.tabs t []) temp
  let ev := (usesDef && !d.flag (METER.CTT.CFG.TEMP_DEF t)) || (out && !d.flag (METER.CTT.CFG.TEMP_RANGE t))
  let d := ((d.wr (METER.CTT.TEMP t) temp).put (METER.CTT.CFG.TEMP_DEF t) usesDef).put (METER.CTT.CFG.TEMP_RANGE t) out
  if ev then raiseEv 93 t 0 d else d

/-- CTT_TEMP_UPDATE: a table takes its temperature once per second (R287, R288). -/
def execCttTempUpdate (t : Fin 32) (s : State) : Host.Outcome State Fault Refusal :=
  go (fun d =>
    let t := t.val
    if ¬ islandOn d 8 ∨ ¬ (opState d = 3 ∨ opState d = 4) then d
    else
      let d := toUp ((look d.meter.ttAt t).elim 0 (· + 1000000000)) d
      cttTempUpdateEffect t (onMeter (fun m => { m with ttAt := ins t d.up m.ttAt }) d)) s

end Sys2Proof.Machine
end

