-- ==== Sys2Proof/Machine/Water.lean ====
section
/-! DEFINITION. The water property unit (R318, R319): region 1 of IAPWS-IF97, in binary64, delivered as binary32, and its saturation temperature. The
formulation's constants are those of its release (PRESUMED, log 30). -/
namespace Sys2Proof.Machine

/-- n / dn as the nearest binary64. -/
def f64OfRatio (n : Int) (dn : Nat) : Nat :=
  let k := 128 + Nat.log2 dn
  let q := n.natAbs * 2 ^ k / dn
  let st := if n.natAbs * 2 ^ k % dn = 0 then 0 else 1
  f64Round (decide (n < 0)) (2 * q + st) (-(k : Int) - 1)
/-- n × 10^(−e) as the nearest binary64. -/
def f64OfDec (n : Int) (e : Nat) : Nat := f64OfRatio n (10 ^ e)
/-- x^k by products, and by the inverse for a negative k. -/
def f64Pow (x : Nat) (k : Int) : Nat :=
  let p := (List.range k.natAbs).foldl (fun a _ => f64Mul a x) f64One
  if k < 0 then f64Div f64One p else p

/-- A term of the basic equation of region 1: I, J, and n as digits and decimals. -/
structure If97Term where
  i : Nat
  j : Int
  n : Int
  dec : Nat
deriving DecidableEq, Repr

/-- The terms of region 1. -/
def if97Terms : List If97Term :=
  [⟨0, -2, 14632971213167, 14⟩, ⟨0, -1, -84548187169114, 14⟩, ⟨0, 0, -37563603672040, 13⟩, ⟨0, 1, 33855169168385, 13⟩,
   ⟨0, 2, -95791963387872, 14⟩, ⟨0, 3, 15772038513228, 14⟩, ⟨0, 4, -16616417199501, 15⟩, ⟨0, 5, 81214629983568, 17⟩,
   ⟨1, -9, 28319080123804, 17⟩, ⟨1, -7, -60706301565874, 17⟩, ⟨1, -1, -18990068218419, 15⟩, ⟨1, 0, -32529748770505, 15⟩,
   ⟨1, 1, -21841717175414, 15⟩, ⟨1, 3, -52838357969930, 18⟩] ++
  [⟨2, -3, -47184321073267, 17⟩, ⟨2, 0, -30001780793026, 17⟩, ⟨2, 1, 47661393906987, 18⟩, ⟨2, 3, -44141845330846, 19⟩,
   ⟨2, 17, -72694996297594, 29⟩, ⟨3, -4, -31679644845054, 18⟩, ⟨3, 0, -28270797985312, 19⟩, ⟨3, 6, -85205128120103, 23⟩,
   ⟨4, -5, -22425281908000, 19⟩, ⟨4, -2, -65171222895601, 20⟩, ⟨4, 10, -14341729937924, 26⟩] ++
  [⟨5, -8, -40516996860117, 20⟩, ⟨8, -11, -12734301741641, 22⟩, ⟨8, -6, -17424871230634, 23⟩, ⟨21, -29, -68762131295531, 32⟩,
   ⟨23, -31, 14478307828521, 33⟩, ⟨29, -38, 26335781662795, 36⟩, ⟨30, -39, -11947622640071, 36⟩, ⟨31, -40, 18228094581404, 37⟩,
   ⟨32, -41, -93537087292458, 39⟩]

/-- Kelvin of a temperature in °C. -/
def kelvin (t : Nat) : Nat := f64Add (f64OfF32 t) (f64OfDec 27315 2)
/-- τ and π of region 1, each as the base of its powers: τ − 1.222 and 7.1 − π. -/
def if97Tau (t : Nat) : Nat := f64Sub (f64Div (f64OfInt 1386) (kelvin t)) (f64OfDec 1222 3)
def if97Pi (p : Nat) : Nat := f64Sub (f64OfDec 71 1) (f64Div (f64OfF32 p) (f64OfDec 1653 2))

/-- The order of the binary64 operations is the unit's own: their sum differs by a free multiple of 2⁻⁴⁰, at most 2⁻³³ (log 30). -/
def waterFree (t p v : Nat) : Nat := f32OfF64 (f64Add v (f64Mul (f64OfInt ((Config.waterOrder t p).val - 128)) 0x3D70000000000000))

/-- Specific enthalpy in kJ/kg: R × 1386 × γ_τ. -/
def waterH (t p : Nat) : Nat :=
  let g := if97Terms.map fun e => f64Mul (f64Mul (f64OfDec e.n e.dec) (f64Pow (if97Pi p) e.i)) (f64Mul (f64OfInt e.j) (f64Pow (if97Tau t) (e.j - 1)))
  waterFree t p (f64Mul (f64Mul (f64OfDec 461526 6) (f64OfInt 1386)) (f64Sum g))

/-- Density in kg/m³: 16,530 / (R T γ_π). -/
def waterRho (t p : Nat) : Nat :=
  let g := if97Terms.map fun e => f64Mul (f64Mul (f64Neg (f64OfDec e.n e.dec)) (f64Mul (f64OfInt e.i) (f64Pow (if97Pi p) ((e.i : Int) - 1)))) (f64Pow (if97Tau t) e.j)
  waterFree t p (f64Div (f64OfInt 16530) (f64Mul (f64Mul (f64OfDec 461526 6) (kelvin t)) (f64Sum g)))

/-- Saturation temperature in K at a pressure in MPa, binary64: the backward equation of region 4. -/
def saturationK (p : Nat) : Nat :=
  let n (v : Int) (e : Nat) := f64OfDec v e
  let b := f64Sqrt (f64Sqrt (f64OfF32 p))
  let quad (x y z : Nat) := f64Add (f64Add (f64Mul x (f64Mul b b)) (f64Mul y b)) z
  let e := quad f64One (n (-17073846940092) 12) (n 14915108613530 12)
  let f := quad (n 11670521452767 10) (n 12020824702470 9) (n (-48232657361591) 10)
  let g := quad (n (-72421316703206) 8) (n (-32325550322333) 7) (n 40511340542057 8)
  let root (u v : Nat) := f64Sqrt (f64Sub (f64Mul u u) (f64Mul (f64OfInt 4) v))
  let dd := f64Div (f64Mul (f64OfInt 2) g) (f64Sub (f64Neg f) (root f (f64Mul e g)))
  let s := f64Add (n 65017534844798 11) dd
  f64Div (f64Sub s (root s (f64Add (n (-23855557567849) 14) (f64Mul (n 65017534844798 11) dd)))) (f64OfInt 2)

/-- The temperature lies above the saturation temperature at the pressure (R318). -/
def waterSteam (t p : Nat) : Bool := f64Lt (saturationK p) (kelvin t)

end Sys2Proof.Machine
end

