-- ==== Sys2Proof/Machine/HeatRows.lean ====
section
/-! DEFINITION. Heat and cold metering (spec/12): samples, energies, records and commands. -/
namespace Sys2Proof.Machine
open Sys2Proof

/-- A change of source clears the energy residues, and the next count difference is the new source's, from here on (R328). -/
def heatNewSource (m : Nat) (d : Dev) : Dev :=
  setHeat m { clearRes (heatSt d m) with prev := none } d

/-- An admitted change of meter m's configuration from the settings of `was` (R328): the records note it; a running meter follows at its next sample
boundary, but stops at once when EN is cleared (R325). -/
def heatChanged (m : Nat) (src : Bool) (was d : Dev) : Dev :=
  let x := heatSt d m
  let x : HeatSt := { x with ivl := { x.ivl with changed := true }, bill := { x.bill with changed := true } }
  let x : HeatSt := if x.running then { x with old := some (x.old.getD (heatSettings m was)), newSrc := x.newSrc || src } else x
  let d := heatSettle m (setHeat m x d)
  if src ∧ ¬ x.running then heatNewSource m d else d

/-- The whole second's mean power enters the maxima once the second is over; a second holds its end, as a sample covers the time before it (R317,
R325). -/
def heatSecond (sec : Nat) (x : HeatSt) : HeatSt :=
  if x.sec = sec ∨ x.secN = 0 then { x with sec := sec }
  else
    let mean := f32Abs (f32OfF64 (f64Div x.secSum (f64OfInt x.secN)))
    let y := accBoth (fun a => { a with maxP := if f32Lt a.maxP mean then mean else a.maxP }) x
    { y with sec := sec, secSum := 0, secN := 0 }

/-! ### Records (R325 to R327) -/

/-- The mean of binary32 values kept as an exact sum in 2⁻¹⁴⁹; quiet NaN for none. -/
def meanOf (s : Int) (n : Nat) : Nat := if n = 0 then f32NaN else f32OfRatioE s n (-149)

/-- The bytes 16 to 83 of a heat record. -/
def heatMid (d : Dev) (m : Nat) (a : HeatAcc) (demand : Bool) : List Byte :=
  ((List.range 6).flatMap fun r => toBytes 8 (heatReg d m r)) ++ toBytes 4 (a.errNs / 1000000000) ++ toBytes 2 (min a.revs 65535) ++ toBytes 1 a.bits ++
    toBytes 1 (b2n a.changed + 2 * b2n demand) ++ toBytes 4 a.maxP ++ toBytes 4 (meanOf a.sumTs a.n) ++ toBytes 4 (meanOf a.sumTr a.n)

/-- The flags of a heat record. -/
def heatFlags (d : Dev) (a : HeatAcc) : Nat :=
  2 * b2n (a.errNs != 0) + 4 * b2n (a.revs != 0) + 8 * b2n a.carried + 16 * b2n (a.bad || !svcValid d) + 32 * b2n a.forced + 64 * b2n a.first + 128 * b2n a.gap

/-- Close meter m's interval record with a length in minutes (R325). -/
def heatIvlClose (m len : Nat) (d : Dev) : Dev :=
  let x := heatSecond (svcSec d) (heatSt d m)
  let body := recBody d 0x0101 m (heatFlags d x.ivl) (x.seqI + 1) (svcUtc d) len (heatMid d m x.ivl false)
  queueRecord { kind := 1, idx := m, body := body } (setHeat m { x with seqI := x.seqI + 1, ivl := { first := false } } d)

/-- Close meter m's billing record (R326). -/
def heatBill (m : Nat) (demand : Bool) (d : Dev) : Dev :=
  let x := heatSecond (svcSec d) (heatSt d m)
  let days := match x.bill.start with
    | some t => if x.seqB = 0 then 0 else (svcSec d - t) / 86400
    | none => 0
  let body := recBody d 0x0102 m (heatFlags d x.bill) (x.seqB + 1) (svcUtc d) days (heatMid d m x.bill demand)
  queueRecord { kind := 2, idx := m, body := body } (setHeat m { x with seqB := x.seqB + 1, bill := { first := false, start := some (svcSec d) } } d)

/-- The running meters. -/
def heatRunning (d : Dev) : List Nat := (d.meter.heat.filter fun e => e.2.running).map (·.1)

/-! ### Samples (R317 to R322) -/

/-- A source counts as usable (R318). -/
def heatUsable (forcedOk : Bool) (i : Item) : Bool := i.q == 0 || (i.q == 3 && forcedOk)

/-- The signed volume dv of a sample in m³, binary64; none when the sample is an error sample by its flow (R317). -/
def heatDv (d : Dev) (m cur : Nat) (rev : Bool) (x : HeatSt) : Option Nat :=
  if d.rd (METER.HM.CFG.FKIND m) = 0 then
    let pin := (d.rd (METER.HM.FSRC.FWORD m) - 512) / 2
    let loaded := (lookD d.meter.loadAt pin []).any fun t => decide (x.lastUp < t) && decide (t ≤ d.up)
    match x.prev with
    | none => if loaded then none else some 0
    | some p =>
      let n := sdiff 32 cur p
      if loaded || decide (n < 0) then none
      else
        let v := f64Div (f64Mul (f64OfInt n) (f64OfF32 (d.rd (METER.HM.VPP m)))) (f64OfInt 1000)
        some (if rev then f64Neg v else v)
  else if f32Finite cur = false then none
  else if f32Lt (f32Abs cur) (d.rd (METER.HM.QCUT m)) then some 0
  else some (f64Div (f64Mul (f64OfF32 cur) (heatPerF d m)) (f64OfInt 3600))

/-- The sign of a binary64: not zero and negative. -/
def f64IsNeg (v : Nat) : Bool := bitOf v 63 && v % 2 ^ 63 != 0

/-- Add to a residue and move its whole part into a register (R320, R321). -/
def heatAdd (m r v : Nat) (d : Dev) : Dev :=
  let x := heatSt d m
  let t := f64Add (lookD x.res r 0) v
  match f64Floor t with
  | none => d
  | some n => onMeter (fun k => { k with he := ins (8 * m + r) ((heatReg d m r + n) % 2 ^ 64) k.he }) (setHeat m { x with res := ins r (f64Sub t (f64OfInt n)) x.res } d)

/-- The error bits of a sample's temperatures (R318). -/
def tempBits (d : Dev) (m ts tr : Nat) (okS okR : Bool) : Nat :=
  let lo := heatT (d.rd (METER.HM.TLIM.TMIN m))
  let hi := heatT (d.rd (METER.HM.TLIM.TMAX m))
  let inside (t : Nat) : Bool := f32Le lo t && f32Le t hi
  let p := d.rd (METER.HM.PRESS m)
  let region (t : Nat) : Bool := f32Le 0 t && !waterSteam t p
  2 * b2n (!okS) + 4 * b2n (!okR) + 8 * b2n (!inside ts || !inside tr) + 16 * b2n (!region ts || !region tr)

/-- What a computed sample gives (R320): power, mass flow in kg/s, dh and ρ as binary32; the register that takes the energy, and the energy. -/
structure HeatCalc where
  power : Nat
  mass : Nat
  dh : Nat
  rho : Nat
  reg : Nat
  e : Nat
  cold : Bool

/-- The computation of R320 in binary64. -/
def heatCalc (d : Dev) (m ts tr dv : Nat) : HeatCalc :=
  let p := d.rd (METER.HM.PRESS m)
  let rho := waterRho (if d.flag (METER.HM.CFG.LOC m) then ts else tr) p
  let mass := f64Mul (f64Abs dv) (f64OfF32 rho)
  let dh := f64Sub (f64OfF32 (waterH ts p)) (f64OfF32 (waterH tr p))
  let small := f64Lt (f64Abs (f64Sub (f64OfF32 ts) (f64OfF32 tr))) (f64OfF32 (d.rd (METER.HM.DT_MIN m)))
  let zero := dv % 2 ^ 63 == 0
  let e := if zero || small then 0 else f64Div (f64Mul mass (f64Abs dh)) 0x400CCCCCCCCCCCCD
  let cold := f64Lt dh 0
  let pw := f64Div (f64Mul mass dh) (heatPerF d m)
  { power := f32OfF64 (if zero then 0 else if f64IsNeg dv then f64Neg pw else pw),
    mass := f32OfF64 (let f := f64Div mass (heatPerF d m); if f64IsNeg dv then f64Neg f else f),
    dh := f32OfF64 dh, rho := rho, reg := (if cold then 2 else 0) + (if f64IsNeg dv then 1 else 0), e := e, cold := cold }

/-- A run of error samples starts or ends: EV95 (R332). -/
def heatErrRun (m : Nat) (was err : Bool) (bits : Nat) (d : Dev) : Dev :=
  if err && !was then raiseEv 95 m bits d
  else if was && !err then raiseEv 95 m (2 ^ 31) d
  else d

/-- One sample of a running meter at the present instant (R317 to R322). -/
def heatTake (m : Nat) (d : Dev) : Dev :=
  let x := heatSt d m
  let now := svcTotalNs d
  let per := heatPer d m
  -- time the meter did not sample while it should have is a gap; nothing is added in a gap and by the first sample after it (R307, R330)
  let missed := match x.lastAt with
    | some t => if t + per < now then now - t - per else 0
    | none => 0
  let gapNow := !meterRuns d
  let gap := gapNow || x.inGap || missed != 0
  let fok := d.flag (METER.HM.CFG.FORCED_OK m)
  let img := d.meter.copy
  let fi := img.inWord (d.rd (METER.HM.FSRC.FWORD m))
  let si := img.inWord (d.rd (METER.HM.TSRC.TS_WORD m))
  let ri := img.inWord (d.rd (METER.HM.TSRC.TR_WORD m))
  let flowOk := heatUsable fok fi
  let revIn := d.flag (METER.HM.CFG.DIR_EN m) && (img.inBit (d.rd (METER.HM.FSRC.DIRBIT m))).v % 2 == 1
  let dvo := if flowOk then (if gap then some 0 else heatDv d m fi.v revIn x) else none
  let forced := fok && (fi.q == 3 || si.q == 3 || ri.q == 3)
  let bits := b2n dvo.isNone + tempBits d m si.v ri.v (heatUsable fok si) (heatUsable fok ri) + 32 * b2n gap
  let err := bits != 0
  let dv := dvo.getD 0
  let nz := dv % 2 ^ 63 != 0
  let rev := f64IsNeg dv
  let reversal := nz && x.lastRev == some (!rev)
  let errNs := missed + (if err then per else 0)
  let x := heatSecond ((now - 1) / 1000000000) x
  let firstRev := reversal && x.ivl.revs == 0
  let carried := bitOf (d.rd METER.DSP.OUT) (m / 64)
  let x := accBoth (fun a => { a with errNs := a.errNs + errNs, revs := a.revs + b2n reversal, bits := a.bits ||| bits, carried := a.carried || carried, bad := a.bad || !svcValid d, forced := a.forced || forced, gap := a.gap || gap, sumTs := if err then a.sumTs else a.sumTs + (f32Exact si.v).getD 0, sumTr := if err then a.sumTr else a.sumTr + (f32Exact ri.v).getD 0, n := if err then a.n else a.n + 1, start := some (a.start.getD (svcSec d)) }) x
  let was := x.inErr
  let x : HeatSt := { x with prev := if flowOk then some fi.v else x.prev, lastUp := d.up, lastAt := some now, inGap := gapNow, inErr := err, errNs := x.errNs + errNs, lastRev := if nz then some rev else x.lastRev }
  let c := heatCalc d m si.v ri.v dv
  let flow := f32OfF64 (f64Div (f64Mul dv (f64OfInt 3600)) (heatPerF d m))
  let flags := b2n (!err) + 2 * b2n err + 4 * b2n rev + 8 * b2n (!err && c.cold) + 16 * b2n forced + 32 * b2n carried + 64 * b2n reversal + 128 * b2n gap
  let smp : HeatSmp := { at_ := now, flow := flow, ts := si.v, tr := ri.v, power := c.power, mass := c.mass, dh := c.dh, ok := !err, flags := flags, bits := bits }
  let x : HeatSt := { x with past := (x.past ++ [smp]).drop (x.past.length + 1 - 16), secSum := if err then x.secSum else f64Add x.secSum (f64OfF32 c.power), secN := x.secN + 1 }
  let d := setHeat m x d
  let d := (((d.put (METER.HM.STAT.VALID m) (!err)).put (METER.HM.STAT.ERR m) err).put (METER.HM.STAT.FORCED m) forced).put (METER.HM.STAT.CARRIED m) carried
  let d := (d.wr (METER.HM.STAT.ERRBITS m) bits).wr (METER.HM.ERRTIME m) (x.errNs / 1000000000)
  let d := if nz then d.put (METER.HM.STAT.REVFLOW m) rev else d
  let d := if reversal then d.bump (METER.HM.STAT.REVERSALS m) else d
  let d := if firstRev then raiseEv 96 m 0 d else d
  let d := ((d.wr (METER.HM.FLOW m) flow).wr (METER.HM.TS m) si.v).wr (METER.HM.TR m) ri.v
  let d := if nz then heatAdd m (if rev then 5 else 4) (f64Mul (f64Abs dv) (f64OfInt 1000)) d else d
  let d := if err then d
    else
      let d := ((d.wr (METER.HM.POWER m) c.power).wr (METER.HM.DH m) c.dh).wr (METER.HM.RHO m) c.rho
      heatAdd m c.reg c.e (d.put (METER.HM.STAT.COLD m) c.cold)
  heatCounts (heatErrRun m was err bits d)

/-- A sample of meter m at the next multiple of its PERIOD of service time, counted from whole seconds (R317; log 20). -/
def heatSampleAt (m : Nat) (d : Dev) : Dev :=
  let per := heatPer d m
  let t := (svcTotalNs d + per - 1) / per * per
  let t := if (heatSt d m).lastAt = some t then t + per else t
  heatTake m (copyNow (toSvcNs t d))

/-- HEAT_SAMPLE (R317): a change of configuration takes effect once the sample is taken with the settings before it (R328). -/
def execHeatSample (m : Fin 256) (s : State) : Host.Outcome State Fault Refusal :=
  go (fun d =>
    let m := m.val
    let d := heatSettle m d
    if ¬ (heatSt d m).running then d
    else match (heatSt d m).old with
      | none => heatSampleAt m d
      | some rs =>
        let new := heatSettings m d
        let src := (heatSt d m).newSrc
        let d := withSettings m new (heatSampleAt m (withSettings m rs d))
        let d := heatSettle m (setHeat m { heatSt d m with old := none, newSrc := false } d)
        if src then
          let d := heatNewSource m d
          if ¬ (heatSt d m).running then d
          else setHeat m { heatSt d m with prev := some (d.meter.copy.inWord (d.rd (METER.HM.FSRC.FWORD m))).v } d
        else d) s

/-! ### Record rows (R325, R326) -/

/-- What HEAT_INTERVAL_CLOSE does where its conditions hold (R325). -/
def heatIntervalCloseEffect  (d : Dev) : Dev :=
  let min := ivlMinutes (d.rd METER.HEAT_CFG.IVL) 4
  let per := min * 60
  let off := d.rd CRUST.RTC_CFG.UTC_OFFSET
  let t := (((d.time.svc + secUnits - 1) / secUnits - off) + per - 1) / per * per + off
  let t := if d.meter.hIvlAt = some t then t + per else t
  let d := onMeter (fun k => { k with hIvlAt := some t }) (toSvcNs (t * 1000000000) d)
  (heatRunning d).foldl (fun (d : Dev) m => heatIvlClose m min d) d

/-- HEAT_INTERVAL_CLOSE: at the next UTC multiple of HEAT_CFG.IVL (R325; log 20); none with METER off (R309). -/
def execHeatIntervalClose (s : State) : Host.Outcome State Fault Refusal :=
  go (fun d =>
    if ¬ (opState d = 3 ∨ opState d = 4) ∨ ¬ islandOn d 8 then d
    else
      heatIntervalCloseEffect d) s

/-- The next billing instant from UTC second u on: BILL_HOUR:00:00 on BILL_DAY, within 62 days. -/
def nextBilling (d : Dev) (u : Nat) : Option Nat :=
  let day := min 28 (d.rd METER.HEAT_CFG.BILL_DAY)
  let hour := if 23 < d.rd METER.HEAT_CFG.BILL_HOUR then 0 else d.rd METER.HEAT_CFG.BILL_HOUR
  if day = 0 then none
  else ((List.range 63).map fun i => (u / 86400 + i) * 86400 + hour * 3600).find? fun t => decide (u ≤ t) && (civil (t / 86400)).2.2 == day

/-- What BILLING_CLOSE does where its conditions hold (R326). -/
def billingCloseEffect  (d : Dev) : Dev :=
  let off := d.rd CRUST.RTC_CFG.UTC_OFFSET
  let u := (d.time.svc + secUnits - 1) / secUnits - off
  match nextBilling d (if d.meter.billAt = some (u + off) then u + 1 else u) with
  | none => d
  | some t =>
    let at_ := t + off
    let d := onMeter (fun k => { k with billAt := some at_ }) (toSvcNs (at_ * 1000000000) d)
    let ms := heatRunning d
    let min := ivlMinutes (d.rd METER.HEAT_CFG.IVL) 4
    let d := if t % (min * 60) = 0 ∧ d.meter.hIvlAt ≠ some at_ then
        ms.foldl (fun (d : Dev) m => heatIvlClose m min d) (onMeter (fun k => { k with hIvlAt := some at_ }) d)
      else d
    let d := ms.foldl (fun (d : Dev) m => heatBill m false d) d
    if ms = [] then d else raiseEv 97 ms.length 0 d

/-- BILLING_CLOSE (R326): an interval that ends at the same instant is closed first. -/
def execBillingClose (s : State) : Host.Outcome State Fault Refusal :=
  go (fun d =>
    if ¬ (opState d = 3 ∨ opState d = 4) ∨ ¬ islandOn d 8 then d
    else
      billingCloseEffect d) s

/-- What a change of METER.HM[m].CFG does (R325, R328): clearing EN closes the interval record at once, with length 0. -/
def heatCfgEffect (m : Nat) (was d : Dev) : Dev :=
  let run := (heatSt d m).running
  let d := heatChanged m (d.rd (METER.HM.CFG.FKIND m) != was.rd (METER.HM.CFG.FKIND m)) was d
  if was.flag (METER.HM.CFG.EN m) ∧ ¬ d.flag (METER.HM.CFG.EN m) ∧ run then heatIvlClose m 0 d else d

/-- A write of METER.HM[m].CFG (R325, R328): clearing EN closes the interval record at once, with length 0. -/
def execHeatEnClear (p : Fin 2) (m : Fin 256) (v : Nat) (s : State) : Host.Outcome State Fault Refusal :=
  go (guardWrite p.val (0xD10000 + 0x80 * m.val) fun d =>
    let m := m.val
    let (d', refused) := writeFields false (0xD10000 + 0x80 * m) v d
    if refused then ignoreWrite p.val (0xD10000 + 0x80 * m) d' else heatCfgEffect m d d') s

/-! ### Commands (R331) -/

/-- The read of held heat records (R331). -/
def heatRead (h : CmdHdr) (m first count limit : Nat) (sel : HeatSt → List (List Byte)) (d : Dev) : CmdOut :=
  if 255 < m ∨ count = 0 ∨ limit < count then .done d stBadParam []
  else if ¬ recvOk h (192 * count) then .done d stBadBuffer []
  else
    let x := heatSt d m
    if ¬ d.flag (METER.HM.CFG.EN m) ∧ x.recI = [] ∧ x.recB = [] then .done d 0x0611 []
    else
      let rs := recsFrom (sel x) first count
      if rs = [] then .done d 0x0610 [] else .done (outBuf h rs.flatten d) stOK [rs.length]

/-- HEAT_IVL_READ. -/
def execHeatIvlRead (h : CmdHdr) (m first count : Nat) (s : State) : Host.Outcome State Fault Refusal :=
  go (runCmd { unit := 6, op := 0x10, isl := [8], kw := true } h (heatRead h m first count 4 (·.recI))) s

/-- HEAT_BILL_READ. -/
def execHeatBillRead (h : CmdHdr) (m first count : Nat) (s : State) : Host.Outcome State Fault Refusal :=
  go (runCmd { unit := 6, op := 0x11, isl := [8], kw := true } h (heatRead h m first count 13 (·.recB))) s

/-- HEAT_BILL_CLOSE (R326, R331). -/
def execHeatBillClose (h : CmdHdr) (s : State) : Host.Outcome State Fault Refusal :=
  go (runCmd { unit := 6, op := 0x12, c := true, isl := [8] } h fun d =>
    if ¬ sendOk h 32 then .done d stBadBuffer []
    else
      let mask := ofBytes (inBuf h d)
      let ms := (heatRunning d).filter (bitOf mask)
      if ms = [] then .done d 0x0611 []
      else .done (raiseEv 97 ms.length 0 (ms.foldl (fun (d : Dev) m => heatBill m true d) d)) stOK [ms.length]) s

/-! ### Snapshots (R302, R324) -/

/-- The mean of binary32 values, exact and rounded once; 0 for none. -/
def f32Mean (l : List Nat) : Nat :=
  if l = [] then 0
  else match l.foldl (fun (s : Option Int) v => match s, f32Exact v with
      | some a, some b => some (a + b)
      | _, _ => none) (some 0) with
    | some t => f32OfRatioE t l.length (-149)
    | none => f32NaN

/-- The HEAT_SNAP record of meter m (R324). -/
def heatSnapRec (d : Dev) (m : Nat) : List Byte :=
  let x := heatSt d m
  let l := x.past.filter fun p => decide (svcTotalNs d < p.at_ + 1000000000)
  if ¬ x.running ∨ l = [] then List.replicate 32 0
  else
    let c := l.filter (·.ok)
    toBytes 4 (f32Mean (l.map (·.flow))) ++ toBytes 4 (f32Mean (l.map (·.ts))) ++ toBytes 4 (f32Mean (l.map (·.tr))) ++ toBytes 4 (f32Mean (c.map (·.power))) ++
      toBytes 4 (f32Mean (c.map (·.mass))) ++ toBytes 4 (f32Mean (c.map (·.dh))) ++ toBytes 1 (l.foldl (fun b p => b ||| p.flags) 0) ++ toBytes 1 (l.foldl (fun b p => b ||| p.bits) 0) ++ List.replicate 6 0

/-- HEAT_SNAP's body. -/
def heatSnapBody (d : Dev) : List Byte := (List.range 256).flatMap (heatSnapRec d)

/-- The frequency of busbar b over the cycles of the past second (R302); the last one known when it is not valid. -/
def snapFreq (d : Dev) (b : Nat) : Nat :=
  let l := (busSt d b).marks.filter fun p => decide (d.meter.n * 2 ^ 32 ≤ p + 8000 * 2 ^ 32)
  match l.head?, l.getLast? with
  | some a, some z => if d.flag (METER.BUS.STAT.FREQ_VALID b) ∧ 1 < l.length then freqOf (l.length - 1) (a - z) else d.rd (METER.BUS.FREQ b)
  | _, _ => d.rd (METER.BUS.FREQ b)

/-- The samples of channel c in the past second. -/
def secX (d : Dev) (c : Nat) : List Nat := lastX d c d.meter.n (secondN d)

/-- The MTR_SNAP record of busbar b, over the samples of the past second (R302). -/
def busSnapRec (d : Dev) (b : Nat) : List Byte :=
  let freq := snapFreq d b
  let ang (p : Nat) := if d.flag (METER.BUS.STAT.FREQ_VALID b) ∧ d.rd (METER.CH.SCALE (chanV b p)) % 2 ^ 31 ≠ 0 then fundAngle (secX d (chanV b 0)) (secX d (chanV b p)) freq else 0
  ((List.range 3).flatMap fun p => toBytes 4 (rmsOf (secX d (chanV b p)))) ++ toBytes 4 freq ++ toBytes 4 (ang 1) ++ toBytes 4 (ang 2) ++
    toBytes 1 (d.rd (METER.BUS.STAT.FREQ_VALID b) + 2 * d.rd (METER.BUS.STAT.SAG b) + 4 * d.rd (METER.BUS.STAT.SWELL b) + 8 * d.rd (METER.BUS.STAT.INT b) + 16 * d.rd (METER.BUS.STAT.INVALID b)) ++ List.replicate 7 0

/-- The MTR_SNAP record of feeder f (R302). -/
def fdrSnapRec (d : Dev) (f : Nat) : List Byte :=
  let q := powerOf d f d.meter.n (secondN d) (snapFreq d (busOfFdr d f))
  let ok := d.flag (METER.FDR.STAT.P_VALID f)
  let z (v : Nat) := toBytes 4 (if ok then v else 0)
  let net : Int := (energy d f 2 : Int) + energy d f 3 - energy d f 4 - energy d f 5
  let gap := d.flag (METER.FDR.STAT.GAP f) || (match (fdrSt d f).gapSeen with
    | some t => decide (svcTotalNs d < t + 1000000000)
    | none => false)
  ((List.range 3).flatMap fun p => toBytes 4 (q.irms.getD p 0)) ++ z q.pt ++ z q.qt ++ z q.st ++ z q.pf ++ toBytes 8 (energy d f 0) ++ toBytes 8 (energy d f 1) ++
    toBytes 8 (wrapI 64 net) ++ toBytes 1 (b2n ok + 2 * b2n (fdrCal d f) + 4 * d.rd (METER.FDR.STAT.CARRIED f) + 8 * b2n gap) ++ List.replicate 11 0

/-- MTR_SNAP's body: 1,152 bytes. -/
def mtrSnapBody (d : Dev) : List Byte := (List.range 4).flatMap (busSnapRec d) ++ (List.range 16).flatMap (fdrSnapRec d)

end Sys2Proof.Machine
end

