-- ==== Sys2Proof/Machine/TdeOps.lean ====
section
/-! DEFINITION. The transport delay engine (spec/13): parcels, one step in three phases, TDE_PRED, and what an activation carries over.
Volumes are binary64; a temperature is computed in binary64 and kept as binary32 (log 34). -/
namespace Sys2Proof.Machine
open Sys2Proof

def segOf (d : Dev) (b : Nat) : Option Seg := look d.model.segs b
def setSeg (b : Nat) (x : Seg) (d : Dev) : Dev := onModel (fun k => { k with segs := ins b x k.segs }) d

/-- The pool (R352). -/
def poolSize : Nat := 524288
/-- Parcels in use. -/
def parcelsUsed (d : Dev) : Nat := d.model.segs.foldl (fun n e => n + e.2.parcels.length) 0

/-- V = L × A in m³. -/
def segVol (b : BranchRec) : Nat := f64Mul (f64OfF32 b.len) (f64OfF32 b.area)
/-- A branch that carries parcels. -/
def carries (b : BranchRec) : Bool := f32Lt 0 b.len

/-- k_s for a time in seconds: exp(−t × U / (C_VOL × 10⁶ × A)), 1 when U is 0 (R349, R354). -/
def lossFactor (d : Dev) (b : BranchRec) (secs : Nat) : Nat :=
  if b.u % 2 ^ 31 = 0 then f64One
  else f64Exp (f64Neg (f64Div (f64Mul secs (f64OfF32 b.u)) (f64Mul (f64Mul (mreg d MODEL.C_VOL) (f64OfInt 1000000)) (f64OfF32 b.area))))

/-- Tg + (t − Tg) × k. -/
def coolBy (tg k t : Nat) : Nat := f32OfF64 (f64Add tg (f64Mul (f64Sub (f64OfF32 t) tg) k))

/-- The volume-weighted mean of (volume, temperature) pairs; none for no volume. -/
def volMean (l : List (Nat × Nat)) : Option Nat :=
  let v := f64Sum (l.map (·.1))
  if f64Lt 0 v then some (f32OfF64 (f64Div (f64Sum (l.map fun e => f64Mul e.1 (f64OfF32 e.2))) v)) else none

/-- Take volume dv off the front of a list of parcels, splitting the last one removed: removed, left. -/
def takeVol (dv : Nat) : List (Nat × Nat) → List (Nat × Nat) × List (Nat × Nat)
  | [] => ([], [])
  | p :: ps =>
    if f64Le dv 0 then ([], p :: ps)
    else if f64Lt dv p.1 then ([(dv, p.2)], (f64Sub p.1 dv, p.2) :: ps)
    else
      let (a, r) := takeVol (f64Sub dv p.1) ps
      (p :: a, r)

/-- The flows of a step: m in kg/s and q in m³/s, binary64, by branch. -/
structure Flows where
  m : List Nat
  q : List Nat
  /-- There are flows; without them parcels and directions stay (R350). -/
  live : Bool := true
  /-- The directions of the last flows used, true towards TO; none before any. -/
  was : List (Option Bool) := []
deriving DecidableEq, Repr

/-- The flows of a step from binary32 flows. -/
def flowsOf (d : Dev) (ms : List Nat) : Flows :=
  let m := ms.map f64OfF32
  { m := m, q := m.map fun x => f64Div x (mreg d MODEL.RHO_REF) }

/-- TO is the downstream end (R351). -/
def Flows.fwd (f : Flows) (b : Nat) : Bool := !f64Lt (f.m.getD b 0) 0
/-- The direction has changed since the last flows used (R351). -/
def Flows.turned (f : Flows) (b : Nat) : Bool := f.live && (match f.was[b]? with
  | some (some o) => o != f.fwd b
  | _ => false)
/-- |q| × 1 s. -/
def Flows.dv (f : Flows) (b : Nat) : Nat := f64Abs (f.q.getD b 0)
/-- |m| < M_ZERO. -/
def segZero (d : Dev) (f : Flows) (b : Nat) : Bool := f64Lt (f64Abs (f.m.getD b 0)) (mreg d MODEL.M_ZERO)

/-- The parcels from the downstream end on, and back. -/
def downFirst (fwd : Bool) (l : List (Nat × Nat)) : List (Nat × Nat) := if fwd then l.reverse else l

/-- The ground temperature at the step: from the measurement's newest value. -/
def groundNow (d : Dev) (md : NetModel) (b : BranchRec) : Nat :=
  groundOf d { tickNs := svcTotalNs d, model := md, vals := md.meas.zipIdx.map fun r => if r.1.kind = 5 then measVal d (svcTotalNs d) r.1 else none } b

/-- Phase a for segment b (R350, R351). -/
def phaseA (md : NetModel) (f : Flows) (q : BranchRec × Nat) (d : Dev) : Dev :=
  match segOf d q.2 with
  | none => d
  | some x =>
    let fwd := if f.live then f.fwd q.2 else x.fwd.getD true
    let k := lossFactor d q.1 f64One
    let tg := groundNow d md q.1
    let down := downFirst fwd (x.parcels.map fun p => (p.1, coolBy tg k p.2))
    let x : Seg := { x with fwd := some fwd, rev := f.turned q.2, zero := segZero d f q.2, full := false, poolMerge := false }
    if x.zero then setSeg q.2 { x with parcels := downFirst fwd down, outlet := ((down.head?).map (·.2)).getD x.outlet } d
    else
      let V := segVol q.1
      let dv := f.dv q.2
      let (out, left) := takeVol (f64Min dv V) down
      let out := if f64Lt V dv then out ++ [(f64Sub dv V, x.inlet)] else out
      setSeg q.2 { x with parcels := downFirst fwd left, outlet := (volMean out).getD x.outlet } d

/-- The temperature flag of node n in an EST_STATE of the model (R348). -/
def nodeMeasured (d : Dev) (md : NetModel) (n : Nat) : Bool :=
  let b := (benchTab d 0x10).current.body
  fieldAt b 0 4 == md.id && bitOf (fieldAt b (64 + 16 * n + 12) 1) 3

/-- The inflows of node n by volume: branch, upstream node, volume. -/
def volIn (d : Dev) (md : NetModel) (f : Flows) (n : Nat) : List (Nat × Nat × Nat) :=
  md.branches.zipIdx.filterMap fun e =>
    let (b, i) := e
    if segZero d f i then none
    else if b.dst = n ∧ f.fwd i = true then some (i, b.fr, f.dv i) else if b.fr = n ∧ f.fwd i = false then some (i, b.dst, f.dv i) else none

/-- The volume that enters the network at node n, roles 2 and 3. -/
def injVol (d : Dev) (md : NetModel) (st : NetState) (n : Nat) : Nat :=
  match md.nodes[n]? with
  | some r => if (r.role = 2 ∨ r.role = 3) ∧ f32Lt (st.g.getD n 0) 0 then f64Div (f64Abs (f64OfF32 (st.g.getD n 0))) (mreg d MODEL.RHO_REF) else 0
  | none => 0

/-- Phase b: the mix of node n; branches of length 0 pass their inlet mix on, through at most `fuel` of them (R350). -/
def mixAt (d : Dev) (md : NetModel) (f : Flows) (st : NetState) : Nat → Nat → Nat
  | fuel, n =>
    let tn := st.t.getD n 0
    if nodeMeasured d md n then tn
    else
      let one (e : Nat × Nat × Nat) : Nat × Nat :=
        match segOf d e.1 with
        | some x => (e.2.2, x.outlet)
        | none => (e.2.2, match fuel with
          | 0 => st.t.getD e.2.1 0
          | k + 1 => mixAt d md f st k e.2.1)
      (volMean ((volIn d md f n).map one ++ [(injVol d md st n, tn)])).getD tn

/-- Merge two parcels: the volume-weighted mean. -/
def mergeTwo (a b : Nat × Nat) : Nat × Nat := (f64Add a.1 b.1, (volMean [a, b]).getD a.2)

/-- The difference of two temperatures. -/
def dTemp (a b : Nat) : Nat := f64Abs (f64Sub (f64OfF32 a) (f64OfF32 b))

/-- Merge the adjacent pair with the smallest difference, the first one on a tie, of a list that starts at the downstream end (R352). -/
def mergeClosest (l : List (Nat × Nat)) : List (Nat × Nat) :=
  let ds := (l.zip (l.drop 1)).map fun e => dTemp e.1.2 e.2.2
  let best := (ds.zipIdx.foldl (fun (b : Option (Nat × Nat)) e => match b with
    | some c => if f64Lt e.1 c.1 then some e else b
    | none => some e) none)
  match best with
  | none => l
  | some (_, i) => match l.drop i with
    | a :: b :: r => l.take i ++ mergeTwo a b :: r
    | _ => l

/-- Phase c for segment b: water enters at the upstream end (R350, R352). -/
def phaseC (mix : Nat → Nat) (f : Flows) (q : BranchRec × Nat) (d : Dev) : Dev :=
  match segOf d q.2 with
  | none => d
  | some x =>
    if x.zero then d
    else
      let fwd := f.fwd q.2
      let V := segVol q.1
      let dv := f64Min (f.dv q.2) V
      let inlet := mix (if fwd then q.1.fr else q.1.dst)
      let fill := match x.fill with
        | some v => if f64Le V (f64Add v dv) then none else some (f64Add v dv)
        | none => none
      let x : Seg := { x with inlet := inlet, fill := fill }
      if f64Lt 0 dv = false then setSeg q.2 x d
      else
        let up := (downFirst fwd x.parcels).reverse
        let thr := f64Ratio (d.rd MODEL.TDE_CFG.MERGE_DT * (if d.flag MODEL.TDE_STAT.POOL_LOW then 4 else 1)) 100
        match up with
        | [] => setSeg q.2 { x with parcels := [(dv, inlet)] } d
        | p :: ps =>
          if f64Lt (dTemp p.2 inlet) thr then setSeg q.2 { x with parcels := downFirst fwd (mergeTwo p (dv, inlet) :: ps).reverse } d
          else if poolSize ≤ parcelsUsed d then
            let d := setSeg q.2 { x with parcels := downFirst fwd (mergeTwo p (dv, inlet) :: ps).reverse, poolMerge := true } d
            if d.flag MODEL.TDE_STAT.POOL_EXH then d else raise 151 0 (raiseEv 107 0 2 (d.wr MODEL.TDE_STAT.POOL_EXH 1))
          else
            let l := ((dv, inlet) :: p :: ps).reverse
            if l.length ≤ 64 then setSeg q.2 { x with parcels := downFirst fwd l } d
            else setSeg q.2 { x with parcels := downFirst fwd (forN (l.length - 64) (fun _ l => mergeClosest l) l), full := true } d

/-- POOL_LOW follows the pool (R352). -/
def poolWatch (d : Dev) : Dev :=
  let n := parcelsUsed d
  let low := d.flag MODEL.TDE_STAT.POOL_LOW
  let d := d.wr MODEL.TDE_POOL.IN_USE n
  if ¬ low ∧ 95 * poolSize < 100 * n then raiseEv 107 0 1 (d.wr MODEL.TDE_STAT.POOL_LOW 1)
  else if low ∧ 100 * n < 90 * poolSize then d.wr MODEL.TDE_STAT.POOL_LOW 0 else d

/-- Seed the segments that have no parcels from a valid EST_STATE (R353). -/
def seedAll (md : NetModel) (st : NetState) (d : Dev) : Dev :=
  md.branches.zipIdx.foldl (fun (d : Dev) q =>
    if carries q.1 = false ∨ (segOf d q.2).isSome then d
    else
      let t := f32OfF64 (f64Div (f64Add (f64OfF32 (st.t.getD q.1.fr 0)) (f64OfF32 (st.t.getD q.1.dst 0))) (f64OfInt 2))
      setSeg q.2 { parcels := [(segVol q.1, t)], inlet := t, outlet := t } d) d

/-! ### TDE_PRED (R354) -/

/-- 48 h in seconds. -/
def longDelay : Nat := f64OfInt 172800

/-- The delay of a segment, binary64. -/
def segDelay (d : Dev) (f : Flows) (q : BranchRec × Nat) : Nat :=
  if carries q.1 = false then 0
  else if segZero d f q.2 then f64Inf false
  else
    let x := f64Div (segVol q.1) (f.dv q.2)
    if f64Lt longDelay x then f64Inf false else x

/-- The walk upstream from node n: segments nearest first with their upstream nodes; whether it ended at a role-3 node; whether 256 cut it. -/
def walkUp (d : Dev) (md : NetModel) (f : Flows) : Nat → Nat → Nat → List (Nat × Nat) × Bool × Bool
  | 0, n, _ =>
    let isSrc : Bool := match md.nodes[n]? with
      | some r => r.role == 3
      | none => false
    ([], isSrc, !isSrc)
  | k + 1, n, acc =>
    let isSrc : Bool := match md.nodes[n]? with
      | some r => r.role == 3
      | none => false
    let l := volIn d md f n
    let best := l.foldl (fun (b : Option (Nat × Nat × Nat)) e => match b with
      | some c => if f64Lt c.2.2 e.2.2 then some e else b
      | none => some e) none
    if isSrc then ([], true, false)
    else if f64Lt longDelay acc then ([], false, false)
    else match best with
    | none => ([], false, false)
    | some (b, up, _) =>
      let dl := match md.branches[b]? with
        | some r => segDelay d f (r, b)
        | none => 0
      let (w, s, c) := walkUp d md f k up (f64Add acc dl)
      ((b, up) :: w, s, c)

/-- The dominant inflow of a node over its total inflow (R354). -/
def shareAt (d : Dev) (md : NetModel) (f : Flows) (st : NetState) (n b : Nat) : Nat :=
  f64Div (f.dv b) (f64Add (f64Sum ((volIn d md f n).map (·.2.2))) (injVol d md st n))

/-- A front: its arrival time, temperature of the water behind it as it arrives, share (all binary64). -/
abbrev Front := Nat × Nat × Nat

/-- The fronts on a walk, nearest first: `n` the segment's downstream node, `dist` the time from the segment's outlet to the walk's end, `pass` the
segments between it and the end, nearest first, with the time spent in each, `share` the product so far. -/
def frontsOn (d : Dev) (md : NetModel) (f : Flows) (st : NetState) : Nat → Nat → List (BranchRec × Nat) → Nat → List (Nat × Nat) → List Front
  | _, _, _, _, [] => []
  | n, dist, pass, share, (b, up) :: rest =>
    match md.branches[b]? with
    | none => []
    | some r =>
      let share := f64Mul share (shareAt d md f st n b)
      match segOf d b with
      | none => frontsOn d md f st up dist pass share rest
      | some x =>
        let q := f.dv b
        let l := downFirst (f.fwd b) x.parcels
        let thr := f64Ratio (max 1 (d.rd MODEL.TDE_CFG.FRONT_DT)) 10
        let cool (t : Nat) (here : Nat) : Nat :=
          ((r, here) :: pass.reverse).foldl (fun t e =>
            let tg := groundNow d md e.1
            f64Add tg (f64Mul (f64Sub t tg) (lossFactor d e.1 e.2))) t
        let mine := ((l.zip (l.drop 1)).foldl (fun (acc : Nat × List Front) e =>
          let vol := f64Add acc.1 e.1.1
          if f64Lt (dTemp e.1.2 e.2.2) thr then (vol, acc.2)
          else
            let here := f64Div vol q
            (vol, acc.2 ++ [(f64Add dist here, cool (f64OfF32 e.2.2) here, share)])) ((0 : Nat), [])).2
        let through := f64Div (segVol r) q
        mine ++ frontsOn d md f st up (f64Add dist through) (pass ++ [(r, through)]) share rest

/-- The substation record of node n (R354). -/
def subRec (d : Dev) (md : NetModel) (f : Flows) (st : NetState) (n : Nat) (r : NodeRec) : List Byte :=
  let (w, src, cut) := walkUp d md f 256 n 0
  let delay := if src then f64Sum (w.map fun e => match md.branches[e.1]? with
    | some b => segDelay d f (b, e.1)
    | none => 0) else f64Inf false
  let tNow := mixAt d md f st md.branches.length n
  let a0 := f64OfF32 (match w.findSome? (fun e => segOf d e.1) with
    | some x => (((downFirst (x.fwd.getD true) x.parcels).head?).map (·.2)).getD tNow
    | none => tNow)
  let seeded := w.any fun e => match segOf d e.1 with
    | some x => x.fill.isSome
    | none => false
  let fr := ((frontsOn d md f st n 0 [] f64One w).filter fun e => f64Le e.1 longDelay).take 4
  let recs := (fr.foldl (fun (acc : Nat × Nat × List Byte) e =>
    let after := f64Add acc.1 (f64Mul e.2.2 (f64Sub e.2.1 acc.2.1))
    (after, e.2.1, acc.2.2 ++ toBytes 4 (f32OfF64 e.1) ++ toBytes 4 (f32OfF64 after) ++ toBytes 4 0)) (f64OfF32 tNow, a0, [])).2.2
  toBytes 2 r.addr ++ toBytes 2 n ++ toBytes 4 tNow ++ toBytes 4 (f32OfF64 delay) ++ toBytes 4 (b2n seeded + 2 * b2n cut) ++ recs ++
    (List.replicate (4 - fr.length) (toBytes 4 (f32Inf false) ++ List.replicate 8 0)).flatten

/-- Put an addressed node into ascending order of address. -/
def insertAddr (x : NodeRec × Nat) : List (NodeRec × Nat) → List (NodeRec × Nat)
  | [] => [x]
  | y :: ys => if x.1.addr < y.1.addr then x :: y :: ys else y :: insertAddr x ys

/-- The body of TDE_PRED. -/
def tdeBody (d : Dev) (md : NetModel) (f : Flows) (st : NetState) (status revs : Nat) : List Byte :=
  let seeded := d.model.segs.foldl (fun n e => if e.2.fill.isSome then n + 1 else n) 0
  let summary := toBytes 4 md.id ++ toBytes 2 status ++ toBytes 2 (min 65535 revs) ++ toBytes 4 (parcelsUsed d) ++ toBytes 4 seeded ++ List.replicate 48 0
  let segs := md.branches.zipIdx.flatMap fun q =>
    let x : Seg := (segOf d q.2).getD { zero := segZero d f q.2, rev := f.turned q.2, fill := none, outlet := mixAt d md f st md.branches.length (if f.fwd q.2 then q.1.fr else q.1.dst) }
    toBytes 4 (f32OfF64 (segDelay d f q)) ++ toBytes 4 x.outlet ++ toBytes 4 (f32OfF64 (f.q.getD q.2 0)) ++
      toBytes 1 (b2n x.rev + 2 * b2n x.zero + 4 * b2n x.fill.isSome + 8 * b2n x.full + 16 * b2n x.poolMerge) ++ toBytes 1 x.parcels.length ++ toBytes 2 0
  let subs := (md.nodes.zipIdx.filter fun e => e.1.role == 1 && e.1.addr != 0xFFFF).foldl (fun l e => insertAddr e l) []
  summary ++ segs ++ subs.flatMap fun e => subRec d md f st e.2 e.1

/-! ### The step (R349 to R353) -/

/-- TDE_STAT.STATE changes (R357). -/
def setTdeState (st : Nat) (d : Dev) : Dev :=
  if d.rd MODEL.TDE_STAT.STATE = st then d else raiseEv 108 st 0 (d.wr MODEL.TDE_STAT.STATE st)

/-- The counts of TDE_SEG. -/
def tdeCounts (d : Dev) : Dev :=
  (d.wr MODEL.TDE_SEG.SEEDED (d.model.segs.foldl (fun n e => if e.2.fill.isSome then n + 1 else n) 0)).wr MODEL.TDE_SEG.SEGMENTS
    (match d.model.active with
      | some m => (m.branches.filter carries).length
      | none => 0)

/-- One step on the model `md` (R349, R350): flows, seeding, three phases, TDE_PRED. -/
def tdeRun (md : NetModel) (d : Dev) : Dev :=
  let st : NetState := match d.model.point with
    | some (id, p) => if id = md.id then p else defaultPoint md
    | none => defaultPoint md
  let d := checkBodies [0x10] d
  let fresh := d.model.estDone && (benchTab d 0x10).current.valid && !benchBad d 0x10 && (match d.model.point with
    | some p => p.1 == md.id
    | none => false)
  let held := if fresh then 0 else d.model.held + 1
  let was := md.branches.zipIdx.map fun q => if carries q.1 then (segOf d q.2).bind (·.fwd) else (d.model.flows[q.2]?).map fun m => !f32Lt m 0
  let live := fresh || (decide (held ≤ d.rd MODEL.TDE_CFG.HOLD_FLOW) && d.model.flows != [])
  let flows := if fresh then st.m else d.model.flows
  let d := onModel (fun k => { k with held := held, flows := flows, stepDue := none }) d
  let d := if fresh then seedAll md st d else d
  let f : Flows := { flowsOf d (if live then flows else md.branches.map fun _ => 0) with live := live, was := was }
  let seeded := decide (d.model.segs ≠ [])
  let bz := md.branches.zipIdx
  let d := bz.foldl (fun (d : Dev) q => phaseA md f q d) d
  let mix := mixAt d md f st md.branches.length
  let d := bz.foldl (fun (d : Dev) q => phaseC mix f q d) d
  let d := tdeCounts (poolWatch d)
  let state := if ¬ seeded then 1 else if fresh then 2 else if live then 3 else 4
  let status := if state = 1 then 0x0722 else if state = 3 then 0x0720 else if state = 4 then 0x0721 else 0
  let revs := ((List.range md.branches.length).filter f.turned).length
  let d := d.addSat MODEL.TDE_STAT.REVERSALS revs
  let d := setTdeState state d
  publish 0x11 d.model.tick (decide (state = 2 ∨ state = 3)) (!fresh) (tdeBody d md f st status revs) d

/-! ### Activation (R341, R353) -/

/-- Parcels of a list that starts at the FROM end, between two volumes. -/
def cutVol (a b : Nat) (l : List (Nat × Nat)) : List (Nat × Nat) := (takeVol (f64Sub b a) (takeVol a l).2).1

/-- The segment that branch r of a new model starts with: the same tag's, or its part of its parent's (R353). -/
def carrySeg (old : NetModel) (segs : SMap Seg) (r : BranchRec) : Option Seg :=
  let find (t : Nat) : Option (BranchRec × Seg) := match old.branches.zipIdx.find? (fun e => e.1.tag == t) with
    | some (b, i) => (look segs i).map (b, ·)
    | none => none
  if ¬ carries r then none
  else match find r.tag with
  | some (b, x) => if b.len = r.len ∧ b.area = r.area then some x else none
  | none =>
    if r.splitOf = 0 then none
    else match find r.splitOf with
    | none => none
    | some (b, x) =>
      let V := segVol b
      let l := cutVol (f64Mul V (f64OfF32 r.splitA)) (f64Mul V (f64OfF32 r.splitB)) x.parcels
      let taken := f64Sum (l.map (·.1))
      let k := f64Div (segVol r) taken
      if l = [] then none else some { x with parcels := l.map fun p => (f64Mul p.1 k, p.2), fill := x.fill.map fun _ => 0, fwd := none, rev := false }

/-- The staged model becomes active at a model tick (R341): values and parcels carry over by tag; committed to eMRAM; EV109. -/
def activateModel (d : Dev) : Dev :=
  match d.model.staged with
  | none => d
  | some md =>
    let old : NetModel := d.model.active.getD {}
    let p0 := match d.model.point with
      | some (id, p) => if id = old.id then p else defaultPoint old
      | none => defaultPoint old
    let hasOld := d.model.active.isSome
    let nodeIdx (t : Nat) := if hasOld then old.nodes.findIdx? (fun n => n.tag == t) else none
    let brIdx (t : Nat) := if hasOld then old.branches.findIdx? (fun b => b.tag == t) else none
    let nodes := md.nodes.map fun n => (n, nodeIdx n.tag)
    let brs := md.branches.map fun b => (b, brIdx b.tag)
    let val (l : List Nat) (i : Option Nat) (dflt : Nat) := match i with
      | some i => (l[i]?).getD dflt
      | none => dflt
    let pt : NetState := { p := nodes.map (fun e => val p0.p e.2 e.1.dfltP), t := nodes.map (fun e => val p0.t e.2 e.1.dfltT), g := nodes.map (fun e => val p0.g e.2 0), m := brs.map (fun e => val p0.m e.2 e.1.dflt) }
    let segs := md.branches.zipIdx.foldl (fun (m : SMap Seg) e => match carrySeg old d.model.segs e.1 with
      | some x => ins e.2 x m
      | none => m) []
    let words := ((nodes.filter fun e => e.2.isSome).length, (brs.filter fun e => e.2.isSome).length, segs.foldl (fun n e => n + e.2.parcels.length) 0)
    let flows := if d.model.flows = [] then [] else brs.map fun e => val d.model.flows e.2 0
    let d := onModel (fun k => { k with active := some md, staged := none, point := some (md.id, pt), segs := segs, carried := some words, flows := flows, lastM := [], lastUnobs := [] }) d
    let d := modelRegs (d.wr MODEL.MODEL_STAT.ACT_PENDING 0)
    raiseEv 109 md.id 0 (tdeCounts (quarCount d))

end Sys2Proof.Machine
end

