-- ==== Sys2Proof/Machine/ModelRows.lean ====
section
/-! DEFINITION. The commands and events of the MODEL unit (spec/13): loading, activating, editing and reading the model, the model tick with its
snapshots, the estimator's times and the step of the transport delay engine. -/
namespace Sys2Proof.Machine
open Sys2Proof

/-! ### Commands (R340 to R342, R356) -/

/-- What MODEL_LOAD does where its conditions hold (R340). -/
def modelLoadEffect (h : CmdHdr) (d : Dev) : CmdOut :=
  let b := inBuf h d
  let m := parseModel b
  match modelFault d.model.active b m with
  | some (sec, rec_) => .done d 0x0701 [sec, rec_]
  | none =>
    if d.rd SOLV.PART_CFG.SRAM_E * 4096 < modelNeed m then .done d 0x0702 [0, modelNeed m]
    else .later ((onModel (fun k => { k with analysing := some (m, d.up) }) d).wr MODEL.MODEL_STAT.ANALYSING 1) .modelLoad []

/-- MODEL_LOAD: the image is checked whole and its analysis begins (R340). -/
def execModelLoad (h : CmdHdr) (s : State) : Host.Outcome State Fault Refusal :=
  go (runCmd { unit := 7, op := 1, isl := [2] } h fun d =>
    let b := inBuf h d
    if d.model.analysing.isSome then .done d 0x0704 []
    else if bufLen h < 64 ∨ ¬ sendOk h (imgLen (imgCounts b)) then .done d stBadBuffer []
    else
      let (n, br, ms, _) := imgCounts b
      let m := parseModel b
      if 8192 < n ∨ 16384 < br ∨ 32768 < ms then .done d 0x0702 [0, modelNeed m]
      else modelLoadEffect h d) s

/-- MODEL_ANALYSIS_END: the model is staged and MODEL_LOAD completes (R340). -/
def execModelAnalysisEnd (s : State) : Host.Outcome State Fault Refusal :=
  go (fun d => match d.model.analysing with
    | none => d
    | some (m, t) =>
      let d := modelRegs ((onModel (fun k => { k with staged := some m, analysing := none }) d).wr MODEL.MODEL_STAT.ANALYSING 0)
      finishKindWith .modelLoad stOK [0, 0, (d.up - t) / 1000000] d) s

/-- MODEL_ACTIVATE: the staged model becomes active at the next model tick (R341). -/
def execModelActivate (h : CmdHdr) (s : State) : Host.Outcome State Fault Refusal :=
  go (runCmd { unit := 7, op := 2, c := true } h fun d =>
    if d.model.analysing.isSome then .done d 0x0704 []
    else if d.model.staged.isNone then .done d 0x0703 []
    else .later (d.wr MODEL.MODEL_STAT.ACT_PENDING 1) (.other 51 0) []) s

/-- An edit record: kind, index, value (R342). -/
def editRec (b : List Byte) : Nat × Nat × Nat := (fieldAt b 0 1, fieldAt b 2 2, fieldAt b 4 4)

/-- An invalid edit record. -/
def editBad (m : NetModel) (e : Nat × Nat × Nat) : Bool :=
  let (k, i, v) := e
  let meas := decide (i < m.meas.length)
  match k with
  | 1 => !meas || !f32Lt 0 v
  | 2 => !meas
  | 3 => !meas || decide (1 < v)
  | 4 => !meas
  | 5 => (match m.branches[i]? with
    | some b => decide (7 < v) || bitOf v 2 != bitOf b.flags 2
    | none => true)
  | 6 => decide (m.branches.length ≤ i) || !f32NonNeg v
  | _ => true

/-- Apply one edit record. -/
def applyEdit (m : NetModel) (e : Nat × Nat × Nat) : NetModel :=
  let (k, i, v) := e
  let onM (f : MeasRec → MeasRec) : NetModel := { m with meas := m.meas.modify i f }
  let onB (f : BranchRec → BranchRec) : NetModel := { m with branches := m.branches.modify i f }
  match k with
  | 1 => onM fun r => { r with sigma := v }
  | 2 => onM fun r => { r with pseudo := v }
  | 3 => onM fun r => { r with flags := setBit r.flags 0 (v != 0) }
  | 5 => onB fun b => { b with flags := v }
  | 6 => onB fun b => { b with k := v }
  | _ => m

/-- What MODEL_EDIT does where its conditions hold (R342). -/
def modelEditEffect (h : CmdHdr) (count : Nat) (d : Dev) : CmdOut :=
  match d.model.active with
  | none => .done d 0x0703 [0xFFFFFFFF]
  | some m =>
    let es := (chunksOf 16 count (inBuf h d)).map editRec
    match firstBad (fun _ e => editBad m e) es with
    | some i => .done d 0x0705 [i]
    | none =>
      let freed := (es.filter fun e => e.1 == 4).filterMap fun e => (m.meas[e.2.1]?).map (·.tag)
      let d := onModel (fun k => { k with active := some (es.foldl applyEdit m), quar := k.quar.filter (fun t => !freed.contains t), badRun := keepKeys (fun t => !freed.contains t) k.badRun }) d
      .done (quarCount d) stOK [0xFFFFFFFF]

/-- MODEL_EDIT: whole or not at all, from the next gather window; committed with the model (R342). -/
def execModelEdit (h : CmdHdr) (count : Nat) (s : State) : Host.Outcome State Fault Refusal :=
  go (runCmd { unit := 7, op := 3, c := true } h fun d =>
    if count = 0 ∨ 256 < count then .done d stBadParam []
    else if ¬ sendOk h (16 * count) then .done d stBadBuffer []
    else modelEditEffect h count d) s

/-- The records of a table of the active model (R356). -/
def modelRecs (d : Dev) (m : NetModel) (table : Nat) : List (List Byte) := match table with
  | 0 => m.nodes.map nodeBytes
  | 1 => m.branches.map branchBytes
  | 2 => m.meas.map measBytes
  | _ => (m.meas.zipIdx.filter fun e => d.model.quar.contains e.1.tag).map fun e => toBytes 4 e.2

/-- What MODEL_READ does where its conditions hold (R356). -/
def modelReadEffect (h : CmdHdr) (table first count : Nat) (d : Dev) : CmdOut :=
  match d.model.active with
  | none => .done d 0x0703 []
  | some m =>
    let size := match table with
      | 1 => 48
      | 3 => 4
      | _ => 32
    if ¬ recvOk h (size * count) then .done d stBadBuffer []
    else
      let rs := ((modelRecs d m table).drop first).take count
      .done (outBuf h rs.flatten d) stOK [rs.length]

/-- MODEL_READ (R356). -/
def execModelRead (h : CmdHdr) (table first count : Nat) (s : State) : Host.Outcome State Fault Refusal :=
  go (runCmd { unit := 7, op := 4, kw := true } h fun d =>
    if 3 < table then .done d stBadParam []
    else modelReadEffect h table first count d) s

/-! ### The model tick (R23 to R25) -/

/-- The PIO_SNAP record of entry e of sequence k (R264). -/
def entrySnap (d : Dev) (k e : Nat) : List Byte :=
  let now := svcTotalNs d
  let x := entSt d k e
  let past (t : Nat) : Bool := decide (now < t + 1000000000) && decide (t ≤ now)
  let l := (x.good.filter fun g => past g.1).map (·.2)
  let sub := x.subst.any past
  toBytes 4 (if l = [] then f32NaN else f32Mean l) ++ toBytes 2 l.length ++
    toBytes 1 (d.rd (PIO.RESULT.STAT.HALF k e) + 2 * b2n sub + 4 * d.rd (PIO.RESULT.STAT.STALE k e)) ++ toBytes 1 0

/-- PIO_SNAP's body: 512 entries and 64 pulse inputs, 4,608 bytes (R264). -/
def pioSnapBody (d : Dev) : List Byte :=
  ((List.range 2).flatMap fun k => (List.range 256).flatMap fun e => entrySnap d k e) ++
    (List.range 64).flatMap fun n => toBytes 4 (d.rd (PIO.PIN.COUNT n)) ++ toBytes 4 (d.rd (PIO.PIN.RATE n))

/-- An input word as handed over last, under any force (R339, R446). -/
def newestWord (d : Dev) (a : Nat) : Item :=
  let x := d.meter.copy
  match look x.forces (forceKey 5 a) with
  | some v => { v := v, q := 3 }
  | none => x.pend.foldl (fun (i : Item) e => match e.2 with
    | .inWord b y => if b = a then y else i
    | _ => i) (lookD x.inW a {})

/-- The content of SESS_SNAP: every input word of the enabled sessions with its quality and receive stamp (R31, R339). -/
def takeSessSnap (d : Dev) : Dev :=
  let m := (enabledSess d).foldl (fun (m : SMap (Nat × Nat × Nat)) s =>
    let t := match (sessSt d s).rxAt with
      | some u => svcTotalNs d - (d.up - u)
      | none => 0
    (List.range (inWords d s)).foldl (fun m i =>
      let w := newestWord d (d.rd (SESS.CTX.IN.WBASE s) + i)
      ins (32 * s + i) (w.v, w.q, t) m) m) []
  onModel (fun k => { k with sessSnap := m }) d

/-- The four snapshots of a model tick (R264, R302, R324, R31). -/
def publishSnaps (d : Dev) : Dev :=
  let n := d.model.tick
  let d := if islandOn d 9 then publish 1 n true false (pioSnapBody d) d else d
  let d := if islandOn d 11 then
      let d := takeSessSnap d
      publish 2 n true false (Config.sessSnapBody (d.model.sessSnap.map fun e => [e.1 / 32, e.1 % 32, e.2.1, e.2.2.1, e.2.2.2])) d
    else d
  if islandOn d 8 then publish 4 n true false (heatSnapBody d) (publish 3 n true false (mtrSnapBody d) d) else d

/-- A tick of the estimator: its gather window opens, or the tick is skipped (R25, R343). -/
def estTick (t : Nat) (d : Dev) : Dev :=
  match d.model.active with
  | none => d
  | some m =>
    if ¬ estRuns d then d
    else if d.model.win.isSome then raiseEv 110 0 0 (d.addSat MODEL.EST_STAT.SKIPS 1)
    else onModel (fun k => { k with win := some { tickNs := t, model := m, quar := k.quar } }) d

/-- A tick of the transport delay engine: its step is due, or skipped (R25, R349); an engine that does not run is off (R355, R359). -/
def tdeTick (t : Nat) (d : Dev) : Dev :=
  if ¬ tdeRuns d then setTdeState 0 d
  else if d.model.stepDue.isSome then raiseEv 110 1 0 (d.addSat MODEL.TDE_STAT.SKIPS 1)
  else onModel (fun k => { k with stepDue := some t }) d

/-- What MODEL_TICK does where its conditions hold (R23, R24). -/
def modelTickEffect  (d : Dev) : Dev :=
  let ph := d.time.phase * 1000000
  let sec := (svcTotalNs d - ph + 999999999) / 1000000000
  let t := sec * 1000000000 + ph
  let t := match d.model.tickNs with
    | some l => if t ≤ l then l + 1000000000 else t
    | none => t
  let d := copyNow (toSvcNs t d)
  let d := onModel (fun k => { k with tick := k.tick + 1, tickNs := some t, estDone := false }) d
  let d := publishSnaps d
  let d := if d.flag MODEL.MODEL_STAT.ACT_PENDING ∧ d.model.win.isNone then activateModel d else d
  planTick t (tdeTick t (estTick t d))

/-- MODEL_TICK: the next whole second plus MODEL_PHASE (R23, R24; log 20): snapshots, a pending activation, the ticks of the estimator, of the
transport delay engine and of the plan. -/
def execModelTick (s : State) : Host.Outcome State Fault Refusal :=
  go (fun d =>
    if ¬ d.flag TIME.SVC.STAT.TEMPOS_RUN ∨ ¬ (opState d = 3 ∨ opState d = 4) then d
    else
      modelTickEffect d) s

/-! ### The estimator (R343 to R348) -/

/-- Let an event of the estimator act on its open window; an estimator that is off has none (R355). -/
def onWindow (f : EstWin → Dev → Dev) (d : Dev) : Dev := match d.model.win with
  | none => d
  | some w => if estRuns d then f w d else onModel (fun k => { k with win := none }) d

/-- GATHER_END: GATHER_MS after the tick (R343; log 20). -/
def execGatherEnd (s : State) : Host.Outcome State Fault Refusal :=
  go (onWindow fun w d =>
    if w.gathered then d
    else
      let d := toSvcNs (w.tickNs + clampN 2 500 (d.rd MODEL.EST_CFG.GATHER_MS) * 1000000) d
      onModel (fun k => { k with win := some (gatherNow w d) }) (checkBodies [1, 2, 3, 4] d)) s

/-- The run of a window's loop over at most n iterations. -/
def winRun (d : Dev) (w : EstWin) (n : Nat) : EstRun :=
  estRun d w (min n (max 1 (d.rd MODEL.EST_CFG.ITER_MAX))) { x := hydVec w.model (startPoint d w.model) }

/-- Some measurement of kinds 0 to 4 is in use. -/
def anyInput (w : EstWin) : Bool := usedMeas w [] != []

/-- EST_CONVERGED: the loop ends before its deadline, converged or diverged, and EST_STATE is published (R343). A loop that does neither goes on
to the deadline, and so does a tick without usable measurements (R344). -/
def execEstConverged (s : State) : Host.Outcome State Fault Refusal :=
  go (onWindow fun w d =>
    if ¬ w.gathered ∨ ¬ anyInput w then d
    else
      let r := winRun d w 15
      match r.status with
      | none => d
      | some 0 => estPublish w (estResult d w r 0 true) d
      | some st => estPublish w (estFailed d w r st) d) s

/-- EST_DEADLINE: DEADLINE_MS after the tick, with `done` iterations completed and the thermal solution completed or not (R344; log 20). -/
def execEstDeadline (done : Nat) (thermal : Bool) (s : State) : Host.Outcome State Fault Refusal :=
  go (onWindow fun w d =>
      let d := toSvcNs (w.tickNs + clampN 100 990 (d.rd MODEL.EST_CFG.DEADLINE_MS) * 1000000) d
      if ¬ w.gathered then
        let w := { w with gatherUp := d.up, vals := w.model.meas.map fun _ => none }
        estPublish w (estFailed d w { x := [] } 0x0711) d
      else if ¬ anyInput w then estPublish w (estFailed d w { x := [] } 0x0713) d
      else
        let r := winRun d w done
        if r.status = some 0x0712 then estPublish w (estFailed d w r 0x0712) d
        else if r.it ≠ 0 ∧ f64Le r.dx (f64Mul (f64OfInt 10) (mreg d MODEL.TOL_X)) then estPublish w (estResult d w r 0x0710 thermal) d
        else estPublish w (estFailed d w r 0x0711) d) s

/-! ### The transport delay engine (R349) -/

/-- TDE_STEP: at the publication of EST_STATE, or WAIT after the tick (R349; log 20); then partition D's take of a plan tick (R25, R378). -/
def execTdeStep (s : State) : Host.Outcome State Fault Refusal :=
  go (fun d => match d.model.stepDue, d.model.active with
    | some t, some m =>
      if ¬ tdeRuns d then d
      else
        let d := if d.model.estDone then d else toSvcNs (t + clampN 20 99 (d.rd MODEL.TDE_CFG.WAIT) * 10000000) d
        dTake (tdeRun m d)
    | _, _ => d) s

end Sys2Proof.Machine
end

