-- ==== Sys2Proof/Machine/SolvRows.lean ====
section
/-! DEFINITION. The commands and events of the SOLV unit (spec/14): partitions and their tiles, structures, deltas, takes, deliveries, and the
Setpoint Distributor. -/
namespace Sys2Proof.Machine
open Sys2Proof

/-! ### Commands (R364 to R366, R372, R388, R389) -/

/-- A partition byte: 1 D, 2 F; its index. -/
def partOf (p : Nat) : Option Nat := if p = 1 then some 0 else if p = 2 then some 1 else none
/-- Run a command's part on the partition it names; BAD_PARAM otherwise. -/
def onPart (p : Nat) (d : Dev) (f : Nat → CmdOut) : CmdOut := match partOf p with
  | some i => f i
  | none => .done d stBadParam []

/-- A resident structure or model no longer fits with these SRAM counts for E and F (R372). -/
def residentTooBig (d : Dev) (sE sF : Nat) : Bool :=
  ([d.model.active, d.model.staged].any fun s => match s with
    | some m => decide (sE * 4096 < modelNeed m)
    | none => false) ||
  [(partSt d 1).active, (partSt d 1).staged].any fun s => match s with
    | some st => structTooBig sF st
    | none => false

/-- PART_SET (R372): checked, then waits until the partitions it alters are idle, behind one that waits already. -/
def execPartSet (h : CmdHdr) (tiles sram : List Nat) (bwE bwF : Nat) (s : State) : Host.Outcome State Fault Refusal :=
  go (runCmd { unit := 8, op := 1, c := true, isl := [6] } h fun d =>
    let t (i : Nat) := tiles.getD i 0
    let r (i : Nat) := sram.getD i 0
    if 90 < bwE then .done d stBadParam []
    else if tilesIn d < t 0 + t 1 + t 2 ∨ 12 < r 0 + r 1 + r 2 then .done d 0x080A [tileWord d]
    else if residentTooBig d (r 0) (r 2) then .done d 0x0806 [tileWord d]
    else .later (onSolv (fun k => { k with setReq := k.setReq ++ [[t 0, t 1, t 2, r 0, r 1, r 2, bwE, bwF]] }) d) .partSet []) s

/-- PART_SET_APPLY: the altered partitions are idle and the change is made (R370, R372). -/
def execPartSetApply (s : State) : Host.Outcome State Fault Refusal :=
  go (fun d => match d.solv.setReq with
    | [] => d
    | q :: rest =>
      let v (i : Nat) := q.getD i 0
      let eCh : Bool := d.rd SOLV.PART_CFG.E_TILES != v 0 || d.rd SOLV.PART_CFG.SRAM_E != v 3 || d.rd SOLV.BW_CFG.BW_E != v 6
      let fCh : Bool := eCh || d.rd SOLV.PART_CFG.F_TILES != v 2 || d.rd SOLV.PART_CFG.SRAM_F != v 5 || d.rd SOLV.BW_CFG.BW_F != v 7
      let dCh : Bool := fCh || d.rd SOLV.PART_CFG.D_TILES != v 1 || d.rd SOLV.PART_CFG.SRAM_D != v 4
      if (eCh && d.model.win.isSome) || (fCh && (partSt d 1).cycle.isSome) || (dCh && (partSt d 0).cycle.isSome) then d
      else
        let d := (((d.wr SOLV.PART_CFG.E_TILES (v 0)).wr SOLV.PART_CFG.D_TILES (v 1)).wr SOLV.PART_CFG.F_TILES (v 2)).wr SOLV.PART_CFG.SRAM_E (v 3)
        let d := (((d.wr SOLV.PART_CFG.SRAM_D (v 4)).wr SOLV.PART_CFG.SRAM_F (v 5)).wr SOLV.BW_CFG.BW_E (v 6)).wr SOLV.BW_CFG.BW_F (v 7)
        let d := layTiles (tileWord d) (onSolv (fun k => { k with setReq := rest }) d)
        finishFirst .partSet stOK [tileWord d] (settleSolv d)) s

/-- Some analysis of a structure runs. -/
def anyAnalysis (d : Dev) : Bool := (partSt d 0).analysing.isSome || (partSt d 1).analysing.isSome

/-- STRUCT_LOAD (R363, R364). -/
def execStructLoad (h : CmdHdr) (p : Nat) (s : State) : Host.Outcome State Fault Refusal :=
  go (runCmd { unit := 8, op := 2, isl := [6] } h fun d => onPart p d fun i =>
    let b := inBuf h d
    let k := imgDims b
    if anyAnalysis d then .done d 0x080B []
    else if bufLen h < 128 ∨ ¬ sendOk h ((sectionAt k).getLast?.getD 0) then .done d stBadBuffer []
    else
      let st := parseStruct b
      match structFault p b st with
      | some (sec, rec_) => .done d 0x0805 [sec, rec_]
      | none =>
        if structTooBig (d.rd SOLV.PART_CFG.SRAM_F) st then .done d 0x0806 [0, structNeed st]
        else if ¬ st.dense ∧ (st.order = [] ∨ st.tree = []) ∧ ¬ islandOn d 2 then .done d stUnavailable []
        else .later (setPart i { partSt d i with analysing := some (st, d.up) } d) (.structLoad i) []) s

/-- STRUCT_ANALYSIS_END: the structure is staged and STRUCT_LOAD completes (R364, R365). -/
def execStructAnalysisEnd (p : Fin 2) (s : State) : Host.Outcome State Fault Refusal :=
  go (fun d =>
    let x := partSt d p.val
    match x.analysing with
    | none => d
    | some (st, t) =>
      let d := partIds p.val (setPart p.val { x with staged := some st, analysing := none } d)
      finishKindWith (.structLoad p.val) stOK [0, 0, (d.up - t) / 1000000] d) s

/-- STRUCT_ACTIVATE: at the partition's next take (R365). -/
def execStructActivate (h : CmdHdr) (p : Nat) (s : State) : Host.Outcome State Fault Refusal :=
  go (runCmd { unit := 8, op := 3, c := true, isl := [6] } h fun d => onPart p d fun i =>
    if anyAnalysis d then .done d 0x080B []
    else if (partSt d i).staged.isNone then .done d 0x0807 []
    else .later (setPart i { partSt d i with actPend := true } d) (.other 52 i) []) s

/-- SOLV_DELTA: a set is accepted as pending, or refused whole (R366). -/
def execSolvDelta (h : CmdHdr) (p id : Nat) (s : State) : Host.Outcome State Fault Refusal :=
  go (runCmd { unit := 8, op := 4, isl := [6] } h fun d => onPart p d fun i =>
    let x := partSt d i
    let n := bufLen h / 16
    if ¬ sendOk h (16 * n) ∨ 1048576 < n then .done d stBadBuffer []
    else match ([x.active, x.staged].filterMap fun q => q).find? (fun st => st.id == id) with
    | none => .done d 0x0809 [x.deltas.length]
    | some st =>
      let rs := deltaRecs n (inBuf h d)
      match firstBad (fun j r => deltaBad st r || !((deltaRsvd n (inBuf h d)).getD j false)) rs with
      | some j => .done d 0x0808 [x.deltas.length, j]
      | none =>
        let d := pendCount i (setPart i { x with deltas := x.deltas ++ [(id, rs)] } d)
        .done d stOK [x.deltas.length + 1]) s

/-- A request to switch partition p on or off (R388): a cycle in progress ends as at the deadline and delivers, after a number of iterations that is
free (log 1); then the partition is OFF for at least 1 ms. -/
def partRequest (p : Nat) (on : Bool) (d : Dev) : Dev :=
  let d := d.put (SOLV.PART.CTRL.EN p) on
  if on then
    if d.flag (SOLV.PART.STAT.MINOFF p) then d.wr (SOLV.PART.STAT.PENDING_REARM p) 1 else settlePart p d
  else
    let d := d.wr (SOLV.PART.STAT.PENDING_REARM p) 0
    if partState d p = 0 then d
    else
      let d := if (partSt d p).cycle.isSome then
          let (n, d) := takeFree 8 (setPartState p 3 d)
          deliverDeadline p (min n (max 1 (d.rd (SOLV.PART.CTRL.ITER_MAX p)))) false d
        else d
      settlePart p (d.wr (SOLV.PART.STAT.MINOFF p) 1)

/-- SOLV_CTRL (R388, R389). -/
def execSolvCtrl (h : CmdHdr) (p action : Nat) (s : State) : Host.Outcome State Fault Refusal :=
  go (runCmd { unit := 8, op := 5, c := true, isl := [6] } h fun d => onPart p d fun i =>
    if 2 < action then .done d stBadParam []
    else if action = 2 then .done (setPart i { partSt d i with coldNext := true } d) stOK [partWord d i]
    else
      let d := partRequest i (action == 1) d
      if action = 1 ∧ d.flag (SOLV.PART.STAT.PENDING_REARM i) then .later d (.solvPart i true) []
      else .done d stOK [partWord d i]) s

/-- PARTITION_MINOFF_END: the minimum off time of 1 ms ends; a latched enable starts the partition (R388). -/
def execPartitionMinoffEnd (p : Fin 2) (s : State) : Host.Outcome State Fault Refusal :=
  go (fun d =>
    if ¬ d.flag (SOLV.PART.STAT.MINOFF p.val) then d
    else
      let d := (d.wr (SOLV.PART.STAT.MINOFF p.val) 0).wr (SOLV.PART.STAT.PENDING_REARM p.val) 0
      let d := settlePart p.val d
      finishKindWith (.solvPart p.val true) stOK [partWord d p.val] d) s

/-- What a change of EN of partition i does (R388). -/
def partEnEffect (i : Nat) (was : Bool) (d : Dev) : Dev :=
  let en := d.flag (SOLV.PART.CTRL.EN i)
  if en ≠ was then partRequest i en d else d

/-- PART_EN_WRITE: a write of SOLV.PART[p].CTRL with its EN bit before lock (R388). -/
def execPartEnWrite (port : Fin 2) (p : Fin 2) (v : Nat) (s : State) : Host.Outcome State Fault Refusal :=
  go (guardWrite port.val (0x1000100 + 0x80 * p.val) fun d =>
    let was := d.flag (SOLV.PART.CTRL.EN p.val)
    let (d', refused) := writeFields false (0x1000100 + 0x80 * p.val) v d
    partEnEffect p.val was (if refused then ignoreWrite port.val (0x1000100 + 0x80 * p.val) d' else d')) s

/-- The Day-old x on the present structure, at the base of the present instant (R376). -/
def dayOldX (d : Dev) (p : Nat) (st : QpStruct) : List Nat :=
  let base := if st.stepS = 0 then svcSec d else svcSec d / st.stepS * st.stepS
  match dayOld st base (partSt d p) with
  | some i => i.x
  | none => []

/-- SOLV_READ (R389). -/
def execSolvRead (h : CmdHdr) (p what first count : Nat) (s : State) : Host.Outcome State Fault Refusal :=
  go (runCmd { unit := 8, op := 6, isl := [6], kw := true } h fun d => onPart p d fun i =>
    if 2 < what then .done d stBadParam []
    else match (partSt d i).active with
    | none => .done d 0x0807 []
    | some st =>
      if ¬ recvOk h (8 * count) then .done d stBadBuffer []
      else
        let l := match what with
          | 0 => (partSt d i).lastX
          | 1 => (partSt d i).lastY
          | _ => dayOldX d i st
        let vs := (l.drop first).take count
        .done (outBuf h (vs.flatMap (toBytes 8)) d) stOK [vs.length]) s

/-! ### Takes and deliveries (R369, R373 to R380) -/

/-- PLAN_WAIT_EXPIRY: PLAN_WAIT after the plan tick without TDE_PRED, D's take is made (R378; log 20). -/
def execPlanWaitExpiry (s : State) : Host.Outcome State Fault Refusal :=
  go (fun d => match (partSt d 0).planTick with
    | none => d
    | some t => dTake (toSvcNs (t + max 1 (d.rd SOLV.PLAN_CFG.PLAN_WAIT) * 100000000) d)) s

/-- F_TAKE: the next 100 ms tick of service time (R23, R378; log 20). -/
def execFTake (s : State) : Host.Outcome State Fault Refusal :=
  go (fun d =>
    if ¬ d.flag TIME.SVC.STAT.TEMPOS_RUN ∨ opState d ≠ 3 then d
    else
      let t := (svcTotalNs d / 100000000 + 1) * 100000000
      let d := toSvcNs t d
      let d := setPart 1 { partSt d 1 with ticks := (partSt d 1).ticks + 1 } d
      if partState d 1 ≠ 1 then d else takeData 1 t (t + clampN 10 95 (d.rd SOLV.F_CFG.F_DL) * 1000000) d) s

/-- PARTITION_DELIVERY: before its deadline the cycle has converged or is ill-posed, and delivers (R374, R375, R380). A cycle that does neither
within ITER_MAX iterations goes on to SOLVE_DEADLINE. -/
def execPartitionDelivery (p : Fin 2) (s : State) : Host.Outcome State Fault Refusal :=
  go (fun d =>
    match (partSt d p.val).active, (partSt d p.val).cycle with
    | some st, some c =>
      if c.deadline < svcTotalNs d then d
      else
        let r := cycleRun d p.val st c (max 1 (d.rd (SOLV.PART.CTRL.ITER_MAX p.val)))
        match r.stop with
        | none => d
        | some (status, why) =>
          let last := r.it.scaleOut c.dvec c.evec
          deliverSol p.val st c { status := status, reason := why, iters := r.n, it := if status = 0 then some last else none } (some last) d
    | _, _ => d) s

/-- SOLVE_DEADLINE: the deadline with `done` iterations completed, or ITER_MAX reached before it (R379; log 20). -/
def execSolveDeadline (p : Fin 2) (done : Nat) (s : State) : Host.Outcome State Fault Refusal :=
  go (fun d =>
    match (partSt d p.val).cycle with
    | none => d
    | some c =>
      let mx := max 1 (d.rd (SOLV.PART.CTRL.ITER_MAX p.val))
      if mx ≤ done then deliverDeadline p.val mx true d else deliverDeadline p.val done false (toSvcNs c.deadline d)) s

/-! ### The Setpoint Distributor (R383 to R386) -/

/-- Two enabled entries name the same target. -/
def sameTarget (a b : SdEntry) : Bool := a.en && b.en && a.kind == b.kind && a.target == b.target && (a.kind == 1 || a.index == b.index)

/-- An entry outside its ranges. -/
def sdBad (d : Dev) (e : SdEntry) : Bool :=
  e.part == 0 || decide (2 < e.part) || e.kind == 0 || decide (2 < e.kind) || (e.part == 1 && e.source % 1024 != 0) ||
    (if e.kind = 1 then decide (1023 < e.target) else decide (4095 < e.target) || decide (spCount d e.target ≤ e.index))

/-- What SD_MAP does where its conditions hold (R383). -/
def sdMapEffect (h : CmdHdr) (count : Nat) (d : Dev) : CmdOut :=
  let es := (chunksOf 32 count (inBuf h d)).map sdRec
  match firstBad (fun _ e => sdBad d e) es with
  | some i => .done d stBadParam [i]
  | none =>
    match firstBad (fun i e => (es.take i).any fun o => sameTarget o e) es with
    | some i => .done d 0x080C [i]
    | none => .done (onSolv (fun k => { k with sdNext := some es }) d) stOK [0xFFFFFFFF]

/-- SD_MAP: a new map takes effect at the next delivery (R383). -/
def execSdMap (h : CmdHdr) (count : Nat) (s : State) : Host.Outcome State Fault Refusal :=
  go (runCmd { unit := 8, op := 7, c := true } h fun d =>
    if 2048 < count then .done d stBadParam []
    else if bufLen h ≠ 32 * count ∨ (count ≠ 0 ∧ ¬ sendOk h (32 * count)) then .done d stBadBuffer []
    else
      sdMapEffect h count d) s

/-- A loaded map takes effect: entries that stay as they were keep what they hold (R383, R385). -/
def sdSwap (d : Dev) : Dev :=
  match d.solv.sdNext with
  | none => d
  | some es =>
    let old := d.solv.sd
    let d := onSolv (fun k => { k with sdNext := none, sd := es.map fun e => (old.find? fun i => i.e == e).getD { e := e } }) d
    d.wr SOLV.SD_STAT.ENTRIES (min 4095 (es.filter (·.en)).length)

/-- The target of an entry from the newest publication of its partition (R384): held, clamped, target. -/
def sdTarget (d : Dev) (i : SdItem) : SdItem × Bool :=
  let p := i.e.part - 1
  let b := (benchTab d (0x20 + p)).current
  let n := match (partSt d p).active with
    | some st => st.vars.length
    | none => 0
  let j : Option Nat := if p = 1 then (if i.e.source < n then some i.e.source else none) else match (partSt d 0).active with
    | some st => varOf st i.e.source
    | none => none
  let x := match j with
    | some k => fieldAt b.body (64 + 4 * k) 4
    | none => f32NaN
  let held : Bool := !b.valid || benchBad d (0x20 + p) || f32IsNaN x || j.isNone || (fieldAt b.body 4 2 == 0x0802 && !d.flag SOLV.SD_CFG.USE_DAYOLD)
  if held then ({ i with held := true }, false)
  else
    let v := f32Add false (f32Mul false i.e.scale x) i.e.ofs
    let t := f32Clamp v i.e.lo i.e.hi
    ({ i with held := false, clamp := t != v, target := t, aimed := true }, t != v)

/-- The value of the next issue: at most RATE × RAMP_MS towards the target; the first goes to it directly (R385). -/
def sdNextVal (d : Dev) (i : SdItem) : Nat :=
  if ¬ i.started ∨ i.e.rate % 2 ^ 31 = 0 then i.target
  else
    let ms := 10 * clampN 1 100 (d.rd SOLV.SD_CFG.RAMP_MS)
    let step := f32Div false (f32Mul false i.e.rate (f32OfInt ms)) (f32OfInt 1000)
    let diff := f32Sub false i.target i.issued
    if f32Le (f32Abs diff) step then i.target else if f32Lt diff 0 then f32Sub false i.issued step else f32Add false i.issued step

/-- Issue an entry: written to the loop contexts of all lanes, or placed in the session table (R32, R385). -/
def sdIssue (i : SdItem) (d : Dev) : SdItem × Dev :=
  let v := sdNextVal d i
  let i : SdItem := { i with issued := v, first := !i.started, started := true }
  if i.e.kind = 1 then
    let eff := effTick (max 1 (d.rd SOLV.SD_CFG.SD_LEAD) * 1000000) d
    let tick := if loopCls d i.e.target = 7 then eff else loopIdx d i.e.target eff * clsTicks (loopCls d i.e.target)
    let at_ := match d.gate.t0 with
      | some t => svcTotalNs d + (t + tick * tickNs - d.up)
      | none => svcTotalNs d
    ({ i with off := !loopInUse d i.e.target, eff := at_ / 1000 % 2 ^ 32 }, handLoop eff i.e.target (.rsp v) d)
  else
    ({ i with off := !sessEn d i.e.target, eff := svcTotalNs d / 1000 % 2 ^ 32 }, putSetpoint i.e.target i.e.index v d)

/-- The record of an entry in SETPT (R386). -/
def sdBytes (i : SdItem) : List Byte :=
  toBytes 4 i.target ++ toBytes 4 i.issued ++ toBytes 4 i.eff ++
    toBytes 1 (b2n i.clamp + 2 * b2n (i.aimed && i.issued != i.target) + 4 * b2n i.held + 8 * b2n i.first + 16 * b2n i.off) ++ toBytes 3 0

/-- Publish SETPT (R386). -/
def publishSetpt (d : Dev) : Dev :=
  publish 0x30 (partSt d 0).ticks true false (toBytes 4 d.solv.seqD ++ toBytes 4 d.solv.seqF ++ toBytes 8 0 ++ d.solv.sd.flatMap sdBytes) d

/-- Go through the map, issuing the entries that `which` names. -/
def sdIssueAll (which : SdItem → Bool) (d : Dev) : Dev :=
  let (l, d) := d.solv.sd.foldl (fun (acc : List SdItem × Dev) i =>
    if which i then
      let (i', d) := sdIssue i acc.2
      (acc.1 ++ [i'], d)
    else (acc.1 ++ [i], acc.2)) ([], d)
  onSolv (fun k => { k with sd := l }) d

/-- The Distributor may issue: RUN, enabled, and no freeze after KEEP-WARM (R103, R387). -/
def sdRuns (d : Dev) : Bool := opState d == 3 && d.flag SOLV.SD_CFG.EN && !d.boot.frozenRsp

/-- SD_ROUND: the Distributor takes the newest publication of the partition that published first, where its sequence is ahead of the one used last
(R30, R384 to R386, R103). -/
def execSdRound (s : State) : Host.Outcome State Fault Refusal :=
  go (fun d => match d.solv.sdDue with
    | [] => d
    | p :: rest =>
      let d := onSolv (fun k => { k with sdDue := rest }) d
      let d : Dev := if p = 0 ∧ d.boot.frozenRsp ∧ d.boot.exitPlan then { d with boot := { d.boot with frozenRsp := false, exitPlan := false } } else d
      let d := sdSwap d
      if ¬ sdRuns d ∨ ¬ benchNewer d (0x20 + p) (if p = 0 then d.solv.seqD else d.solv.seqF) then d
      else
        let d := checkBodies [0x20 + p] d
        let seq := (benchTab d (0x20 + p)).current.seq
        let d := onSolv (fun k => if p = 0 then { k with seqD := seq } else { k with seqF := seq }) d
        let mine (i : SdItem) : Bool := i.e.en && i.e.part == p + 1
        let aimed := d.solv.sd.map fun i => if mine i then sdTarget d i else (i, false)
        let clamps := (aimed.filter (·.2)).length
        let d := onSolv (fun k => { k with sd := aimed.map (·.1) }) d
        let d := sdIssueAll (fun i => mine i && !i.held) (d.addSat SOLV.SD_STAT.CLAMPS clamps)
        let held := (d.solv.sd.filter fun i => mine i && i.held).length
        let d := if held ≠ 0 then raiseEv 117 held 0 (d.addSat SOLV.SD_STAT.HOLDS 1) else d
        publishSetpt d) s

/-- An entry's ramp goes on. -/
def ramping (i : SdItem) : Bool := i.e.en && i.aimed && i.started && i.issued != i.target

/-- RAMP_ISSUE: the next whole multiple of RAMP_MS of service time (R385; log 20). -/
def execRampIssue (s : State) : Host.Outcome State Fault Refusal :=
  go (fun d =>
    if ¬ sdRuns d ∨ ¬ islandOn d 6 ∨ (d.solv.sd.any ramping) = false then d
    else
      let per := 10000000 * clampN 1 100 (d.rd SOLV.SD_CFG.RAMP_MS)
      let d := toSvcNs ((svcTotalNs d / per + 1) * per) d
      publishSetpt (sdIssueAll ramping d)) s

end Sys2Proof.Machine
end

