-- ==== Sys2Proof/Machine/KeyRows.lean ====
section
/-! DEFINITION. The commands of the KEYS unit (spec/20): key updates, public keys, key operations, the tables, and the JTAG grant. -/
namespace Sys2Proof.Machine
open Sys2Proof

/-! ### Key update messages (R529 to R538) -/

/-- Header fields and parts of a message (R530). -/
structure KuMsg where
  kind : Nat
  flags : Nat
  ident : List Byte
  counter : Nat
  signer : Nat
  body : List Byte
  signed : List Byte
  sig : List Byte
deriving DecidableEq, Repr

/-- Body length of a kind; 0 for a kind that does not exist. -/
def kuBody (k : Nat) : Nat := match k with
  | 1 => 96 | 2 => 220 | 3 => 48 | 4 => 4 | 5 => 100 | 6 => 4 | _ => 0

/-- A message's parts. -/
def kuParse (b : List Byte) : KuMsg :=
  let n := fieldAt b 24 4
  { kind := fieldAt b 2 1, flags := fieldAt b 3 1, ident := (b.drop 4).take 16, counter := fieldAt b 20 4, signer := fieldAt b 28 1, body := (b.drop 64).take n, signed := b.take (64 + n), sig := (b.drop (64 + n)).take 96 }

/-- Check 1 of R531: version, kind, lengths, flags and reserved bytes. -/
def kuFormatOk (b : List Byte) : Bool :=
  let m := kuParse b
  let n := fieldAt b 24 4
  let zero (off k : Nat) : Bool := fieldAt m.body off k == 0
  decide (64 ≤ b.length) && fieldAt b 0 2 == 1 && kuBody m.kind != 0 && n == kuBody m.kind && b.length == 64 + n + 96 && fieldAt b 29 35 == 0 && decide (m.signer < 2) &&
    (m.flags == 0 || (m.flags == 1 && m.kind == 2)) &&
    (match m.kind with
      | 3 => decide (fieldAt m.body 5 1 ≤ 32) && (fieldAt m.body 5 1 != 0 || fieldAt m.body 4 1 == 0) && zero 6 2 && zero 44 4 && zero (12 + fieldAt m.body 5 1) (32 - fieldAt m.body 5 1)
      | 4 => zero 2 2
      | 5 => zero 2 2 && (fieldAt m.body 1 1 == 0 || (decide (16 ≤ fieldAt m.body 1 1) && decide (fieldAt m.body 1 1 ≤ 18)))
      | 6 => zero 1 1
      | _ => true)

/-- Check 3: the signer is allowed and the signature verifies (R529). -/
def kuSignerOk (d : Dev) (m : KuMsg) : Bool :=
  if d.keys.anchor = [] then m.kind == 1 && m.signer == 0 && p384.verify Config.provisioningKey m.signed m.sig
  else m.signer == 1 && p384.verify d.keys.anchor m.signed m.sig

/-- The plaintext of a STARTER body (R530): none when the unwrap fails. -/
def kuUnwrap (d : Dev) (body : List Byte) : Option (List Byte) :=
  match p384.ecdh (identityPriv d) (body.take 96) with
  | none => none
  | some z => gcmOpen (childKey d z (ascii "KU-WRAP") 0 6) ((body.drop 96).take 12) (body.drop 108)

def nodeUse (d : Dev) (n : Nat) : Nat := d.rd (KEYS.NODE.CFG.USE n)
def nodeGen (d : Dev) (n : Nat) : Nat := d.rd (KEYS.NODE.GEN n)
/-- Node n has descendants. -/
def hasChildren (d : Dev) (n : Nat) : Bool := (List.range 128).any fun c => nodeState d c != 0 && nodeParent d c == n
/-- A slot is bound to node n. -/
def isBound (d : Dev) (n : Nat) : Bool := (List.range 64).any fun s => slotType d s == 1 && slotNode d s == n

/-- Check 6: the rules of the kind (R532); 0 passes. -/
def kuRules (d : Dev) (m : KuMsg) : Nat :=
  let b := m.body
  match m.kind with
  | 2 => match kuUnwrap d b with
    | none => 0x0E04
    | some t =>
      if m.flags = 1 ∧ (((List.range 16).any fun i => decide (fieldAt t (32 + 4 * i) 4 < d.rd (KEYS.FLOOR i))) ∨ fieldAt t 36 4 ≠ m.counter) then 0x0E06 else 0
  | 3 =>
    let n := fieldAt b 0 2
    let par := fieldAt b 2 2
    let use := fieldAt b 4 1
    if 128 ≤ n then 0x0E06
    else if use = 0 then (if hasChildren d n ∨ isBound d n then 0x0E06 else 0)
    else if nodeState d n = 0 then
      let lvl := if par = 0xFFFF then 0 else d.rd (KEYS.NODE.CFG.LEVEL par)
      if (par ≠ 0xFFFF ∧ (128 ≤ par ∨ nodeState d par ≠ 1 ∨ nodeUse d par ≠ 1)) ∨ 6 < lvl + 1 ∨ 6 < use then 0x0E06 else 0
    else if par ≠ nodeParent d n ∨ use ≠ nodeUse d n ∨ fieldAt b 8 4 < nodeGen d n then 0x0E06
    else 0
  | 4 => if 128 ≤ fieldAt b 0 2 ∨ nodeState d (fieldAt b 0 2) = 0 then 0x0E06 else 0
  | 5 => if 64 ≤ fieldAt b 0 1 then 0x0E06 else 0
  | 6 =>
    let n := fieldAt b 2 2
    if 64 ≤ fieldAt b 0 1 ∨ slotType d (fieldAt b 0 1) = 2 ∨ (n ≠ 0xFFFF ∧ (128 ≤ n ∨ nodeState d n = 0)) then 0x0E06 else 0
  | _ => 0

/-- The checks of R531 in their order; the first that fails gives the status, 0 passes. -/
def kuCheck (d : Dev) (b : List Byte) : Nat :=
  let m := kuParse b
  if ¬ kuFormatOk b then 0x0E02
  else if m.ident ≠ deviceId d then 0x0E03
  else if ¬ kuSignerOk d m then 0x0E04
  else if m.counter ≠ (if countLost d then d.rd (KEYS.FLOOR 1) else d.rd (CRUST.CNT.VALUE 1)) + 1 then 0x0E05
  else if countLost d ∧ ¬ (m.kind = 2 ∧ m.flags = 1) then 0x0E07
  else kuRules d m

/-- The slots that use a node or one of its descendants: their cached keys go (R535). -/
def dropNode (n : Nat) (d : Dev) : Dev := dropCaches (fun c => c == n || (decide (c < 128) && (ancestors d 6 c).contains n)) d

/-- The effect of an accepted message (R532, R535, R538), and the node or slot it affects. -/
def kuApply (m : KuMsg) (d : Dev) : Nat × Dev :=
  let b := m.body
  match m.kind with
  | 1 => (0, keyCounts { d with keys := { d.keys with anchor := b } })
  | 2 => match kuUnwrap d b with
    | none => (0, d)
    | some t =>
      let was := keyLost d
      let d : Dev := { d with crust := { d.crust with starter := some (ofBe (t.take 32)) } }
      let d := (d.wr CRUST.STATUS.KEY_LOST 0).wr CRUST.STATUS.KEY_CAUSE 0
      let d := (List.range 128).foldl (fun (d : Dev) n => if nodeState d n = 0 then d else d.wr (KEYS.NODE.GEN n) (nodeGen d n + 1)) d
      let d := dropCaches (fun _ => true) d
      let d := if m.flags = 1 then
          (List.range 16).foldl (fun (d : Dev) i => setCnt i (fieldAt t (32 + 4 * i) 4) d) (d.wr CRUST.STATUS.COUNT_LOST 0)
        else d
      (0, if was then raiseEv 160 0 0 d else d)
  | 3 =>
    let n := fieldAt b 0 2
    let par := fieldAt b 2 2
    let use := fieldAt b 4 1
    if use = 0 then
      let d := (((d.wr (KEYS.NODE.CFG.STATE n) 0).wr (KEYS.NODE.CFG.LEVEL n) 0).wr (KEYS.NODE.CFG.USE n) 0).wr (KEYS.NODE.CFG.PARENT n) 0
      (n, keyCounts { d.wr (KEYS.NODE.GEN n) 0 with keys := { d.keys with labels := del n d.keys.labels } })
    else
      let lvl := if par = 0xFFFF then 1 else d.rd (KEYS.NODE.CFG.LEVEL par) + 1
      let d := (((d.wr (KEYS.NODE.CFG.STATE n) 1).wr (KEYS.NODE.CFG.LEVEL n) lvl).wr (KEYS.NODE.CFG.USE n) use).wr (KEYS.NODE.CFG.PARENT n) par
      let d : Dev := { d.wr (KEYS.NODE.GEN n) (fieldAt b 8 4) with keys := { d.keys with labels := ins n ((b.drop 12).take (fieldAt b 5 1)) d.keys.labels } }
      (n, keyCounts (dropNode n (settleNodes d)))
  | 4 =>
    let n := fieldAt b 0 2
    let d := (d.wr (KEYS.NODE.GEN n) (nodeGen d n + 1)).wr (KEYS.NODE.CFG.STATE n) 2
    (n, raiseEv 163 n 0 (keyCounts (dropNode n (settleNodes d))))
  | 5 =>
    let s := fieldAt b 0 1
    let use := fieldAt b 1 1
    let d := ((((d.wr (KEYS.SLOT.CFG.TYPE s) (if use = 0 then 0 else 2)).wr (KEYS.SLOT.CFG.USE s) use).wr (KEYS.SLOT.CFG.NODE s) 0xFFFF).wr (KEYS.SLOT.CFG.READY s) 0).wr (KEYS.SLOT.KCV s) 0
    (s, keyCounts { d with keys := { d.keys with pubs := if use = 0 then del s d.keys.pubs else ins s (b.drop 4) d.keys.pubs } })
  | _ =>
    let s := fieldAt b 0 1
    let n := fieldAt b 2 2
    let d := d.wr (KEYS.SLOT.CFG.READY s) 0
    let d := if n = 0xFFFF then (((d.wr (KEYS.SLOT.CFG.TYPE s) 0).wr (KEYS.SLOT.CFG.USE s) 0).wr (KEYS.SLOT.CFG.NODE s) 0xFFFF).wr (KEYS.SLOT.KCV s) 0
      else
        let use := nodeUse d n
        -- of a node that cannot be derived no rule gives the check value: it is free (log 1)
        let (v, d) := if nodeOk d n then (checkValue d n use, d.wr (KEYS.SLOT.GEN s) (nodeGen d n)) else takeFree 32 d
        (((d.wr (KEYS.SLOT.CFG.TYPE s) 1).wr (KEYS.SLOT.CFG.USE s) use).wr (KEYS.SLOT.CFG.NODE s) n).wr (KEYS.SLOT.KCV s) v
    (s, keyCounts d)

/-- What KEY_UPDATE does where its conditions hold (R531, R533). -/
def keyUpdateEffect (h : CmdHdr) (d : Dev) : CmdOut :=
  let b := inBuf h d
  let m := kuParse b
  match kuCheck d b with
  | 0 =>
    let d := setCnt 1 (if m.kind = 2 ∧ m.flags = 1 then d.rd (CRUST.CNT.VALUE 1) else d.rd (CRUST.CNT.VALUE 1) + 1) d
    let (x, d) := kuApply m d
    let d := raiseEv 161 m.kind (d.rd (CRUST.CNT.VALUE 1)) ((d.wr KEYS.KU.LAST_STATUS 0).wr KEYS.KU.LAST_KIND m.kind)
    .done d stOK [d.rd (CRUST.CNT.VALUE 1), x]
  | st =>
    let d := raiseEv 162 st 0 ((d.wr KEYS.KU.LAST_STATUS st).addSat KEYS.KU.REFUSED 1)
    .done d st [d.rd (CRUST.CNT.VALUE 1)]

/-- KEY_UPDATE (R531 to R533): refused whole by the first failing check, or applied with CNT[1]'s increment. -/
def execKeyUpdate (h : CmdHdr) (s : State) : Host.Outcome State Fault Refusal :=
  go (runCmd { unit := 14, op := 1, c := true, isl := [13] } h fun d =>
    if ¬ bufOk h then .done d stBadBuffer []
    else
      keyUpdateEffect h d) s

/-! ### Public keys and operations (R524, R528, R535, R542) -/

/-- The status with which slot s cannot serve one of some uses; 0 when it can (R524, R528, R538). -/
def slotRefusal (d : Dev) (s : Nat) (uses : List Nat) : Nat :=
  if slotType d s = 0 then 0x0E08
  else if ¬ uses.contains (slotUse d s) then 0x0E09
  else if keyLost d then 0x0E0A
  else if ¬ nodeOk d (slotNode d s) then 0x0E08
  else 0

/-- A public key goes to the host with the identity signature over nonce, key, slot and generation (R542). -/
def givePub (h : CmdHdr) (slot : Nat) (nonce key : List Byte) (gen : Nat) (tail : List Byte) (d : Dev) : CmdOut :=
  let non := (nonce ++ List.replicate 32 0).take 32
  let k := (key ++ List.replicate 96 0).take 96
  let (sig, d) := identitySign (non ++ k ++ toBytes 1 slot ++ toBytes 4 gen) d
  let out := k ++ sig ++ tail
  if ¬ recvOk h out.length then .done d stBadBuffer [] else .done (outBuf h out d) stOK [out.length, gen]

/-- What KEY_PUB does for a private slot (R523, R542). -/
def keyPubEffect (h : CmdHdr) (slot : Nat) (nonce : List Byte) (d : Dev) : CmdOut :=
  match slotRefusal d slot [2, 3, 4] with
  | 0 =>
    let d := slotDerive slot d
    givePub h slot nonce ((curveOf (slotUse d slot)).pubKey (slotPriv d slot)) (d.rd (KEYS.SLOT.GEN slot)) [] d
  | st => .done d st []

/-- The certificate of the identity key: KEY_PUB returns it, so it fits a receive buffer behind the key and the signature (R125, R523; log 36). -/
def identityCert : List Byte := Config.identityCert.take (maxBuf - 192)

/-- KEY_PUB (R523, R542): the public key of 96 bytes, the identity signature over nonce, key, slot and generation, and for the identity key the
certificate. A P-256 key fills the first 64 bytes (log 36). -/
def execKeyPub (h : CmdHdr) (slot : Nat) (nonce : List Byte) (s : State) : Host.Outcome State Fault Refusal :=
  go (runCmd { unit := 14, op := 2, isl := [13], kw := true } h fun d =>
    if slot = 0xFF then givePub h slot nonce (p384.pubKey (identityPriv d)) 0 identityCert d
    else if 63 < slot then .done d stBadParam []
    else keyPubEffect h slot nonce d) s

/-- Write an operation's output at its input's address; it may run past the input by a tag or a signature (log 36). -/
def outAtInput (h : CmdHdr) (bs : List Byte) (d : Dev) : Dev :=
  match h.bufs.getLast? with
  | some (a, n) => outBufs h.port.val (h.bufs.dropLast ++ [(a, n + bs.length)]) bs d
  | none => d

/-- What KEY_OP does where its conditions hold (R524, R542). -/
def keyOpEffect (h : CmdHdr) (slot op : Nat) (iv : List Byte) (d : Dev) : CmdOut :=
  let iv := (iv ++ List.replicate 12 0).take 12
  let use := match op with
    | 1 => 5 | 2 => 6 | 3 => 6 | _ => 4
  match slotRefusal d slot [use] with
  | 0 =>
    let m := inBuf h d
    let d := slotDerive slot d
    let k := slotKey d slot
    match op with
    | 1 => let o := hmac k m; .done (outAtInput h o d) stOK [o.length]
    | 2 => let o := gcmSeal k iv m; .done (outAtInput h o d) stOK [o.length]
    | 3 => (match gcmOpen k iv m with
      | some o => .done (outAtInput h o d) stOK [o.length]
      | none => .done (outAtInput h (List.replicate (m.length - 16) 0) d) 0x0E04 [m.length - 16])
    | _ =>
      let (o, d) := slotSign slot m d
      .done (outAtInput h o d) stOK [o.length]
  | st => .done d st []

/-- KEY_OP: MAC, seal, unseal, sign (R524, R542). -/
def execKeyOp (h : CmdHdr) (slot op : Nat) (iv : List Byte) (s : State) : Host.Outcome State Fault Refusal :=
  go (runCmd { unit := 14, op := 3, isl := [13] } h fun d =>
    if 63 < slot ∨ op = 0 ∨ 4 < op then .done d stBadParam []
    else if ¬ bufOk h ∨ 65536 < bufLen h then .done d stBadBuffer []
    else keyOpEffect h slot op iv d) s

/-- The 48 bytes of a node, laid out as the body of a NODE message (log 36), and the 16 bytes of a slot, laid out as its registers. -/
def nodeRecBytes (d : Dev) (n : Nat) : List Byte :=
  let l := lookD d.keys.labels n []
  toBytes 2 n ++ toBytes 2 (nodeParent d n) ++ toBytes 1 (nodeUse d n) ++ toBytes 1 l.length ++ toBytes 2 0 ++ toBytes 4 (nodeGen d n) ++ (l ++ List.replicate 32 0).take 32 ++ toBytes 4 0
def slotRecBytes (d : Dev) (s : Nat) : List Byte :=
  toBytes 4 (slotType d s * 2 ^ 30 + d.rd (KEYS.SLOT.CFG.READY s) * 2 ^ 29 + slotUse d s * 2 ^ 16 + slotNode d s) ++ toBytes 4 (d.rd (KEYS.SLOT.GEN s)) ++ toBytes 4 (d.rd (KEYS.SLOT.KCV s)) ++ toBytes 4 0

/-- KEY_READ (R542). -/
def execKeyRead (h : CmdHdr) (table first count : Nat) (s : State) : Host.Outcome State Fault Refusal :=
  go (runCmd { unit := 14, op := 4, isl := [13], kw := true } h fun d =>
    let total := if table = 0 then 128 else 64
    let size := if table = 0 then 48 else 16
    if 1 < table ∨ total ≤ first then .done d stBadParam []
    else if ¬ recvOk h (size * count) then .done d stBadBuffer []
    else
      let l := ((List.range total).drop first).take count
      .done (outBuf h (l.flatMap fun i => if table = 0 then nodeRecBytes d i else slotRecBytes d i) d) stOK [l.length]) s

/-- KEY_JTAG: a grant of scope bit 5 opens the debug instructions until the next reset (R540). -/
def execKeyJtag (h : CmdHdr) (s : State) : Host.Outcome State Fault Refusal :=
  go (runCmd { unit := 14, op := 5, c := true } h fun d =>
    match checkGrant 5 h d with
    | (0, d) => .done (d.wr KEYS.STAT.JTAG_OPEN 1) stOK []
    | (st, d) => .done d st []) s

end Sys2Proof.Machine
end

