-- ==== Sys2Proof/Machine/BarOps.lean ====
section
/-! DEFINITION. Writes to BAR0 and to the configuration: what a change of each register sets off, a write with its routing, which fields are
committed to eMRAM, and the whole-or-nothing application of CFG_WRITE (R7, R109, R111 to R115, R131, R595). -/
namespace Sys2Proof.Machine
open Sys2Proof

/-! ### What a change of a register sets off. `old` is the device before the write, `d` after its fields have changed. -/

/-- CRUST (R153, R155, R156, R158, R163): the alert line, the alarms' next matches, UTC_OFFSET as a step of the calendar, SKIPCNT, and SAFE cause 5
once the LATCH bits of the inputs with SAFE are clear. -/
def crustEffect (a : Nat) (old d : Dev) : Dev :=
  if a = 0x500000 then
    let drop (b : Nat) (f : FRef) (d : Dev) : Dev := if d.flag f then d else alertDrop b d
    drop 5 CRUST.STATUS.WIT_FAIL (drop 2 CRUST.STATUS.ALM1 (drop 1 CRUST.STATUS.ALM0 (drop 0 CRUST.STATUS.TAMPER d)))
  else if a = 0x500020 then
    if d.rd CRUST.RTC_CFG.UTC_OFFSET = old.rd CRUST.RTC_CFG.UTC_OFFSET then d else utcOffsetChanged (old.rd CRUST.RTC_CFG.UTC_OFFSET) d
  else if a = 0x500040 ∨ a = 0x500044 then recomputeAlarm 0 d
  else if a = 0x500060 ∨ a = 0x500064 then recomputeAlarm 1 d
  else if a = 0x500048 ∨ a = 0x500068 then
    let i := (a - 0x500048) / 0x20
    if d.flag (CRUST.ALM.STAT.SKIPPED i) then d else d.wr (CRUST.ALM.STAT.SKIPCNT i) 0
  else if a = 0x500084 then
    if (List.range 4).any (fun n => d.flag (tampSafe n) && bitOf (d.rd CRUST.TAMP_STAT.LATCH) n) ∨ ¬ bitOf (d.rd LANES.SAFE.CAUSE) 5 then d
    else clearSafeCause 5 d
  else d

/-- TIME (R182, R184, R190, R191): the followed domain is chosen anew, a domain starts or stops, a compare target is complete or
no longer awaited, a time base that counted its source holds its count. -/
def timeEffect (a : Nat) (old d : Dev) : Dev :=
  if a = 0x600010 then reselect d
  else if a = 0x600100 ∨ a = 0x600140 then domEnable 1 (domEnable 0 d)
  else if a = 0x60030C ∨ a = 0x60031C then ppsArm ((a - 0x60030C) / 0x10) d
  else if a = 0x600300 ∨ a = 0x600310 then
    ppsWait ((a - 0x600300) / 0x10) d
  else if 0x600200 ≤ a ∧ a < 0x600240 ∧ a % 16 = 12 then
    let n := (a - 0x600200) / 16
    if tbLive old n ∧ (¬ tbLive d n ∨ d.rd (TIME.TB.CFG.SRC n) ≠ old.rd (TIME.TB.CFG.SRC n)) then d.wr (TIME.TB.CNT n) (tbValue old n) else d
  else d

/-- PIO (R255, R260, R270): a SAR's EN and period, an excitation source that is off is not open, a DAC stage that is off has code 0, and OPEN belongs to the
current mode (R271). -/
def pioEffect (a : Nat) (old d : Dev) : Dev :=
  if a = 0xC00000 ∨ a = 0xC00040 then
    let k := (a - 0xC00000) / 0x40
    sarCtrlEffect k (old.flag (PIO.SAR.CTRL.EN k)) d
  else if 0xC00100 ≤ a ∧ a < 0xC00180 ∧ a % 8 = 0 then
    let n := (a - 0xC00100) / 8
    if d.rd (PIO.EXC.CFG.CUR n) = 0 then d.wr (PIO.EXC.CFG.OPEN n) 0 else d
  else if 0xC00200 ≤ a ∧ a < 0xC00600 ∧ a % 0x20 = 0 then
    let n := (a - 0xC00200) / 0x20
    let d := if d.rd (PIO.DAC.CFG.MODE n) = 2 then d else d.wr (PIO.DAC.CFG.OPEN n) 0
    if d.rd (PIO.DAC.CFG.MODE n) = 0 ∨ d.rd (PIO.DAC.CFG.MODE n) = 3 then d.wr (PIO.DAC.CFG.CODE n) 0 else d
  else d

/-- METER (R287, R292, R296, R299, R316, R328): validity, the tables, the wraps after a change of SNAP_LSB, the pulse outputs' residues, the heat meters. -/
def meterEffect (a : Nat) (old d : Dev) : Dev :=
  if a = 0xD00000 then
    let d := settleMeter d
    (List.range 16).foldl (fun (d : Dev) f =>
      if (List.range 8).any fun r => wrapOf old f r != wrapOf d f r then fdrWrapped f d else d) d
  else if a < 0xD03000 then settleMeter d
  else if a < 0xD04000 then (if a % 0x80 = 0 then cttEffect ((a - 0xD03000) / 0x80) d else d)
  else if a < 0xD04200 then
    let k := (a - 0xD04000) / 0x10
    if d.rd (METER.POUT.CFG.FDR k) = old.rd (METER.POUT.CFG.FDR k) ∧ d.rd (METER.POUT.CFG.REG k) = old.rd (METER.POUT.CFG.REG k) ∧ d.rd (METER.POUT.CONST k) = old.rd (METER.POUT.CONST k) then d
    else onMeter (fun m => { m with pres := del k m.pres }) (d.wr (METER.POUT.STAT.BACKLOG k) 0)
  else if a < 0xD04240 then
    -- a test output that is off, or whose feeder has no valid power, gives no pulses (R300)
    let k := (a - 0xD04200) / 0x10
    if d.flag (METER.DTF.CFG.EN k) ∧ d.flag (METER.FDR.STAT.P_VALID (d.rd (METER.DTF.CFG.FDR k))) then d else d.wr (METER.DTF.FREQ k) 0
  else if a = 0xD08000 then (List.range 256).foldl (fun (d : Dev) m => heatSettle m d) d
  else if 0xD10000 ≤ a ∧ a < 0xD18000 then
    let m := (a - 0xD10000) / 0x80
    let o := a % 0x80
    if o = 0 then heatCfgEffect m old d
    else if 0x20 ≤ o then d
    else heatChanged m (o == 8 && (d.rd (METER.HM.TSRC.TS_WORD m) != old.rd (METER.HM.TSRC.TS_WORD m) || d.rd (METER.HM.TSRC.TR_WORD m) != old.rd (METER.HM.TSRC.TR_WORD m)) ||
      o == 4 && d.rd (METER.HM.FSRC.FWORD m) != old.rd (METER.HM.FSRC.FWORD m) || o == 0xC && d.rd (METER.HM.VPP m) != old.rd (METER.HM.VPP m)) old d
  else d

/-- LOOP and CLP (R402, R448, R451): derived values follow TRIG_H; the CLP's period and EN. -/
def laneEffect (a : Nat) (old d : Dev) : Dev :=
  if a = 0xE00004 then eachLane (fun x => x.binds.foldl (fun (x : LaneSt) e => derive e.1 x) x) d
  else if a = 0xF00000 then clpCfgEffect (lflag old CLP.CFG.EN) (lrd old CLP.CFG.MIN_TICKS) d
  else d

/-- What a change of the register at address a sets off; p is the writing port. -/
def regEffect (p a : Nat) (old d : Dev) : Dev :=
  match a / 0x100000 with
  | 2 => if a = 0x200020 then d.put PWR.AVS_STAT.CFG_ERR (decide (avsMax d < avsMin d)) else d
  | 5 => crustEffect a old d
  | 6 => timeEffect a old d
  | 8 => if a % 0x10000 = 0 then canEnEffect (a % 0x100000 / 0x10000) (old.flag (CAN.CTRL.EN (a % 0x100000 / 0x10000))) d else d
  | 10 => if a < 0xA00600 ∧ a % 0x100 = 0 then portEnEffect ((a - 0xA00000) / 0x100) (old.flag (ETH.PORT.CFG.EN ((a - 0xA00000) / 0x100))) d else d
  | 11 => if 0xB10000 ≤ a ∧ a < 0xB50000 ∧ a % 0x40 = 0 then sessEnEffect p ((a - 0xB10000) / 0x40) (sessEn old ((a - 0xB10000) / 0x40)) d else d
  | 12 => pioEffect a old d
  | 13 => meterEffect a old d
  | 14 => laneEffect a old d
  | 15 => laneEffect a old d
  | 16 =>
    if a = 0x1000000 then settleSolv (layTiles (tileWord d) d)
    else if a = 0x1000100 ∨ a = 0x1000180 then partEnEffect ((a - 0x1000100) / 0x80) (old.flag (SOLV.PART.CTRL.EN ((a - 0x1000100) / 0x80))) d
    else d
  | _ => d

/-! ### Writes with a routing of their own -/

/-- Writing 1 to GLB.LOCK.LOCK starts the commit (R113). -/
def lockWrite (v : Nat) (d : Dev) : Dev :=
  if v % 2 = 0 ∨ locked d ∨ d.boot.committing then d else { d.wr GLB.LOCK.BUSY 1 with boot := { d.boot with committing := true } }

/-- A write of HOST.OWN (R111, R124): it changes only bits the writing port owns, and can only give them away; EV4 tells of a change. -/
def ownWrite (p v : Nat) (d : Dev) : Dev :=
  let old := d.rd HOST.OWN.BLOCK
  let new := if p = 0 then old ||| (v % 2 ^ 32) else old &&& (v % 2 ^ 32)
  if new = old then d else raiseEv 4 0 0 (d.wr HOST.OWN.BLOCK new)

/-- A write of a port's MSI-X table (R109, R133): a message that waited for its vector's mask is sent when the vector is unmasked. -/
def msixWrite (p w v : Nat) (d : Dev) : Dev :=
  let d : Dev := { d with host := { d.host with msix := ins (256 * p + w) (v % 2 ^ 32) d.host.msix } }
  if w % 4 = 3 ∧ v % 2 = 0 ∧ lookD d.host.pba (64 * p + w / 4) false then
    sendVector p (w / 4) { d with host := { d.host with pba := del (64 * p + w / 4) d.host.pba } }
  else d

/-- The value a write carries to a register: the TAMP_STAT LATCH bits of inputs that are active do not clear (R159). -/
def writeVal (a v : Nat) (d : Dev) : Nat :=
  if a = 0x500084 then v &&& (2 ^ 32 - 1 - d.rd CRUST.TAMP_STAT.ACTIVE % 16) else v

/-- A 32-bit write of port p to a register by access code, with what it sets off (R595). -/
def fieldsWrite (p a v : Nat) (d : Dev) : Dev :=
  let (d', refused) := writeFields false a (writeVal a v d) d
  -- a table or a heat meter takes nothing from a write that is refused (R287, R328)
  if refused ∧ a / 0x100000 = 13 ∧ d'.regs = d.regs then ignoreWrite p a d'
  else regEffect p a d (if refused then ignoreWrite p a d' else d')

/-- A 32-bit write of port p to address a (R3, R22, R37, R39, R111, R595): ignored as a whole, or performed by the register's own way. -/
def barWrite (p a v : Nat) (d : Dev) : Dev :=
  if ¬ writable p a d then ignoreWrite p a d
  else if a = 0x60 then lockWrite v d
  else if a = 0x100000 then kickWrite p v {} d
  else if a = 0x100200 then ownWrite p v d
  else if 0x101000 ≤ a ∧ a < 0x101400 ∧ a % 0x20 = 8 then ringCfgBar p ((a - 0x101008) / 0x20) v d
  else if 0x108000 ≤ a ∧ a < 0x108400 then msixWrite p ((a - 0x108000) / 4) v d
  else if 0x200100 ≤ a ∧ a < 0x200138 then islCtrlWrite p ((a - 0x200100) / 4) v d
  else if a = 0x400020 then curWrite v d
  else if a = 0x400024 then settleCursor (d.wr EVR.CUR_SEQ v)
  else if 0x600200 ≤ a ∧ a < 0x600240 ∧ a % 16 = 8 ∧ d.rd (TIME.TB.CFG.SRC ((a - 0x600200) / 16)) ≠ 0 then ignoreWrite p a d
  else if 0xE10000 ≤ a ∧ a < 0xE50000 then loopCtxWriteOp p a (v % 2 ^ 32) d
  else fieldsWrite p a v d

/-! ### Commits (R113, R124, R131) -/

/-- The key of a bank is that of a setting. -/
def settingKey (k : Nat) : Bool := (settingFields (k / 32)).any fun f => f.key == k

/-- The settings of every block as they stand: what a lock commits (R113). -/
def allSettings (d : Dev) : SMap Nat :=
  overlay (keepKeys settingKey (lowSt d).regs) (keepKeys (fun k => settingKey k && !(decide (32 * 0xE00000 ≤ k) && decide (k < 32 * 0x1000000))) d.regs)

/-- Commit the settings of the register at an address as they stand. -/
def commitReg (a : Nat) (d : Dev) : Dev :=
  { d with emram := (settingFields a).foldl (fun m f => bankWr m f (bankRd (bankOf d a) f)) d.emram }

/-! ### CFG_WRITE (R131) -/

/-- The register at an address has a field that CFG_WRITE may change. -/
def cfgHasField (a : Nat) : Bool := match findReg regMap a with
  | some (fs, _) => fs.any fun e => e.2 == .RW || e.2 == .RWL || e.2 == .RWO || e.2 == .W1C || e.2 == .W1S
  | none => false

/-- The address of a loop context. -/
def isLoopCtx (a : Nat) : Bool := decide (0xE10000 ≤ a) && decide (a < 0xE50000)

/-- The fields of one pair are applied with the RWL restriction lifted; none of their effects yet. The rings of a disabled port take none (R110). -/
def cfgPut (a v : Nat) (d : Dev) : Dev := if isLoopCtx a ∨ ¬ ringRegUsable d a then d else (writeFields true a (writeVal a v d) d).1

/-- The words a command writes to context n. -/
def ctxWords (pairs : List (Nat × Nat)) (n : Nat) : List (Nat × Nat) :=
  (pairs.filter fun e => isLoopCtx e.1 && (e.1 - 0xE10000) / 0x100 == n && ctxKind ((e.1 - 0xE10000) % 0x100) != 0).map fun e => ((e.1 - 0xE10000) % 0x100, e.2 % 2 ^ 32)

/-- An RWO field of the register would change while its function, as it would stand after the command, is not open or stopped. EN of an admin ring
stays writable to 0 in every state (R124). -/
def rwoRefused (a v : Nat) (d fin : Dev) : Bool := match findReg regMap a with
  | some (fs, high) => fs.any fun e =>
      rwoField a e.2 && ringRegUsable d a && !(0x101000 ≤ a && a < 0x101400 && a % 0x20 == 8 && e.1.lo == 31 && !bitOf v 31) && (if high then bankRd (bankOf d a) e.1 / 2 ^ 32 != v % 2 ^ 32 else bankRd (bankOf d a) e.1 % 2 ^ (min 32 (e.1.hi + 1) - e.1.lo) != bitsOf v (min 31 e.1.hi) e.1.lo) &&
        !rwoOpen (if high then a - 4 else a) fin
  | none => false

/-- The time of one pass of SAR k in ps, and the room R253 gives it. -/
def seqTime (d : Dev) (k : Nat) : Nat := ((List.range 256).filter fun e => d.flag (PIO.ENTRY.CFG.USE k e)).foldl (fun n e => n + (entryOf d k e).time) 0
def seqFits (d : Dev) (k : Nat) : Bool := decide (seqTime d k + 20000000 ≤ d.rd (PIO.SAR.CTRL.PERIOD k) * 250000000)

/-- The pair enables a HELD island, which is refused (R73). -/
def enableRefused (a v : Nat) (d : Dev) : Bool :=
  let n := (a - 0x200100) / 4
  decide (0x200108 ≤ a) && decide (a < 0x200138) && n != 12 && v % 2 == 1 && held d n

/-- A pair that starts a CAN channel whose bit timing, as it would stand after every pair, fails R204: the start's check refuses it (R131, R201). -/
def canStartRefused (a : Nat) (d fin : Dev) : Bool :=
  let n := (a - 0x800000) / 0x10000
  decide (0x800000 ≤ a) && decide (a < 0x900000) && (a - 0x800000) % 0x10000 == 0 && fin.flag (CAN.CTRL.EN n) && !d.flag (CAN.CTRL.EN n) &&
    canState d n == 0 && !d.flag (CAN.STAT.MINOFF n) && !canTimingOk fin n

/-- The status with which one pair fails; 0 when it passes. `fin` holds every pair's fields (R131). -/
def pairFault (p : Nat) (pairs : List (Nat × Nat)) (d fin : Dev) (a v : Nat) : Nat :=
  if a % 4 ≠ 0 ∨ (blockOf a).isNone ∨ ¬ cfgHasField a then stBadParam
  else if ¬ (blockOf a).all (blockOn d) then stUnavailable
  else if ¬ owns d p a then stNotOwner
  else if isLoopCtx a then
    let n := (a - 0xE10000) / 0x100
    let off := (a - 0xE10000) % 0x100
    if ctxKind off = 2 ∧ ctxChanges d n off (v % 2 ^ 32) then
      (if coefLocked d n then 0x0901 else if ¬ coefsOk (coefsWith d n (ctxWords pairs n)) then 0x0902 else 0)
    else 0
  else if enableRefused a v d then stRefused
  else if canStartRefused a d fin then stCfgInvalid
  else if engineObject d a ∨ rwoRefused a v d fin then (if engineObject d a then 0x0302 else stWrongState)
  else if (a = 0xC00000 ∨ a = 0xC00040) ∧ fin.rd (PIO.SAR.CTRL.PERIOD ((a - 0xC00000) / 0x40)) ≠ d.rd (PIO.SAR.CTRL.PERIOD ((a - 0xC00000) / 0x40)) ∧ ¬ seqFits fin ((a - 0xC00000) / 0x40) then stBadParam
  else if 0xB10000 ≤ a ∧ a < 0xB50000 ∧ a % 0x40 = 0 ∧ sessEn fin ((a - 0xB10000) / 0x40) ∧ ¬ sessEn d ((a - 0xB10000) / 0x40) then
    (let n := (a - 0xB10000) / 0x40
     if slicesFit fin n then (sessRefused fin n).getD 0 else stBadParam)
  else 0

/-- One pair takes effect: its fields, what they set off, and its commit; the context words are scheduled (R416). -/
def cfgApply (p a v : Nat) (d : Dev) : Dev :=
  if a = 0x60 then lockWrite v d
  else if a = 0x100200 then ownWrite p v d
  else if ¬ ringRegUsable d a then ignoreWrite p a d
  else if 0x101000 ≤ a ∧ a < 0x101400 ∧ a % 0x20 = 8 then ringCfgWrite true p ((a - 0x101008) / 0x20) v d
  else if 0x200100 ≤ a ∧ a < 0x200138 then
    let n := (a - 0x200100) / 4
    if n ≤ 1 ∨ n = 12 then (if v % 2 = 1 then d else ignoreWrite p a d) else commitReg a (islCtrlEffect n (v % 2 == 1) d)
  else if a = 0x400020 then curWrite v d
  else if a = 0x400024 then settleCursor (d.wr EVR.CUR_SEQ v)
  else if 0x600200 ≤ a ∧ a < 0x600240 ∧ a % 16 = 8 ∧ d.rd (TIME.TB.CFG.SRC ((a - 0x600200) / 16)) ≠ 0 then ignoreWrite p a d
  else if isLoopCtx a then
    let n := (a - 0xE10000) / 0x100
    let off := (a - 0xE10000) % 0x100
    if ctxKind off = 0 then d else commitWords n [(off, v % 2 ^ 32)] (scheduleWords n [(off, v % 2 ^ 32)] d)
  else
    let d' := commitReg a (regEffect p a d (cfgPut a v d))
    if 0xC00200 ≤ a ∧ a < 0xC00600 then loadSafeDac d'.emram ((a - 0xC00200) / 0x20) d'
    else if 0xC00830 ≤ a ∧ a < 0xC00850 then forN 16 (fun i d => loadSafeDio d.emram (16 * ((a - 0xC00830) / 4) + i) d) d'
    else d'

/-- The first failing pair and its status; none when all pass. -/
def cfgFault (p : Nat) (pairs : List (Nat × Nat)) (d : Dev) : Option (Nat × Nat) :=
  let fin := pairs.foldl (fun (f : Dev) e => if (blockOf e.1).all (blockOn d) then cfgPut e.1 e.2 f else f) d
  ((pairs.zipIdx.map fun e => (e.2, pairFault p pairs d fin e.1.1 e.1.2)).find? fun e => e.2 != 0)

end Sys2Proof.Machine
end

