-- ==== Sys2Proof/Machine/BarRows.lean ====
section
/-! DEFINITION. The rows BAR0_WRITE, LOCK, LOCK_COMMIT_END and CFG_WRITE (spec/00, spec/05). -/
namespace Sys2Proof.Machine
open Sys2Proof

/-- BAR0_WRITE (R3, R595): a write of `size` bytes by port p. One narrower than 32 bits is ignored and counted (R3); that one which is wider or
not aligned is ignored and counted in the same way is the model's choice (DESIGN CHOICE, log 46): R3 only says how registers are accessed. -/
def execBar0Write (p : Fin 2) (addr size v : Nat) (s : State) : Host.Outcome State Fault Refusal :=
  go (fun d => if size ≠ 4 ∨ addr % 4 ≠ 0 then ignoreWrite p.val addr d else barWrite p.val addr v d) s

/-- LOCK: the owner of GLB writes 1 to GLB.LOCK.LOCK; the commit starts with BUSY set (R113). -/
def execLock (p : Fin 2) (s : State) : Host.Outcome State Fault Refusal := go (guardWrite p.val 0x60 (lockWrite 1)) s

/-- LOCK_COMMIT_END (R113): LOCK is set with every setting committed, or COMMIT_ERR with FD31; either raises EV6. -/
def execLockCommitEnd (ok : Bool) (s : State) : Host.Outcome State Fault Refusal :=
  go (fun d =>
    if ¬ d.boot.committing then d
    else
      let d : Dev := { d.wr GLB.LOCK.BUSY 0 with boot := { d.boot with committing := false } }
      if ok then
        let d : Dev := { d with emram := overlay (allSettings d) (keepKeys (fun k => !settingKey k) d.emram), boot := { d.boot with committedLocked := true } }
        raiseEv 6 0 0 ((d.wr GLB.LOCK.LOCK 1).wr GLB.LOCK.COMMIT_ERR 0)
      else raise 31 0 (raiseEv 6 0 0 (d.wr GLB.LOCK.COMMIT_ERR 1))) s

/-- Rings that CFG_WRITE stopped settle, but for the one that carries the command, which does so once the command has completed (R123). -/
def settleOthers (own : Nat) (d : Dev) : Dev := (List.range 32).foldl (fun (d : Dev) n => if n = own then d else settleStopping n d) d

/-- CFG_WRITE (R130, R131): whole or not at all; the first failing pair decides the status, and its index is result word 0. -/
def execCfgWrite (h : CmdHdr) (count : Nat) (pairs : List (Nat × Nat)) (s : State) : Host.Outcome State Fault Refusal :=
  go (runCmd { unit := 0, op := 3, c := true } h fun d =>
    let pairs := (pairs ++ List.replicate 5 (0, 0)).take count
    if count < 1 ∨ 5 < count then .done d stBadParam [0]
    else if d.boot.committing then .done d stBusy [0]
    else match cfgFault h.port.val pairs d with
    | some (i, st) =>
      -- a refused enable shows in REFUSED (R73), a start with bad bit timing in CFG_ERR (R201)
      let e := pairs.getD i (0, 0)
      let n := (e.1 - 0x800000) / 0x10000
      .done (if st = stCfgInvalid then setEvt n 10 (d.wr (CAN.STAT.CFG_ERR n) 1) else if enableRefused e.1 e.2 d then d.wr (PWR.ISL_STAT.REFUSED ((e.1 - 0x200100) / 4)) 1 else d) st [i]
    | none => .done (settleOthers h.ring.val (pairs.foldl (fun (d : Dev) e => cfgApply h.port.val e.1 e.2 d) d)) stOK [0xFFFFFFFF]) s

end Sys2Proof.Machine
end

