-- ==== Sys2Proof/Machine/JtagRows.lean ====
section
/-! DEFINITION. The JTAG port (R584): TAP reset and the instructions of IEEE 1149.1. -/
namespace Sys2Proof.Machine
open Sys2Proof

/-- The w low bits of a number, least significant first. -/
def bitList (w v : Nat) : List Bool := (List.range w).map fun k => bitOf v k

/-- Select an instruction and its data register; boundary scan drives the balls in mode `drive`. -/
def tapSelect (instr dr drive : Nat) (capture : List Bool) (d : Dev) : Dev :=
  { d with pins := { d.pins with tapInstr := instr, tapDr := dr, bscan := drive, tapCapture := capture } }

/-- IDCODE selects the identification register, in every state. -/
def tapIdcode (d : Dev) : Dev := tapSelect 0 0 0 (bitList 32 Config.idCode) d

/-- BYPASS selects the one-bit bypass register, which captures 0. -/
def tapBypass (d : Dev) : Dev := tapSelect 1 1 0 [false] d

/-- TRST_N low for 100 ns resets the TAP: IDCODE is the instruction, the balls are the functions' own. -/
def execTapReset (s : State) : Host.Outcome State Fault Refusal := go tapIdcode s

/-- IDCODE. -/
def execIdcode (s : State) : Host.Outcome State Fault Refusal := go tapIdcode s

/-- BYPASS. -/
def execBypass (s : State) : Host.Outcome State Fault Refusal := go tapBypass s

/-- SAMPLE/PRELOAD: the cells sample the balls and take the preload. -/
def execSamplePreload (pins preload : List Bool) (s : State) : Host.Outcome State Fault Refusal :=
  go (fun d => tapSelect 2 2 0 pins { d with pins := { d.pins with bsr := preload } }) s

/-- A driving instruction: in Rack state it takes the balls, elsewhere it acts as BYPASS. -/
def tapDrive (instr dr drive : Nat) (capture : Dev → List Bool) (d : Dev) : Dev :=
  if opState d = 5 then tapSelect instr dr drive (capture d) d else tapBypass d

/-- EXTEST drives the balls from the boundary-scan register. -/
def execExtest (s : State) : Host.Outcome State Fault Refusal := go (tapDrive 3 2 1 (·.pins.bsr)) s

/-- CLAMP drives the balls from the boundary-scan register and selects the bypass register. -/
def execClamp (s : State) : Host.Outcome State Fault Refusal := go (tapDrive 4 1 2 (fun _ => [false])) s

/-- HIGHZ floats the balls and selects the bypass register. -/
def execHighz (s : State) : Host.Outcome State Fault Refusal := go (tapDrive 5 1 3 (fun _ => [false])) s

end Sys2Proof.Machine
end

