-- ==== Sys2Proof/Machine/PartCheck.lean ====
section
/-! DEFINITION. The staging checks of the owning chapters (R551): loop programs (R394, R397), CLP programs (R436 to R443), AQ sequences (R253), the
model, structures and the Setpoint Distributor's map. -/
namespace Sys2Proof.Machine
open Sys2Proof

/-! ### Loop programs -/

/-- The cascade from loop n upwards is longer than 4 loops (or closed), or names a master that is not in use (R394). -/
def chainBad (l : SMap LoopBind) : Nat → Nat → Bool
  | 0, _ => true
  | f + 1, n => match look l n with
    | none => true
    | some b => b.cas && chainBad l f b.master

/-- A loop program that R394 refuses. -/
def loopsBad (l : List (Nat × LoopBind)) : Bool :=
  let m : SMap LoopBind := l.foldl (fun m e => ins e.1 e.2 m) []
  m.length != l.length ||
  (l.zipIdx.any fun e => (l.take e.2).any fun o => o.2.out == e.1.2.out) ||
  l.any fun e => decide (1023 < e.1) || decide (32767 < e.2.pv) || decide (32767 < e.2.out) || decide (32767 < e.2.ff) || decide (65535 < e.2.ilkBit) || chainBad m 4 e.1

/-- Evaluations per minute of a loop of class 0 to 6 (R397). -/
def clsPerMin (c : Nat) : Nat := match c with
  | 0 => 240000 | 1 => 60000 | 2 => 6000 | 3 => 600 | 4 => 60 | 5 => 6 | 6 => 1 | _ => 0

/-- A loop program beyond the load limit (R397): the sum of 1 / h above 2,000,000 per second, or more than 400 loops in class 0. -/
def loopsHeavy (trigH : Nat) (l : List (Nat × LoopBind)) : Bool :=
  let perMin := l.foldl (fun n e => n + clsPerMin e.2.cls.val) 0
  let trig := (l.filter fun e => e.2.cls.val == 7).length
  let rest := f64Mul (f64OfInt (60 * trig)) (f64Div f64One (f64OfF32 trigH))
  decide (400 < (l.filter fun e => e.2.cls.val == 0).length) || f64Lt (f64OfInt 120000000) (f64Add (f64OfInt perMin) (if trig = 0 then 0 else rest))

/-! ### CLP programs -/

/-- The operand form of an opcode (R438): its spaces; whether bit N has a meaning; what the sub-field is: 0 nothing, 1 QMASK, 2 relation, 3 combine,
4 shift count, 5 an imm16 without a space, 6 the jump layout. None for an undefined opcode. -/
def clpForm (op : Nat) : Option (List Nat × Bool × Nat) :=
  let bits := [0, 1, 2, 3, 4, 8, 10, 11]
  let words := [5, 6, 7, 9]
  if op = 0 then some ([], false, 0)
  else if op ≤ 4 then some (bits, true, 1)
  else if op = 5 then some ([], false, 0)
  else if op = 6 then some ([], false, 3)
  else if op = 7 then some ([], false, 0)
  else if op = 8 then some ([1, 2], true, 0)
  else if op ≤ 0xA then some ([1, 2], false, 0)
  else if op ≤ 0xC then some ([2], false, 0)
  else if op < 0x10 then none
  else if op ≤ 0x14 then some ([3], false, 0)
  else if op ≤ 0x18 then some ([4], false, 0)
  else if op < 0x20 then none
  else if op = 0x20 then some ([5, 6, 7, 3, 4, 9], false, 0)
  else if op = 0x21 then some ([], false, 5)
  else if op ≤ 0x23 then some ([6, 7], false, 0)
  else if op ≤ 0x2A then some (words, false, 0)
  else if op ≤ 0x2C then some ([], false, 4)
  else if op = 0x2D then some (words, true, 2)
  else if op < 0x30 then none
  else if op ≤ 0x35 then some (words, false, 0)
  else if op = 0x36 then some (words, true, 2)
  else if op ≤ 0x38 then some ([], false, 0)
  else if op < 0x3C then none
  else if op = 0x3F then some ([], false, 0)
  else some ([], false, 6)

/-- The highest address of an operand space (R437). -/
def spaceTop (sp : Nat) : Nat := match sp with
  | 2 => 16383 | 3 => 2047 | 4 => 1023 | 5 => 32767 | 6 => 32767 | 7 => 8191 | 8 => 4 | 11 => 32767 | _ => 65535

/-- An instruction word whose opcode, reserved bits, space and address are valid (R436 to R438, R443). -/
def clpInstrOk (w : Nat) : Bool := match clpForm (clpOp w) with
  | none => false
  | some (sps, n, k) =>
    if k = 6 then bitsOf w 25 18 == 0
    else
      let sp := bitsOf w 25 22
      let sub := bitsOf w 20 16
      let subOk := match k with
        | 1 => !bitOf w 20 && (sp == 10 || sp == 11 || sub == 0)
        | 2 => decide (sub ≤ 5)
        | 3 => decide (sub ≤ 2)
        | 4 => true
        | _ => sub == 0
      subOk && (n || !bitOf w 21) &&
        (if sps = [] then sp == 0 && (k == 5 || bitsOf w 15 0 == 0) else sps.contains sp && decide (bitsOf w 15 0 ≤ spaceTop sp))

/-- Execution time in 2.5 ns cycles (R438). -/
def clpCost (op : Nat) : Nat :=
  if op ≤ 0xC then 1 else if op ≤ 0x18 then 4 else if op = 0x21 then 1 else if op = 0x26 then 4 else if op = 0x27 then 12 else if op ≤ 0x2D then 2
  else if op = 0x33 then 12 else if op ≤ 0x38 then 4 else 1

/-- Where paths arrive: by address, the stack depth and the longest time until there. -/
abbrev ClpFlow := SMap (Nat × Nat)

/-- A path arrives at address t; the depths must agree. -/
def arrive (t dep c : Nat) (m : ClpFlow) : Option ClpFlow := match look m t with
  | none => some (ins t (dep, c) m)
  | some (d0, c0) => if d0 = dep then some (ins t (dep, max c0 c) m) else none

/-- One instruction of the static walk (R443): what it does to the stack, and where it leads; the answer holds the longest time to an END. -/
def flowStep (len lastEnd : Nat) (acc : Option (ClpFlow × Nat)) (e : Nat × Nat) : Option (ClpFlow × Nat) :=
  match acc with
  | none => none
  | some (m, best) =>
    let (w, i) := e
    match look m i with
    | none => some (m, best)
    | some (dep, c0) =>
      let op := clpOp w
      let c := c0 + clpCost op
      let next (dep : Nat) (m : ClpFlow) : Option (ClpFlow × Nat) := if len ≤ i + 1 then none else (arrive (i + 1) dep c m).map fun m => (m, best)
      let t := bitsOf w 17 0
      let jump : Option ClpFlow := if i < t ∧ t ≤ lastEnd then arrive t dep c m else none
      if op = 6 then (if 16 < dep + 1 then none else next (dep + 1) m)
      else if op = 7 then (if dep = 0 then none else next (dep - 1) m)
      else if op = 0x3F then (if dep = 0 then some (m, max best c) else none)
      else if op = 0x3C then jump.map fun m => (m, best)
      else if op = 0x3D ∨ op = 0x3E then (match jump with
        | some m => next dep m
        | none => none)
      else next dep m

/-- The longest time to an END in cycles, over every path; none when a path or a jump is invalid (R443). -/
def clpLongest (code : List Nat) : Option Nat :=
  match (code.zipIdx.filter fun e => clpOp e.1 == 0x3F).getLast? with
  | none => none
  | some (_, lastEnd) =>
    (code.zipIdx.foldl (flowStep code.length lastEnd) (some ([(0, (0, 0))], 0))).map (·.2)

/-- WC_TICKS: the smallest integer not below (5 µs + t_path) / 250 µs (R432). -/
def wcTicks (cycles : Nat) : Nat := (2000 + cycles + 99999) / 100000

/-- A timer used by more than one of TON, TOF and TP. -/
def timerClash (code : List Nat) : Bool :=
  let uses := code.filter fun w => clpOp w == 0x10 || clpOp w == 0x11 || clpOp w == 0x12
  uses.zipIdx.any fun e => (uses.take e.2).any fun o => bitsOf o 15 0 == bitsOf e.1 15 0 && clpOp o != clpOp e.1

/-- A jump, reached or not, whose target does not lie after it or lies beyond the last END (R443). -/
def jumpBad (code : List Nat) : Bool :=
  let lastEnd := match (code.zipIdx.filter fun e => clpOp e.1 == 0x3F).getLast? with
    | some e => e.2
    | none => 0
  code.zipIdx.any fun e => decide (0x3C ≤ clpOp e.1) && decide (clpOp e.1 ≤ 0x3E) && (decide (bitsOf e.1 17 0 ≤ e.2) || decide (lastEnd < bitsOf e.1 17 0))

/-- A CLP image that R443 refuses. -/
def clpImageBad (i : ClpImage) : Bool :=
  i.code == [] || decide (262144 < i.code.length) || decide (4096 < i.unforce.length) || !(i.unforce.all fun e => (e.1 == 0 || e.1 == 1 || e.1 == 5 || e.1 == 6) && spaceOk e.1 e.2) ||
  !(i.code.all clpInstrOk) || jumpBad i.code || timerClash i.code ||
  (match clpLongest i.code with
    | none => true
    | some c => i.wc != wcTicks c || decide (4000 < i.wc))

/-! ### AQ sequences -/

/-- An AQ sequence of SAR k that R253 refuses. -/
def seqBad (d : Dev) (k : Nat) (l : List (Nat × Nat × Nat)) : Bool :=
  let all := l.map fun e => entryCfg e.2.1 e.2.2
  let used := (l.filter fun e => bitOf e.2.1 31).map fun e => entryCfg e.2.1 e.2.2
  decide (d.rd (PIO.SAR.CTRL.PERIOD k) * 250000000 < used.foldl (fun n e => n + e.time) 0 + 20000000) ||
  (all.any fun e => e.rtd && (!e.diff || d.rd (PIO.EXC.CFG.CUR e.exc) == 0)) || l.any fun e => decide (255 < e.1)

/-! ### A part of a staging -/

/-- The check of the owning chapter (R551): its status, 0 when the part passes. `expect` gives the format expected once the Tray is in effect. -/
def ownCheck (expect : Nat → Nat) (p : UpdPart) (d : Dev) : Nat := match p.kind with
  | 0x10 => (match p.content with
      | .loops l => if loopsBad l then 0x0909 else if loopsHeavy (lrd d LOOP.TRIG_H) l then 0x0907 else 0
      | _ => 0x0909)
  | 0x11 => (match p.content with
      | .clp i => if clpImageBad i then 0x0B05 else 0
      | _ => 0x0B05)
  | 0x12 => (match p.content with
      | .seq l => if seqBad d p.target l then 0x0506 else 0
      | _ => 0x0506)
  | 0x20 => if p.fmt = expect p.target then 0 else 0x0F08
  | 0x30 =>
    let m := parseModel p.bytes
    let (n, br, ms, _) := imgCounts p.bytes
    if p.bytes.length < 64 ∨ p.bytes.length ≠ imgLen (imgCounts p.bytes) then 0x0701
    else if 8192 < n ∨ 16384 < br ∨ 32768 < ms then 0x0702
    else if (modelFault d.model.active p.bytes m).isSome then 0x0701
    else if d.rd SOLV.PART_CFG.SRAM_E * 4096 < modelNeed m then 0x0702
    else 0
  | 0x31 =>
    let st := parseStruct p.bytes
    if p.bytes.length < 128 ∨ p.bytes.length ≠ (sectionAt (imgDims p.bytes)).getLast?.getD 0 then 0x0805
    else if (structFault p.target p.bytes st).isSome then 0x0805
    else if structTooBig (d.rd SOLV.PART_CFG.SRAM_F) st then 0x0806
    else 0
  | 0x32 =>
    let es := sdEntries p.bytes
    if p.bytes.length % 32 ≠ 0 ∨ 2048 < es.length ∨ es.any (sdBad d) then stBadParam
    else if (firstBad (fun i e => (es.take i).any fun o => sameTarget o e) es).isSome then 0x080C
    else 0
  | _ => 0

end Sys2Proof.Machine
end

