-- ==== Sys2Proof/Machine/UpdOps.lean ====
section
/-! DEFINITION. Staging and activation (spec/21): the Tray's checks, the refusals, the commit, the switches, defaults, and the Recipe of this part. -/
namespace Sys2Proof.Machine
open Sys2Proof

/-! ### The Tray format (R547 to R549) -/

/-- Kinds and targets that exist (R549). -/
def knownPart (kind target : Nat) : Bool :=
  if kind = 6 ∨ kind = 0x12 ∨ kind = 0x13 then decide (target < 2)
  else if kind = 0x20 then decide (target < 16)
  else if kind = 0x31 then target == 1 || target == 2
  else (decide (1 ≤ kind ∧ kind ≤ 9) || kind == 0x10 || kind == 0x11 || kind == 0x21 || kind == 0x30 || kind == 0x32) && target == 0

/-- A manifest entry (R548). -/
def manEntry (b : List Byte) : UpdPart :=
  { kind := fieldAt b 0 1, target := fieldAt b 1 1, fmt := fieldAt b 2 2, id := fieldAt b 4 4, off := fieldAt b 8 8, len := fieldAt b 16 4, hash := (b.drop 24).take 32 }
def manBytes (p : UpdPart) : List Byte :=
  toBytes 1 p.kind ++ toBytes 1 p.target ++ toBytes 2 p.fmt ++ toBytes 4 p.id ++ toBytes 8 p.off ++ toBytes 4 p.len ++ toBytes 4 0 ++ padTo 32 p.hash ++ toBytes 8 0

/-- Part count, and the length of header, manifest and, for a Recipe, wrap block. -/
def hdrCount (b : List Byte) : Nat := fieldAt b 36 1
def hdrLen (recipe : Bool) (b : List Byte) : Nat := 384 + 64 * hdrCount b + (if recipe then 128 else 0)
def hdrParts (b : List Byte) : List UpdPart := (chunksOf 64 (hdrCount b) (b.drop 384)).map manEntry
def hdrPayload (b : List Byte) : Nat := fieldAt b 40 8
/-- An encrypted Recipe: a target identity is given (R567). -/
def hdrTarget (b : List Byte) : List Byte := (b.drop 12).take 16
def isZero (l : List Byte) : Bool := l.all (· == 0)

/-- Check 1 of R550: magic, version, lengths, reserved bytes, part count, manifest hash, kinds and targets, no repeated pair. UPD_OPEN takes a Tray,
RECIPE_IMPORT a Recipe (DEDUCED, log 41). -/
def trayFormatOk (recipe : Bool) (b : List Byte) : Bool :=
  let ps := hdrParts b
  let man := (b.drop 384).take (64 * hdrCount b)
  let signer := fieldAt b 38 1
  b.length == hdrLen recipe b && fieldAt b 0 4 == 0x59415254 && fieldAt b 4 2 == 1 && decide (1 ≤ hdrCount b ∧ hdrCount b ≤ 64) && fieldAt b 28 4 != 0 &&
  decide (fieldAt b 37 1 < 4) && bitOf (fieldAt b 37 1) 1 == recipe && decide (signer < 8) && decide (hdrPayload b ≤ 2147483648) &&
  sha256 man == (b.drop 48).take 32 && (recipe || fieldAt b 80 16 == 0) && fieldAt b 96 32 == 0 && fieldAt b 320 64 == 0 &&
  (bitOf signer 0 || fieldAt b 128 96 == 0) && (decide (2 ≤ signer) || fieldAt b 224 96 == 0) &&
  ((chunksOf 64 (hdrCount b) (b.drop 384)).all fun e => fieldAt e 20 4 == 0 && fieldAt e 56 8 == 0) &&
  (ps.all fun p => knownPart p.kind p.target && decide (p.off + p.len ≤ hdrPayload b)) &&
  (ps.zipIdx.all fun e => (findPart (ps.take e.2) e.1.kind e.1.target).isNone) &&
  (!recipe || fieldAt b (384 + 64 * hdrCount b + 124) 4 == 0)

/-- The public key of slot s, if it holds one of a use. -/
def pubOfSlot (d : Dev) (s use : Nat) : Option (List Byte) := if s < 64 ∧ slotType d s = 2 ∧ slotUse d s = use then some (lookD d.keys.pubs s []) else none

/-- Check 5: every signer bit has a valid signature over bytes 0 to 127; a Tray carries bit 0 or 1, a Recipe bit 2 (R550, R565). -/
def signersOk (recipe : Bool) (b : List Byte) (d : Dev) : Bool :=
  let signer := fieldAt b 38 1
  let m := b.take 128
  let signed (use : Nat) : Bool := match pubOfSlot d (fieldAt b 39 1) use with
    | some k => p384.verify k m ((b.drop 224).take 96)
    | none => false
  (if recipe then bitOf signer 2 else (bitOf signer 0 || bitOf signer 1) && (!d.flag UPD.CFG.OWNER_REQ || bitOf signer 1)) &&
  (!bitOf signer 0 || p384.verify Config.imageKey m ((b.drop 128).take 96)) && (!bitOf signer 1 || signed 17) && (!bitOf signer 2 || signed 18)

/-- Port p works: its fault record, FD166 or FD167, is not open (R546, R550). -/
def portWorks (d : Dev) (p : Nat) : Bool := !d.flag (FCU.REC.STATE.OPEN (166 + p))

/-- Bytes of the image pool of port p that the active directory leaves. -/
def poolFree (d : Dev) (p : Nat) : Nat := (if p = 0 then d.upd.poolA else d.upd.poolB) - d.upd.active.dir.foldl (fun n x => n + x.len) 0

/-- Levels and counters (R550 items 3 and 4). -/
def levelOk (s : TraySet) (d : Dev) : Bool :=
  if s.recipe then decide (s.lo ≤ d.rd GLB.COMPAT_LEVEL.MAX) else decide (s.lo ≤ d.rd GLB.COMPAT_LEVEL.LEVEL ∧ d.rd GLB.COMPAT_LEVEL.LEVEL ≤ s.hi)
def rollbackOk (s : TraySet) (d : Dev) : Bool := s.recipe || s.rb == d.rd (CRUST.CNT.VALUE 0) || s.rb == d.rd (CRUST.CNT.VALUE 0) + 1

/-- The set that a header describes, without its parts. -/
def hdrSet (b : List Byte) : TraySet :=
  { id := fieldAt b 28 4, rb := fieldAt b 32 4, defaults := bitOf (fieldAt b 37 1) 0, recipe := bitOf (fieldAt b 37 1) 1, lo := fieldAt b 10 1, hi := fieldAt b 11 1, exporter := (b.drop 80).take 16, expCnt := fieldAt b 32 4 }

/-- The last counter imported from an exporter (R566). -/
def lastImport (d : Dev) (who : List Byte) : Option Nat := (d.upd.imported.find? fun e => e.1 == who).map (·.2)

/-- The checks of R550 and R566, in order; 0 passes. -/
def openCheck (recipe : Bool) (b : List Byte) (d : Dev) : Nat :=
  let s := hdrSet b
  if ¬ trayFormatOk recipe b then 0x0F01
  else if fieldAt b 6 2 ≠ 0x9600 ∨ ¬ bitOf (fieldAt b 8 2) Config.stepping.val ∨ ¬ (isZero (hdrTarget b) ∨ hdrTarget b = deviceId d) then 0x0F02
  else if ¬ levelOk s d then 0x0F03
  else if countLost d then 0x0F05
  else if ¬ rollbackOk s d then 0x0F04
  else if ¬ signersOk recipe b d then 0x0F06
  else if [0, 1].any (fun p => portWorks d p && decide (poolFree d p < hdrPayload b)) then 0x0F09
  else if (hdrParts b).any (fun p => p.kind == 0x30 || p.kind == 0x31) ∧ d.pwr.memLost then stUnavailable
  else if recipe && (match lastImport d s.exporter with
    | some c => decide (s.expCnt ≤ c)
    | none => false) then 0x0F13
  else 0

/-! ### Staging (R550 to R552) -/

/-- The UPD.STAT word. -/
def updStatWord (d : Dev) : Nat :=
  d.rd UPD.STAT.STATE * 2 ^ 29 + d.rd UPD.STAT.ACTIVE_BANK * 2 ^ 28 + d.rd UPD.STAT.PREV_VALID * 2 ^ 27 + d.rd UPD.STAT.SINGLE_COPY * 2 ^ 26 +
    d.rd UPD.STAT.RECIPE * 2 ^ 25 + d.rd UPD.STAT.ABORTS * 2 ^ 8

/-- Staging ends with a status: EV168 (R569); any but success leaves nothing behind, STATE IDLE (R552). -/
def endStaging (status : Nat) (d : Dev) : Dev :=
  match d.upd.staging with
  | none => d
  | some g =>
    let d := onUpd (fun u => { u with staging := none }) d
    let d := if status = 0 then d else ((d.wr UPD.STAT.STATE 0).wr UPD.STG_ID 0).wr UPD.STAT.RECIPE 0
    raiseEvFrom 9 168 (fieldAt g.header 28 4) status d

/-- A signature or a hash failed: FD165. -/
def sigFailed (status : Nat) (d : Dev) : Dev := if status = 0x0F06 ∨ status = 0x0F07 then raise 165 0 d else d

/-- Open a staging (R550 to R552, R566). -/
def openStaging (recipe : Bool) (h : CmdHdr) (source : Nat) (d : Dev) : CmdOut :=
  if 2 < source then .done d stBadParam []
  else if source = 0 ∧ ¬ bufOk h then .done d stBadBuffer []
  else if d.upd.staging.isSome ∨ d.upd.arm.isSome then .done d 0x0F0B []
  else
    let all := if source = 0 then inBuf h d else lookD d.upd.drop (source - 1) []
    let n := hdrLen recipe all
    let b := if source = 0 then all else all.take n
    match openCheck recipe b d with
    | 0 =>
      let pay := if source = 0 then [] else (all.drop n).take (hdrPayload b)
      let g : Staging := { header := b.take 384, man := hdrParts b, wrap := (b.drop (384 + 64 * hdrCount b)).take 128, got := pay.zipIdx.map (fun e => (e.2, e.1)), last := d.up }
      let d := onUpd (fun u => { u with staging := some g, staged := none, prev := none, forReset := none }) d
      let d := (((d.wr UPD.STAT.STATE 1).wr UPD.STAT.PREV_VALID 0).put UPD.STAT.RECIPE recipe).wr UPD.STG_ID (fieldAt b 28 4)
      .done d stOK [hdrPayload b]
    | st => .done (sigFailed st d) st []

/-- Payload bytes of the parts that have not been received. -/
def bytesMissing (g : Staging) : Nat :=
  g.man.foldl (fun n p => n + (p.len - (g.got.filter fun e => decide (p.off ≤ e.1) && decide (e.1 < p.off + p.len)).length)) 0

/-- Flash writes to the ports (R546): none when both fail; the device after one failed. -/
def flashWrite (badA badB : Bool) (d : Dev) : Option Dev :=
  let d := if badA then raise 166 0 d else d
  let d := if badB then raise 167 0 d else d
  if badA && badB then none else some (if badA || badB then d.wr UPD.STAT.SINGLE_COPY 1 else d)

/-- The payload area as it stands in the pool, unwrapped for an encrypted Recipe (R567); none when the unwrap fails. -/
def payloadArea (g : Staging) (d : Dev) : Option (List Byte) :=
  let n := hdrPayload g.header
  let area := (List.range n).map fun i => lookD g.got i 0
  if ¬ bitOf (fieldAt g.header 37 1) 1 ∨ isZero (hdrTarget g.header) then some area
  else match p384.ecdh (identityPriv d) (g.wrap.take 96) with
    | none => none
    | some z => gcmOpen (kdf z (ascii "RECIPE") (deviceId d ++ toBytes 4 0 ++ toBytes 1 6) 256) ((g.wrap.drop 96).take 12) (area ++ (g.wrap.drop 108).take 16)

/-- The status of one part at UPD_CLOSE (R551): hash, seal, the owning chapter's check. A Recipe names firmware by identifier only. -/
def partFault (g : Staging) (expect : Nat → Nat) (p : UpdPart) (sealOk : Bool) (d : Dev) : Nat :=
  if bitOf (fieldAt g.header 37 1) 1 ∧ p.kind ≤ 9 then 0
  else if p.bytes.length ≠ p.len ∨ bytesMissing g ≠ 0 ∨ sha256 p.bytes ≠ p.hash then 0x0F07
  else if p.kind ≤ 9 ∧ ¬ sealOk then 0x0F06
  else ownCheck expect p d

/-- The arming bound in ms: 0.2 s plus 1 s per 64 MiB of the largest part (R554). -/
def armBound (ps : List UpdPart) : Nat := 200 + (ps.foldl (fun n p => max n p.len) 0 * 1000 + 67108863) / 67108864

/-- The formats that units are expected to have once some parts are in effect (R551, R558). -/
def expectAfter (parts : List UpdPart) (d : Dev) (u : Nat) : Nat := match findPart parts 2 0 with
  | some p => (match p.content with
      | .firmware (some l) => l.getD u 0
      | _ => expectedFmt d u)
  | none => expectedFmt d u

/-- UPD_CLOSE (R551). -/
def closeStaging (ins_ : List PartIn) (badA badB : Bool) (d : Dev) : CmdOut :=
  match d.upd.staging with
  | none => .done d stWrongState []
  | some g =>
    match payloadArea g d with
    | none => .done (endStaging 0x0F06 (raise 165 0 d)) 0x0F06 [0]
    | some area =>
      let ps := g.man.zipIdx.map fun e => { e.1 with bytes := (area.drop e.1.off).take e.1.len, content := (ins_.getD e.2 {}).content }
      let faults := ps.zipIdx.map fun e => (e.2, partFault g (expectAfter ps d) e.1 (ins_.getD e.2 {}).sealOk d)
      match faults.find? fun e => e.2 != 0 with
      | some (i, st) => .done (endStaging st (sigFailed st d)) st [i]
      | none => match flashWrite badA badB d with
        | none => .done (endStaging 0x0F0A (raise 167 0 (raise 166 0 d))) 0x0F0A [0xFFFFFFFF]
        | some d =>
          let s : TraySet := hdrSet g.header
          let s : TraySet := { s with parts := ps, dir := overDir (ps.filter fun p => !(s.recipe && decide (p.kind ≤ 9))) d.upd.active.dir }
          let d := if g.single || badA || badB then d else d.wr UPD.STAT.SINGLE_COPY 0
          let d := endStaging 0 (onUpd (fun u => { u with staged := some s }) (d.wr UPD.STAT.STATE 2))
          let d := if s.recipe then raiseEvFrom 9 174 0 0 (onUpd (fun u => { u with imported := (u.imported.filter fun e => e.1 != s.exporter) ++ [(s.exporter, s.expCnt)] }) d) else d
          .done d stOK [0xFFFFFFFF, 0, armBound ps]

/-! ### Refusals (R396, R449, R450, R558) -/

/-- The unit is in service (R558). -/
def unitLive (u : Nat) (d : Dev) : Bool := match u with
  | 9 => (lowSt d).binds.any fun e => decide (2 ≤ lrd d (LOOP.CTX.CTRL.MODE e.1))
  | 11 => lrd d CLP.STAT.STATE == 1
  | 4 => activeSess d != []
  | 6 => ((List.range 16).any fun f => d.flag (METER.FDR.CFG.EN f)) || (List.range 256).any fun m => d.flag (METER.HM.CFG.EN m)
  | 5 => ((List.range 2).any fun k => sarState d k != 0) || (List.range 32).any fun n => d.rd (PIO.DAC.CFG.MODE n) != 0
  | 3 => (List.range 16).any fun n => d.flag (CAN.CTRL.EN n)
  | 2 => ((List.range 6).any fun q => d.flag (ETH.PORT.CFG.EN q)) || (List.range 2).any fun i => d.flag (TIME.DOM.CFG.EN i)
  | 8 => partState d 0 != 0 || partState d 1 != 0
  | 7 => d.model.active.isSome
  | _ => true

/-- The loops whose binding an image changes. -/
def rebound (m : SMap LoopBind) (d : Dev) : List Nat :=
  (((lowSt d).binds.map (·.1)) ++ m.map (·.1)).eraseDups.filter fun n => look (lowSt d).binds n != look m n

/-- The refusal of one part, 0 when it passes; `defaults` is ALLOW_DEFAULTS. -/
def partRefusal (defaults : Bool) (p : UpdPart) (d : Dev) : Nat := match p.kind with
  | 0x10 =>
    if ¬ defaults ∧ (rebound (loopsOf p) d).any (fun n => (look (lowSt d).binds n).isSome && decide (2 ≤ lrd d (LOOP.CTX.CTRL.MODE n))) then 0x0908
    else if (loopsOf p).any fun e => (forceEntry d 6 e.2.out).isSome then 0x0B01
    else 0
  | 0x11 =>
    let i := clpOf p
    if ¬ defaults ∧ i.dataId ≠ (lowSt d).clp.img.dataId then 0x0B06
    else if i.unforce.any fun e => (forceEntry d e.1 e.2).isSome then 0x0B01
    else 0
  | _ => 0

/-- The units that would go to defaults once some parts are in effect: stored format not the one expected, and no settings part (R558). -/
def defaultUnits (parts : List UpdPart) (d : Dev) : List Nat :=
  (List.range 16).filter fun u => storedFmt d u != expectAfter parts d u && (findPart parts 0x20 u).isNone

/-- The first refusal of an activation: status and part, 0xFF for none. A revert resets no unit: units whose format differs take back their settings. -/
def refusal (defaults revert : Bool) (ps : List UpdPart) (d : Dev) : Option (Nat × Nat) :=
  match (ps.zipIdx.map fun e => (partRefusal defaults e.1 d, e.2)).find? fun e => e.1 != 0 with
  | some x => some x
  | none => if ¬ defaults ∧ ¬ revert ∧ (defaultUnits ps d).any (fun u => unitLive u d) then some (0x0F10, 0xFF) else none

/-! ### Arming (R553, R554, R559) -/

/-- The epoch as service time in ns. -/
def epochNs (sec tick : Nat) : Nat := sec * 1000000000 + tick * 250000
/-- The epoch is invalid (R553). -/
def epochBad (sec tick : Nat) (d : Dev) : Bool :=
  decide (3999 < tick) || decide (epochNs sec tick < svcTotalNs d + 1000000000) || decide (svcTotalNs d + 86400000000000 < epochNs sec tick) || !d.flag TIME.SVC.STAT.TEMPOS_RUN

/-- The parts of an activation: those whose island is OFF or HELD are deferred, a Recipe's firmware entries only compared (R554, R561). -/
def armParts (recipe : Bool) (ps : List UpdPart) (d : Dev) : List ArmPart :=
  ps.filterMap fun p =>
    if recipe ∧ p.kind ≤ 9 then (match findPart d.upd.active.dir p.kind p.target with
      | some q => if q.id = p.id then none else some { part := p, st := 5 }
      | none => some { part := p, st := 5 })
    else some { part := p, st := if islandOn d (partIsland p) ∧ ¬ held d (partIsland p) then 0 else 2 }

/-- Arming begins, or the activation is refused with its report (R553, R554). -/
def beginArm (sec tick : Nat) (revert : Bool) (set : TraySet) (ps : List UpdPart) (d : Dev) : CmdOut :=
  let defaults := if revert then d.upd.active.defaults else set.defaults
  let a : Arming := { sec := sec, tick := tick, revert := revert, set := { set with defaults := defaults }, parts := armParts set.recipe ps d, lanes := [0, 1, 2].filter (laneIn d) }
  match refusal defaults revert ps d with
  | some (st, i) =>
    let b : Arming := { a with parts := a.parts.map fun (p : ArmPart) => if p.st = 5 then p else { p with st := 4, status := st } }
    .done (writeReport 2 st i 2 b d) st [2, failingWord i]
  | none =>
    let d := ((d.wr UPD.EPOCH_LO.SEC_LO (sec % 2 ^ 32)).wr UPD.EPOCH_HI.SEC_HI (sec / 2 ^ 32)).wr UPD.EPOCH_HI.TICK tick
    .later (onUpd (fun u => { u with arm := some a }) (d.wr UPD.STAT.STATE 3)) (.other 60 0) []

/-- The parts in which the previous directory differs from the active one; a part it lacks comes back empty. Settings and retentive data stay (R559). -/
def revertParts (prev act : List UpdPart) : List UpdPart :=
  let keep (p : UpdPart) : Bool := p.kind != 0x20 && p.kind != 0x21
  let changed := (prev.filter keep).filter fun p => match findPart act p.kind p.target with
    | some q => q != p
    | none => true
  let gone := (act.filter keep).filter fun p => decide (0x10 ≤ p.kind) && (findPart prev p.kind p.target).isNone
  changed ++ gone.map fun p => { kind := p.kind, target := p.target }

/-! ### The commit (R555, R556) -/

/-- Why an activation aborts at its collect: reason, status, part; none to commit. Counters lost meanwhile refuse it (R147). -/
def collectFault (ok : Bool) (a : Arming) (d : Dev) : Option (Nat × Nat × Nat) :=
  match (a.parts.zipIdx.filter fun e => e.1.st == 0).head? with
  | some (_, i) => some (1, 0x0F0F, i)
  | none => match refusal a.set.defaults a.revert (a.parts.map (·.part)) d with
    | some (st, i) => some (2, st, i)
    | none => match (a.parts.zipIdx.filter fun e => e.1.st == 1 && !islandOn d (partIsland e.1.part)).head? with
      | some (_, i) => some (3, stActAborted, i)
      | none => if countLost d then some (2, 0x0F05, 0xFF) else if a.lanes.length < 2 then some (3, stActAborted, 0xFF) else if ¬ ok then some (6, stActAborted, 0xFF) else none

/-- The words of a loop context among settings. -/
def ctxOf (l : List (Nat × Nat)) (n : Nat) : List (Nat × Nat) := (l.filter fun e => isLoopCtx e.1 && (e.1 - 0xE10000) / 0x100 == n).map fun e => ((e.1 - 0xE10000) % 0x100, e.2 % 2 ^ 32)

/-- The committed tuning of loop n, as at a reset (R396, R420). -/
def ctxTuning (n : Nat) (d : Dev) : List (Nat × Nat) :=
  (0x10, (settingFields (0xE10000 + 0x100 * n + 0x10)).foldl (fun w f => w + bankRd d.emram f * 2 ^ f.lo) 0) ::
    (0x40 :: 0x44 :: coefOffs ++ limOffs).map fun o => (o, bankRd d.emram (ctxWord n o))

/-- What the lanes receive at the commit, with the epoch tick (R556, R396, R448, R449): bindings, program, retentive data, context words. -/
def handLanes (T : Nat) (a : Arming) (d : Dev) : Dev :=
  a.parts.foldl (fun (d : Dev) e => match e.part.kind, e.part.content with
    | 0x10, _ =>
      let m := loopsOf e.part
      (rebound m d).foldl (fun (d : Dev) n =>
        let d := if loopInUse d n then d else handLoop T n (wordsChange (ctxTuning n d)) d
        handLoop T n (.bind (look m n)) d) d
    | 0x11, _ => handAt T [.clpImage (clpOf e.part) ((clpOf e.part).dataId == (lowSt d).clp.img.dataId)] d
    | _, _ => d) d

/-- Data and tuning follow the images of the same tick. -/
def handData (T : Nat) (a : Arming) (d : Dev) : Dev :=
  a.parts.foldl (fun (d : Dev) e => match e.part.kind, e.part.content with
    | 0x21, .clpData m dw ctr => handAt T [.clpData m dw ctr] d
    | 0x20, .settings l => (List.range 1024).foldl (fun (d : Dev) n => if ctxOf l n = [] then d else handLoop T n (wordsChange (ctxOf l n)) d) d
    | _, _ => d) d

/-- The commit: pointer, counter, EV169, hand-overs, and what a deferred part leaves for its island's start (R554, R556). -/
def commitArm (a : Arming) (d : Dev) : Dev :=
  let T := effTick (epochNs a.sec a.tick - svcTotalNs d) d
  let d := handData T a (handLanes T a d)
  let a : Arming := { a with committed := true, back := if a.revert then revertUnits d else [] }
  let d := if a.revert then backToPrev a.set d else makeActive a.set d
  let late := (a.parts.filter fun (p : ArmPart) => p.st = 2).map fun (p : ArmPart) => p.part
  let d := late.foldl (fun (d : Dev) p => if p.kind = 0x20 then commitSettings p d else d) d
  let d := onUpd (fun u => { u with deferred := u.deferred ++ (late.filter fun p => p.kind != 0x20).map fun p => (p.kind, p.target), arm := some a }) d
  raiseEvFrom 9 169 0 0 (d.wr UPD.STAT.STATE 4)

/-! ### The switches (R549, R558) -/

/-- A word whose settings fields come from v and whose other writable fields keep their values. -/
def settingWord (a v : Nat) (d : Dev) : Nat := match findReg regMap a with
  | some (fs, _) => fs.foldl (fun w e =>
      if e.2 = .RWL ∨ e.2 = .RWO then w + bitsOf v (min 31 e.1.hi) e.1.lo * 2 ^ e.1.lo
      else if e.2 = .RW then w + bankRd (bankOf d a) e.1 * 2 ^ e.1.lo else w) 0
  | none => 0

/-- One setting takes effect through its unit's own rules, and is committed. -/
def applySetting (e : Nat × Nat) (d : Dev) : Dev :=
  if e.1 = 0x60 then { d.wr GLB.LOCK.LOCK (e.2 % 2) with boot := { d.boot with committedLocked := e.2 % 2 == 1 } }
  else if settingFields e.1 = [] then d
  else if isLoopCtx e.1 then commitWords ((e.1 - 0xE10000) / 0x100) [((e.1 - 0xE10000) % 0x100, e.2 % 2 ^ 32)] d
  else cfgApply 0 e.1 (settingWord e.1 e.2 d) d

/-- The addresses of a unit's settings that are committed or differ from their reset values. -/
def unitAddrs (u : Nat) (d : Dev) : List Nat :=
  (((d.emram.map (·.1)) ++ (if u = 9 ∨ u = 11 then (lowSt d).regs.map (·.1) else d.regs.map (·.1))).filter fun k => addrUnit (k / 32) == u && settingKey k).map (· / 32) |>.eraseDups

/-- The committed settings of the register at an address, as (address, word): two words for a 64-bit quantity. -/
def committedAt (em : SMap Nat) (a : Nat) : List (Nat × Nat) :=
  (a, (settingFields a).foldl (fun w f => w + bankRd em f % 2 ^ 32 * 2 ^ f.lo) 0) ::
    ((settingFields a).filter fun f => decide (31 < f.hi)).map fun f => (a + 4, bankRd em f / 2 ^ 32)

/-- The settings at some addresses take their committed values by their unit's own stop and start rules (R558, R559). -/
def reload (addrs : List Nat) (d : Dev) : Dev :=
  let T := loopEff d
  (addrs.flatMap (committedAt d.emram)).foldl (fun (d : Dev) e =>
    if isLoopCtx e.1 then handLoop T ((e.1 - 0xE10000) / 0x100) (wordsChange [((e.1 - 0xE10000) % 0x100, e.2)]) d else applySetting e d) d

/-- A unit starts from defaults (R558): a loop in AUTO or HOLD goes to MANUAL at its OUT, every setting takes its reset value by the unit's stop and
start rules, and the result is committed. -/
def unitDefaults (u : Nat) (d : Dev) : Dev :=
  let T := loopEff d
  let d := if u = 9 then (lowSt d).binds.foldl (fun (d : Dev) e => if 2 ≤ lrd d (LOOP.CTX.CTRL.MODE e.1) then handLoop T e.1 (.mode (some 1) none) d else d) d else d
  let d := reload (unitAddrs u d) { d with emram := dropUnit u d.emram }
  onUpd (fun x => { x with stored := ins u (expectedFmt d u) x.stored }) { d with emram := dropUnit u d.emram }

/-- KE switches: the update system restarts SEC with CAUSE 5 (R549, R70). -/
def restartSec (d : Dev) : Dev := restartIsland 13 d

/-- Every running calibration of SAR k is abandoned (R266). -/
def abandonSar (k : Nat) (d : Dev) : Dev := (d.pio.cal.filter fun e => e.1 / 256 == k).foldl (fun (d : Dev) e => abandonCal (e.1 / 256) (e.1 % 256) d) d

/-- One part switches (R549); the answer is its switch index. -/
def switchPart (p : UpdPart) (T : Nat) (d : Dev) : Nat × Dev := match p.kind with
  | 0x02 => (T, match p.content with
      | .firmware (some l) => setFmts l d
      | _ => d)
  | 0x08 => (T, restartSec d)
  | 0x11 =>
    let n := d.frc.clp.length
    let d := raiseEvFrom (laneSrc d) 131 (clpOf p).id n (if n = 0 then d else eachLane (fun x => x.wr CLP.FSTAT.CARRIED 1) d)
    (lrd d CLP.CYC.CYCLE, d)
  | 0x12 => (match p.content with
      | .seq l => (passNumber d p.target T, putSeq p.target l (abandonSar p.target d))
      | _ => (T, d))
  | 0x20 => (match p.content with
      | .settings l =>
        let d := l.foldl (fun (d : Dev) e => applySetting e d) d
        (T, onUpd (fun u => { u with stored := ins p.target p.fmt u.stored }) d)
      | _ => (T, d))
  | 0x21 => (lrd d CLP.CYC.CYCLE, commitRetentive p d)
  | 0x30 =>
    if p.bytes = [] then (d.model.tick, loadPart p d)
    else (d.model.tick, activateModel (onModel (fun k => { k with staged := some (parseModel p.bytes), analysing := none }) d))
  | 0x31 =>
    let i := p.target - 1
    if p.bytes = [] then (((partSt d i).cycles), loadPart p d)
    else (((partSt d i).cycles), partIds i (setPart i { partSt d i with staged := some (parseStruct p.bytes), actPend := true } d))
  | 0x32 => (d.model.tick, loadPart p d)
  | _ => (T, d)

/-- The last part has switched (R556, R558, R559, R569): units without fitting settings go to defaults, those that a revert takes back to their earlier
settings; EV172 and EV171, the report, the completion. -/
def finishArm (a : Arming) (d : Dev) : Dev :=
  let us := if a.revert then [] else (List.range 16).filter fun u => storedFmt d u != expectedFmt d u
  let d := a.back.foldl (fun (d : Dev) u => reload (unitAddrs u d) d) (us.foldl (fun (d : Dev) u => unitDefaults u d) d)
  let mask := us.foldl (fun m u => m + 2 ^ u) 0
  let a : Arming := { a with mask := mask }
  let d := if mask = 0 then d else raiseEvFrom 9 172 mask 0 d
  let d := raiseEvFrom 9 171 0 0 (onUpd (fun u => { u with arm := none }) (d.wr UPD.STAT.STATE 0))
  let out := if a.revert then 3 else 0
  let d := writeReport out stOK 0xFF 0 a d
  finishKindWith (.other 60 0) stOK [out, 0xFFFFFFFF] (if a.revert then raiseEvFrom 9 173 0 0 d else d)

/-- Every part that takes part has switched. -/
def allSwitched (a : Arming) : Bool := a.parts.all fun p => p.st != 1

/-! ### Recipes (R564 to R567) -/

/-- A unit's committed settings as (BAR0 address, value), with the lock state under the device. -/
def settingPairs (u : Nat) (d : Dev) : List (Nat × Nat) :=
  let addrs := ((d.emram.filter fun e => addrUnit (e.1 / 32) == u).map fun e => e.1 / 32).eraseDups
  (if u = 0 then [(0x60, b2n d.boot.committedLocked)] else []) ++
    addrs.flatMap (committedAt d.emram)

/-- A model's image (R340). -/
def modelImage (m : NetModel) : List Byte :=
  padTo 64 (toBytes 2 1 ++ toBytes 2 m.nodes.length ++ toBytes 2 m.branches.length ++ toBytes 2 m.meas.length ++ toBytes 4 m.id ++ toBytes 4 m.order.length) ++
    m.nodes.flatMap nodeBytes ++ m.branches.flatMap branchBytes ++ m.meas.flatMap measBytes ++ wordsToBytes m.order

/-- A section of an image, padded to 8 bytes (R363). -/
def section8 (l : List Byte) : List Byte := padTo (align8 l.length) l
/-- A matrix section (R363). -/
def cscBytes (c : Csc) : List Byte := c.start.flatMap (toBytes 4) ++ c.idx.flatMap (toBytes 4) ++ c.val.flatMap (toBytes 8)
/-- A feed link's record (R367). -/
def feedBytes (f : FeedLink) : List Byte :=
  toBytes 1 f.kind ++ toBytes 1 f.src ++ toBytes 2 0 ++ toBytes 4 f.idx ++ toBytes 4 f.row ++ toBytes 4 f.series ++ toBytes 2 f.kmin ++ toBytes 2 f.kmax ++
    toBytes 4 f.gain ++ toBytes 4 f.ofs ++ toBytes 4 0
/-- A structure's image (R363). -/
def structImage (s : QpStruct) : List Byte :=
  padTo 128 (toBytes 2 1 ++ toBytes 1 s.part ++ toBytes 1 (b2n (s.order != []) + 2 * b2n (s.tree != []) + 4 * b2n s.dense) ++ toBytes 4 s.id ++
      toBytes 4 s.vars.length ++ toBytes 4 s.rows.length ++ toBytes 4 s.p.idx.length ++ toBytes 4 s.a.idx.length ++ toBytes 2 s.horizon ++ toBytes 2 0 ++
      toBytes 4 s.stepS ++ toBytes 4 s.tree.length ++ toBytes 4 s.feeds.length ++ toBytes 4 s.factor ++ toBytes 8 s.flops) ++
    section8 (s.vars.flatMap fun v => toBytes 4 v.1 ++ toBytes 4 0 ++ toBytes 8 v.2) ++
    section8 (s.rows.flatMap fun r => toBytes 4 r.1 ++ toBytes 4 (b2n r.2.1) ++ toBytes 8 r.2.2) ++
    section8 (s.q.flatMap (toBytes 8)) ++ section8 ((s.l ++ s.u).flatMap (toBytes 8)) ++ section8 (cscBytes s.p) ++ section8 (cscBytes s.a) ++
    section8 (s.order.flatMap (toBytes 4)) ++ section8 (s.tree.flatMap fun t => toBytes 4 t.1 ++ toBytes 4 t.2.1 ++ toBytes 4 t.2.2 ++ toBytes 4 0) ++
    section8 (s.feeds.flatMap feedBytes)

/-- The solver structures that a Recipe carries (R564): each partition's active one, as the active directory holds it or, loaded otherwise, as it
stands (log 41). -/
def structParts (d : Dev) : List UpdPart :=
  [0, 1].filterMap fun i =>
    let own := findPart d.upd.active.dir 0x31 (i + 1)
    match (partSt d i).active with
    | some s => if own.any fun p => fieldAt p.bytes 4 4 == s.id then own else some { kind := 0x31, target := i + 1, id := s.id, bytes := structImage s }
    | none => own

/-- A map entry's image (R383). -/
def sdImage (e : SdEntry) : List Byte :=
  toBytes 4 e.source ++ toBytes 1 e.part ++ toBytes 1 e.kind ++ toBytes 2 e.target ++ toBytes 1 e.index ++ toBytes 1 (b2n e.en) ++ toBytes 2 0 ++
    toBytes 4 e.scale ++ toBytes 4 e.ofs ++ toBytes 4 e.lo ++ toBytes 4 e.hi ++ toBytes 4 e.rate

/-- What a Recipe of this part carries (R564): firmware by identifier, programs from the active directory, the active structures, the model with its
edits, the map, every unit's settings, and retentive data on request. -/
def recipeParts (retentive : Bool) (d : Dev) : List UpdPart :=
  let dir := d.upd.active.dir
  let fw := (dir.filter fun p => decide (p.kind ≤ 9)).map fun p => { p with bytes := [] }
  let imgs := (dir.filter fun p => decide (0x10 ≤ p.kind) && decide (p.kind ≤ 0x13)) ++ structParts d
  let sets := ((List.range 16).filter fun u => settingPairs u d != []).map fun u => ({ kind := 0x20, target := u, fmt := storedFmt d u, bytes := Config.settingsImage u (settingPairs u d) } : UpdPart)
  let model := match d.model.active with
    | some m => [({ kind := 0x30, id := m.id, bytes := modelImage m } : UpdPart)]
    | none => []
  let sd := if d.solv.sd = [] then [] else [({ kind := 0x32, bytes := d.solv.sd.flatMap fun i => sdImage i.e } : UpdPart)]
  let x := (lowSt d).clp
  let ret := if retentive then [({ kind := 0x21, bytes := Config.retentiveImage (x.m.map fun e => (e.1, b2n e.2)) x.dw (x.ctr.map fun e => (e.1, e.2.cv)) } : UpdPart)] else []
  fw ++ imgs ++ sets ++ model ++ sd ++ ret

/-- Manifest entries with their places in the payload area, and the area. -/
def layParts (ps : List UpdPart) : List UpdPart × List Byte :=
  ps.foldl (fun (acc : List UpdPart × List Byte) p => (acc.1 ++ [{ p with off := acc.2.length, len := p.bytes.length, hash := sha256 p.bytes }], acc.2 ++ p.bytes)) ([], [])

/-- The Recipe's bytes (R547, R565, R567): header signed with REPORT_SLOT's key, manifest, wrap block, payload area. Identifier, ephemeral key and IV are
free (log 1). -/
def recipeBytes (retentive : Bool) (target : List Byte) (cnt : Nat) (d : Dev) : List Byte × Dev :=
  let (ps, area) := layParts (recipeParts retentive d)
  let man := ps.flatMap manBytes
  let (x, d) := takeFree 31 d
  let lvl := d.rd GLB.COMPAT_LEVEL.LEVEL
  let head := toBytes 4 0x59415254 ++ toBytes 2 1 ++ toBytes 2 0x9600 ++ toBytes 2 0xFFFF ++ toBytes 1 lvl ++ toBytes 1 lvl ++ padTo 16 target ++ toBytes 4 (x + 1) ++
    toBytes 4 cnt ++ toBytes 1 ps.length ++ toBytes 1 2 ++ toBytes 1 4 ++ toBytes 1 (d.rd UPD.CFG.REPORT_SLOT) ++ toBytes 8 area.length ++ sha256 man ++ deviceId d ++ List.replicate 32 0
  let slot := d.rd UPD.CFG.REPORT_SLOT
  let (sig, d) := slotSign slot head (slotDerive slot d)
  let hdr := head ++ List.replicate 96 0 ++ padTo 96 sig ++ List.replicate 64 0
  if isZero target then (hdr ++ man ++ List.replicate 128 0 ++ area, d)
  else
    let (e, d) := takeFree 512 d
    let (v, d) := takeFree 96 d
    let priv := e % (p384.n - 1) + 1
    let z := (p384.ecdh priv (Config.peerKey target)).getD []
    let iv := toBytes 12 v
    let c := gcmSeal (kdf z (ascii "RECIPE") (padTo 16 target ++ toBytes 4 0 ++ toBytes 1 6) 256) iv area
    (hdr ++ man ++ padTo 96 (p384.pubKey priv) ++ iv ++ c.drop area.length ++ toBytes 4 0 ++ c.take area.length, d)

end Sys2Proof.Machine
end

