-- ==== Sys2Proof/Machine/UpdRows.lean ====
section
/-! DEFINITION. The commands and events of the UPDATE unit (spec/21): staging, activation, revert, recovery, the report, Recipes. -/
namespace Sys2Proof.Machine
open Sys2Proof

/-- UPD_OPEN (R550, R552, R557). -/
def execUpdOpen (h : CmdHdr) (source : Nat) (s : State) : Host.Outcome State Fault Refusal :=
  go (runCmd { unit := 15, op := 1, c := true, isl := [13], kw := true, rack := true } h (openStaging false h source)) s

/-- UPD_DATA: payload bytes of a part go to the pool of both ports; badA and badB tell which ports' writes fail (R546, R551). -/
def execUpdData (h : CmdHdr) (part offset : Nat) (badA badB : Bool) (s : State) : Host.Outcome State Fault Refusal :=
  go (runCmd { unit := 15, op := 2, kw := true, rack := true } h fun d =>
    match d.upd.staging with
    | none => .done d stWrongState []
    | some g => match g.man[part]? with
      | none => .done d stBadParam []
      | some p =>
        if ¬ bufOk h then .done d stBadBuffer []
        else if p.len < offset + bufLen h then .done d stBadParam []
        else match flashWrite badA badB d with
          | none => .done (raise 167 0 (raise 166 0 d)) 0x0F0A [bytesMissing g]
          | some d =>
            let got := (inBuf h d).zipIdx.foldl (fun (m : SMap Byte) e => ins (p.off + offset + e.2) e.1 m) g.got
            let g : Staging := { g with got := got, last := d.up, single := g.single || badA || badB }
            .done (onUpd (fun u => { u with staging := some g }) d) stOK [bytesMissing g]) s

/-- UPD_CLOSE: every part is checked and the inactive directory written (R551); `parts` says what the payloads stand for (log 42). -/
def execUpdClose (h : CmdHdr) (parts : List PartIn) (badA badB : Bool) (s : State) : Host.Outcome State Fault Refusal :=
  go (runCmd { unit := 15, op := 3, c := true, kw := true, rack := true } h (closeStaging parts badA badB)) s

/-- What UPD_ACTIVATE does where its conditions hold (R553, R554, R566); while the counters are lost every activation is refused (R147). -/
def updActivateEffect (sec tick : Nat) (d : Dev) : CmdOut :=
  match d.upd.staged with
  | none => .done d 0x0F0C []
  | some t =>
    if d.rd UPD.STAT.STATE ≠ 2 then .done d 0x0F0C []
    else if countLost d then .done d 0x0F05 []
    else if inServ d < 2 then .done d stActAborted [1, 0xFFFFFFFF]
    else if t.recipe ∧ t.lo ≠ d.rd GLB.COMPAT_LEVEL.LEVEL then .done d 0x0F12 []
    else beginArm sec tick false t t.parts d

/-- UPD_ACTIVATE (R553, R554, R566). -/
def execUpdActivate (h : CmdHdr) (sec tick : Nat) (s : State) : Host.Outcome State Fault Refusal :=
  go (runCmd { unit := 15, op := 4, c := true } h fun d =>
    if epochBad sec tick d then .done d 0x0F0E []
    else updActivateEffect sec tick d) s

/-- What UPD_REVERT does where its conditions hold (R559); while the counters are lost every activation is refused (R147). -/
def updRevertEffect (sec tick : Nat) (d : Dev) : CmdOut :=
  match d.upd.prev with
  | none => .done d 0x0F0D []
  | some t =>
    if d.upd.arm.isSome then .done d 0x0F0B []
    else if countLost d then .done d 0x0F05 []
    else if t.rb < d.rd (CRUST.CNT.VALUE 0) then .done d 0x0F04 []
    else if inServ d < 2 then .done d stActAborted [1, 0xFFFFFFFF]
    else beginArm sec tick true t (revertParts t.dir d.upd.active.dir) d

/-- UPD_REVERT: the previous set at an epoch (R559). -/
def execUpdRevert (h : CmdHdr) (sec tick : Nat) (s : State) : Host.Outcome State Fault Refusal :=
  go (runCmd { unit := 15, op := 5, c := true } h fun d =>
    if epochBad sec tick d then .done d 0x0F0E []
    else updRevertEffect sec tick d) s

/-- UPD_CANCEL: a staging is abandoned, an activation before its commit aborted; after the commit WRONG_STATE (R552, R555, R568). A STAGED Tray stays. -/
def execUpdCancel (h : CmdHdr) (s : State) : Host.Outcome State Fault Refusal :=
  go (runCmd { unit := 15, op := 6, c := true, kw := true, rack := true } h fun d =>
    if (match d.upd.arm with
      | some a => a.committed
      | none => false) then .done d stWrongState [updStatWord d]
    else
      let d := abortArm 5 stActAborted 0xFF (endStaging stAborted d)
      .done d stOK [updStatWord d]) s

/-- What UPD_RECOVER does where its conditions hold (R560). -/
def updRecoverEffect (source : Nat) (d : Dev) : CmdOut :=
  match (if source = 0 then d.upd.staged else d.upd.prev) with
  | none => .done d (if source = 0 then 0x0F0C else 0x0F0D) [updStatWord d]
  | some t =>
    if ¬ levelOk t d then .done d 0x0F03 [updStatWord d]
    else if countLost d then .done d 0x0F05 [updStatWord d]
    else if (if source = 0 then !rollbackOk t d else decide (t.rb < d.rd (CRUST.CNT.VALUE 0))) then .done d 0x0F04 [updStatWord d]
    else
      let d := onUpd (fun u => { u with forReset := some (source == 1) }) (d.wr UPD.STAT.STATE 5)
      let ps := (armParts t.recipe (if source = 0 then t.parts else revertParts t.dir d.upd.active.dir) d).map fun p => if p.st = 0 then { p with st := 2 } else p
      let d := writeReport 4 stOK 0xFF 0 { sec := 0, tick := 0, set := t, parts := ps } (raiseEvFrom 9 173 0 0 d)
      .done d stOK [updStatWord d]

/-- UPD_RECOVER: the staged or the previous set is active from the next reset (R560). -/
def execUpdRecover (h : CmdHdr) (source : Nat) (s : State) : Host.Outcome State Fault Refusal :=
  go (runCmd { unit := 15, op := 7, c := true, rack := true } h fun d =>
    if 1 < source then .done d stBadParam []
    else if d.upd.arm.isSome then .done d 0x0F0B [updStatWord d]
    else updRecoverEffect source d) s

/-- UPD_REPORT (R561). -/
def execUpdReport (h : CmdHdr) (s : State) : Host.Outcome State Fault Refusal :=
  go (runCmd { unit := 15, op := 8, kw := true } h fun d =>
    if ¬ recvOk h 1216 then .done d stBadBuffer []
    else .done (outBuf h (padTo 1216 d.upd.report) d) stOK [fieldAt d.upd.report 2 1]) s

/-- What RECIPE_EXPORT does where its conditions hold (R565, R567); an increment at 0xFFFF_FFFF, or while the
counters are lost, is refused (R161). -/
def recipeExportEffect (h : CmdHdr) (flags : Nat) (target : List Byte) (badB : Bool) (d : Dev) : CmdOut :=
  match slotRefusal d (d.rd UPD.CFG.REPORT_SLOT) [3] with
  | 0 =>
    if countLost d then .done d 0x0243 []
    else if d.rd (CRUST.CNT.VALUE 2) = 0xFFFFFFFF then .done d 0x0244 [] else
    let cnt := d.rd (CRUST.CNT.VALUE 2) + 1
    let (b, d') := recipeBytes (bitOf flags 0) (padTo 16 target) cnt (setCnt 2 cnt d)
    if ¬ bitOf flags 1 ∧ ¬ recvOk h b.length then .done d stBadBuffer []
    else if bitOf flags 1 ∧ badB then .done ((raise 167 0 d').wr UPD.STAT.SINGLE_COPY 1) 0x0F0A [0, cnt]
    else
      let d := if bitOf flags 1 then onUpd (fun u => { u with drop := ins 1 b u.drop }) d' else outBuf h b d'
      .done (raiseEvFrom 9 174 0 0 d) stOK [b.length, cnt]
  | st => .done d st []

/-- RECIPE_EXPORT (R565, R567): to the host, or to drop area B of a port whose write badB fails. -/
def execRecipeExport (h : CmdHdr) (flags : Nat) (target : List Byte) (badB : Bool) (s : State) : Host.Outcome State Fault Refusal :=
  go (runCmd { unit := 15, op := 9, c := true, isl := [13], kw := true } h fun d =>
    if 3 < flags then .done d stBadParam []
    else recipeExportEffect h flags target badB d) s

/-- RECIPE_IMPORT (R566). -/
def execRecipeImport (h : CmdHdr) (source : Nat) (s : State) : Host.Outcome State Fault Refusal :=
  go (runCmd { unit := 15, op := 10, c := true, isl := [13] } h (openStaging true h source)) s

/-- STAGING_TIMEOUT: 600 s without UPD_DATA (R552; log 20). -/
def execStagingTimeout (s : State) : Host.Outcome State Fault Refusal :=
  go (fun d => match d.upd.staging with
    | none => d
    | some g => endStaging stAborted (toUp (g.last + 600000000000) d)) s

/-- PART_ARMED: a part has been loaded into its shadow (R554). -/
def execPartArmed (part : Nat) (s : State) : Host.Outcome State Fault Refusal :=
  go (fun d => match d.upd.arm with
    | some a =>
      if a.committed then d
      else onUpd (fun u => { u with arm := some { a with parts := a.parts.modify part fun (p : ArmPart) => if p.st = 0 then { p with st := 1 } else p } }) d
    | none => d) s

/-- COLLECT: 50 ms before the epoch the activation is committed or aborted; ok tells whether the eMRAM write succeeds (R555, R556; log 20). -/
def execCollect (ok : Bool) (s : State) : Host.Outcome State Fault Refusal :=
  go (fun d => match d.upd.arm with
    | some a =>
      if a.committed then d
      else
        let d := toSvcNs (epochNs a.sec a.tick - 50000000) d
        match collectFault ok a d with
        | some (r, st, i) => abortArm r st i d
        | none =>
          let d := commitArm a d
          if allSwitched a then finishArm { a with committed := true } d else d
    | none => d) s

/-- A committed part whose island has gone off since the commit is loaded when the island restarts (R556). -/
def deferPart (i : Nat) (p : ArmPart) (a : Arming) (d : Dev) : Dev :=
  let a : Arming := { a with parts := a.parts.set i { p with st := 2 } }
  let d := if p.part.kind = 0x20 then commitSettings p.part d else onUpd (fun u => { u with deferred := u.deferred ++ [(p.part.kind, p.part.target)] }) d
  let d := onUpd (fun u => { u with arm := some a }) d
  if allSwitched a then finishArm a d else d

/-- PART_SWITCH: a part's switch point at or after the epoch (R549, R556; log 20). The boot firmware switches after every other part. -/
def execPartSwitch (part : Nat) (s : State) : Host.Outcome State Fault Refusal :=
  go (fun d => match d.upd.arm with
    | some a => match a.parts[part]? with
      | some p =>
        if ¬ a.committed ∨ p.st ≠ 1 ∨ (p.part.kind = 2 ∧ a.parts.any fun q => q.st == 1 && q.part.kind != 2) then d
        else
          let d := toSvcNs (epochNs a.sec a.tick) d
          if ¬ islandOn d (partIsland p.part) then deferPart part p a d
          else
          let (i, d) := switchPart p.part (effTick 0 d) d
          let a : Arming := { a with forces := if p.part.kind = 0x11 then d.frc.clp.length else a.forces, parts := a.parts.set part { p with st := 3, idx := i % 2 ^ 32 } }
          let d := onUpd (fun u => { u with arm := some a }) d
          if allSwitched a then finishArm a d else d
      | none => d
    | none => d) s

end Sys2Proof.Machine
end

