-- ==== Sys2Proof/Machine/Dispatch.lean ====
section
/-! DEFINITION. exec: one arm per command, each one direct call of its meaning. -/
namespace Sys2Proof.Machine
open Sys2Proof

def exec (i : Instr) (s : State) : Host.Outcome State Fault Refusal :=
  match i with
  | .bar0Write p addr size v => Sys2Proof.Machine.execBar0Write p addr size v s
  | .lowWordRead p addr size => Sys2Proof.Machine.execLowWordRead p addr size s
  | .clearOnRead p addr size => Sys2Proof.Machine.execClearOnRead p addr size s
  | .kick p v link => Sys2Proof.Machine.execKick p v link s
  | .lock p => Sys2Proof.Machine.execLock p s
  | .lockCommitEnd ok => Sys2Proof.Machine.execLockCommitEnd ok s
  | .islCtrlEn p n v => Sys2Proof.Machine.execIslCtrlEn p n v s
  | .ringEnSet p n v => Sys2Proof.Machine.execRingEnSet p n v s
  | .ringEnClear p n v => Sys2Proof.Machine.execRingEnClear p n v s
  | .canEnWrite p n v => Sys2Proof.Machine.execCanEnWrite p n v s
  | .sarEnWrite p k v => Sys2Proof.Machine.execSarEnWrite p k v s
  | .sessEnWrite p n v => Sys2Proof.Machine.execSessEnWrite p n v s
  | .clpEnWrite p v => Sys2Proof.Machine.execClpEnWrite p v s
  | .portEnWrite p q v => Sys2Proof.Machine.execPortEnWrite p q v s
  | .partEnWrite port p v => Sys2Proof.Machine.execPartEnWrite port p v s
  | .heatEnClear p m v => Sys2Proof.Machine.execHeatEnClear p m v s
  | .cttCfgWrite p t v => Sys2Proof.Machine.execCttCfgWrite p t v s
  | .ppsTargetWrite p k v => Sys2Proof.Machine.execPpsTargetWrite p k v s
  | .loopCtxWrite p addr v => Sys2Proof.Machine.execLoopCtxWrite p addr v s
  | .rtcLoRead p => Sys2Proof.Machine.execRtcLoRead p s
  | .svcSecLoRead p => Sys2Proof.Machine.execSvcSecLoRead p s
  | .capSecLoRead p k => Sys2Proof.Machine.execCapSecLoRead p k s
  | .snapRead p f r => Sys2Proof.Machine.execSnapRead p f r s
  | .curSeqWrite p v => Sys2Proof.Machine.execCurSeqWrite p v s
  | .areaWrite p v => Sys2Proof.Machine.execAreaWrite p v s
  | .next p v => Sys2Proof.Machine.execNext p v s
  | .mpgRise testmode => Sys2Proof.Machine.execMpgRise testmode s
  | .strapSampling samples safeOk => Sys2Proof.Machine.execStrapSampling samples safeOk s
  | .proofStart w => Sys2Proof.Machine.execProofStart w s
  | .proofVerdict r => Sys2Proof.Machine.execProofVerdict r s
  | .proofDeadline => Sys2Proof.Machine.execProofDeadline s
  | .mpgFall => Sys2Proof.Machine.execMpgFall s
  | .wrstN lowNs mpgToo => Sys2Proof.Machine.execWrstN lowNs mpgToo s
  | .pfailNFall mpgToo => Sys2Proof.Machine.execPfailNFall mpgToo s
  | .perstAssert p => Sys2Proof.Machine.execPerstAssert p s
  | .perstRelease p => Sys2Proof.Machine.execPerstRelease p s
  | .portGone p cause => Sys2Proof.Machine.execPortGone p cause s
  | .portReturn p up => Sys2Proof.Machine.execPortReturn p up s
  | .hostHeartbeatCheck p => Sys2Proof.Machine.execHostHeartbeatCheck p s
  | .vaux33Fall => Sys2Proof.Machine.execVaux33Fall s
  | .crustSwitchBack w => Sys2Proof.Machine.execCrustSwitchBack w s
  | .crustPowerUp vaux w => Sys2Proof.Machine.execCrustPowerUp vaux w s
  | .crustPowerLoss cutUpdate => Sys2Proof.Machine.execCrustPowerLoss cutUpdate s
  | .batLevelChange mv => Sys2Proof.Machine.execBatLevelChange mv s
  | .lowRetLatch => Sys2Proof.Machine.execLowRetLatch s
  | .scrub parityError => Sys2Proof.Machine.execScrub parityError s
  | .railOutOfRange r order => Sys2Proof.Machine.execRailOutOfRange r order s
  | .railRecovery rails => Sys2Proof.Machine.execRailRecovery rails s
  | .clockLost n => Sys2Proof.Machine.execClockLost n s
  | .refclkRecovery => Sys2Proof.Machine.execRefclkRecovery s
  | .canClkRecovery => Sys2Proof.Machine.execCanClkRecovery s
  | .pllLockLost pll locked => Sys2Proof.Machine.execPllLockLost pll locked s
  | .thermalTrip => Sys2Proof.Machine.execThermalTrip s
  | .thermalRead temps => Sys2Proof.Machine.execThermalRead temps s
  | .throttleStep => Sys2Proof.Machine.execThrottleStep s
  | .avsCommand c answer => Sys2Proof.Machine.execAvsCommand c answer s
  | .islandPower h isl on ret => Sys2Proof.Machine.execIslandPower h isl on ret s
  | .islandStopEnd n => Sys2Proof.Machine.execIslandStopEnd n s
  | .islandStartEnd n => Sys2Proof.Machine.execIslandStartEnd n s
  | .islandMinoffEnd n => Sys2Proof.Machine.execIslandMinoffEnd n s
  | .hostReturnTimer => Sys2Proof.Machine.execHostReturnTimer s
  | .actionDelayEnd => Sys2Proof.Machine.execActionDelayEnd s
  | .nop h => Sys2Proof.Machine.execNop h s
  | .regRead h count offs => Sys2Proof.Machine.execRegRead h count offs s
  | .cfgWrite h count pairs => Sys2Proof.Machine.execCfgWrite h count pairs s
  | .stateCmd h action => Sys2Proof.Machine.execStateCmd h action s
  | .startPolicy h v => Sys2Proof.Machine.execStartPolicy h v s
  | .benchRead h table => Sys2Proof.Machine.execBenchRead h table s
  | .benchWrite h table => Sys2Proof.Machine.execBenchWrite h table s
  | .unlock h => Sys2Proof.Machine.execUnlock h s
  | .ringSetup h ring kind log2size cring vector modCount modTime epoch base => Sys2Proof.Machine.execRingSetup h ring kind log2size cring vector modCount modTime epoch base s
  | .ringStop h ring => Sys2Proof.Machine.execRingStop h ring s
  | .routeSet h first count words => Sys2Proof.Machine.execRouteSet h first count words s
  | .ownSet h mask claim => Sys2Proof.Machine.execOwnSet h mask claim s
  | .doorbellPoll p link => Sys2Proof.Machine.execDoorbellPoll p link s
  | .moderationTimeout n => Sys2Proof.Machine.execModerationTimeout n s
  | .leaseExpiry table buffer consumer => Sys2Proof.Machine.execLeaseExpiry table buffer consumer s
  | .dcqReaderTimeout n => Sys2Proof.Machine.execDcqReaderTimeout n s
  | .rtcSet h mode secs => Sys2Proof.Machine.execRtcSet h mode secs s
  | .rtcStep => Sys2Proof.Machine.execRtcStep s
  | .cntIncr h n => Sys2Proof.Machine.execCntIncr h n s
  | .tamperCfg h v => Sys2Proof.Machine.execTamperCfg h v s
  | .almFire alm => Sys2Proof.Machine.execAlmFire alm s
  | .compStep temp => Sys2Proof.Machine.execCompStep temp s
  | .discipline => Sys2Proof.Machine.execDiscipline s
  | .ponTimeout => Sys2Proof.Machine.execPonTimeout s
  | .tamperEvent n level heldNs => Sys2Proof.Machine.execTamperEvent n level heldNs s
  | .crpReadStatus => Sys2Proof.Machine.execCrpReadStatus s
  | .crpReadRtc => Sys2Proof.Machine.execCrpReadRtc s
  | .crpReadTampStat => Sys2Proof.Machine.execCrpReadTampStat s
  | .crpReadTamperLog => Sys2Proof.Machine.execCrpReadTamperLog s
  | .crpReadCounters => Sys2Proof.Machine.execCrpReadCounters s
  | .crpReadIdentity => Sys2Proof.Machine.execCrpReadIdentity s
  | .crpReadLastGasp code => Sys2Proof.Machine.execCrpReadLastGasp code s
  | .crpWake pecOk => Sys2Proof.Machine.execCrpWake pecOk s
  | .alertClr pecOk => Sys2Proof.Machine.execAlertClr pecOk s
  | .alertResponse => Sys2Proof.Machine.execAlertResponse s
  | .smbusTimeout => Sys2Proof.Machine.execSmbusTimeout s
  | .domSelect h dom auto => Sys2Proof.Machine.execDomSelect h dom auto s
  | .portAddr h => Sys2Proof.Machine.execPortAddr h s
  | .portPower h port on => Sys2Proof.Machine.execPortPower h port on s
  | .tbLoad h n v => Sys2Proof.Machine.execTbLoad h n v s
  | .portStopEnd q => Sys2Proof.Machine.execPortStopEnd q s
  | .portStartEnd q => Sys2Proof.Machine.execPortStartEnd q s
  | .portMinoffEnd q => Sys2Proof.Machine.execPortMinoffEnd q s
  | .linkChange q up speed => Sys2Proof.Machine.execLinkChange q up speed s
  | .frameRx q f => Sys2Proof.Machine.execFrameRx q f s
  | .ptpSyncRx dom q m => Sys2Proof.Machine.execPtpSyncRx dom q m s
  | .announceTimeout dom q => Sys2Proof.Machine.execAnnounceTimeout dom q s
  | .syncTimeout dom => Sys2Proof.Machine.execSyncTimeout dom s
  | .ptpTxInterval dom q kind => Sys2Proof.Machine.execPtpTxInterval dom q kind s
  | .txtsStale q => Sys2Proof.Machine.execTxtsStale q s
  | .prpSupervision pair => Sys2Proof.Machine.execPrpSupervision pair s
  | .prpLanTimeout pair lanB => Sys2Proof.Machine.execPrpLanTimeout pair lanB s
  | .revertTimer => Sys2Proof.Machine.execRevertTimer s
  | .holdValidExpiry => Sys2Proof.Machine.execHoldValidExpiry s
  | .temposStart => Sys2Proof.Machine.execTemposStart s
  | .trigCapture k rise => Sys2Proof.Machine.execTrigCapture k rise s
  | .ppsPulse k => Sys2Proof.Machine.execPpsPulse k s
  | .ppsCompare k => Sys2Proof.Machine.execPpsCompare k s
  | .diagBar0Read q ident off len => Sys2Proof.Machine.execDiagBar0Read q ident off len s
  | .diagProofReport q ident off len => Sys2Proof.Machine.execDiagProofReport q ident off len s
  | .diagFaultRecords q ident first len => Sys2Proof.Machine.execDiagFaultRecords q ident first len s
  | .diagRecorderRecords q ident seq len => Sys2Proof.Machine.execDiagRecorderRecords q ident seq len s
  | .diagCrustStatus q ident off len => Sys2Proof.Machine.execDiagCrustStatus q ident off len s
  | .canPower h ch action => Sys2Proof.Machine.execCanPower h ch action s
  | .canTx h ch obj dlc flags inline => Sys2Proof.Machine.execCanTx h ch obj dlc flags inline s
  | .canCancel h ch obj phase => Sys2Proof.Machine.execCanCancel h ch obj phase s
  | .canRxRead h ch first count => Sys2Proof.Machine.execCanRxRead h ch first count s
  | .canHpbRead h ch => Sys2Proof.Machine.execCanHpbRead h ch s
  | .canResume h ch => Sys2Proof.Machine.execCanResume h ch s
  | .canBoRecover h ch => Sys2Proof.Machine.execCanBoRecover h ch s
  | .canStartEnd n => Sys2Proof.Machine.execCanStartEnd n s
  | .canStopEnd n => Sys2Proof.Machine.execCanStopEnd n s
  | .canStopTimeout n => Sys2Proof.Machine.execCanStopTimeout n s
  | .canMinoffEnd n => Sys2Proof.Machine.execCanMinoffEnd n s
  | .canFrameRx n f age => Sys2Proof.Machine.execCanFrameRx n f age s
  | .canTxEnd n r tdcv age => Sys2Proof.Machine.execCanTxEnd n r tdcv age s
  | .busoffRecoveryEnd n => Sys2Proof.Machine.execBusoffRecoveryEnd n s
  | .sleepEntry n => Sys2Proof.Machine.execSleepEntry n s
  | .canWake n => Sys2Proof.Machine.execCanWake n s
  | .sessCfg h n => Sys2Proof.Machine.execSessCfg h n s
  | .sessPower h n action => Sys2Proof.Machine.execSessPower h n action s
  | .sessRead h first count => Sys2Proof.Machine.execSessRead h first count s
  | .sessParam h n rw len param => Sys2Proof.Machine.execSessParam h n rw len param s
  | .sessBcast h sub cans ports => Sys2Proof.Machine.execSessBcast h sub cans ports s
  | .joinRequest n p => Sys2Proof.Machine.execJoinRequest n p s
  | .pollSlot n => Sys2Proof.Machine.execPollSlot n s
  | .pollResponse n p => Sys2Proof.Machine.execPollResponse n p s
  | .respTimeout n what => Sys2Proof.Machine.execRespTimeout n what s
  | .joinTimeout n => Sys2Proof.Machine.execJoinTimeout n s
  | .lostTimeout n => Sys2Proof.Machine.execLostTimeout n s
  | .lostPoll n => Sys2Proof.Machine.execLostPoll n s
  | .outConfirmation n p => Sys2Proof.Machine.execOutConfirmation n p s
  | .alarmPdu n p => Sys2Proof.Machine.execAlarmPdu n p s
  | .statusAnswer n p => Sys2Proof.Machine.execStatusAnswer n p s
  | .paramAnswer n p => Sys2Proof.Machine.execParamAnswer n p s
  | .leavePdu n p => Sys2Proof.Machine.execLeavePdu n p s
  | .sessionStopEnd n => Sys2Proof.Machine.execSessionStopEnd n s
  | .sessMinoffEnd n => Sys2Proof.Machine.execSessMinoffEnd n s
  | .timeBroadcast => Sys2Proof.Machine.execTimeBroadcast s
  | .adcInject h sar cfg tim gain ofs param codes refs => Sys2Proof.Machine.execAdcInject h sar cfg tim gain ofs param codes refs s
  | .adcCal h sar entry action ref => Sys2Proof.Machine.execAdcCal h sar entry action ref s
  | .sarService h sar action => Sys2Proof.Machine.execSarService h sar action s
  | .dacCal h n gain ofs => Sys2Proof.Machine.execDacCal h n gain ofs s
  | .pinLoad h n count => Sys2Proof.Machine.execPinLoad h n count s
  | .sarPass k convs => Sys2Proof.Machine.execSarPass k convs s
  | .sarMinoffEnd k => Sys2Proof.Machine.execSarMinoffEnd k s
  | .sarSelfcalEnd k => Sys2Proof.Machine.execSarSelfcalEnd k s
  | .calTimeout k e => Sys2Proof.Machine.execCalTimeout k e s
  | .inputStaleTimeout k e => Sys2Proof.Machine.execInputStaleTimeout k e s
  | .dioLevelChange n v => Sys2Proof.Machine.execDioLevelChange n v s
  | .dioMismatch n => Sys2Proof.Machine.execDioMismatch n s
  | .pinEdge n rise => Sys2Proof.Machine.execPinEdge n rise s
  | .rateTimeout n => Sys2Proof.Machine.execRateTimeout n s
  | .excOpen n now => Sys2Proof.Machine.execExcOpen n now s
  | .dacOpen n now => Sys2Proof.Machine.execDacOpen n now s
  | .mtrCal h ch action ref => Sys2Proof.Machine.execMtrCal h ch action ref s
  | .mtrService h k action => Sys2Proof.Machine.execMtrService h k action s
  | .mtrStream h ring period fmask bmask flags => Sys2Proof.Machine.execMtrStream h ring period fmask bmask flags s
  | .mtrIvlRead h f first count => Sys2Proof.Machine.execMtrIvlRead h f first count s
  | .meterCycleEnd b cross => Sys2Proof.Machine.execMeterCycleEnd b cross s
  | .meterWindowEnd b => Sys2Proof.Machine.execMeterWindowEnd b s
  | .urmsHalfCycle b => Sys2Proof.Machine.execUrmsHalfCycle b s
  | .meterIntervalClose => Sys2Proof.Machine.execMeterIntervalClose s
  | .recordSigning => Sys2Proof.Machine.execRecordSigning s
  | .meterCheckpoint => Sys2Proof.Machine.execMeterCheckpoint s
  | .poutPulse k => Sys2Proof.Machine.execPoutPulse k s
  | .dtfPulse k => Sys2Proof.Machine.execDtfPulse k s
  | .mcalTimeout c => Sys2Proof.Machine.execMcalTimeout c s
  | .dspSelftestEnd k pass => Sys2Proof.Machine.execDspSelftestEnd k pass s
  | .cttTempUpdate t => Sys2Proof.Machine.execCttTempUpdate t s
  | .heatIvlRead h m first count => Sys2Proof.Machine.execHeatIvlRead h m first count s
  | .heatBillRead h m first count => Sys2Proof.Machine.execHeatBillRead h m first count s
  | .heatBillClose h => Sys2Proof.Machine.execHeatBillClose h s
  | .heatSample m => Sys2Proof.Machine.execHeatSample m s
  | .heatIntervalClose => Sys2Proof.Machine.execHeatIntervalClose s
  | .billingClose => Sys2Proof.Machine.execBillingClose s
  | .modelLoad h => Sys2Proof.Machine.execModelLoad h s
  | .modelAnalysisEnd => Sys2Proof.Machine.execModelAnalysisEnd s
  | .modelActivate h => Sys2Proof.Machine.execModelActivate h s
  | .modelEdit h count => Sys2Proof.Machine.execModelEdit h count s
  | .modelRead h table first count => Sys2Proof.Machine.execModelRead h table first count s
  | .modelTick => Sys2Proof.Machine.execModelTick s
  | .gatherEnd => Sys2Proof.Machine.execGatherEnd s
  | .estConverged => Sys2Proof.Machine.execEstConverged s
  | .estDeadline done thermal => Sys2Proof.Machine.execEstDeadline done thermal s
  | .tdeStep => Sys2Proof.Machine.execTdeStep s
  | .planWaitExpiry => Sys2Proof.Machine.execPlanWaitExpiry s
  | .fTake => Sys2Proof.Machine.execFTake s
  | .partitionDelivery p => Sys2Proof.Machine.execPartitionDelivery p s
  | .solveDeadline p done => Sys2Proof.Machine.execSolveDeadline p done s
  | .partSet h tiles sram bwE bwF => Sys2Proof.Machine.execPartSet h tiles sram bwE bwF s
  | .partSetApply => Sys2Proof.Machine.execPartSetApply s
  | .structLoad h p => Sys2Proof.Machine.execStructLoad h p s
  | .structAnalysisEnd p => Sys2Proof.Machine.execStructAnalysisEnd p s
  | .structActivate h p => Sys2Proof.Machine.execStructActivate h p s
  | .solvDelta h p id => Sys2Proof.Machine.execSolvDelta h p id s
  | .solvCtrl h p action => Sys2Proof.Machine.execSolvCtrl h p action s
  | .solvRead h p what first count => Sys2Proof.Machine.execSolvRead h p what first count s
  | .sdMap h count => Sys2Proof.Machine.execSdMap h count s
  | .sdRound => Sys2Proof.Machine.execSdRound s
  | .rampIssue => Sys2Proof.Machine.execRampIssue s
  | .loopMode h n mode src => Sys2Proof.Machine.execLoopMode h n mode src s
  | .loopSp h n v => Sys2Proof.Machine.execLoopSp h n v s
  | .loopManual h n v => Sys2Proof.Machine.execLoopManual h n v s
  | .loopCoef h n => Sys2Proof.Machine.execLoopCoef h n s
  | .loopLimits h n => Sys2Proof.Machine.execLoopLimits h n s
  | .loopForce h n on v => Sys2Proof.Machine.execLoopForce h n on v s
  | .loopRead h n count => Sys2Proof.Machine.execLoopRead h n count s
  | .loopSample l c late => Sys2Proof.Machine.execLoopSample l c late s
  | .laneReq h lane action => Sys2Proof.Machine.execLaneReq h lane action s
  | .safeCmd h v => Sys2Proof.Machine.execSafeCmd h v s
  | .laneLogRead h first count => Sys2Proof.Machine.execLaneLogRead h first count s
  | .lanePublication l upsets => Sys2Proof.Machine.execLanePublication l upsets s
  | .voteWindowClose src => Sys2Proof.Machine.execVoteWindowClose src s
  | .csArbitration late => Sys2Proof.Machine.execCsArbitration late s
  | .offsetCheck offs => Sys2Proof.Machine.execOffsetCheck offs s
  | .readmitStartingEnd => Sys2Proof.Machine.execReadmitStartingEnd s
  | .readmitSelftestEnd => Sys2Proof.Machine.execReadmitSelftestEnd s
  | .mirrorCheckpoint => Sys2Proof.Machine.execMirrorCheckpoint s
  | .mirrorTimeout => Sys2Proof.Machine.execMirrorTimeout s
  | .shadowEnd => Sys2Proof.Machine.execShadowEnd s
  | .laneStatPublication => Sys2Proof.Machine.execLaneStatPublication s
  | .clpForce h action space addr v => Sys2Proof.Machine.execClpForce h action space addr v s
  | .clpForceAll h => Sys2Proof.Machine.execClpForceAll h s
  | .clpRun h action => Sys2Proof.Machine.execClpRun h action s
  | .clpData h space addr v => Sys2Proof.Machine.execClpData h space addr v s
  | .clpRead h area first count => Sys2Proof.Machine.execClpRead h area first count s
  | .clpCycle l late => Sys2Proof.Machine.execClpCycle l late s
  | .clpWatchdog l => Sys2Proof.Machine.execClpWatchdog l s
  | .retentiveCopyEv => Sys2Proof.Machine.execRetentiveCopyEv s
  | .clpMinoffEnd => Sys2Proof.Machine.execClpMinoffEnd s
  | .iNopInstr l => Sys2Proof.Machine.execINopInstr l s
  | .iLd l sp n qm a => Sys2Proof.Machine.execILd l sp n qm a s
  | .iAnd l sp n qm a => Sys2Proof.Machine.execIAnd l sp n qm a s
  | .iOr l sp n qm a => Sys2Proof.Machine.execIOr l sp n qm a s
  | .iXor l sp n qm a => Sys2Proof.Machine.execIXor l sp n qm a s
  | .iNot l => Sys2Proof.Machine.execINot l s
  | .iBopen l combine => Sys2Proof.Machine.execIBopen l combine s
  | .iBclose l => Sys2Proof.Machine.execIBclose l s
  | .iSt l sp n a => Sys2Proof.Machine.execISt l sp n a s
  | .iSet l sp a => Sys2Proof.Machine.execISet l sp a s
  | .iRst l sp a => Sys2Proof.Machine.execIRst l sp a s
  | .iPedge l a => Sys2Proof.Machine.execIPedge l a s
  | .iNedge l a => Sys2Proof.Machine.execINedge l a s
  | .iTon l t => Sys2Proof.Machine.execITon l t s
  | .iTof l t => Sys2Proof.Machine.execITof l t s
  | .iTp l t => Sys2Proof.Machine.execITp l t s
  | .iTpre l t => Sys2Proof.Machine.execITpre l t s
  | .iTrst l t => Sys2Proof.Machine.execITrst l t s
  | .iCtu l a => Sys2Proof.Machine.execICtu l a s
  | .iCtd l a => Sys2Proof.Machine.execICtd l a s
  | .iCrst l a => Sys2Proof.Machine.execICrst l a s
  | .iCld l a => Sys2Proof.Machine.execICld l a s
  | .iLdw l sp a => Sys2Proof.Machine.execILdw l sp a s
  | .iLdkh l imm => Sys2Proof.Machine.execILdkh l imm s
  | .iStw l sp a => Sys2Proof.Machine.execIStw l sp a s
  | .iStwc l sp a => Sys2Proof.Machine.execIStwc l sp a s
  | .iAdd l sp a => Sys2Proof.Machine.execIAdd l sp a s
  | .iSub l sp a => Sys2Proof.Machine.execISub l sp a s
  | .iMul l sp a => Sys2Proof.Machine.execIMul l sp a s
  | .iDiv l sp a => Sys2Proof.Machine.execIDiv l sp a s
  | .iAndw l sp a => Sys2Proof.Machine.execIAndw l sp a s
  | .iOrw l sp a => Sys2Proof.Machine.execIOrw l sp a s
  | .iXorw l sp a => Sys2Proof.Machine.execIXorw l sp a s
  | .iShl l k => Sys2Proof.Machine.execIShl l k s
  | .iShr l k => Sys2Proof.Machine.execIShr l k s
  | .iCmp l sp n rel a => Sys2Proof.Machine.execICmp l sp n rel a s
  | .iFadd l sp a => Sys2Proof.Machine.execIFadd l sp a s
  | .iFsub l sp a => Sys2Proof.Machine.execIFsub l sp a s
  | .iFmul l sp a => Sys2Proof.Machine.execIFmul l sp a s
  | .iFdiv l sp a => Sys2Proof.Machine.execIFdiv l sp a s
  | .iFmin l sp a => Sys2Proof.Machine.execIFmin l sp a s
  | .iFmax l sp a => Sys2Proof.Machine.execIFmax l sp a s
  | .iFcmp l sp n rel a => Sys2Proof.Machine.execIFcmp l sp n rel a s
  | .iItof l => Sys2Proof.Machine.execIItof l s
  | .iFtoi l => Sys2Proof.Machine.execIFtoi l s
  | .iJmp l t => Sys2Proof.Machine.execIJmp l t s
  | .iJc l t => Sys2Proof.Machine.execIJc l t s
  | .iJnc l t => Sys2Proof.Machine.execIJnc l t s
  | .iEnd l => Sys2Proof.Machine.execIEnd l s
  | .fcuClear h det action => Sys2Proof.Machine.execFcuClear h det action s
  | .fcuArm h secs => Sys2Proof.Machine.execFcuArm h secs s
  | .fcuInject h det flags src => Sys2Proof.Machine.execFcuInject h det flags src s
  | .fcuRead h first count => Sys2Proof.Machine.execFcuRead h first count s
  | .detectorRaise d src detail loc f => Sys2Proof.Machine.execDetectorRaise d src detail loc f s
  | .windowExpiry d => Sys2Proof.Machine.execWindowExpiry d s
  | .csRaiseUnacknowledged d => Sys2Proof.Machine.execCsRaiseUnacknowledged d s
  | .heartbeatTimeout e => Sys2Proof.Machine.execHeartbeatTimeout e s
  | .csHeartbeatTimeout => Sys2Proof.Machine.execCsHeartbeatTimeout s
  | .injectionFire d => Sys2Proof.Machine.execInjectionFire d s
  | .injectionNoPath d => Sys2Proof.Machine.execInjectionNoPath d s
  | .injectionSessionEnd => Sys2Proof.Machine.execInjectionSessionEnd s
  | .evrRead h area first count => Sys2Proof.Machine.execEvrRead h area first count s
  | .evrStream h ring area start first => Sys2Proof.Machine.execEvrStream h ring area start first s
  | .evrClear h areas conf => Sys2Proof.Machine.execEvrClear h areas conf s
  | .evrNote h w0 w1 => Sys2Proof.Machine.execEvrNote h w0 w1 s
  | .recordIntake => Sys2Proof.Machine.execRecordIntake s
  | .recordMirror writeOkA writeOkB => Sys2Proof.Machine.execRecordMirror writeOkA writeOkB s
  | .areaCReloadEnd => Sys2Proof.Machine.execAreaCReloadEnd s
  | .wearCheck forecast => Sys2Proof.Machine.execWearCheck forecast s
  | .keyUpdate h => Sys2Proof.Machine.execKeyUpdate h s
  | .keyPub h slot nonce => Sys2Proof.Machine.execKeyPub h slot nonce s
  | .keyOp h slot op iv => Sys2Proof.Machine.execKeyOp h slot op iv s
  | .keyRead h table first count => Sys2Proof.Machine.execKeyRead h table first count s
  | .keyJtag h => Sys2Proof.Machine.execKeyJtag h s
  | .updOpen h source => Sys2Proof.Machine.execUpdOpen h source s
  | .updData h part offset badA badB => Sys2Proof.Machine.execUpdData h part offset badA badB s
  | .updClose h parts badA badB => Sys2Proof.Machine.execUpdClose h parts badA badB s
  | .updActivate h sec tick => Sys2Proof.Machine.execUpdActivate h sec tick s
  | .updRevert h sec tick => Sys2Proof.Machine.execUpdRevert h sec tick s
  | .updCancel h => Sys2Proof.Machine.execUpdCancel h s
  | .updRecover h source => Sys2Proof.Machine.execUpdRecover h source s
  | .updReport h => Sys2Proof.Machine.execUpdReport h s
  | .recipeExport h flags target badB => Sys2Proof.Machine.execRecipeExport h flags target badB s
  | .recipeImport h source => Sys2Proof.Machine.execRecipeImport h source s
  | .stagingTimeout => Sys2Proof.Machine.execStagingTimeout s
  | .partArmed part => Sys2Proof.Machine.execPartArmed part s
  | .collect ok => Sys2Proof.Machine.execCollect ok s
  | .partSwitch part => Sys2Proof.Machine.execPartSwitch part s
  | .tapReset => Sys2Proof.Machine.execTapReset s
  | .idcode => Sys2Proof.Machine.execIdcode s
  | .bypass => Sys2Proof.Machine.execBypass s
  | .samplePreload pins preload => Sys2Proof.Machine.execSamplePreload pins preload s
  | .extest => Sys2Proof.Machine.execExtest s
  | .clamp => Sys2Proof.Machine.execClamp s
  | .highz => Sys2Proof.Machine.execHighz s
  | .partitionMinoffEnd p => Sys2Proof.Machine.execPartitionMinoffEnd p s
  | .clockReturn clk => Sys2Proof.Machine.execClockReturn clk s
  | .protocolException n => Sys2Proof.Machine.execProtocolException n s
  | .canRxError n code dataPhase plus8 => Sys2Proof.Machine.execCanRxError n code dataPhase plus8 s
  | .baseTick => Sys2Proof.Machine.execBaseTick s
  | .meterSample raw => Sys2Proof.Machine.execMeterSample raw s
  | .calendarEnd => Sys2Proof.Machine.execCalendarEnd s
  | .nodeForget pair src seq => Sys2Proof.Machine.execNodeForget pair src seq s

end Sys2Proof.Machine
end

