-- ==== Sys2Proof/Machine/Step.lean ====
section
/-! DEFINITION. One step of the block: the command at the front of the queue, or a tick of the AON clock while none waits. -/
namespace Sys2Proof.Machine
open Sys2Proof

/-- Take the front command and execute it on the device with the queue's rest; on an empty queue 4 ns pass (log 2). -/
def step (s : State) : Host.Outcome State Fault Refusal :=
  match s.pending with
  | [] => go (elapse 1) s
  | c :: rest => exec c { s with pending := rest }

/-- s with the command that a table word spells put at the front of its queue. -/
def State.withFetchWord (s : State) (nbits w : Nat) : State :=
  match decodeTableWord nbits w with
  | some c => { s with pending := c :: s.pending }
  | none => s

end Sys2Proof.Machine
end

