-- ==== Sys2Proof/Machine/Operands.lean ====
section
/-! DEFINITION. The operands of a command: the ring header of a ring command, and the numbers it carries. -/
namespace Sys2Proof.Machine
open Sys2Proof

/-- The header of a ring command (R125, R126); none for an event, a BAR0 access or an instruction of the cyclic logic. -/
def hdrOf : Instr → Option CmdHdr
  | .bar0Write _ _ _ _ => none
  | .lowWordRead _ _ _ => none
  | .clearOnRead _ _ _ => none
  | .kick _ _ _ => none
  | .lock _ => none
  | .lockCommitEnd _ => none
  | .islCtrlEn _ _ _ => none
  | .ringEnSet _ _ _ => none
  | .ringEnClear _ _ _ => none
  | .canEnWrite _ _ _ => none
  | .sarEnWrite _ _ _ => none
  | .sessEnWrite _ _ _ => none
  | .clpEnWrite _ _ => none
  | .portEnWrite _ _ _ => none
  | .partEnWrite _ _ _ => none
  | .heatEnClear _ _ _ => none
  | .cttCfgWrite _ _ _ => none
  | .ppsTargetWrite _ _ _ => none
  | .loopCtxWrite _ _ _ => none
  | .rtcLoRead _ => none
  | .svcSecLoRead _ => none
  | .capSecLoRead _ _ => none
  | .snapRead _ _ _ => none
  | .curSeqWrite _ _ => none
  | .areaWrite _ _ => none
  | .next _ _ => none
  | .mpgRise _ => none
  | .strapSampling _ _ => none
  | .proofStart _ => none
  | .proofVerdict _ => none
  | .proofDeadline => none
  | .mpgFall => none
  | .wrstN _ _ => none
  | .pfailNFall _ => none
  | .perstAssert _ => none
  | .perstRelease _ => none
  | .portGone _ _ => none
  | .portReturn _ _ => none
  | .hostHeartbeatCheck _ => none
  | .vaux33Fall => none
  | .crustSwitchBack _ => none
  | .crustPowerUp _ _ => none
  | .crustPowerLoss _ => none
  | .batLevelChange _ => none
  | .lowRetLatch => none
  | .scrub _ => none
  | .railOutOfRange _ _ => none
  | .railRecovery _ => none
  | .clockLost _ => none
  | .refclkRecovery => none
  | .canClkRecovery => none
  | .pllLockLost _ _ => none
  | .thermalTrip => none
  | .thermalRead _ => none
  | .throttleStep => none
  | .avsCommand _ _ => none
  | .islandPower h _ _ _ => some h
  | .islandStopEnd _ => none
  | .islandStartEnd _ => none
  | .islandMinoffEnd _ => none
  | .hostReturnTimer => none
  | .actionDelayEnd => none
  | .nop h => some h
  | .regRead h _ _ => some h
  | .cfgWrite h _ _ => some h
  | .stateCmd h _ => some h
  | .startPolicy h _ => some h
  | .benchRead h _ => some h
  | .benchWrite h _ => some h
  | .unlock h => some h
  | .ringSetup h _ _ _ _ _ _ _ _ _ => some h
  | .ringStop h _ => some h
  | .routeSet h _ _ _ => some h
  | .ownSet h _ _ => some h
  | .doorbellPoll _ _ => none
  | .moderationTimeout _ => none
  | .leaseExpiry _ _ _ => none
  | .dcqReaderTimeout _ => none
  | .rtcSet h _ _ => some h
  | .rtcStep => none
  | .cntIncr h _ => some h
  | .tamperCfg h _ => some h
  | .almFire _ => none
  | .compStep _ => none
  | .discipline => none
  | .ponTimeout => none
  | .tamperEvent _ _ _ => none
  | .crpReadStatus => none
  | .crpReadRtc => none
  | .crpReadTampStat => none
  | .crpReadTamperLog => none
  | .crpReadCounters => none
  | .crpReadIdentity => none
  | .crpReadLastGasp _ => none
  | .crpWake _ => none
  | .alertClr _ => none
  | .alertResponse => none
  | .smbusTimeout => none
  | .domSelect h _ _ => some h
  | .portAddr h => some h
  | .portPower h _ _ => some h
  | .tbLoad h _ _ => some h
  | .portStopEnd _ => none
  | .portStartEnd _ => none
  | .portMinoffEnd _ => none
  | .linkChange _ _ _ => none
  | .frameRx _ _ => none
  | .ptpSyncRx _ _ _ => none
  | .announceTimeout _ _ => none
  | .syncTimeout _ => none
  | .ptpTxInterval _ _ _ => none
  | .txtsStale _ => none
  | .prpSupervision _ => none
  | .prpLanTimeout _ _ => none
  | .revertTimer => none
  | .holdValidExpiry => none
  | .temposStart => none
  | .trigCapture _ _ => none
  | .ppsPulse _ => none
  | .ppsCompare _ => none
  | .diagBar0Read _ _ _ _ => none
  | .diagProofReport _ _ _ _ => none
  | .diagFaultRecords _ _ _ _ => none
  | .diagRecorderRecords _ _ _ _ => none
  | .diagCrustStatus _ _ _ _ => none
  | .canPower h _ _ => some h
  | .canTx h _ _ _ _ _ => some h
  | .canCancel h _ _ _ => some h
  | .canRxRead h _ _ _ => some h
  | .canHpbRead h _ => some h
  | .canResume h _ => some h
  | .canBoRecover h _ => some h
  | .canStartEnd _ => none
  | .canStopEnd _ => none
  | .canStopTimeout _ => none
  | .canMinoffEnd _ => none
  | .canFrameRx _ _ _ => none
  | .canTxEnd _ _ _ _ => none
  | .busoffRecoveryEnd _ => none
  | .sleepEntry _ => none
  | .canWake _ => none
  | .sessCfg h _ => some h
  | .sessPower h _ _ => some h
  | .sessRead h _ _ => some h
  | .sessParam h _ _ _ _ => some h
  | .sessBcast h _ _ _ => some h
  | .joinRequest _ _ => none
  | .pollSlot _ => none
  | .pollResponse _ _ => none
  | .respTimeout _ _ => none
  | .joinTimeout _ => none
  | .lostTimeout _ => none
  | .lostPoll _ => none
  | .outConfirmation _ _ => none
  | .alarmPdu _ _ => none
  | .statusAnswer _ _ => none
  | .paramAnswer _ _ => none
  | .leavePdu _ _ => none
  | .sessionStopEnd _ => none
  | .sessMinoffEnd _ => none
  | .timeBroadcast => none
  | .adcInject h _ _ _ _ _ _ _ _ => some h
  | .adcCal h _ _ _ _ => some h
  | .sarService h _ _ => some h
  | .dacCal h _ _ _ => some h
  | .pinLoad h _ _ => some h
  | .sarPass _ _ => none
  | .sarMinoffEnd _ => none
  | .sarSelfcalEnd _ => none
  | .calTimeout _ _ => none
  | .inputStaleTimeout _ _ => none
  | .dioLevelChange _ _ => none
  | .dioMismatch _ => none
  | .pinEdge _ _ => none
  | .rateTimeout _ => none
  | .excOpen _ _ => none
  | .dacOpen _ _ => none
  | .mtrCal h _ _ _ => some h
  | .mtrService h _ _ => some h
  | .mtrStream h _ _ _ _ _ => some h
  | .mtrIvlRead h _ _ _ => some h
  | .meterCycleEnd _ _ => none
  | .meterWindowEnd _ => none
  | .urmsHalfCycle _ => none
  | .meterIntervalClose => none
  | .recordSigning => none
  | .meterCheckpoint => none
  | .poutPulse _ => none
  | .dtfPulse _ => none
  | .mcalTimeout _ => none
  | .dspSelftestEnd _ _ => none
  | .cttTempUpdate _ => none
  | .heatIvlRead h _ _ _ => some h
  | .heatBillRead h _ _ _ => some h
  | .heatBillClose h => some h
  | .heatSample _ => none
  | .heatIntervalClose => none
  | .billingClose => none
  | .modelLoad h => some h
  | .modelAnalysisEnd => none
  | .modelActivate h => some h
  | .modelEdit h _ => some h
  | .modelRead h _ _ _ => some h
  | .modelTick => none
  | .gatherEnd => none
  | .estConverged => none
  | .estDeadline _ _ => none
  | .tdeStep => none
  | .planWaitExpiry => none
  | .fTake => none
  | .partitionDelivery _ => none
  | .solveDeadline _ _ => none
  | .partSet h _ _ _ _ => some h
  | .partSetApply => none
  | .structLoad h _ => some h
  | .structAnalysisEnd _ => none
  | .structActivate h _ => some h
  | .solvDelta h _ _ => some h
  | .solvCtrl h _ _ => some h
  | .solvRead h _ _ _ _ => some h
  | .sdMap h _ => some h
  | .sdRound => none
  | .rampIssue => none
  | .loopMode h _ _ _ => some h
  | .loopSp h _ _ => some h
  | .loopManual h _ _ => some h
  | .loopCoef h _ => some h
  | .loopLimits h _ => some h
  | .loopForce h _ _ _ => some h
  | .loopRead h _ _ => some h
  | .loopSample _ _ _ => none
  | .laneReq h _ _ => some h
  | .safeCmd h _ => some h
  | .laneLogRead h _ _ => some h
  | .lanePublication _ _ => none
  | .voteWindowClose _ => none
  | .csArbitration _ => none
  | .offsetCheck _ => none
  | .readmitStartingEnd => none
  | .readmitSelftestEnd => none
  | .mirrorCheckpoint => none
  | .mirrorTimeout => none
  | .shadowEnd => none
  | .laneStatPublication => none
  | .clpForce h _ _ _ _ => some h
  | .clpForceAll h => some h
  | .clpRun h _ => some h
  | .clpData h _ _ _ => some h
  | .clpRead h _ _ _ => some h
  | .clpCycle _ _ => none
  | .clpWatchdog _ => none
  | .retentiveCopyEv => none
  | .clpMinoffEnd => none
  | .iNopInstr _ => none
  | .iLd _ _ _ _ _ => none
  | .iAnd _ _ _ _ _ => none
  | .iOr _ _ _ _ _ => none
  | .iXor _ _ _ _ _ => none
  | .iNot _ => none
  | .iBopen _ _ => none
  | .iBclose _ => none
  | .iSt _ _ _ _ => none
  | .iSet _ _ _ => none
  | .iRst _ _ _ => none
  | .iPedge _ _ => none
  | .iNedge _ _ => none
  | .iTon _ _ => none
  | .iTof _ _ => none
  | .iTp _ _ => none
  | .iTpre _ _ => none
  | .iTrst _ _ => none
  | .iCtu _ _ => none
  | .iCtd _ _ => none
  | .iCrst _ _ => none
  | .iCld _ _ => none
  | .iLdw _ _ _ => none
  | .iLdkh _ _ => none
  | .iStw _ _ _ => none
  | .iStwc _ _ _ => none
  | .iAdd _ _ _ => none
  | .iSub _ _ _ => none
  | .iMul _ _ _ => none
  | .iDiv _ _ _ => none
  | .iAndw _ _ _ => none
  | .iOrw _ _ _ => none
  | .iXorw _ _ _ => none
  | .iShl _ _ => none
  | .iShr _ _ => none
  | .iCmp _ _ _ _ _ => none
  | .iFadd _ _ _ => none
  | .iFsub _ _ _ => none
  | .iFmul _ _ _ => none
  | .iFdiv _ _ _ => none
  | .iFmin _ _ _ => none
  | .iFmax _ _ _ => none
  | .iFcmp _ _ _ _ _ => none
  | .iItof _ => none
  | .iFtoi _ => none
  | .iJmp _ _ => none
  | .iJc _ _ => none
  | .iJnc _ _ => none
  | .iEnd _ => none
  | .fcuClear h _ _ => some h
  | .fcuArm h _ => some h
  | .fcuInject h _ _ _ => some h
  | .fcuRead h _ _ => some h
  | .detectorRaise _ _ _ _ _ => none
  | .windowExpiry _ => none
  | .csRaiseUnacknowledged _ => none
  | .heartbeatTimeout _ => none
  | .csHeartbeatTimeout => none
  | .injectionFire _ => none
  | .injectionNoPath _ => none
  | .injectionSessionEnd => none
  | .evrRead h _ _ _ => some h
  | .evrStream h _ _ _ _ => some h
  | .evrClear h _ _ => some h
  | .evrNote h _ _ => some h
  | .recordIntake => none
  | .recordMirror _ _ => none
  | .areaCReloadEnd => none
  | .wearCheck _ => none
  | .keyUpdate h => some h
  | .keyPub h _ _ => some h
  | .keyOp h _ _ _ => some h
  | .keyRead h _ _ _ => some h
  | .keyJtag h => some h
  | .updOpen h _ => some h
  | .updData h _ _ _ _ => some h
  | .updClose h _ _ _ => some h
  | .updActivate h _ _ => some h
  | .updRevert h _ _ => some h
  | .updCancel h => some h
  | .updRecover h _ => some h
  | .updReport h => some h
  | .recipeExport h _ _ _ => some h
  | .recipeImport h _ => some h
  | .stagingTimeout => none
  | .partArmed _ => none
  | .collect _ => none
  | .partSwitch _ => none
  | .tapReset => none
  | .idcode => none
  | .bypass => none
  | .samplePreload _ _ => none
  | .extest => none
  | .clamp => none
  | .highz => none
  | .partitionMinoffEnd _ => none
  | .clockReturn _ => none
  | .protocolException _ => none
  | .canRxError _ _ _ _ => none
  | .baseTick => none
  | .meterSample _ => none
  | .calendarEnd => none
  | .nodeForget _ _ _ => none

/-- The numbers among a command's operands. -/
def numsOf : Instr → List Nat
  | .bar0Write _ addr size v => [addr, size, v]
  | .lowWordRead _ addr size => [addr, size]
  | .clearOnRead _ addr size => [addr, size]
  | .kick _ v _ => [v]
  | .lock _ => []
  | .lockCommitEnd _ => []
  | .islCtrlEn _ _ v => [v]
  | .ringEnSet _ _ v => [v]
  | .ringEnClear _ _ v => [v]
  | .canEnWrite _ _ v => [v]
  | .sarEnWrite _ _ v => [v]
  | .sessEnWrite _ _ v => [v]
  | .clpEnWrite _ v => [v]
  | .portEnWrite _ _ v => [v]
  | .partEnWrite _ _ v => [v]
  | .heatEnClear _ _ v => [v]
  | .cttCfgWrite _ _ v => [v]
  | .ppsTargetWrite _ _ v => [v]
  | .loopCtxWrite _ addr v => [addr, v]
  | .rtcLoRead _ => []
  | .svcSecLoRead _ => []
  | .capSecLoRead _ _ => []
  | .snapRead _ _ _ => []
  | .curSeqWrite _ v => [v]
  | .areaWrite _ v => [v]
  | .next _ v => [v]
  | .mpgRise _ => []
  | .strapSampling samples _ => samples
  | .proofStart _ => []
  | .proofVerdict _ => []
  | .proofDeadline => []
  | .mpgFall => []
  | .wrstN lowNs _ => [lowNs]
  | .pfailNFall _ => []
  | .perstAssert _ => []
  | .perstRelease _ => []
  | .portGone _ _ => []
  | .portReturn _ _ => []
  | .hostHeartbeatCheck _ => []
  | .vaux33Fall => []
  | .crustSwitchBack _ => []
  | .crustPowerUp _ _ => []
  | .crustPowerLoss _ => []
  | .batLevelChange mv => [mv]
  | .lowRetLatch => []
  | .scrub _ => []
  | .railOutOfRange _ _ => []
  | .railRecovery rails => [rails]
  | .clockLost _ => []
  | .refclkRecovery => []
  | .canClkRecovery => []
  | .pllLockLost _ _ => []
  | .thermalTrip => []
  | .thermalRead _ => []
  | .throttleStep => []
  | .avsCommand _ _ => []
  | .islandPower _ isl on ret => [isl, on, ret]
  | .islandStopEnd _ => []
  | .islandStartEnd _ => []
  | .islandMinoffEnd _ => []
  | .hostReturnTimer => []
  | .actionDelayEnd => []
  | .nop _ => []
  | .regRead _ count offs => [count] ++ offs
  | .cfgWrite _ count _ => [count]
  | .stateCmd _ action => [action]
  | .startPolicy _ v => [v]
  | .benchRead _ table => [table]
  | .benchWrite _ table => [table]
  | .unlock _ => []
  | .ringSetup _ ring kind log2size cring vector modCount modTime epoch base => [ring, kind, log2size, cring, vector, modCount, modTime, epoch, base]
  | .ringStop _ ring => [ring]
  | .routeSet _ first count words => [first, count] ++ words
  | .ownSet _ mask claim => [mask, claim]
  | .doorbellPoll _ _ => []
  | .moderationTimeout _ => []
  | .leaseExpiry _ _ consumer => [consumer]
  | .dcqReaderTimeout _ => []
  | .rtcSet _ mode secs => [mode, secs]
  | .rtcStep => []
  | .cntIncr _ n => [n]
  | .tamperCfg _ v => [v]
  | .almFire _ => []
  | .compStep _ => []
  | .discipline => []
  | .ponTimeout => []
  | .tamperEvent _ _ heldNs => [heldNs]
  | .crpReadStatus => []
  | .crpReadRtc => []
  | .crpReadTampStat => []
  | .crpReadTamperLog => []
  | .crpReadCounters => []
  | .crpReadIdentity => []
  | .crpReadLastGasp _ => []
  | .crpWake _ => []
  | .alertClr _ => []
  | .alertResponse => []
  | .smbusTimeout => []
  | .domSelect _ dom auto => [dom, auto]
  | .portAddr _ => []
  | .portPower _ port on => [port, on]
  | .tbLoad _ n v => [n, v]
  | .portStopEnd _ => []
  | .portStartEnd _ => []
  | .portMinoffEnd _ => []
  | .linkChange _ _ _ => []
  | .frameRx _ _ => []
  | .ptpSyncRx _ _ _ => []
  | .announceTimeout _ _ => []
  | .syncTimeout _ => []
  | .ptpTxInterval _ _ _ => []
  | .txtsStale _ => []
  | .prpSupervision _ => []
  | .prpLanTimeout _ _ => []
  | .revertTimer => []
  | .holdValidExpiry => []
  | .temposStart => []
  | .trigCapture _ _ => []
  | .ppsPulse _ => []
  | .ppsCompare _ => []
  | .diagBar0Read _ ident off len => [ident, off, len]
  | .diagProofReport _ ident off len => [ident, off, len]
  | .diagFaultRecords _ ident first len => [ident, first, len]
  | .diagRecorderRecords _ ident seq len => [ident, seq, len]
  | .diagCrustStatus _ ident off len => [ident, off, len]
  | .canPower _ ch action => [ch, action]
  | .canTx _ ch obj dlc flags _ => [ch, obj, dlc, flags]
  | .canCancel _ ch obj _ => [ch, obj]
  | .canRxRead _ ch first count => [ch, first, count]
  | .canHpbRead _ ch => [ch]
  | .canResume _ ch => [ch]
  | .canBoRecover _ ch => [ch]
  | .canStartEnd _ => []
  | .canStopEnd _ => []
  | .canStopTimeout _ => []
  | .canMinoffEnd _ => []
  | .canFrameRx _ _ age => [age]
  | .canTxEnd _ _ tdcv age => [tdcv, age]
  | .busoffRecoveryEnd _ => []
  | .sleepEntry _ => []
  | .canWake _ => []
  | .sessCfg _ n => [n]
  | .sessPower _ n action => [n, action]
  | .sessRead _ first count => [first, count]
  | .sessParam _ n rw len param => [n, rw, len, param]
  | .sessBcast _ sub cans ports => [sub, cans, ports]
  | .joinRequest _ _ => []
  | .pollSlot _ => []
  | .pollResponse _ _ => []
  | .respTimeout _ _ => []
  | .joinTimeout _ => []
  | .lostTimeout _ => []
  | .lostPoll _ => []
  | .outConfirmation _ _ => []
  | .alarmPdu _ _ => []
  | .statusAnswer _ _ => []
  | .paramAnswer _ _ => []
  | .leavePdu _ _ => []
  | .sessionStopEnd _ => []
  | .sessMinoffEnd _ => []
  | .timeBroadcast => []
  | .adcInject _ sar cfg tim gain ofs param _ _ => [sar, cfg, tim, gain, ofs, param]
  | .adcCal _ sar entry action ref => [sar, entry, action, ref]
  | .sarService _ sar action => [sar, action]
  | .dacCal _ n gain ofs => [n, gain, ofs]
  | .pinLoad _ n count => [n, count]
  | .sarPass _ _ => []
  | .sarMinoffEnd _ => []
  | .sarSelfcalEnd _ => []
  | .calTimeout _ _ => []
  | .inputStaleTimeout _ _ => []
  | .dioLevelChange _ _ => []
  | .dioMismatch _ => []
  | .pinEdge _ _ => []
  | .rateTimeout _ => []
  | .excOpen _ _ => []
  | .dacOpen _ _ => []
  | .mtrCal _ ch action ref => [ch, action, ref]
  | .mtrService _ k action => [k, action]
  | .mtrStream _ ring period fmask bmask flags => [ring, period, fmask, bmask, flags]
  | .mtrIvlRead _ f first count => [f, first, count]
  | .meterCycleEnd _ _ => []
  | .meterWindowEnd _ => []
  | .urmsHalfCycle _ => []
  | .meterIntervalClose => []
  | .recordSigning => []
  | .meterCheckpoint => []
  | .poutPulse _ => []
  | .dtfPulse _ => []
  | .mcalTimeout _ => []
  | .dspSelftestEnd _ _ => []
  | .cttTempUpdate _ => []
  | .heatIvlRead _ m first count => [m, first, count]
  | .heatBillRead _ m first count => [m, first, count]
  | .heatBillClose _ => []
  | .heatSample _ => []
  | .heatIntervalClose => []
  | .billingClose => []
  | .modelLoad _ => []
  | .modelAnalysisEnd => []
  | .modelActivate _ => []
  | .modelEdit _ count => [count]
  | .modelRead _ table first count => [table, first, count]
  | .modelTick => []
  | .gatherEnd => []
  | .estConverged => []
  | .estDeadline done _ => [done]
  | .tdeStep => []
  | .planWaitExpiry => []
  | .fTake => []
  | .partitionDelivery _ => []
  | .solveDeadline _ done => [done]
  | .partSet _ tiles sram bwE bwF => [bwE, bwF] ++ tiles ++ sram
  | .partSetApply => []
  | .structLoad _ p => [p]
  | .structAnalysisEnd _ => []
  | .structActivate _ p => [p]
  | .solvDelta _ p id => [p, id]
  | .solvCtrl _ p action => [p, action]
  | .solvRead _ p what first count => [p, what, first, count]
  | .sdMap _ count => [count]
  | .sdRound => []
  | .rampIssue => []
  | .loopMode _ n mode src => [n, mode, src]
  | .loopSp _ n v => [n, v]
  | .loopManual _ n v => [n, v]
  | .loopCoef _ n => [n]
  | .loopLimits _ n => [n]
  | .loopForce _ n on v => [n, on, v]
  | .loopRead _ n count => [n, count]
  | .loopSample _ _ _ => []
  | .laneReq _ lane action => [lane, action]
  | .safeCmd _ v => [v]
  | .laneLogRead _ first count => [first, count]
  | .lanePublication _ _ => []
  | .voteWindowClose _ => []
  | .csArbitration _ => []
  | .offsetCheck _ => []
  | .readmitStartingEnd => []
  | .readmitSelftestEnd => []
  | .mirrorCheckpoint => []
  | .mirrorTimeout => []
  | .shadowEnd => []
  | .laneStatPublication => []
  | .clpForce _ action space addr v => [action, space, addr, v]
  | .clpForceAll _ => []
  | .clpRun _ action => [action]
  | .clpData _ space addr v => [space, addr, v]
  | .clpRead _ area first count => [area, first, count]
  | .clpCycle _ _ => []
  | .clpWatchdog _ => []
  | .retentiveCopyEv => []
  | .clpMinoffEnd => []
  | .iNopInstr _ => []
  | .iLd _ _ _ _ a => [a]
  | .iAnd _ _ _ _ a => [a]
  | .iOr _ _ _ _ a => [a]
  | .iXor _ _ _ _ a => [a]
  | .iNot _ => []
  | .iBopen _ _ => []
  | .iBclose _ => []
  | .iSt _ _ _ a => [a]
  | .iSet _ _ a => [a]
  | .iRst _ _ a => [a]
  | .iPedge _ a => [a]
  | .iNedge _ a => [a]
  | .iTon _ t => [t]
  | .iTof _ t => [t]
  | .iTp _ t => [t]
  | .iTpre _ t => [t]
  | .iTrst _ t => [t]
  | .iCtu _ a => [a]
  | .iCtd _ a => [a]
  | .iCrst _ a => [a]
  | .iCld _ a => [a]
  | .iLdw _ _ a => [a]
  | .iLdkh _ imm => [imm]
  | .iStw _ _ a => [a]
  | .iStwc _ _ a => [a]
  | .iAdd _ _ a => [a]
  | .iSub _ _ a => [a]
  | .iMul _ _ a => [a]
  | .iDiv _ _ a => [a]
  | .iAndw _ _ a => [a]
  | .iOrw _ _ a => [a]
  | .iXorw _ _ a => [a]
  | .iShl _ _ => []
  | .iShr _ _ => []
  | .iCmp _ _ _ _ a => [a]
  | .iFadd _ _ a => [a]
  | .iFsub _ _ a => [a]
  | .iFmul _ _ a => [a]
  | .iFdiv _ _ a => [a]
  | .iFmin _ _ a => [a]
  | .iFmax _ _ a => [a]
  | .iFcmp _ _ _ _ a => [a]
  | .iItof _ => []
  | .iFtoi _ => []
  | .iJmp _ t => [t]
  | .iJc _ t => [t]
  | .iJnc _ t => [t]
  | .iEnd _ => []
  | .fcuClear _ det action => [det, action]
  | .fcuArm _ secs => [secs]
  | .fcuInject _ det flags src => [det, flags, src]
  | .fcuRead _ first count => [first, count]
  | .detectorRaise _ src detail loc _ => [src, detail, loc]
  | .windowExpiry _ => []
  | .csRaiseUnacknowledged _ => []
  | .heartbeatTimeout _ => []
  | .csHeartbeatTimeout => []
  | .injectionFire _ => []
  | .injectionNoPath _ => []
  | .injectionSessionEnd => []
  | .evrRead _ area first count => [area, first, count]
  | .evrStream _ ring area start first => [ring, area, start, first]
  | .evrClear _ areas conf => [areas, conf]
  | .evrNote _ w0 w1 => [w0, w1]
  | .recordIntake => []
  | .recordMirror _ _ => []
  | .areaCReloadEnd => []
  | .wearCheck forecast => [forecast]
  | .keyUpdate _ => []
  | .keyPub _ slot _ => [slot]
  | .keyOp _ slot op _ => [slot, op]
  | .keyRead _ table first count => [table, first, count]
  | .keyJtag _ => []
  | .updOpen _ source => [source]
  | .updData _ part offset _ _ => [part, offset]
  | .updClose _ _ _ _ => []
  | .updActivate _ sec tick => [sec, tick]
  | .updRevert _ sec tick => [sec, tick]
  | .updCancel _ => []
  | .updRecover _ source => [source]
  | .updReport _ => []
  | .recipeExport _ flags _ _ => [flags]
  | .recipeImport _ source => [source]
  | .stagingTimeout => []
  | .partArmed part => [part]
  | .collect _ => []
  | .partSwitch part => [part]
  | .tapReset => []
  | .idcode => []
  | .bypass => []
  | .samplePreload _ _ => []
  | .extest => []
  | .clamp => []
  | .highz => []
  | .partitionMinoffEnd _ => []
  | .clockReturn _ => []
  | .protocolException _ => []
  | .canRxError _ _ _ _ => []
  | .baseTick => []
  | .meterSample _ => []
  | .calendarEnd => []
  | .nodeForget _ src _ => [src]

end Sys2Proof.Machine
end

