-- ==== Sys2Proof/WellFormed.lean ====
section
/-! DEFINITION. Which terms of Instr are commands a sender can give: ring headers that fit their port, numbers that fit a 64-bit operand, BAR0 accesses
that fit BAR0 and its words, bytes and counts that fit their command. exec has a meaning for every term; these checks say which terms the interface can carry. -/
namespace Sys2Proof
open Sys2Proof.Machine

/-- A ring header (R110, R125, R126): the ring is one of the port's sixteen, the tag has 32 bits, every buffer lies in a 64-bit address space and is not empty. -/
def CmdHdr.wf (h : CmdHdr) : Bool :=
  h.ring.val / 16 == h.port.val && decide (h.tag < 2 ^ 32) &&
    h.bufs.all fun b => decide (b.1 < 2 ^ 64) && decide (0 < b.2) && decide (b.2 < 2 ^ 32)

/-- A BAR0 access: an address within 32 MiB, a value of 32 bits (R3, R37). -/
def barFits (addr v : Nat) : Bool := decide (addr < 2 ^ 25) && decide (v < 2 ^ 32)

/-- The checks that single commands add. -/
def Instr.ownWf (i : Instr) : Bool :=
  match i with
  | .bar0Write _ a size v => barFits a v && (size == 1 || size == 2 || size == 4 || size == 8)
  | .lowWordRead _ a size => barFits a 0 && (size == 1 || size == 2 || size == 4 || size == 8)
  | .clearOnRead _ a size => barFits a 0 && (size == 1 || size == 2 || size == 4 || size == 8)
  | .loopCtxWrite _ a v => barFits a v
  | .strapSampling l _ => l.length == 8
  | .recipeExport _ _ t _ => t.length == 16
  | .keyPub _ _ n => n.length == 32
  | .keyOp _ _ _ iv => iv.length == 12
  | .thermalRead l => l.length == 12
  | .meterSample l => l.length == 60
  | _ => true

/-- A well-formed command. -/
def Instr.wf (i : Instr) : Bool :=
  (match hdrOf i with
    | some h => h.wf
    | none => true) && (numsOf i).all (fun n => decide (n < 2 ^ 64)) && i.ownWf

end Sys2Proof
end

