-- ==== Sys2Proof/Safety.lean ====
section
/-! DEFINITION. The words in which statements about the block are made: canonical tables, when a ring command is executed, turned away and how it ends,
when an event takes place, and what holds between steps. -/
namespace Sys2Proof.Machine
open Sys2Proof

/-! ### Canonical tables -/

/-- Host memory in its canonical form: addresses strictly rising, no entry equal to what an unlisted address reads as. -/
def Memory.wf (m : SMap Byte) : Bool := sortedKeys m && m.all fun e => e.2 != 0

/-! ### Ring commands -/

/-- The device on which a ring command's own part works: taken from its ring's fetched descriptors and admitted (R128). -/
def begun (sp : CmdSpec) (h : CmdHdr) (d : Dev) : Dev := (admitCmd sp h (popFetched h d)).2
/-- Its configuration sequence number, if it is marked C (R128). -/
def cseqFor (sp : CmdSpec) (h : CmdHdr) (d : Dev) : Option Nat := (admitCmd sp h (popFetched h d)).1

/-- The command is executed: its ring can start it, and none of the common refusals applies (R101, R102, R125, R129, R137). -/
abbrev Ready (sp : CmdSpec) (h : CmdHdr) (s : State) : Prop := canStart h sp.unit sp.op s.dev = true ∧ cmdGate sp h (begun sp h s.dev) = none

/-- How a command's own part ends: its completion is written in this step, or it waits for it (R127, R128). -/
def ended (sp : CmdSpec) (h : CmdHdr) (d0 : Dev) : CmdOut → Dev
  | .done d st ws => settleRing h.ring.val (complete h (cseqFor sp h d0) st ws d)
  | .later d k ws => { d with host := { d.host with waits := d.host.waits ++ [{ hdr := h, cseq := cseqFor sp h d0, kind := k, words := ws }] } }

/-- Executed where `hyp` holds, command i answers a next state: the effect `res` on the device, its completion or its wait, and every raise made taken. -/
def Cmd (sp : CmdSpec) (i : Instr) (h : CmdHdr) (s : State) (hyp : Dev → Prop) (res : Dev → CmdOut) : Prop :=
  Ready sp h s → hyp (begun sp h s.dev) → exec i s = .next { s with dev := settle (ended sp h s.dev (res (begun sp h s.dev))) }

/-- Where its ring can start it and a common refusal applies, command i completes with that refusal's status and no result word, and does nothing else;
a failed buffer transfer is reported through AER too (R129). -/
def TurnedAway (sp : CmdSpec) (i : Instr) (h : CmdHdr) (s : State) : Prop :=
  ∀ st : Nat, canStart h sp.unit sp.op s.dev = true → cmdGate sp h (begun sp h s.dev) = some st →
    exec i s = .next { s with dev := settle (settleRing h.ring.val (complete h (cseqFor sp h s.dev) st []
      (if st = stDmaError then aerNote h.port.val (begun sp h s.dev) else begun sp h s.dev))) }

/-! ### Events and BAR0 accesses -/

/-- Where `hyp` holds, event i answers a next state: the effect f on the device, and every raise made taken. -/
def Event (i : Instr) (s : State) (hyp : Dev → Prop) (f : Dev → Dev) : Prop :=
  hyp s.dev → exec i s = .next { s with dev := settle (f s.dev) }

/-! ### Loops and lanes -/

/-- A LOOP command on loop n is taken: the number exists, a lane is in service, the loop is in use (R423, R425). -/
abbrev LoopOk (n : Nat) (d : Dev) : Prop := n ≤ 1023 ∧ (lowLane d).isSome = true ∧ loopInUse d n = true

/-- Lane l executes instructions: it runs on its grid and its CLP is RUNNING or STOPPING (R432, R434). -/
abbrev ClpRuns (l : Nat) (d : Dev) : Prop := clpRunning d l = true

/-- Lane l has executed an operation; the first ERR after a cycle without one raises EV132 with the instruction's address (R440). -/
def clpTook (op : LaneSt → LaneSt) (l : Nat) (d : Dev) : Dev :=
  let x := laneSt d l
  let d := setLane l (op x) d
  if (op x).clp.err = true ∧ x.clp.err = false ∧ x.clp.prevErr = false then raiseLane l [(132, x.clp.pc, 0)] d else d

/-- Lane l executes instruction i, which changes its CLP to c and nothing else, at the cost of cyc cycles of 2.5 ns (R438). -/
def ClpWrites (i : Instr) (l : Nat) (s : State) (cyc : Nat) (c : ClpSt) : Prop :=
  exec i s = .next { s with dev := settle (setLane l { laneSt s.dev l with clp := { c with pc := (laneSt s.dev l).clp.pc + 1, cycles := (laneSt s.dev l).clp.cycles + cyc } } s.dev) }

/-! ### Session PDUs -/

/-- Where a datagram on port q comes from (R230). -/
def dgSrc (q : Fin 6) (g : Datagram) : PduSrc := { udp := true, chan := q.val, ip := g.ip.getD 0 }

/-- The station that PDU u of such a datagram, of class cls for session n, comes from (R229). -/
def dgStation (n cls : Nat) (q : Fin 6) (g : Datagram) (u : DgPdu) (d : Dev) : PduSrc × Nat := stationOf d n cls (dgSrc q g) u.data

/-- Its sequence is remembered (R229). -/
def tookPdu (n cls : Nat) (q : Fin 6) (g : Datagram) (u : DgPdu) (d : Dev) : Dev := setRxSeq n (dgStation n cls q g u d) u.seq d

/-- A datagram arrives on port q whose one PDU u is whole, of class cls, from the station of session n, and no repeat of its last (R229, R230, R243). -/
abbrev PduArrives (n cls : Nat) (q : Fin 6) (g : Datagram) (u : DgPdu) (d : Dev) : Prop :=
  sessServed d = true ∧ engEth d q.val = true ∧ g.sport = tyridPort d ∧ g.dport = tyridPort d ∧ g.data.length ≤ 1472 ∧
    dgPdus g.data.length g.data = [u] ∧ u.up = true ∧ u.whole = true ∧ u.addr = n ∧ u.cls = cls ∧ lastRxSeq d n (dgStation n cls q g u d) ≠ some u.seq

/-- Session n takes that PDU: it is in use and carried there, the PDU is long enough, from the address learned and in the session's epoch
(R230, R231, R233). -/
abbrev PduOk (n cls : Nat) (q : Fin 6) (g : Datagram) (u : DgPdu) (d : Dev) : Prop :=
  PduArrives n cls q g u d ∧ sessState d n ≠ 0 ∧ pduOurs d n (dgSrc q g) u.data = true ∧ pduLeast d n cls ≤ u.data.length

/-! ### Runs and invariants -/

/-- What holds between steps: no raise waits (R480: a raise's record, reaction and state change begin within 2 µs), and every waiting command is one
that a sender can give. -/
def Inv (s : State) : Prop := s.dev.fcu.todo = [] ∧ s.pending.all Instr.wf = true

/-- n steps; none when one of them stops. -/
def run : Nat → State → Option State
  | 0, s => some s
  | n + 1, s => match step s with
    | .next t => run n t
    | _ => none

/-- The buffer of a Bench table that is not current (R28). -/
def BenchTab.other (b : BenchTab) : BenchBuf := if b.cur then b.buf0 else b.buf1

end Sys2Proof.Machine
end

