-- ==== Sys2Proof/Certificates/Slice0/Obligations.lean ====
section
/-! DEFINITION. The statements about the block: for every family of commands where its commands complete and with what effect, and the rules of the spec on the
queue, the registers, host memory, the Bench, the recorder, the FCU, the lanes and their logic, metering and keys. -/
open Sys2Proof Sys2Proof.Machine

/-- Reset triggers, strap sampling, Proof and its verdict take effect. In the states named, a power-good rise, a strap sampling, the start of Proof, its verdict, its deadline, WRST_N and a power-fail warning each answer the next state that their own rule gives. (R45, R47, R90, R92, R93, R95, R97, R51, R52) -/
def Obligations.ResetsAndProofComplete : Prop :=
  (∀ (testmode : Bool) (s : State), Event (.mpgRise testmode) s (fun d => opState d = 1 ∧ d.crust.vaux = true ∧ d.pwr.heldRail = false ∧ d.pwr.tripHold = false ∧ bitOf (d.rd PWR.CLK_STAT.PRESENT) 0 = true) (fun d => resetDies 1 8 { d with pins := { d.pins with mpg := true, testmode := testmode }, crust := { d.crust with waking := false, ponctl := true } })) ∧
  (∀ (samples : List Nat) (safeOk : Bool) (s : State), Event (.strapSampling samples safeOk) s (fun d => inProof d = true ∧ d.pins.strapped = false) (fun d => loadSafeLatches safeOk (latchStraps samples d))) ∧
  (∀ (samples : List Nat) (safeOk : Bool) (s : State), Event (.strapSampling samples safeOk) s (fun d => d.pins.strapped = true) (fun d => 
      let last := (samples.getLast?.getD d.pins.straps) % 32
      { d with pins := { d.pins with straps := last } }.wr GLB.STRAP.LIVE last)) ∧
  (∀ (w : Witness) (s : State), Event (.proofStart w) s (fun d => inProof d = true ∧ d.boot.proofRun = false) (fun d => 
      let d := checkWitness w d
      let d := copyLastGasp (gapRecord (if d.crust.lossUnreported then reloadCrust d else d))
      let d := if d.crust.lossEvent then raiseEv 21 0 0 { d with crust := { d.crust with lossEvent := false } } else d
      let d := recordEnded d
      { d with boot := { d.boot with proofRun := true, findings := d.boot.findings ++ d.crust.restartDets.map fun n => ({ det := n, src := 1 } : Raise) }, crust := { d.crust with restartDets := [] } })) ∧
  (∀ (r : ProofResult) (s : State), Event (.proofVerdict r) s (fun d => inProof d ∧ d.boot.proofRun) (fun d => proofVerdictEffect r d)) ∧
  (∀ (s : State), Event .proofDeadline s (fun d => inProof d = true ∧ d.boot.hangs = 0) (fun d => (resetDies 2 6 (lastGasp 0x015 1 0 { d with boot := { d.boot with hangs := 1 } })).wr GLB.STATE.HANG_RETRY 1)) ∧
  (∀ (s : State), Event .proofDeadline s (fun d => inProof d = true ∧ 0 < d.boot.hangs) (fun d => 
      let n := d.boot.hangs + 1
      let d := lastGasp 0x015 n 0 { d with boot := { d.boot with hangs := n } }
      alertSet 4 ({ d with pwr := { d.pwr with heldHang := true }, boot := { d.boot with proofRun := false } }.wr CRUST.STATUS.PROOF_HUNG 1))) ∧
  (∀ (s : State), Event .mpgFall s (fun d => d.crust.vaux = true ∧ opState d ≠ 0 ∧ d.flag CRUST.RTC_CFG.PON_MODE = false) (fun d => 
      let d : Dev := { d with pins := { d.pins with mpg := false, strapped := false }, pwr := { d.pwr with heldClk := false, heldHang := false } }
      { d.wr GLB.STATE.STATE 1 with host := { d.host with waits := [] } })) ∧
  (∀ (lowNs : Nat) (s : State), Event (.wrstN lowNs false) s (fun d => d.crust.vaux = true ∧ d.pins.mpg = true ∧ 1 < opState d ∧ 10000 ≤ lowNs ∧ d.pwr.heldRail = false ∧ d.pwr.heldClk = false ∧ d.pwr.tripHold = false) (fun d => resetDies 2 0 d)) ∧
  (∀ (s : State), Event .mpgFall s (fun d => d.crust.vaux = false) (fun d => { d with pins := { d.pins with mpg := false } })) ∧
  (∀ (s : State), Event (.pfailNFall false) s (fun d => d.crust.vaux = true ∧ dieRunning d = true) (fun d => flushMirror (pfailHook (lastGasp 0x010 0 0 { d with pins := { d.pins with pfail := false } })))) ∧
  (∀ (mpgToo : Bool) (s : State), Event (.pfailNFall mpgToo) s (fun d => d.crust.vaux = true ∧ 1 < opState d ∧ (mpgToo = true ∨ d.pwr.heldDie = true)) (fun d => lastGasp 0x010 0 0 { d with pins := { d.pins with pfail := false } }))

/-- Rails, clocks, PLLs and the trip comparator take effect. A rail leaving its range, its return, a lost clock or PLL, the thermal readings and the trip each answer the next state of their rule, class by class of rail and clock. (R61, R63, R75, R76, R77, R82, R83, R85, R86) -/
def Obligations.RailsClocksComplete : Prop :=
  (∀ (r : Fin 12) (order : Bool) (s : State), Event (.railOutOfRange r order) s (fun d => d.crust.vaux = true ∧ dieRunning d = true ∧ railClass r.val = 0) (fun d => 
      let d := d.wr PWR.RAIL_STAT.GOOD (setBit (d.rd PWR.RAIL_STAT.GOOD) r.val false)
      let d := d.wr PWR.RAIL_STAT.VIOL (setBit (d.rd PWR.RAIL_STAT.VIOL) r.val true)
      let d := if order then d.wr PWR.RAIL_STAT.VIOL (setBit (d.rd PWR.RAIL_STAT.VIOL) r.val true) else d
      let d := lastGasp 0x011 (d.rd PWR.RAIL_STAT.GOOD) 0 d
      raiseAtRestart r.val (applySafe 4 { d with pwr := { d.pwr with heldRail := true } }))) ∧
  (∀ (r : Fin 12) (order : Bool) (s : State), Event (.railOutOfRange r order) s (fun d => d.crust.vaux = true ∧ dieRunning d = true ∧ railClass r.val = 1 ∧ islState d 9 ≠ 0) (fun d => 
      let d := d.wr PWR.RAIL_STAT.GOOD (setBit (d.rd PWR.RAIL_STAT.GOOD) r.val false)
      let d := d.wr PWR.RAIL_STAT.VIOL (setBit (d.rd PWR.RAIL_STAT.VIOL) r.val true)
      let d := if order then d.wr PWR.RAIL_STAT.VIOL (setBit (d.rd PWR.RAIL_STAT.VIOL) r.val true) else d
      let d := lastGasp 0x011 (d.rd PWR.RAIL_STAT.GOOD) 0 d
      raise r.val 0 (nowOff 9 (d.wr (PWR.ISL_STAT.CAUSE 9) 0)))) ∧
  (∀ (r : Fin 12) (order : Bool) (s : State), Event (.railOutOfRange r order) s (fun d => d.crust.vaux = true ∧ dieRunning d = true ∧ railClass r.val = 2) (fun d => 
      let d := d.wr PWR.RAIL_STAT.GOOD (setBit (d.rd PWR.RAIL_STAT.GOOD) r.val false)
      let d := d.wr PWR.RAIL_STAT.VIOL (setBit (d.rd PWR.RAIL_STAT.VIOL) r.val true)
      let d := if order then d.wr PWR.RAIL_STAT.VIOL (setBit (d.rd PWR.RAIL_STAT.VIOL) r.val true) else d
      let d := lastGasp 0x011 (d.rd PWR.RAIL_STAT.GOOD) 0 d
      raise r.val 0 (linksLost d))) ∧
  (∀ (r : Fin 12) (order : Bool) (s : State), Event (.railOutOfRange r order) s (fun d => d.crust.vaux = true ∧ dieRunning d = true ∧ railClass r.val = 3) (fun d => 
      let d := d.wr PWR.RAIL_STAT.GOOD (setBit (d.rd PWR.RAIL_STAT.GOOD) r.val false)
      let d := d.wr PWR.RAIL_STAT.VIOL (setBit (d.rd PWR.RAIL_STAT.VIOL) r.val true)
      let d := if order then d.wr PWR.RAIL_STAT.VIOL (setBit (d.rd PWR.RAIL_STAT.VIOL) r.val true) else d
      let d := lastGasp 0x011 (d.rd PWR.RAIL_STAT.GOOD) 0 d
      raise r.val 0 (memoryLost d))) ∧
  (∀ (r : Fin 12) (order : Bool) (s : State), Event (.railOutOfRange r order) s (fun d => d.crust.vaux = true ∧ dieRunning d = false ∧ railClass r.val ≠ 4) (fun d => 
      let d := d.wr PWR.RAIL_STAT.GOOD (setBit (d.rd PWR.RAIL_STAT.GOOD) r.val false)
      let d := if order then d.wr PWR.RAIL_STAT.VIOL (setBit (d.rd PWR.RAIL_STAT.VIOL) r.val true) else d
      { d with pwr := { d.pwr with heldRail := true } })) ∧
  (∀ (r : Fin 12) (order : Bool) (s : State), Event (.railOutOfRange r order) s (fun d => d.crust.vaux = false ∧ railClass r.val ≠ 4) (fun d => d)) ∧
  (∀ (order : Bool) (s : State), Event (.railOutOfRange 0 order) s (fun _ => True) (fun d => vauxLost d)) ∧
  (∀ (order : Bool) (s : State), Event (.railOutOfRange 11 order) s (fun _ => True) (fun d => batLevel true true d)) ∧
  (∀ (rails : Nat) (s : State), Event (.railRecovery rails) s (fun d => d.pwr.heldRail = true ∧ d.pwr.heldClk = false ∧ d.pwr.heldHang = false ∧ d.pwr.tripHold = false ∧ d.crust.vaux = true ∧ d.pins.mpg = true ∧ bitOf (d.rd PWR.CLK_STAT.PRESENT) 0 = true ∧ railsGood (d.wr PWR.RAIL_STAT.GOOD (d.rd PWR.RAIL_STAT.GOOD ||| rails / 2 % 1024 * 2)) = true) (fun d => 
      let d := d.wr PWR.RAIL_STAT.GOOD (d.rd PWR.RAIL_STAT.GOOD ||| rails / 2 % 1024 * 2)
      resetDies 1 2 { d with pwr := { d.pwr with heldRail := false }, crust := { d.crust with waking := false, ponctl := true } })) ∧
  (∀ (n : Fin 8) (s : State), Event (.clockLost n) s (fun d => dieRunning d = true ∧ n ≠ 0) (fun d => 
      let d := d.wr PWR.CLK_STAT.PRESENT (setBit (d.rd PWR.CLK_STAT.PRESENT) n.val false)
      let d := d.wr PWR.CLK_STAT.LOSS (setBit (d.rd PWR.CLK_STAT.LOSS) n.val true)
      raise (12 + n.val) 0 (clockLossHook n.val (clockLinks n.val d)))) ∧
  (∀ (s : State), Event (.clockLost 0) s (fun d => dieRunning d = true) (fun d => 
      let d := d.wr PWR.CLK_STAT.PRESENT (setBit (d.rd PWR.CLK_STAT.PRESENT) 0 false)
      let d := lastGasp 0x012 0 0 (d.wr PWR.CLK_STAT.LOSS (setBit (d.rd PWR.CLK_STAT.LOSS) 0 true))
      raiseAtRestart 12 (applySafe 4 { d with pwr := { d.pwr with heldClk := true } }))) ∧
  (∀ (s : State), Event (.clockLost 0) s (fun d => d.pwr.heldDie = true ∧ 2 ≤ opState d) (fun d => 
      let d := d.wr PWR.CLK_STAT.PRESENT (setBit (d.rd PWR.CLK_STAT.PRESENT) 0 false)
      let d := d.wr PWR.CLK_STAT.LOSS (setBit (d.rd PWR.CLK_STAT.LOSS) 0 true)
      { d with pwr := { d.pwr with heldClk := true } })) ∧
  (∀ (s : State), Event .refclkRecovery s (fun d => d.pwr.heldClk = true ∧ d.pwr.heldRail = false ∧ d.pwr.heldHang = false ∧ d.pwr.tripHold = false ∧ 1 < opState d) (fun d => 
      let d := d.wr PWR.CLK_STAT.PRESENT (setBit (d.rd PWR.CLK_STAT.PRESENT) 0 true)
      warmReset 1 { d with pwr := { d.pwr with heldClk := false } })) ∧
  (∀ (clk : Fin 8) (s : State), Event (.clockReturn clk) s (fun _ => True) (fun d => clockReturnHook clk.val (d.wr PWR.CLK_STAT.PRESENT (setBit (d.rd PWR.CLK_STAT.PRESENT) clk.val true)))) ∧
  (∀ (i : Fin 7) (s : State), Event (.pllLockLost i false) s (fun d => dieRunning d = true ∧ i ≠ 5 ∧ bitOf (d.rd PWR.CLK_STAT.LOCK) i.val = true) (fun d => raise (20 + i.val) 0 (d.wr PWR.CLK_STAT.LOCK (setBit (d.rd PWR.CLK_STAT.LOCK) i.val false)))) ∧
  (∀ (s : State), Event (.pllLockLost 5 false) s (fun d => dieRunning d = true ∧ bitOf (d.rd PWR.CLK_STAT.LOCK) 5 = true) (fun d => 
      let d := lastGasp 0x012 0 0 (d.wr PWR.CLK_STAT.LOCK (setBit (d.rd PWR.CLK_STAT.LOCK) 5 false))
      raiseAtRestart 25 (applySafe 4 { d with pwr := { d.pwr with heldClk := true } }))) ∧
  (∀ (i : Fin 7) (s : State), Event (.pllLockLost i true) s (fun _ => True) (fun d => d.wr PWR.CLK_STAT.LOCK (setBit (d.rd PWR.CLK_STAT.LOCK) i.val true))) ∧
  (∀ (s : State), Event .thermalTrip s (fun d => dieRunning d = true) (fun d => 
      let d := raiseAtRestart 30 (applySafe 4 (lastGasp 0x013 0 0 (d.wr PWR.THERM_STAT.TRIP_SEEN 1)))
      let d := [2, 3, 4, 5, 6, 7, 8, 10, 11, 12, 13].foldl (fun (d : Dev) n => offHook n (d.wr (PWR.ISL_STAT.STATE n) 0)) d
      { d with pwr := { d.pwr with tripHold := true }, host := { d.host with waits := [] } })) ∧
  (∀ (temps : List Int) (s : State), Event (.thermalRead temps) s (fun d => dieRunning d ∧ temps ≠ []) (fun d => thermalReadEffect temps d)) ∧
  (∀ (s : State), Event .throttleStep s (fun d => d.pwr.solvSteps + d.pwr.appSteps ≠ 0 ∧ tThr d ≤ tj d ∧ d.pwr.stepTj ≤ tj d) (fun d => stepDown d)) ∧
  (∀ (s : State), Event .throttleStep s (fun d => d.pwr.solvSteps + d.pwr.appSteps ≠ 0 ∧ tj d < tThr d ∧ tj d ≤ tThr d - tHyst d) (fun d => stepUp d)) ∧
  (∀ (n : Fin 14) (s : State), Event (.dcqReaderTimeout n) s (fun _ => True) (fun d => raise 91 n.val { d with pwr := { d.pwr with dcqStopped := if d.pwr.dcqStopped.contains n.val then d.pwr.dcqStopped else d.pwr.dcqStopped ++ [n.val] } }))

/-- Island power, AVSBus and delayed actions take effect. Island switching by command and by register, the ends of its phases, AVSBus commands and the actions that begin 100 µs after their completion each answer the next state of their rule. (R65, R66, R69, R70, R71, R72, R74, R130, R132) -/
def Obligations.IslandsAvsComplete : Prop :=
  (∀ (p : Fin 2) (n : Fin 14) (v : Nat) (s : State), Event (.islCtrlEn p n v) s (fun d => writable p.val (0x200100 + 4 * n.val) d = true) (fun d => islCtrlWrite p.val n.val v d)) ∧
  (∀ (n : Fin 14) (s : State), Event (.islandStopEnd n) s (fun d => islState d n.val = 3) (fun d => nowOff n.val d)) ∧
  (∀ (n : Fin 14) (s : State), Event (.islandStartEnd n) s (fun d => islState d n.val = 1 ∧ look (finishIsland n.val true (onHook n.val (d.wr (PWR.ISL_STAT.STATE n.val) 2))).pwr.waitOff n.val = none) (fun d => finishIsland n.val true (onHook n.val (d.wr (PWR.ISL_STAT.STATE n.val) 2)))) ∧
  (∀ (n : Fin 14) (c : Nat) (s : State), Event (.islandStartEnd n) s (fun d => islState d n.val = 1 ∧ look (finishIsland n.val true (onHook n.val (d.wr (PWR.ISL_STAT.STATE n.val) 2))).pwr.waitOff n.val = some c ∧ c ≠ causeUpd ∧ laneAtWork (finishIsland n.val true (onHook n.val (d.wr (PWR.ISL_STAT.STATE n.val) 2))) n.val = false) (fun d => beginStop n.val c (finishIsland n.val true (onHook n.val (d.wr (PWR.ISL_STAT.STATE n.val) 2))))) ∧
  (∀ (n : Fin 14) (c : Nat) (s : State), Event (.islandStartEnd n) s (fun d => islState d n.val = 1 ∧ look (finishIsland n.val true (onHook n.val (d.wr (PWR.ISL_STAT.STATE n.val) 2))).pwr.waitOff n.val = some c ∧ c ≠ causeUpd ∧ laneAtWork (finishIsland n.val true (onHook n.val (d.wr (PWR.ISL_STAT.STATE n.val) 2))) n.val = true) (fun d => 
      let d := finishIsland n.val true (onHook n.val (d.wr (PWR.ISL_STAT.STATE n.val) 2))
      hostLaneOff (n.val - 3) { d with pwr := { d.pwr with waitOff := del n.val d.pwr.waitOff } })) ∧
  (∀ (n : Fin 14) (s : State), Event (.islandMinoffEnd n) s (fun d => islState d n.val = 0 ∧ d.flag (PWR.ISL_STAT.PENDING_REARM n.val) = true ∧ held d n.val = false) (fun d => beginStart n.val (d.wr (PWR.ISL_STAT.MINOFF n.val) 0))) ∧
  (∀ (s : State), Event .hostReturnTimer s (fun d => d.host.returnSecs.isSome = true ∧ held d 12 = false ∧ islState d 12 = 0 ∧ d.flag (PWR.ISL_STAT.MINOFF 12) = false) (fun d => beginStart 12 ({ d with host := { d.host with returnSecs := none } }.wr (PWR.ISL_STAT.CAUSE 12) causeTimer))) ∧
  (∀ (rest : List Delayed) (s : State), Event .actionDelayEnd s (fun d => d.host.delayed = .warmReset :: rest) (fun d => warmReset 5 { d with host := { d.host with delayed := rest } })) ∧
  (∀ (rest : List Delayed) (s : State), Event .actionDelayEnd s (fun d => d.host.delayed = .retryProof :: rest) (fun d => warmReset 4 { d with host := { d.host with delayed := rest } })) ∧
  (∀ (rest : List Delayed) (secs : Nat) (s : State), Event .actionDelayEnd s (fun d => d.host.delayed = .hostOff secs :: rest) (fun d => requestOff 12 causeHost { d with host := { d.host with delayed := rest, returnSecs := some secs } })) ∧
  (∀ (h : CmdHdr) (isl ret : Nat) (s : State), Cmd { unit := 0, op := 6, c := true, kw := true } (.islandPower h isl 1 ret) h s (fun d => 2 ≤ isl ∧ isl ≤ 13 ∧ held d isl = false ∧ islState (requestOn isl d) isl ≠ 2 ∧ (requestOn isl d).flag (PWR.ISL_STAT.PENDING_REARM isl) = false) (fun d => .later (requestOn isl d) (.island isl true) [])) ∧
  (∀ (h : CmdHdr) (isl ret : Nat) (s : State), Cmd { unit := 0, op := 6, c := true, kw := true } (.islandPower h isl 0 ret) h s (fun d => 2 ≤ isl ∧ isl ≤ 13 ∧ isl ≠ 12 ∧ laneAtWork d isl = false ∧ held d isl = false ∧ islState (requestOff isl causeHost d) isl ≠ 0) (fun d => .later (requestOff isl causeHost d) (.island isl false) [])) ∧
  (∀ (h : CmdHdr) (isl ret : Nat) (s : State), Cmd { unit := 0, op := 6, c := true, kw := true } (.islandPower h isl 0 ret) h s (fun d => laneAtWork d isl = true ∧ 2 ≤ inServ d - b2n (laneIn d (isl - 3))) (fun d => 
      let d := hostLaneOff (isl - 3) d
      .done d stOK [islWord d isl])) ∧
  (∀ (h : CmdHdr) (ret : Nat) (s : State), Cmd { unit := 0, op := 6, c := true, kw := true } (.islandPower h 12 0 ret) h s (fun d => 1 ≤ ret ∧ ret ≤ 600 ∧ held d 12 = false ∧ islState d 12 ≠ 0) (fun d => .done { d with host := { d.host with delayed := d.host.delayed ++ [.hostOff ret] } } stOK [islWord d 12])) ∧
  (∀ (c : AvsCmd) (answer : Option Nat) (s : State), Event (.avsCommand c answer) s (fun d => dieRunning d) (fun d => avsCommandEffect c answer d))

/-- The TAP instructions take effect. Every TAP instruction selects its data register; the driving ones take the balls in Rack state and act as BYPASS elsewhere. (R584) -/
def Obligations.JtagComplete : Prop :=
  (∀ (s : State), Event .tapReset s (fun _ => True) (fun d => tapSelect 0 0 0 (bitList 32 Config.idCode) d)) ∧
  (∀ (s : State), Event .idcode s (fun _ => True) (fun d => tapSelect 0 0 0 (bitList 32 Config.idCode) d)) ∧
  (∀ (s : State), Event .bypass s (fun _ => True) (fun d => tapSelect 1 1 0 [false] d)) ∧
  (∀ (pins preload : List Bool) (s : State), Event (.samplePreload pins preload) s (fun _ => True) (fun d => tapSelect 2 2 0 pins { d with pins := { d.pins with bsr := preload } })) ∧
  (∀ (s : State), Event .extest s (fun d => opState d = 5) (fun d => tapSelect 3 2 1 d.pins.bsr d)) ∧
  (∀ (s : State), Event .clamp s (fun d => opState d = 5) (fun d => tapSelect 4 1 2 [false] d)) ∧
  (∀ (s : State), Event .highz s (fun d => opState d = 5) (fun d => tapSelect 5 1 3 [false] d)) ∧
  (∀ (s : State), Event .extest s (fun d => opState d ≠ 5) (fun d => tapSelect 1 1 0 [false] d))

/-- Reads and writes of registers with effects of their own. A BAR0 access that its routing admits has the effect of its register: a read answers and latches or clears, a write changes the fields and sets off what the register's change sets off. (R3, R4, R7, R113, R119, R123, R198, R514, R595) -/
def Obligations.RegisterAccessComplete : Prop :=
  (∀ (p : Fin 2) (addr size v : Nat) (s : State), Event (.bar0Write p addr size v) s (fun _ => size = 4 ∧ addr % 4 = 0) (fun d => barWrite p.val addr v d)) ∧
  (∀ (p : Fin 2) (addr size : Nat) (s : State), Event (.lowWordRead p addr size) s (fun _ => True) (fun d => answerRead p.val addr size d)) ∧
  (∀ (p : Fin 2) (addr size : Nat) (s : State), Event (.clearOnRead p addr size) s (fun _ => True) (fun d => answerRead p.val addr size d)) ∧
  (∀ (p : Fin 2) (v : Nat) (link : LinkRes) (s : State), Event (.kick p v link) s (fun d => writable p.val 0x100000 d = true) (fun d => kickWrite p.val v link d)) ∧
  (∀ (p : Fin 2) (s : State), Event (.lock p) s (fun d => writable p.val 0x60 d = true) (fun d => lockWrite 1 d)) ∧
  (∀ (ok : Bool) (s : State), Event (.lockCommitEnd ok) s (fun d => d.boot.committing) (fun d => 
      let d : Dev := { d.wr GLB.LOCK.BUSY 0 with boot := { d.boot with committing := false } }
      if ok then
        let d : Dev := { d with emram := overlay (allSettings d) (keepKeys (fun k => !settingKey k) d.emram), boot := { d.boot with committedLocked := true } }
        raiseEv 6 0 0 ((d.wr GLB.LOCK.LOCK 1).wr GLB.LOCK.COMMIT_ERR 0)
      else raise 31 0 (raiseEv 6 0 0 (d.wr GLB.LOCK.COMMIT_ERR 1)))) ∧
  (∀ (p : Fin 2) (n : Fin 32) (v : Nat) (s : State), Event (.ringEnSet p n v) s (fun d => writable p.val (ringCfgAddr n.val) d = true) (fun d => ringCfgBar p.val n.val (v ||| 2 ^ 31) d)) ∧
  (∀ (p : Fin 2) (n : Fin 32) (v : Nat) (s : State), Event (.ringEnClear p n v) s (fun d => writable p.val (ringCfgAddr n.val) d = true) (fun d => ringCfgBar p.val n.val (v % 2 ^ 31) d)) ∧
  (∀ (p : Fin 2) (n : Fin 16) (v : Nat) (s : State), Event (.canEnWrite p n v) s (fun d => writable p.val (0x800000 + 0x10000 * n.val) d = true) (fun d => 
      let was := d.flag (CAN.CTRL.EN n.val)
      let (d', refused) := writeFields false (0x800000 + 0x10000 * n.val) v d
      canEnEffect n.val was (if refused then ignoreWrite p.val (0x800000 + 0x10000 * n.val) d' else d'))) ∧
  (∀ (p : Fin 2) (k : Fin 2) (v : Nat) (s : State), Event (.sarEnWrite p k v) s (fun d => writable p.val (0xC00000 + 0x40 * k.val) d = true) (fun d => 
      let was := d.flag (PIO.SAR.CTRL.EN k.val)
      let (d', refused) := writeFields false (0xC00000 + 0x40 * k.val) v d
      sarCtrlEffect k.val was (if refused then ignoreWrite p.val (0xC00000 + 0x40 * k.val) d' else d'))) ∧
  (∀ (p : Fin 2) (n : Fin 4096) (v : Nat) (s : State), Event (.sessEnWrite p n v) s (fun d => writable p.val (sessCtx n.val) d = true) (fun d => 
      let was := sessEn d n.val
      let (d', refused) := writeFields false (sessCtx n.val) v d
      sessEnEffect p.val n.val was (if refused then ignoreWrite p.val (sessCtx n.val) d' else d'))) ∧
  (∀ (p : Fin 2) (v : Nat) (s : State), Event (.clpEnWrite p v) s (fun d => writable p.val 0xF00000 d = true) (fun d => 
      let was := lflag d CLP.CFG.EN
      let ticks := lrd d CLP.CFG.MIN_TICKS
      let (d', refused) := writeFields false 0xF00000 v d
      let d' := if refused then ignoreWrite p.val 0xF00000 d' else d'
      clpCfgEffect was ticks d')) ∧
  (∀ (p : Fin 2) (q : Fin 6) (v : Nat) (s : State), Event (.portEnWrite p q v) s (fun d => writable p.val (0xA00000 + 0x100 * q.val) d = true) (fun d => 
      let was := d.flag (ETH.PORT.CFG.EN q.val)
      let (d', refused) := writeFields false (0xA00000 + 0x100 * q.val) v d
      portEnEffect q.val was (if refused then ignoreWrite p.val (0xA00000 + 0x100 * q.val) d' else d'))) ∧
  (∀ (port : Fin 2) (p : Fin 2) (v : Nat) (s : State), Event (.partEnWrite port p v) s (fun d => writable port.val (0x1000100 + 0x80 * p.val) d = true) (fun d => 
      let was := d.flag (SOLV.PART.CTRL.EN p.val)
      let (d', refused) := writeFields false (0x1000100 + 0x80 * p.val) v d
      partEnEffect p.val was (if refused then ignoreWrite port.val (0x1000100 + 0x80 * p.val) d' else d'))) ∧
  (∀ (p : Fin 2) (m : Fin 256) (v : Nat) (s : State), Event (.heatEnClear p m v) s (fun d => writable p.val (0xD10000 + 0x80 * m.val) d = true) (fun d => 
      let m := m.val
      let (d', refused) := writeFields false (0xD10000 + 0x80 * m) v d
      if refused then ignoreWrite p.val (0xD10000 + 0x80 * m) d' else heatCfgEffect m d d')) ∧
  (∀ (p : Fin 2) (t : Fin 32) (v : Nat) (s : State), Event (.cttCfgWrite p t v) s (fun d => writable p.val (0xD03000 + 0x80 * t.val) d = true) (fun d => 
      let (d, refused) := writeFields false (0xD03000 + 0x80 * t.val) v d
      if refused then ignoreWrite p.val (0xD03000 + 0x80 * t.val) d else cttEffect t.val d)) ∧
  (∀ (p : Fin 2) (k : Fin 2) (v : Nat) (s : State), Event (.ppsTargetWrite p k v) s (fun d => writable p.val (0x60030C + 0x10 * k.val) d = true) (fun d => 
      let (d, refused) := writeFields false (0x60030C + 0x10 * k.val) v d
      if refused then ignoreWrite p.val (0x60030C + 0x10 * k.val) d else ppsArm k.val d)) ∧
  (∀ (p : Fin 2) (addr v : Nat) (s : State), Event (.loopCtxWrite p addr v) s (fun _ => 0xE10000 ≤ addr ∧ addr < 0xE50000 ∧ addr % 4 = 0) (fun d => guardWrite p.val addr (loopCtxWriteOp p.val addr (v % 2 ^ 32)) d)) ∧
  (∀ (p : Fin 2) (s : State), Event (.rtcLoRead p) s (fun _ => True) (fun d => answerRead p.val 0x500010 4 d)) ∧
  (∀ (p : Fin 2) (s : State), Event (.svcSecLoRead p) s (fun _ => True) (fun d => answerRead p.val 0x600000 4 d)) ∧
  (∀ (p k : Fin 2) (c : Capture) (rest : List Capture) (s : State), Event (.capSecLoRead p k) s (fun d => blockOn d 6 = true ∧ lookD d.time.trigQ k.val [] = c :: rest) (fun d => 
      let a := 0x600344 + 0x10 * k.val
      let v := addressedBytes a 4 (liveWord p.val a d)
      let d := { d with time := { d.time with trigQ := ins k.val rest d.time.trigQ, capLatch := ins (4 * p.val + k.val) c d.time.capLatch } }.wr (TIME.TRIG.CFG.LEVEL k.val) rest.length
      { d with host := { d.host with rdata := ins p.val v d.host.rdata } })) ∧
  (∀ (p : Fin 2) (f : Fin 16) (r : Fin 8) (s : State), Event (.snapRead p f r) s (fun _ => True) (fun d => answerRead p.val (0xD01088 + 0x100 * f.val + 4 * r.val) 4 d)) ∧
  (∀ (p : Fin 2) (v : Nat) (s : State), Event (.curSeqWrite p v) s (fun d => writable p.val 0x400024 d = true) (fun d => settleCursor (d.wr EVR.CUR_SEQ v))) ∧
  (∀ (p : Fin 2) (v : Nat) (s : State), Event (.areaWrite p v) s (fun d => writable p.val 0x400020 d = true) (fun d => curWrite v d)) ∧
  (∀ (p : Fin 2) (v : Nat) (s : State), Event (.next p v) s (fun d => writable p.val 0x400020 d = true) (fun d => curWrite v d))

/-- Ports, rings, doorbells and the commands of device and HOST. The events of ports and rings and the commands of the device and HOST units complete: each where the conditions of its own rule hold, with the effect that rule gives. (R29, R47, R90, R96, R112, R122, R123, R130, R131, R133, R134, R138) -/
def Obligations.PortsRingsComplete : Prop :=
  (∀ (p : Fin 2) (s : State), Event (.perstAssert p) s (fun d => portEnabled d p.val) (fun d => 
      let d : Dev := { d with host := { d.host with perst := d.host.perst.filter (· != p.val) ++ [p.val], training := d.host.training.filter (· != p.val) } }
      if portIsGone d p.val then portReset p.val d else portGoneOp p.val 2 d)) ∧
  (∀ (p : Fin 2) (s : State), Event (.perstRelease p) s (fun _ => True) (fun d => { d with host := { d.host with perst := d.host.perst.filter (· != p.val), training := if portEnabled d p.val then d.host.training.filter (· != p.val) ++ [p.val] else d.host.training } })) ∧
  (∀ (p : Fin 2) (cause : Fin 6) (s : State), Event (.portGone p cause) s (fun _ => True) (fun d => portGoneOp p.val (cause.val + 1) d)) ∧
  (∀ (p : Fin 2) (up : LinkUp) (s : State), Event (.portReturn p up) s (fun d => portEnabled d p.val ∧ ¬ (d.host.perst.contains p.val) ∧ islandOn d 12) (fun d => 
      let was := portIsGone d p.val
      let d := resetPortRings p.val { d with host := { d.host with gone := d.host.gone.filter (· != p.val), training := d.host.training.filter (· != p.val) } }
      let d := onPci p.val (fun c => { c with bar := up.bar / 2 ^ 25 * 2 ^ 25 % 2 ^ 64, width := clampN 1 (linkWidth d) up.width, rate := clampN 1 4 up.rate, d3hot := false }) d
      let d := (d.wr (HOST.PORT.STAT.LINK_UP p.val) 1).wr (HOST.PORT.STAT.BME p.val) 1
      if was then raiseEvAt [1 - p.val] 0 3 0 0 d else d)) ∧
  (∀ (p : Fin 2) (s : State), Event (.hostHeartbeatCheck p) s (fun d => (min 60 (d.rd (HOST.PORT.CFG.HB_TIMEOUT p.val))) ≠ 0 ∧ ¬ (portIsGone d p.val) ∧ portEnabled d p.val ∧ islandOn d 12) (fun d => 
      let tmo := min 60 (d.rd (HOST.PORT.CFG.HB_TIMEOUT p.val))
      let v := ofBytes (memRead d p.val (doorbellPage d p.val + 0xFF8) 4)
      let same := if look d.host.hbLast p.val = some v then lookD d.host.hbSame p.val 0 + 1 else 0
      let d : Dev := { d with host := { d.host with hbLast := ins p.val v d.host.hbLast, hbSame := ins p.val same d.host.hbSame } }
      if tmo * 10 ≤ same then portGoneOp p.val 6 d else d)) ∧
  (∀ (p : Fin 2) (link : LinkRes) (s : State), Event (.doorbellPoll p link) s (fun d => islandOn d 12 ∧ ¬ (portIsGone d p.val) ∧ portEnabled d p.val) (fun d => (List.range 16).foldl (fun (d : Dev) k => pollRing link (16 * p.val + k) d) d)) ∧
  (∀ (n : Fin 32) (s : State), Event (.moderationTimeout n) s (fun d => (ringSt d n.val).pend ≠ 0 ∧ islandOn d 12) (fun d => 
      let r := ringSt d n.val
      let d := toUp (1000 * (r.first + min 1000 (d.rd (HOST.RING.MOD.MOD_TIME n.val)))) d
      sendVector (ringPort n.val) (d.rd (HOST.RING.CFG.VECTOR n.val)) (setRingSt n.val { r with pend := 0 } d))) ∧
  (∀ (table : Fin 256) (buffer : Bool) (consumer : Nat) (l : Nat × Nat) (s : State), Event (.leaseExpiry table buffer consumer) s (fun d => ((benchTab d table.val).leases buffer).find? (fun x => x.1 == consumer) = some l) (fun d => leaseExpiryEffect table buffer consumer (toUp (1000 * (l.2 + 1000)) d))) ∧
  (∀ (h : CmdHdr) (s : State), Cmd { unit := 0, op := 1, proof := true } (.nop h) h s (fun _ => True) (fun d => .done d stOK [])) ∧
  (∀ (h : CmdHdr) (count : Nat) (offs : List Nat) (s : State), Cmd { unit := 0, op := 2, kw := true, rack := true, proof := true } (.regRead h count offs) h s (fun _ => 1 ≤ count ∧ count ≤ 5 ∧ ¬ ((offs.take count).any (fun a => a % 4 != 0 || decide (0x2000000 ≤ a)))) (fun d => 
      let (vs, d) := readAll h.port.val (offs.take count) d
      .done d stOK vs)) ∧
  (∀ (h : CmdHdr) (count : Nat) (pairs : List (Nat × Nat)) (s : State), Cmd { unit := 0, op := 3, c := true } (.cfgWrite h count pairs) h s (fun d => 1 ≤ count ∧ count ≤ 5 ∧ ¬ d.boot.committing ∧ cfgFault h.port.val ((pairs ++ List.replicate 5 (0, 0)).take count) d = none) (fun d => .done (settleOthers h.ring.val (((pairs ++ List.replicate 5 (0, 0)).take count).foldl (fun (d : Dev) (e : Nat × Nat) => cfgApply h.port.val e.1 e.2 d) d)) stOK [0xFFFFFFFF])) ∧
  (∀ (h : CmdHdr) (s : State), Cmd { unit := 0, op := 4, c := true, kw := true, rack := true } (.stateCmd h 1) h s (fun d => opState d ≠ 5) (fun d => .done (enterKeepWarm 1 d) stOK [stateWord d])) ∧
  (∀ (h : CmdHdr) (s : State), Cmd { unit := 0, op := 4, c := true, kw := true, rack := true } (.stateCmd h 2) h s (fun d => opState d = 4 ∧ class4Open d = false) (fun d => .done (exitKeepWarm d) stOK [stateWord d])) ∧
  (∀ (h : CmdHdr) (s : State), Cmd { unit := 0, op := 4, c := true, kw := true, rack := true } (.stateCmd h 3) h s (fun _ => True) (fun d => .done { d with host := { d.host with delayed := d.host.delayed ++ [.warmReset] } } stOK [stateWord d])) ∧
  (∀ (h : CmdHdr) (s : State), Cmd { unit := 0, op := 4, c := true, kw := true, rack := true } (.stateCmd h 4) h s (fun d => opState d ≠ 4) (fun d => .done { d with host := { d.host with delayed := d.host.delayed ++ [.retryProof] } } stOK [stateWord d])) ∧
  (∀ (h : CmdHdr) (v : Nat) (s : State), Cmd { unit := 0, op := 5, c := true, rack := true } (.startPolicy h v) h s (fun _ => v ≤ 1) (fun d => .done (d.wr GLB.START_POLICY.DEGRADED_RUN v) stOK [])) ∧
  (∀ (h : CmdHdr) (table : Nat) (s : State), Cmd { unit := 0, op := 7, kw := true } (.benchRead h table) h s (fun d => table ≠ 0 ∧ table ≤ 255 ∧ benchKnown d table ∧ bufOk h ∧ (benchBytes d table).length ≤ bufLen h ∧ ¬ (d.host.stalled.contains h.port.val)) (fun d => 
      let bs := benchBytes d table
      .done (outBuf h bs d) stOK [(benchTab d table).current.seq, bs.length])) ∧
  (∀ (h : CmdHdr) (table : Nat) (s : State), Cmd { unit := 0, op := 8 } (.benchWrite h table) h s (fun _ => benchProducer table = 1 ∧ bufOk h ∧ 32 ≤ bufLen h) (fun d => 
      let bs := inBuf h d
      let fl := fieldAt bs 3 1
      let d := publish table ((benchTab d table).current.tempo + 1) (bitOf fl 0) (bitOf fl 1) (bs.drop 32) d
      .done d stOK [match (benchTab d table).waiting with | some x => x.seq | none => (benchTab d table).current.seq])) ∧
  (∀ (h : CmdHdr) (s : State), Cmd { unit := 0, op := 9, c := true } (.unlock h) h s (fun d => d.boot.committing = false ∧ (checkGrant 0 h d).1 = 0) (fun d => 
      let d := (checkGrant 0 h d).2
      .done { d.wr GLB.LOCK.LOCK 0 with boot := { d.boot with committedLocked := false } } stOK [])) ∧
  (∀ (h : CmdHdr) (ring kind log2size cring vector modCount modTime epoch base : Nat) (s : State), Cmd { unit := 1, op := 1, proof := true } (.ringSetup h ring kind log2size cring vector modCount modTime epoch base) h s (fun d => ringTarget h ring d = 0 ∧ base % 64 = 0 ∧ cring ≤ 31 ∧ vector ≤ 63 ∧ ringState d ring = 0) (fun d => 
      let d := ((d.wr (HOST.RING.BASE_LO.ADDR ring) (base % 2 ^ 32 / 64)).wr (HOST.RING.BASE_HI ring) (base / 2 ^ 32)).wr (HOST.RING.CFG.KIND ring) (min 7 kind)
      let d := ((d.wr (HOST.RING.CFG.LOG2SIZE ring) (min 31 log2size)).wr (HOST.RING.CFG.CRING ring) cring).wr (HOST.RING.CFG.VECTOR ring) vector
      let d := ((d.wr (HOST.RING.MOD.MOD_COUNT ring) modCount).wr (HOST.RING.MOD.MOD_TIME ring) (min 1000 modTime)).wr (HOST.RING.EPOCH ring) epoch
      let d := startRing ring (d.wr (HOST.RING.CFG.EN ring) 1)
      .done d stOK [ringStatWord d ring])) ∧
  (∀ (h : CmdHdr) (ring : Nat) (s : State), Cmd { unit := 1, op := 2, proof := true } (.ringStop h ring) h s (fun d => ringTarget h ring d = 0 ∧ (stopRing ring d).2 = false) (fun d => 
      let d := settleStopping ring (stopRing ring d).1
      .done d stOK [ringStatWord d ring])) ∧
  (∀ (h : CmdHdr) (first count : Nat) (words : List Nat) (s : State), Cmd { unit := 1, op := 3, proof := true } (.routeSet h first count words) h s (fun _ => 1 ≤ count ∧ count ≤ 10 ∧ first + count ≤ 256) (fun d => .done (setRoutes h.port.val first (words.take count) d) stOK [])) ∧
  (∀ (h : CmdHdr) (mask claim : Nat) (s : State), Cmd { unit := 1, op := 4, c := true } (.ownSet h mask claim) h s (fun d => claim ≤ 1 ∧ claim = 0 ∧ (mask % 2 ^ 32) &&& (if h.port.val = 1 then (d.rd HOST.OWN.BLOCK) else 0xFFFFFFFF - (d.rd HOST.OWN.BLOCK)) = (mask % 2 ^ 32)) (fun d => 
      let own := d.rd HOST.OWN.BLOCK
      let p := h.port.val
      let m := mask % 2 ^ 32
      let toOne := own ||| m
      let toZero := own &&& (0xFFFFFFFF - m)
      let new := if p = 0 then toOne else toZero
      let d := d.wr HOST.OWN.BLOCK new
      .done (if new = own then d else raiseEv 4 0 0 d) stOK [new])) ∧
  (∀ (h : CmdHdr) (mask claim : Nat) (s : State), Cmd { unit := 1, op := 4, c := true } (.ownSet h mask claim) h s (fun d => claim ≤ 1 ∧ claim ≠ 0 ∧ ¬ ((mask % 2 ^ 32) &&& (if h.port.val = 1 then (d.rd HOST.OWN.BLOCK) else 0xFFFFFFFF - (d.rd HOST.OWN.BLOCK)) ≠ (mask % 2 ^ 32) ∧ ¬ portIsGone d (1 - h.port.val))) (fun d => ownSetEffect h mask d))

/-- The fault containment unit's commands and events. Detectors, windows, heartbeats and injections act, and the commands of the FCU complete, where the conditions of their rules hold. (R480, R482, R489, R492, R493, R494, R496, R497, R498, R501) -/
def Obligations.FcuComplete : Prop :=
  (∀ (h : CmdHdr) (det action : Nat) (s : State), Cmd { unit := 12, op := 1, c := true, kw := true, rack := true } (.fcuClear h det action) h s (fun d => action ≤ 1 ∧ ¬ (191 < det ∧ det ≠ 0xFFFF) ∧ det ≠ 0xFFFF ∧ d.flag (FCU.REC.STATE.OPEN det)) (fun d => 
      let (d, left) := clearOne det action d
      if left then .done d stFaultActive [1, 1] else .done d stOK [1, 0])) ∧
  (∀ (h : CmdHdr) (action : Nat) (s : State), Cmd { unit := 12, op := 1, c := true, kw := true, rack := true } (.fcuClear h 0xFFFF action) h s (fun _ => action ≤ 1) (fun d => 
      let (d, a, b) := clearMany action (openRecords d) d
      .done d stOK [a, b])) ∧
  (∀ (h : CmdHdr) (secs : Nat) (s : State), Cmd { unit := 12, op := 2, c := true } (.fcuArm h secs) h s (fun d => 1 ≤ secs ∧ secs ≤ 3600 ∧ (checkGrant 1 h d).1 = 0) (fun d => 
      let d := endSession (checkGrant 1 h d).2
      let d : Dev := { d with fcu := { d.fcu with session := some (d.rd KEYS.GRANT.LAST_SCOPE, d.rd (CRUST.CNT.VALUE 3)), sessEnd := d.up + secs * 1000000000 } }
      .done (raise 171 secs (raiseEv 148 secs 0 (d.wr FCU.INJ.ARMED 1))) stOK [secs])) ∧
  (∀ (h : CmdHdr) (s : State), Cmd { unit := 12, op := 2, c := true } (.fcuArm h 0) h s (fun d => (checkGrant 1 h d).1 = 0) (fun d => .done (endSession (checkGrant 1 h d).2) stOK [0])) ∧
  (∀ (h : CmdHdr) (det flags src scope n : Nat) (s : State), Cmd { unit := 12, op := 3, c := true } (.fcuInject h det flags src) h s (fun d => det ≤ 191 ∧ d.fcu.session = some (scope, n) ∧ fdInj det ≠ 0 ∧ ¬ (fdInj det = 2 ∧ bitsOf flags 2 1 = 3) ∧ d.flag (FCU.REC.STATE.OPEN det) = false ∧ (bitOf flags 0 = true ∨ classOf d det < 4 ∨ bitOf scope 2 = true)) (fun d => .later { d with fcu := { d.fcu with injections := d.fcu.injections ++ [{ det := det, dry := bitOf flags 0, lane := bitsOf flags 2 1, src := src, port := h.port.val, up := d.up }] } } (.inject det) [])) ∧
  (∀ (h : CmdHdr) (first count : Nat) (s : State), Cmd { unit := 12, op := 4, kw := true, rack := true } (.fcuRead h first count) h s (fun _ => first ≤ 191 ∧ 1 ≤ count ∧ count ≤ 192 ∧ recvOk h (32 * count)) (fun d => 
      let n := min count (192 - first)
      .done (outBuf h ((List.range n).flatMap fun k => recBytes d (first + k)) d) stOK [n])) ∧
  (∀ (det : Fin 192) (src detail loc : Nat) (s : State), Event (.detectorRaise det src detail loc .plain) s (fun _ => True) (fun d => { d with fcu := { d.fcu with csPending := d.fcu.csPending.filter (· != det.val), todo := d.fcu.todo ++ [{ det := det.val, src := src % 2 ^ 32, detail := detail % 2 ^ 32, loc := loc % 2 ^ 32 }] } })) ∧
  (∀ (det : Fin 192) (src detail loc : Nat) (f : DetFinding) (s : State), Event (.detectorRaise det src detail loc f) s (fun d => findingRaises d f = false) (fun d => d)) ∧
  (∀ (det : Fin 192) (t : Nat) (s : State), Event (.windowExpiry det) s (fun d => look d.fcu.winEnd det.val = some t ∧ d.flag (FCU.REC.STATE.OPEN det.val) = true) (fun d => escalate det.val (toUp t d))) ∧
  (∀ (det : Fin 192) (s : State), Event (.csRaiseUnacknowledged det) s (fun _ => csRaised det.val) (fun d => 
      let d := lastGasp 0x014 det.val 0 (csActs det.val d)
      { d with fcu := { d.fcu with csPending := d.fcu.csPending.filter (· != det.val) ++ [det.val] } })) ∧
  (∀ (e : Fin 23) (s : State), Event (.heartbeatTimeout e) s (fun d => watched d e.val ∧ ¬ (e.val = 22 ∧ opState d = 2)) (fun d => 
      let d := raise (46 + e.val) e.val d
      if e.val = 22 then lastGasp 0x014 68 0 d else d)) ∧
  (∀ (s : State), Event .csHeartbeatTimeout s (fun _ => True) (fun d => raise 69 0 d)) ∧
  (∀ (det : Fin 192) (i : Inj) (s : State), Event (.injectionFire det) s (fun d => d.fcu.injections.find? (fun i => i.det == det.val) = some i) (fun d => 
      let was := d.flag (FCU.REC.STATE.OPEN det.val)
      let d : Dev := { d with fcu := { d.fcu with injections := d.fcu.injections.filter (fun j => j.det != i.det) } }
      let d := markInj (fun d => takeRaise { det := i.det, src := i.src % 2 ^ 32, detail := i.lane, inj := true, dry := i.dry } (raiseEvFrom (1 + i.port) 147 i.det (b2n i.dry + 2 * i.lane) (d.bump FCU.INJ.FIRED))) d
      csInjected i was (finishKindWith (.inject i.det) stOK [recStateWord d i.det] d))) ∧
  (∀ (det : Fin 192) (i : Inj) (s : State), Event (.injectionNoPath det) s (fun d => d.fcu.injections.find? (fun i => i.det == det.val) = some i) (fun d => 
      let d := toUp (i.up + 1000000000) d
      finishKindWith (.inject det.val) stInjNoPath [recStateWord d det.val]
        { d with fcu := { d.fcu with injections := d.fcu.injections.filter (fun j => j.det != det.val) } })) ∧
  (∀ (s : State), Event .injectionSessionEnd s (fun d => d.fcu.session.isSome = true) (fun d => endSession (toUp d.fcu.sessEnd d)))

/-- The event recorder's commands and events. The recorder takes its queue, mirrors, rebuilds, checks wear, and serves reads, streams, clears and notes. (R507, R511, R512, R515, R516, R517, R518, R519) -/
def Obligations.RecorderComplete : Prop :=
  (∀ (h : CmdHdr) (area first count : Nat) (r : Rec) (rs : List Rec) (s : State), Cmd { unit := 13, op := 1, kw := true, rack := true, proof := true } (.evrRead h area first count) h s (fun d => area ≤ 1 ∧ ¬ (area = 1 ∧ d.rd EVR.CFG.CONF = 2) ∧ 1 ≤ count ∧ count ≤ 65536 ∧ recvOk h (32 * count) = true ∧ ((readableArea (area = 1) d).filter fun r => decide (0 ≤ sdiff 32 r.seq first) && decide (sdiff 32 r.seq first < count)) = r :: rs) (fun d => .done (outBuf h ((r :: rs).flatMap recordBytes) d) stOK [rs.length + 1, r.seq])) ∧
  (∀ (h : CmdHdr) (ring area start first : Nat) (s : State), Cmd { unit := 13, op := 2, c := true, kw := true, rack := true, proof := true } (.evrStream h ring area start first) h s (fun d => area ≤ 1 ∧ ¬ (area = 1 ∧ d.rd EVR.CFG.CONF = 2) ∧ start ≤ 1 ∧ ring ≤ 31 ∧ ringPort ring = h.port.val ∧ ringKind d ring = 5 ∧ ringState d ring = 1 ∧ start ≠ 0) (fun d => evrStreamEffect ring area first d)) ∧
  (∀ (h : CmdHdr) (areas conf : Nat) (s : State), Cmd { unit := 13, op := 3, c := true } (.evrClear h areas conf) h s (fun d => areas ≤ 3 ∧ conf ≤ 2 ∧ confMiB conf ≤ d.evr.partA ∧ d.pwr.memLost = false ∧ (checkGrant 3 h d).1 = 0) (fun d => 
      let d := (checkGrant 3 h d).2
      let d := d.evr.openSeqs.foldl (fun d q => sealRec q d) d
      let d : Dev := { d with evr := { d.evr with areaC := [], mirror := [], closeMark := none } }
      let d : Dev := ({ d with evr := { d.evr with areaF := [] } } : Dev).wr EVR.STAT.F_FULL 0
      let d := d.wr EVR.CFG.CONF conf
      let d := if conf = 0 then d.wr EVR.STAT.FALLBACK 0 else d
      let kept := d.evr.nextSeq
      .done (raiseEv 155 0 0 (writeNow 13 0x002 kept (d.rd (CRUST.CNT.VALUE 3)) (1 + h.port.val) d)) stOK [kept])) ∧
  (∀ (h : CmdHdr) (w0 w1 : Nat) (s : State), Cmd { unit := 13, op := 4 } (.evrNote h w0 w1) h s (fun _ => True) (fun d => 
      let q := d.evr.nextSeq
      let d := takeOcc (occOf d 13 0x005 w0 w1 (1 + h.port.val)) d
      .done d stOK [if d.evr.nextSeq = q then ((d.evr.areaC.find? fun r => d.evr.openSeqs.contains r.seq && r.code == 0xD005 && r.src == 1 + h.port.val && r.w0 == w0 % 2 ^ 32).map (·.seq)).getD q else q])) ∧
  (∀ (o : Occ) (rest : List Occ) (s : State), Event .recordIntake s (fun d => recorderTakes d = true ∧ d.evr.queue = o :: rest) (fun d => 
      let d := takeOcc o { d with evr := { d.evr with queue := rest } }
      if d.evr.dropped = 0 then d
      else writeNow 13 0x006 d.evr.dropped 0 0 { d with evr := { d.evr with dropped := 0 } })) ∧
  (∀ (okA okB : Bool) (s : State), Event (.recordMirror okA okB) s (fun d => fullPages d ≠ []) (fun d => mirrorWrite okA okB (fullPages d) d)) ∧
  (∀ (okA okB : Bool) (s : State), Event (.recordMirror okA okB) s (fun d => fullPages d = []) (fun d => 
      let d := toUp (d.evr.mirrorAt + mirrorPeriod d) d
      mirrorWrite okA okB (toMirror (d.rd EVR.STAT.WSTAGE) false d) { d with evr := { d.evr with mirrorAt := d.up } })) ∧
  (∀ (s : State), Event .areaCReloadEnd s (fun d => d.flag EVR.STAT.RELOADING ∧ ¬ (confC d ≠ 0 ∧ opState d = 2)) (fun d => 
      let old := d.evr.mirror.filter fun r => (findRec r.seq d.evr.areaC).isNone
      let old := old.map fun r => { r with isOpen := false }
      let c := old ++ d.evr.areaC
      evrIndexRegs ({ d with evr := { d.evr with areaC := c.drop (c.length - capC d) } }.wr EVR.STAT.RELOADING 0))) ∧
  (∀ (forecast : Nat) (s : State), Event (.wearCheck forecast) s (fun d => min forecast 65535 < serviceY d * 10 - min 65535 ((d.evr.ageDays + if d.evr.stageChk then 0 else 1) * 10 / 365)) (fun d => 
      let st := d.rd EVR.STAT.WSTAGE
      let d : Dev := { d with evr := { d.evr with ageDays := d.evr.ageDays + (if d.evr.stageChk then 0 else 1), goodDays := 0, stageChk := decide (st < 3) } }
      let d := (d.wr EVR.WEAR.FORECAST (min forecast 65535)).wr EVR.WEAR.AGE (min 65535 (d.evr.ageDays * 10 / 365))
      raiseEv 153 (min 3 (st + 1)) 0 ((raise 168 (min forecast 65535) (d.wr EVR.STAT.WEAR_LIMIT 1)).wr EVR.STAT.WSTAGE (min 3 (st + 1))))) ∧
  (∀ (forecast : Nat) (s : State), Event (.wearCheck forecast) s (fun d => (serviceY d * 10 - min 65535 ((d.evr.ageDays + if d.evr.stageChk then 0 else 1) * 10 / 365)) * 11 < min forecast 65535 * 10 ∧ 30 ≤ d.evr.goodDays + (if d.evr.stageChk then 0 else 1) ∧ d.rd EVR.STAT.WSTAGE = 1) (fun d => 
      let d : Dev := { d with evr := { d.evr with ageDays := d.evr.ageDays + (if d.evr.stageChk then 0 else 1), goodDays := 0, stageChk := true } }
      let d := (d.wr EVR.WEAR.FORECAST (min forecast 65535)).wr EVR.WEAR.AGE (min 65535 (d.evr.ageDays * 10 / 365))
      raiseEv 153 0 0 ((d.wr EVR.STAT.WSTAGE 0).wr EVR.STAT.WEAR_LIMIT 0)))

/-- The Crust: supplies, RTC, alarms, tamper inputs, counters and the Crust port. The Crust's events act and its commands and port commands answer where the conditions of their rules hold. (R142, R144, R145, R148, R149, R151, R152, R156, R157, R158, R161, R163) -/
def Obligations.CrustComplete : Prop :=
  (∀ (s : State), Event .ponTimeout s (fun d => d.crust.waking) (fun d => ({ d with crust := { d.crust with ponctl := false, waking := false } } : Dev).wr CRUST.RTC_STAT.PON_FAIL 1)) ∧
  (∀ (s : State), Event .vaux33Fall s (fun _ => True) (fun d => vauxLost d)) ∧
  (∀ (w : Witness) (s : State), Event (.crustSwitchBack w) s (fun d => ¬ (d.crust.vaux) ∧ opState d ≠ 0) (fun d => 
      let d : Dev := { d with crust := { d.crust with vaux := true } }
      let d := crustEvent 20 ((d.wr CRUST.STATUS.ON_VBAT 0).wr PWR.RAIL_STAT.GOOD (setBit (d.rd PWR.RAIL_STAT.GOOD) 0 true))
      let d := checkWitness w d
      let d := if 2 ≤ opState d ∧ ¬ d.pins.mpg then mpgLow d else d
      let d := if d.flag CRUST.RTC_CFG.PON_MODE then d else (({ d with crust := { d.crust with ponctl := true } } : Dev).wr CRUST.RTC_STAT.PON_CAUSE 1)
      if d.flag CRUST.RTC_CFG.AUX_WAKE then wake 1 d else d)) ∧
  (∀ (vaux : Bool) (w : Witness) (s : State), Event (.crustPowerUp vaux w) s (fun d => opState d = 0) (fun d => 
      let d := checkWitness w { d with crust := { d.crust with vaux := vaux, vbat := !vaux } }
      let d := ((d.wr GLB.STATE.STATE 1).put CRUST.STATUS.ON_VBAT !vaux).wr PWR.RAIL_STAT.GOOD (setBit (setBit (d.rd PWR.RAIL_STAT.GOOD) 0 vaux) 11 !vaux)
      let d := if vaux then (d.wr CRUST.STATUS.BAT_LOW 1).wr CRUST.STATUS.BAT_ABSENT 1 else d.wr CRUST.STATUS.BAT_ABSENT 0
      if d.flag CRUST.RTC_CFG.PON_MODE then d else ({ d with crust := { d.crust with ponctl := true } } : Dev).wr CRUST.RTC_STAT.PON_CAUSE 1)) ∧
  (∀ (cutUpdate : Bool) (s : State), Event (.crustPowerLoss cutUpdate) s (fun _ => True) (fun d => 
      let d := ((d.wr CRUST.STATUS.LOW_RET 1).wr GLB.STATE.STATE 0)
      let wit := if cutUpdate then { d.crust.wit with crc := false } else d.crust.wit
      { d with crust := { d.crust with vaux := false, vbat := false, ponctl := false, waking := false, smbusBusy := false, acked := false, wit := wit }, host := { d.host with waits := [] }, pwr := { d.pwr with heldRail := false, heldClk := false, heldHang := false }, pins := { d.pins with mpg := false, strapped := false } })) ∧
  (∀ (mv : Nat) (s : State), Event (.batLevelChange mv) s (fun _ => True) (fun d => batLevel (decide (mv < 2200)) (decide (mv < 2000)) d)) ∧
  (∀ (s : State), Event .lowRetLatch s (fun _ => True) (fun d => d.wr CRUST.STATUS.LOW_RET 1)) ∧
  (∀ (parityError : Bool) (s : State), Event (.scrub parityError) s (fun d => d.crust.vaux ∧ parityError) (fun d => raise 32 0 (declareLoss d))) ∧
  (∀ (i : Fin 2) (s : State), Event (.almFire i) s (fun d => d.flag (CRUST.ALM.CTRL.EN i.val) ∧ ¬ (timeLost d) ∧ ¬ (d.flag (CRUST.ALM.STAT.NEVER i.val))) (fun d => 
      let d : Dev := if d.crust.sec < almNext d i.val then { d with crust := { d.crust with sec := almNext d i.val, sub := 0 } } else d
      recomputeAlarm i.val (fireAlarm i.val d))) ∧
  (∀ (s : State), Event .discipline s (fun _ => True) (fun d => 
      let d := toSvcNs ((svcTotalNs d + 63999999999) / 64000000000 * 64000000000) d
      if ¬ d.flag CRUST.RTC_CFG.DISC_EN ∨ svcState d ≠ 3 ∨ timeLost d ∨ ¬ d.crust.vaux then d
      else if hundredMs < (rtcOffset d).natAbs then crustEvent 22 (d.wr CRUST.RTC_STAT.DISC_LIMIT 1)
      else { d with crust := { d.crust with slew := rtcOffset d } })) ∧
  (∀ (temp : Int) (s : State), Event (.compStep temp) s (fun d => ¬ (¬ d.crust.vaux ∧ ¬ d.crust.vbat)) (fun d => 
      let aging := clampI (-5000) 5000 (sgn 16 (d.rd CRUST.COMP.AGING))
      let corr := clampI (-25000) 25000 (crystalAt temp + aging)
      (d.wr CRUST.RTC_STAT.TEMP (wrapI 8 (clampI (-128) 127 temp))).wr CRUST.COMP.CORR (wrapI 16 corr))) ∧
  (∀ (s : State), Event .calendarEnd s (fun d => ¬ (timeLost d)) (fun d => 
      let d : Dev := if calLast < rtcUtc d then d else { d with crust := { d.crust with sec := calLast + 1 + d.rd CRUST.RTC_CFG.UTC_OFFSET, sub := 0 } }
      ({ d with crust := { d.crust with calEnd := true } } : Dev).wr CRUST.RTC_STAT.CAL_RANGE 1)) ∧
  (∀ (h : CmdHdr) (secs : Nat) (s : State), Cmd { unit := 2, op := 0x101, c := true } (.rtcSet h 0 secs) h s (fun d => inCalRange d (secs % 2 ^ 48) = true) (fun d => .later { d with crust := { d.crust with slew := 0, pendingSets := d.crust.pendingSets ++ [{ hdr := h, cseq := none, mode := 0, secs := secs % 2 ^ 48 }] } } (.other 1 0) [])) ∧
  (∀ (h : CmdHdr) (secs : Nat) (s : State), Cmd { unit := 2, op := 0x101, c := true } (.rtcSet h 1 secs) h s (fun d => svcValid d = true ∧ inCalRange d (svcSec d + 1) = true) (fun d => .later { d with crust := { d.crust with slew := 0, pendingSets := d.crust.pendingSets ++ [{ hdr := h, cseq := none, mode := 1, secs := 0 }] } } (.other 1 0) [])) ∧
  (∀ (h : CmdHdr) (secs : Nat) (s : State), Cmd { unit := 2, op := 0x101, c := true } (.rtcSet h 2 secs) h s (fun d => svcValid d = true ∧ timeLost d = false ∧ (rtcOffset d).natAbs ≤ hundredMs) (fun d => .done { d with crust := { d.crust with slew := rtcOffset d } } stOK [rtcLoWord d, rtcHiWord d])) ∧
  (∀ (p : RtcSet) (rest : List RtcSet) (s : State), Event .rtcStep s (fun d => d.crust.pendingSets = p :: rest ∧ p.mode = 0) (fun d => 
      let old := d.crust.sec + (if d.crust.sub = 0 ∧ d.crust.frac = 0 then 0 else 1)
      let d := setRtc p.secs (old * 1000) old { d with crust := { d.crust with pendingSets := rest, sec := old, sub := 0, frac := 0 } }
      finishWaits (fun w => if w.kind = .other 1 0 ∧ w.hdr = p.hdr then some (stOK, [rtcLoWord d, rtcHiWord d]) else none) d)) ∧
  (∀ (h : CmdHdr) (n : Nat) (s : State), Cmd { unit := 2, op := 0x102, c := true } (.cntIncr h n) h s (fun d => n ≤ 15 ∧ 4 ≤ n ∧ ¬ (countLost d) ∧ d.rd (CRUST.CNT.VALUE n) ≠ 0xFFFFFFFF) (fun d => 
      let v := d.rd (CRUST.CNT.VALUE n) + 1
      .done (setCnt n v d) stOK [v])) ∧
  (∀ (h : CmdHdr) (v : Nat) (s : State), Cmd { unit := 2, op := 0x103, c := true } (.tamperCfg h v) h s (fun d => ((List.range 4).any fun n => (d.flag (tampEn n) && !bitOf v (8 * n + 7)) || (d.flag (tampZero n) && !bitOf v (8 * n + 3))) = false) (fun d => 
      let d := settleTamp (commitTamp (setTamp v 3 (setTamp v 2 (setTamp v 1 (setTamp v 0 d)))))
      .done d stOK [tampCfg d])) ∧
  (∀ (n : Fin 4) (level : Bool) (heldNs : Nat) (s : State), Event (.tamperEvent n level heldNs) s (fun d => d.flag (tampEn n.val) = true ∧ level = d.flag (tampPol n.val) ∧ filtNs (d.rd (tampFilt n.val)) ≤ heldNs ∧ bitOf d.pins.tamper n.val ≠ level ∧ d.crust.vaux = true ∧ timeLost d = false ∧ d.crust.tamperLog.length < 16 ∧ d.flag (tampZero n.val) = false ∧ d.flag (tampSafe n.val) = false ∧ d.flag (tampWake n.val) = false) (fun d => 
      let d := settleTamp { d with pins := { d.pins with tamper := setBit d.pins.tamper n.val level, tampAcc := setBit d.pins.tampAcc n.val false } }
      let log := d.crust.tamperLog ++ [(d.crust.sec % 2 ^ 48, n.val, 0)]
      let d := ({ d with crust := { d.crust with tamperLog := log }, pins := { d.pins with tampAcc := setBit d.pins.tampAcc n.val true } } : Dev).wr CRUST.TAMP_STAT.LOG_COUNT log.length
      let d := (d.wr CRUST.TAMP_STAT.LATCH (setBit (d.rd CRUST.TAMP_STAT.LATCH) n.val true)).wr CRUST.STATUS.TAMPER 1
      let d := alertSet 0 d
      if dieRunning d then raise 164 n.val (raiseEv 18 0 0 d) else d)) ∧
  (∀ (n : Fin 4) (level : Bool) (heldNs : Nat) (s : State), Event (.tamperEvent n level heldNs) s (fun d => d.flag (tampEn n.val) = false ∧ bitOf d.pins.tamper n.val ≠ level) (fun d => settleTamp { d with pins := { d.pins with tamper := setBit d.pins.tamper n.val level, tampAcc := setBit d.pins.tampAcc n.val false } })) ∧
  (∀ (s : State), Event .crpReadStatus s (fun _ => True) (fun d => (crpAnswer fun d => toBytes 4 (liveWord 0 0x500000 d)) d)) ∧
  (∀ (s : State), Event .crpReadRtc s (fun _ => True) (fun d => (crpAnswer fun d => toBytes 4 (rtcLoWord d) ++ toBytes 4 (rtcHiWord d)) d)) ∧
  (∀ (s : State), Event .crpReadTampStat s (fun _ => True) (fun d => (crpAnswer fun d => toBytes 4 (liveWord 0 0x500084 d)) d)) ∧
  (∀ (s : State), Event .crpReadTamperLog s (fun _ => True) (fun d => crpAnswer tamperLogBytes d)) ∧
  (∀ (s : State), Event .crpReadCounters s (fun _ => True) (fun d => (crpAnswer fun d => (List.range 16).flatMap fun n => toBytes 4 (d.rd (CRUST.CNT.VALUE n))) d)) ∧
  (∀ (s : State), Event .crpReadIdentity s (fun _ => True) (fun d => crpAnswer deviceId d)) ∧
  (∀ (code : Fin 256) (s : State), Event (.crpReadLastGasp code) s (fun d => 0x10 ≤ code.val ∧ code.val ≤ 0x17 ∧ d.crust.vaux = true) (fun d => { d with crust := { d.crust with answer := padTo 32 (((lgImage d).drop (32 * (code.val - 0x10))).take 32), acked := true } })) ∧
  (∀ (code : Fin 256) (s : State), Event (.crpReadLastGasp code) s (fun _ => code.val = 0 ∨ (6 < code.val ∧ code.val < 0x10) ∨ 0x17 < code.val) (fun d => { d with crust := { d.crust with answer := [], acked := false } })) ∧
  (∀ (s : State), Event (.crpWake true) s (fun d => d.crust.vaux = true ∧ d.flag CRUST.RTC_CFG.PORT_WAKE = true) (fun d => wake 5 { d with crust := { d.crust with answer := [], acked := true } })) ∧
  (∀ (s : State), Event (.alertClr true) s (fun d => d.crust.vaux = true) (fun d => { d with crust := { d.crust with answer := [], acked := true, alert := 0 } })) ∧
  (∀ (s : State), Event .alertResponse s (fun d => d.crust.vaux ∧ d.crust.alert ≠ 0) (fun d => { d with crust := { d.crust with answer := toBytes 1 (0x5A * 2), acked := true } })) ∧
  (∀ (s : State), Event .smbusTimeout s (fun _ => True) (fun d => { d with crust := { d.crust with smbusBusy := false, answer := [], acked := false } }))

/-- Service time, PTP domains, timebases, captures and pulses. The time unit's commands and events complete: selection and loads, domain timeouts and Sync intake, the start of the tempos, captures, pulses, and the ends of their timers. (R182, R183, R187, R189, R190, R191, R192, R195, R197, R198) -/
def Obligations.TimeComplete : Prop :=
  (∀ (h : CmdHdr) (dom auto : Nat) (s : State), Cmd { unit := 2, op := 1, c := true, isl := [10] } (.domSelect h dom auto) h s (fun d => dom ≤ 1 ∧ auto ≤ 1 ∧ d.flag (TIME.DOM.CFG.EN dom) ∧ domState d dom = 3) (fun d => 
      let d := (d.wr TIME.SVC.CFG.PREF dom).wr TIME.SVC.CFG.AUTO auto
      let d := reselect (commitField TIME.SVC.CFG.AUTO (commitField TIME.SVC.CFG.PREF d))
      .done d stOK [svcStatWord d])) ∧
  (∀ (h : CmdHdr) (n v : Nat) (s : State), Cmd { unit := 2, op := 4, c := true, isl := [10] } (.tbLoad h n v) h s (fun d => n ≤ 3 ∧ d.rd (TIME.TB.CFG.SRC n) = 0) (fun d => .done ({ d.wr (TIME.TB.CNT n) v with time := { d.time with tbFrac := del n d.time.tbFrac } }) stOK [])) ∧
  (∀ (dom : Fin 2) (q : Fin 6) (m : PtpSync) (s : State), Event (.ptpSyncRx dom q m) s (fun _ => True) (fun d => 
      let i := dom.val
      if domState d i = 5 ∨ ¬ domainsOn d ∨ ¬ ptpForDom d i q.val { dnum := d.rd (TIME.DOM.CFG.DNUM i), tr := m.tr } ∨ ¬ bitOf (d.rd (ETH.PORT.CFG.ROLE q.val)) 0 ∨
          ethState d q.val ≠ 2 ∨ ¬ syncTaken d i q.val m then d
      else
        ptpSyncRxEffect dom q m d)) ∧
  (∀ (dom : Fin 2) (q : Fin 6) (s : State), Event (.announceTimeout dom q) s (fun d => domState d dom.val ≠ 0) (fun d => 
      let d := setDom dom.val { domSt d dom.val with ann := del q.val (domSt d dom.val).ann } d
      if (domSt d dom.val).ann = [] ∧ (domState d dom.val = 2 ∨ domState d dom.val = 3) then domHoldover dom.val (setDom dom.val { domSt d dom.val with slave := none } d) else bmca dom.val d)) ∧
  (∀ (dom : Fin 2) (s : State), Event (.syncTimeout dom) s (fun _ => True) (fun d => domHoldover dom.val d)) ∧
  (∀ (dom : Fin 2) (q : Fin 6) (kind : Fin 4) (s : State), Event (.ptpTxInterval dom q kind) s (fun _ => True) (fun d => 
      let i := dom.val
      if domState d i = 0 ∨ ¬ domainsOn d ∨ ¬ bitOf (d.rd (TIME.DOM.CFG.PORTS i)) q.val ∨ ¬ bitOf (d.rd (ETH.PORT.CFG.ROLE q.val)) 0 ∨ ethState d q.val ≠ 2 ∨ ¬ d.flag (ETH.PORT.STAT.LINK q.val)
          ∨ ¬ ptpSends d i q.val kind.val then d
      else
        let d := takeTxStamps i q.val d
        let key := ptpSeqKey i kind.val q.val
        let seq := lookD d.time.ptpSeq key 0
        let d : Dev := { d with time := { d.time with ptpSeq := ins key ((seq + 1) % 65536) d.time.ptpSeq } }
        let two := kind.val == 0 && d.flag (TIME.DOM.CFG.TWO_STEP i)
        ptpSend q.val i (ptpType kind.val) seq 0 (two || decide (2 ≤ kind.val)) two d)) ∧
  (∀ (dom : Fin 2) (q : Fin 6) (s : State), Event (.ptpTxInterval dom q 1) s (fun d => domState d dom.val ≠ 0 ∧ domainsOn d = true ∧ bitOf (d.rd (TIME.DOM.CFG.PORTS dom.val)) q.val = true ∧ bitOf (d.rd (ETH.PORT.CFG.ROLE q.val)) 0 = true ∧ ethState d q.val = 2 ∧ d.flag (ETH.PORT.STAT.LINK q.val) = true ∧ masterPort d dom.val q.val = true) (fun d => 
      let d := takeTxStamps dom.val q.val d
      let key := 64 * dom.val + 8 + q.val
      let seq := lookD d.time.ptpSeq key 0
      let d : Dev := { d with time := { d.time with ptpSeq := ins key ((seq + 1) % 65536) d.time.ptpSeq } }
      ptpSend q.val dom.val 11 seq 0 false false d)) ∧
  (∀ (q : Fin 6) (x : TxStamp) (rest : List TxStamp) (s : State), Event (.txtsStale q) s (fun d => lookD d.time.txts q.val [] = x :: rest ∧ x.twoStep = false) (fun d => ({ d with time := { d.time with txts := ins q.val rest d.time.txts } }.wr (ETH.PORT.TXTS.LEVEL q.val) rest.length).bump (ETH.PORT.TXTS.STALE q.val))) ∧
  (∀ (s : State), Event .revertTimer s (fun d => d.flag TIME.SVC.CFG.AUTO ∧ d.flag TIME.SVC.CFG.REVERT ∧ domState d (d.rd TIME.SVC.CFG.PREF) = 3) (fun d => 
      let pref := d.rd TIME.SVC.CFG.PREF
      follow pref d)) ∧
  (∀ (s : State), Event .holdValidExpiry s (fun d => svcState d = 4) (fun d => { d with time := { d.time with lockedLeft := none } }.wr TIME.SVC.STAT.VALID 0)) ∧
  (∀ (s : State), Event .temposStart s (fun d => ¬ (d.flag TIME.SVC.STAT.TEMPOS_RUN) ∧ ((opState d = 3 ∨ opState d = 4))) (fun d => 
      let d := if d.time.everLocked then d else toUp (d.time.runAt + min 3600 (d.rd TIME.SVC.CFG.ACQ_WAIT) * 1000000000) d
      lanesStart ((atWholeSecond d).wr TIME.SVC.STAT.TEMPOS_RUN 1))) ∧
  (∀ (k : Fin 2) (rise : Bool) (s : State), Event (.trigCapture k rise) s (fun d => d.flag (TIME.TRIG.CFG.EN k.val) ∧ (if (d.rd (TIME.TRIG.CFG.EDGE k.val)) = 3 then true else if (d.rd (TIME.TRIG.CFG.EDGE k.val)) = 2 then !rise else rise) ∧ islandOn d 10 ∧ (lookD d.time.trigQ k.val []).length < 4) (fun d => 
      let l := lookD d.time.trigQ k.val []
      let c : Capture := { rise := rise, sec := svcSec d, ns := svcNs d / 8 * 8 }
      raiseEv 31 0 0 ({ d with time := { d.time with trigQ := ins k.val (l ++ [c]) d.time.trigQ } }.wr (TIME.TRIG.CFG.LEVEL k.val) (l.length + 1)))) ∧
  (∀ (k : Fin 2) (s : State), Event (.ppsPulse k) s (fun d => d.flag (TIME.PPS.CFG.EN k.val) ∧ ¬ (d.flag (TIME.PPS.CFG.MODE k.val)) ∧ islandOn d 10) (fun d => 
      let src := d.rd (TIME.PPS.CFG.SRC k.val)
      ppsFire k.val (if src = 1 ∨ src = 2 then d else atWholeSecond d))) ∧
  (∀ (k : Fin 2) (s : State), Event (.ppsCompare k) s (fun d => d.time.ppsArmed.contains k.val) (fun d => 
      let d := if 0 < ppsAhead d k.val then toSvc ((svcTotalNs d + (ppsAhead d k.val).toNat) * 2 ^ 32) d else d
      ppsFire k.val { d with time := { d.time with ppsArmed := d.time.ppsArmed.filter (· != k.val) } }))

/-- Ethernet ports, PRP and the diagnostic service. The events of Ethernet ports and of PRP act, their commands complete, and the five diagnostic requests are answered. (R171, R173, R175, R176, R177, R193) -/
def Obligations.EthernetComplete : Prop :=
  (∀ (h : CmdHdr) (s : State), Cmd { unit := 2, op := 2, c := true, isl := [10] } (.portAddr h) h s (fun d => sendOk h 384 ∧ (chunksOf 64 6 (inBuf h d)).all addrRecordOk) (fun d => 
      let b := inBuf h d
      .done { d with time := { d.time with addrs := b } } stOK [])) ∧
  (∀ (h : CmdHdr) (port : Nat) (s : State), Cmd { unit := 2, op := 3, c := true, isl := [10] } (.portPower h port 1) h s (fun d => port ≤ 5 ∧ badFunc (ethRequest port true d) (106 + port) = false ∧ ethState (ethRequest port true d) port = 1 ∧ ¬ ((ethRequest port true d).flag (ETH.PORT.STAT.CFG_ERR port) = true ∧ ethState (ethRequest port true d) port = 0)) (fun d => .later (ethRequest port true d) (.ethPort port true) [])) ∧
  (∀ (h : CmdHdr) (port : Nat) (s : State), Cmd { unit := 2, op := 3, c := true, isl := [10] } (.portPower h port 0) h s (fun d => port ≤ 5 ∧ ethState (ethRequest port false d) port = 3) (fun d => .later (ethRequest port false d) (.ethPort port false) [])) ∧
  (∀ (q : Fin 6) (s : State), Event (.portStopEnd q) s (fun d => ethState d q.val = 3) (fun d => 
      let d := (d.wr (ETH.PORT.STAT.PSTATE q.val) 0).wr (ETH.PORT.STAT.MINOFF q.val) 1
      finishKindWith (.ethPort q.val true) stRefused [ethStatWord d q.val] (finishKindWith (.ethPort q.val false) stOK [ethStatWord d q.val] d))) ∧
  (∀ (q : Fin 6) (s : State), Event (.portStartEnd q) s (fun d => ethState d q.val = 1) (fun d => 
      let d := d.wr (ETH.PORT.STAT.PSTATE q.val) 2
      let d := finishKindWith (.ethPort q.val true) stOK [ethStatWord d q.val] d
      if d.time.ethOff.contains q.val then ethStop q.val d else d)) ∧
  (∀ (q : Fin 6) (s : State), Event (.portMinoffEnd q) s (fun _ => True) (fun d => 
      let d := d.wr (ETH.PORT.STAT.MINOFF q.val) 0
      if ethState d q.val = 0 ∧ d.flag (ETH.PORT.STAT.PENDING_REARM q.val) ∧ islandOn d 10 then ethStart q.val d else d)) ∧
  (∀ (q : Fin 6) (up : Bool) (speed : Fin 3) (s : State), Event (.linkChange q up speed) s (fun _ => up) (fun d => 
      (if ethState d q.val = 2 then
        let m := d.rd (ETH.PORT.CFG.MODE q.val)
        (setLink q.val true d).wr (ETH.PORT.STAT.SPEED q.val) (if m = 1 then 2 else if m = 2 then 1 else min 1 speed.val) else d))) ∧
  (∀ (q : Fin 6) (up : Bool) (speed : Fin 3) (s : State), Event (.linkChange q up speed) s (fun _ => ¬ (up)) (fun d => setLink q.val false d)) ∧
  (∀ (q : Fin 6) (f : EthFrame) (s : State), Event (.frameRx q f) s (fun d => (ethUp d q.val = true ∨ (ethState d q.val = 2 ∧ d.flag (ETH.PORT.STAT.LINK q.val) = true)) ∧ islandOn d 10 = true ∧ ethTakes d q.val f = true) (fun d => frameRxEffect q f d)) ∧
  (∀ (pair : Fin 2) (s : State), Event (.prpSupervision pair) s (fun d => prpOn d pair.val ∧ ((opState d = 3 ∨ opState d = 4)) ∧ ¬ (ethState d (2 * pair.val) ≠ 2 ∧ ethState d (2 * pair.val + 1) ≠ 2)) (fun d => ethSend (2 * pair.val) { kind := .supervision } (setPrp pair.val { prpSt d pair.val with supervision := (prpSt d pair.val).supervision + 1 } d))) ∧
  (∀ (pair : Fin 2) (lanB : Bool) (s : State), Event (.prpLanTimeout pair lanB) s (fun d => prpOn d pair.val ∧ d.flag (if lanB then ETH.PRP.STAT.LAN_B_OK pair.val else ETH.PRP.STAT.LAN_A_OK pair.val)) (fun d => 
      let f := if lanB then ETH.PRP.STAT.LAN_B_OK pair.val else ETH.PRP.STAT.LAN_A_OK pair.val
      let d := toUp ((ethCount d (2 * pair.val + b2n lanB)).rxUp + 3000000 * lifeMs d pair.val) d
      raise (112 + pair.val) (b2n lanB) (raiseEv 33 0 0 (d.wr f 0)))) ∧
  (∀ (pair : Fin 2) (src : Nat) (s : State), Event (.nodeForget pair src none) s (fun _ => True) (fun d => setPrp pair.val { prpSt d pair.val with nodes := (prpSt d pair.val).nodes.filter fun n => n.1 != src } d)) ∧
  (∀ (pair : Fin 2) (src q : Nat) (s : State), Event (.nodeForget pair src (some q)) s (fun _ => True) (fun d => setPrp pair.val { prpSt d pair.val with nodes := (prpSt d pair.val).nodes.map fun n => if n.1 = src then (n.1, n.2.filter (· != q % 65536)) else n } d)) ∧
  (∀ (q : Fin 6) (ident off len : Nat) (s : State), Event (.diagBar0Read q ident off len) s (fun _ => len ≤ 1400 ∧ off % 4 = 0 ∧ len % 4 = 0 ∧ off + len ≤ 0x2000000) (fun d => diagRespond q.val 1 ident off stOK ((List.range (len / 4)).flatMap fun k => toBytes 4 (barRead 0 (off + 4 * k) d).1) d)) ∧
  (∀ (q : Fin 6) (ident off len : Nat) (s : State), Event (.diagProofReport q ident off len) s (fun d => opState d ≠ 2) (fun d => diagImage q.val 2 ident off len (·.boot.report) d)) ∧
  (∀ (q : Fin 6) (ident first len : Nat) (s : State), Event (.diagFaultRecords q ident first len) s (fun _ => len ≤ 1400 ∧ first ≤ 191) (fun d => diagRespond q.val 3 ident first stOK (((List.range (192 - first)).flatMap fun k => recBytes d (first + k)).take len) d)) ∧
  (∀ (q : Fin 6) (ident seq len : Nat) (s : State), Event (.diagRecorderRecords q ident seq len) s (fun _ => len ≤ 1400) (fun d => 
      let rs := (readableArea false d).filter fun r => decide (0 ≤ sdiff 32 r.seq seq)
      diagRespond q.val 4 ident seq stOK ((rs.take 44).flatMap recordBytes |>.take len) d)) ∧
  (∀ (q : Fin 6) (ident off len : Nat) (s : State), Event (.diagCrustStatus q ident off len) s (fun _ => True) (fun d => (diagImage q.val 5 ident off len fun d => toBytes 4 (barRead 0 0x500000 d).1) d))

/-- CAN channels: commands, frames, errors and phases. The commands of the FIELD unit complete and the events of a channel act where the channel's state and the objects' configuration allow them. (R200, R201, R202, R206, R208, R209, R212, R213, R214, R215, R216, R217) -/
def Obligations.CanComplete : Prop :=
  (∀ (s : State), Event .canClkRecovery s (fun d => islandOn d 11 = true) (fun d => canStartEnabled (canClockBack (d.wr PWR.CLK_STAT.PRESENT (setBit (d.rd PWR.CLK_STAT.PRESENT) 4 true))))) ∧
  (∀ (s : State), Event .canClkRecovery s (fun d => islandOn d 11 = false) (fun d => canClockBack (d.wr PWR.CLK_STAT.PRESENT (setBit (d.rd PWR.CLK_STAT.PRESENT) 4 true)))) ∧
  (∀ (h : CmdHdr) (ch : Nat) (s : State), Cmd { unit := 3, op := 1, c := true, isl := [11] } (.canPower h ch 1) h s (fun d => ch ≤ 15 ∧ badFunc d (115 + ch) = false ∧ canState (commitField (CAN.CTRL.EN ch) (canRequest ch true d)) ch = 1) (fun d => .later (commitField (CAN.CTRL.EN ch) (canRequest ch true d)) (.can ch true) [])) ∧
  (∀ (h : CmdHdr) (ch : Nat) (s : State), Cmd { unit := 3, op := 1, c := true, isl := [11] } (.canPower h ch 0) h s (fun d => ch ≤ 15 ∧ canState (commitField (CAN.CTRL.EN ch) (canRequest ch false d)) ch = 4) (fun d => .later (commitField (CAN.CTRL.EN ch) (canRequest ch false d)) (.can ch false) [])) ∧
  (∀ (h : CmdHdr) (ch : Nat) (s : State), Cmd { unit := 3, op := 1, c := true, isl := [11] } (.canPower h ch 2) h s (fun d => ch ≤ 15 ∧ canState d ch = 2) (fun d => .later (setCan ch { canSt d ch with sleepReq := true, haltAt := if (canSt d ch).sleepReq then (canSt d ch).haltAt else d.up } d) (canSleepTag ch) [])) ∧
  (∀ (h : CmdHdr) (ch : Nat) (s : State), Cmd { unit := 3, op := 1, c := true, isl := [11] } (.canPower h ch 3) h s (fun d => ch ≤ 15 ∧ canState d ch = 3) (fun d => .done (canWakeUp ch d) stOK [canStatWord (canWakeUp ch d) ch])) ∧
  (∀ (h : CmdHdr) (ch obj dlc flags : Nat) (inline : List Byte) (s : State), Cmd { unit := 3, op := 2, isl := [11] } (.canTx h ch obj dlc flags inline) h s (fun d => ch ≤ 15 ∧ obj ≤ 127 ∧ ¬ (chanOff d ch) ∧ ¬ (objOwned d ch obj) ∧ isTxObj d ch obj ∧ ¬ (d.flag (CAN.OBJ.STAT.TXREQ ch obj)) ∧ ¬ ((d.flag (CAN.OBJ.CFG.FDF ch obj)) ∧ (¬ d.flag (CAN.CTRL.FD_EN ch) ∨ d.flag (CAN.OBJ.CFG.RTR ch obj))) ∧ ¬ (h.bufs = [] ∧ 40 < (dlcBytes (d.flag (CAN.OBJ.CFG.FDF ch obj)) (dlc % 16))) ∧ ¬ (h.bufs ≠ [] ∧ ¬ sendOk h (dlcBytes (d.flag (CAN.OBJ.CFG.FDF ch obj)) (dlc % 16)))) (fun d => canTxEffect h ch obj dlc flags inline d)) ∧
  (∀ (h : CmdHdr) (ch obj : Nat) (phase : Fin 3) (s : State), Cmd { unit := 3, op := 3, isl := [11] } (.canCancel h ch obj phase) h s (fun d => ch ≤ 15 ∧ obj ≤ 127 ∧ ¬ (objOwned d ch obj) ∧ d.flag (CAN.OBJ.STAT.TXREQ ch obj) ∧ (phase.val = 0 ∨ canDrives d ch obj = false)) (fun d => .done (txDone ch obj d.up 2 false d) stOK [2, 0])) ∧
  (∀ (h : CmdHdr) (ch obj : Nat) (phase : Fin 3) (s : State), Cmd { unit := 3, op := 3, isl := [11] } (.canCancel h ch obj phase) h s (fun d => ch ≤ 15 ∧ obj ≤ 127 ∧ ¬ (objOwned d ch obj) ∧ d.flag (CAN.OBJ.STAT.TXREQ ch obj) ∧ phase.val ≠ 0 ∧ canDrives d ch obj = true) (fun d => .later (setCan ch { canSt d ch with cancels := [obj] } d) (canCancelTag ch obj) [])) ∧
  (∀ (h : CmdHdr) (ch first count : Nat) (s : State), Cmd { unit := 3, op := 4, isl := [11], kw := true } (.canRxRead h ch first count) h s (fun d => ch ≤ 15 ∧ first ≤ 127 ∧ 1 ≤ count ∧ count ≤ 128 ∧ ¬ (((List.range 128).filter fun k => first ≤ k && k < first + count).any (objOwned d ch)) ∧ recvOk h (80 * count)) (fun d => 
      let range := (List.range 128).filter fun k => first ≤ k && k < first + count
      let new := range.filter fun k => d.flag (CAN.OBJ.STAT.NEWDAT ch k)
      let d := outBuf h (new.flatMap (objRecord d ch)) d
      .done (new.foldl (fun (d : Dev) k => d.wr (CAN.OBJ.STAT.NEWDAT ch k) 0) d) stOK [new.length])) ∧
  (∀ (h : CmdHdr) (ch : Nat) (s : State), Cmd { unit := 3, op := 5, isl := [11], kw := true } (.canHpbRead h ch) h s (fun _ => ch ≤ 15 ∧ recvOk h 320) (fun d => 
      let l := (canSt d ch).hpb
      let d := outBuf h (l.flatMap hpbRecord) d
      .done ((setCan ch { canSt d ch with hpb := [] } d).wr (CAN.HPB_STAT.LEVEL ch) 0) stOK [l.length])) ∧
  (∀ (h : CmdHdr) (ch : Nat) (s : State), Cmd { unit := 3, op := 6, isl := [11] } (.canResume h ch) h s (fun _ => ch ≤ 15) (fun d => 
      let l := (List.range 128).filter fun k => d.flag (CAN.OBJ.STAT.SUSPENDED ch k)
      .done ((l.foldl (fun (d : Dev) k => setCan ch { canSt d ch with reqAt := ins k d.up (canSt d ch).reqAt } (d.wr (CAN.OBJ.STAT.SUSPENDED ch k) 0)) d).wr (CAN.CNT.ACK_RUN ch) 0) stOK [l.length])) ∧
  (∀ (h : CmdHdr) (ch : Nat) (s : State), Cmd { unit := 3, op := 7, isl := [11] } (.canBoRecover h ch) h s (fun d => ch ≤ 15 ∧ d.flag (CAN.STAT.BO_WAIT ch)) (fun d => 
      let d := d.wr (CAN.STAT.BO_WAIT ch) 0
      .done d stOK [canStatWord d ch])) ∧
  (∀ (n : Fin 16) (s : State), Event (.canStartEnd n) s (fun d => canState d n.val = 1) (fun d => 
      let d := d.wr (CAN.STAT.CSTATE n.val) 2
      finishKindWith (.can n.val true) stOK [canStatWord d n.val] d)) ∧
  (∀ (n : Fin 16) (s : State), Event (.canStopEnd n) s (fun d => canState d n.val = 4) (fun d => canStopped n.val d)) ∧
  (∀ (n : Fin 16) (s : State), Event (.canStopTimeout n) s (fun d => canState d n.val = 4) (fun d => canStopped n.val d)) ∧
  (∀ (n : Fin 16) (s : State), Event (.canMinoffEnd n) s (fun _ => True) (fun d => 
      let d := d.wr (CAN.STAT.MINOFF n.val) 0
      if canState d n.val = 0 ∧ d.flag (CAN.STAT.PENDING_REARM n.val) ∧ islandOn d 11 then canBegin n.val d else d)) ∧
  (∀ (n : Fin 16) (f : CanFrame) (age : Nat) (s : State), Event (.canFrameRx n f age) s (fun d => islandOn d 11 = true ∧ canServes d = true ∧ ¬ (f.fdf = true ∧ ¬ d.flag (CAN.CTRL.FD_EN n.val) = true) ∧ (canState d n.val = 2 ∨ canState d n.val = 4)) (fun d => engServe n.val (rxTest n.val (d.up - age) f (recDown n.val (busEnded n.val d))))) ∧
  (∀ (n : Fin 16) (f : CanFrame) (age : Nat) (s : State), Event (.canFrameRx n f age) s (fun d => islandOn d 11 = true ∧ canServes d = true ∧ ¬ (f.fdf = true ∧ ¬ d.flag (CAN.CTRL.FD_EN n.val) = true) ∧ canState d n.val = 3 ∧ d.rd (CAN.CTRL.WAKE_MODE n.val) = 2) (fun d => 
      if d.flag (CAN.WAKE_ID.IDE n.val) = f.ide ∧ idMatches (d.rd (CAN.WAKE_ID.ID n.val)) (d.rd (CAN.WAKE_MASK.MASK n.val)) f.id f.ide
      then canWakeUp n.val (hpbPut n.val 8 (d.up - age) f (busEnded n.val d)).1 else busEnded n.val d)) ∧
  (∀ (n : Fin 16) (r : CanEnd) (tdcv age : Nat) (s : State), Event (.canTxEnd n r tdcv age) s (fun d => islandOn d 11 ∧ canServes d ∧ ((canState d n.val = 2 ∨ canState d n.val = 4)) ∧ canMode d n.val ≠ 1) (fun d => busEnded n.val (canTxEndEffect n r tdcv age d))) ∧
  (∀ (n : Fin 16) (s : State), Event (.busoffRecoveryEnd n) s (fun d => canState d n.val = 5 ∧ ¬ (d.flag (CAN.STAT.BO_WAIT n.val))) (fun d => 
      let d := ((d.wr (CAN.ERR.TEC n.val) 0).wr (CAN.ERR.REC n.val) 0).wr (CAN.STAT.ESTATE n.val) 0
      setEvt n.val 5 (d.wr (CAN.STAT.CSTATE n.val) 2))) ∧
  (∀ (n : Fin 16) (s : State), Event (.sleepEntry n) s (fun d => canState d n.val = 2 ∧ (canSt d n.val).sleepReq) (fun d => 
      let d := setCan n.val { canSt d n.val with sleepReq := false } (d.wr (CAN.STAT.CSTATE n.val) 3)
      finishKindWith (canSleepTag n.val) stOK [canStatWord d n.val] d)) ∧
  (∀ (n : Fin 16) (s : State), Event (.canWake n) s (fun d => canState d n.val = 3 ∧ d.rd (CAN.CTRL.WAKE_MODE n.val) = 1) (fun d => canWakeUp n.val d)) ∧
  (∀ (n : Fin 16) (s : State), Event (.protocolException n) s (fun d => islandOn d 11 ∧ (canState d n.val = 2 ∨ canState d n.val = 4)) (fun d => protocolException n.val (busEnded n.val d))) ∧
  (∀ (n : Fin 16) (code : Fin 7) (dataPhase plus8 : Bool) (s : State), Event (.canRxError n code dataPhase plus8) s (fun d => islandOn d 11 ∧ ((canState d n.val = 2 ∨ canState d n.val = 4)) ∧ code.val ≠ 0) (fun d => 
      let d := busEnded n.val d
      let d := if dataPhase then d.wr (CAN.ERR.DLEC n.val) code.val else d.wr (CAN.ERR.LEC n.val) code.val
      settleEstate n.val (d.wr (CAN.ERR.REC n.val) (min 255 (d.rd (CAN.ERR.REC n.val) + if plus8 then 8 else 1)))))

/-- Tyrid sessions: the commands. The commands of the SESSION unit and a write of a session's EN complete, where the conditions of their rules hold, with what R244 gives each. (R235, R236, R237, R244, R247) -/
def Obligations.SessionCommandsComplete : Prop :=
  (∀ (h : CmdHdr) (n : Nat) (s : State), Cmd { unit := 4, op := 1, c := true, isl := [11] } (.sessCfg h n) h s (fun d => n ≤ 4095 ∧ sendOk h 32 ∧ ¬ (sessEn d n) ∧ sessState d n = 0) (fun d => sessCfgEffect h n d)) ∧
  (∀ (h : CmdHdr) (n : Nat) (s : State), Cmd { unit := 4, op := 2, c := true, isl := [2, 11] } (.sessPower h n 1) h s (fun d => n ≤ 4095 ∧ slicesFit d n = true ∧ sessRefused (d.wr (SESS.CTX.CFG.EN n) 1) n = none ∧ (commitField (SESS.CTX.CFG.EN n) (sessRequest n true d)).flag (SESS.CTX.STAT.PENDING_REARM n) = false ∧ sessState (commitField (SESS.CTX.CFG.EN n) (sessRequest n true d)) n = 0) (fun d => .later (commitField (SESS.CTX.CFG.EN n) (sessRequest n true d)) (.session n true) [])) ∧
  (∀ (h : CmdHdr) (n : Nat) (s : State), Cmd { unit := 4, op := 2, c := true, isl := [2, 11] } (.sessPower h n 0) h s (fun _ => n ≤ 4095) (fun d => 
      let d := finishSess n true (commitField (SESS.CTX.CFG.EN n) (sessRequest n false d))
      if sessState d n = 0 then .done d stOK [sessStatWord d n] else .later d (.session n false) [])) ∧
  (∀ (h : CmdHdr) (first count : Nat) (s : State), Cmd { unit := 4, op := 3, isl := [11], kw := true } (.sessRead h first count) h s (fun _ => first ≤ 4095 ∧ count ≠ 0 ∧ count ≤ 256 ∧ recvOk h (16 * count)) (fun d => 
      let n := min count (4096 - first)
      let recs := (List.range n).flatMap fun i => toBytes 4 (sessStatWord d (first + i)) ++ toBytes 4 (d.rd (SESS.CTX.LAST_RX (first + i))) ++ toBytes 4 (sessOutseqWord d (first + i)) ++ toBytes 4 0
      .done (outBuf h recs d) stOK [n])) ∧
  (∀ (h : CmdHdr) (n rw len param : Nat) (s : State), Cmd { unit := 4, op := 4, isl := [11] } (.sessParam h n rw len param) h s (fun d => n ≤ 4095 ∧ rw ≤ 1 ∧ len ≤ 58 ∧ param ≤ 65535 ∧ ¬ (len ≠ 0 ∧ ¬ (if rw = 1 then sendOk h len else recvOk h len)) ∧ ¬ (sessState d n ≠ 2 ∧ sessState d n ≠ 5) ∧ (toBytes 1 (d.rd (SESS.CTX.STAT.EPOCH n)) ++ toBytes 1 (sessSt d n).paramId ++ toBytes 1 rw ++ toBytes 1 len ++ toBytes 2 param ++ (if rw = 1 ∧ len ≠ 0 then inBuf h d else [])).length ≤ pduLimit d n) (fun d => sessParamEffect h n rw len param d)) ∧
  (∀ (h : CmdHdr) (sub cans ports : Nat) (s : State), Cmd { unit := 4, op := 5, c := true, isl := [11] } (.sessBcast h sub cans ports) h s (fun _ => ((sub = 2 ∨ sub = 3)) ∧ cans < 2 ^ 16 ∧ ports < 64) (fun d => .done (broadcast ((List.range 16).filter (bitOf cans)) ((List.range 6).filter (bitOf ports)) (toBytes 1 sub) d) stOK [])) ∧
  (∀ (p : Fin 2) (n : Fin 4096) (v : Nat) (s : State), Event (.sessEnWrite p n v) s (fun d => writable p.val (sessCtx n.val) d = true) (fun d => 
      let was := sessEn d n.val
      let (d', refused) := writeFields false (sessCtx n.val) v d
      sessEnEffect p.val n.val was (if refused then ignoreWrite p.val (sessCtx n.val) d' else d')))

/-- Tyrid sessions: the PDUs of stations. What brings a PDU of a class for a session is received, and a PDU in a datagram that the session takes has the effect of its class. (R229, R230, R231, R232, R233, R234, R235, R240, R241, R244, R245) -/
def Obligations.SessionPdusComplete : Prop :=
  (∀ (n : Fin 4096) (p : PduIn) (s : State), Event (.joinRequest n p) s (fun _ => pduFirst p = some (0, n.val)) (fun d => receive p d)) ∧
  (∀ (n : Fin 4096) (q : Fin 6) (g : Datagram) (u : DgPdu) (s : State), Event (.joinRequest n (.udp q g)) s (fun d => PduArrives n.val 0 q g u d ∧ 16 ≤ u.data.length) (fun d => joinRequestEffect n.val (dgSrc q g) u.data (tookPdu n.val 0 q g u d))) ∧
  (∀ (n : Fin 4096) (p : PduIn) (s : State), Event (.pollResponse n p) s (fun _ => pduFirst p = some (1, n.val)) (fun d => receive p d)) ∧
  (∀ (n : Fin 4096) (q : Fin 6) (g : Datagram) (u : DgPdu) (t : Nat) (s : State), Event (.pollResponse n (.udp q g)) s (fun d => PduOk n.val 1 q g u d ∧ sessState d n.val ≠ 4 ∧ (sessSt d n.val).pollAt = some t ∧ fieldAt u.data 1 1 = (sessSt d n.val).pollSeq ∧ d.up ≤ t + respNs d n.val ∧ fieldAt u.data 2 1 ≤ 2) (fun d => pollValid n.val d.up u.data (tookPdu n.val 1 q g u d))) ∧
  (∀ (n : Fin 4096) (p : PduIn) (s : State), Event (.outConfirmation n p) s (fun _ => pduFirst p = some (2, n.val) ∨ pduFirst p = some (3, n.val)) (fun d => receive p d)) ∧
  (∀ (n : Fin 4096) (q : Fin 6) (g : Datagram) (u : DgPdu) (s : State), Event (.outConfirmation n (.udp q g)) s (fun d => PduOk n.val 2 q g u d ∧ (sessSt d n.val).lastOut.isSome = true ∧ fieldAt u.data 1 1 = d.rd (SESS.CTX.OUTSEQ.SENT n.val) ∧ fieldAt u.data 2 4 = (sessSt d n.val).crc) (fun d => outConfirmed n.val (fieldAt u.data 1 1) (fieldAt u.data 6 1) (tookPdu n.val 2 q g u d))) ∧
  (∀ (n : Fin 4096) (q : Fin 6) (g : Datagram) (u : DgPdu) (s : State), Event (.outConfirmation n (.udp q g)) s (fun d => PduOk n.val 3 q g u d ∧ fieldAt u.data 1 1 = (sessSt d n.val).spSeq ∧ fieldAt u.data 2 4 = 0 ∧ fieldAt u.data 6 1 ≠ 0) (fun d => raiseEv 75 0 0 (tookPdu n.val 3 q g u d))) ∧
  (∀ (n : Fin 4096) (p : PduIn) (s : State), Event (.alarmPdu n p) s (fun _ => pduFirst p = some (4, n.val)) (fun d => receive p d)) ∧
  (∀ (n : Fin 4096) (q : Fin 6) (g : Datagram) (u : DgPdu) (s : State), Event (.alarmPdu n (.udp q g)) s (fun d => PduOk n.val 4 q g u d) (fun d => 
      let d := tookPdu n.val 4 q g u d
      raiseEv 74 n.val (fieldAt u.data 2 2) (sendPdu n.val 4 (toBytes 1 (d.rd (SESS.CTX.STAT.EPOCH n.val)) ++ toBytes 1 (fieldAt u.data 1 1)) d))) ∧
  (∀ (n : Fin 4096) (p : PduIn) (s : State), Event (.statusAnswer n p) s (fun _ => pduFirst p = some (5, n.val)) (fun d => receive p d)) ∧
  (∀ (n : Fin 4096) (q : Fin 6) (g : Datagram) (u : DgPdu) (s : State), Event (.statusAnswer n (.udp q g)) s (fun d => PduOk n.val 5 q g u d) (fun d => 
      let d := tookPdu n.val 5 q g u d
      setSess n.val { sessSt d n.val with fallback := fieldAt u.data 2 4 } d)) ∧
  (∀ (n : Fin 4096) (p : PduIn) (s : State), Event (.paramAnswer n p) s (fun _ => pduFirst p = some (6, n.val)) (fun d => receive p d)) ∧
  (∀ (n : Fin 4096) (q : Fin 6) (g : Datagram) (u : DgPdu) (s : State), Event (.paramAnswer n (.udp q g)) s (fun d => PduOk n.val 6 q g u d ∧ (look (sessSt d n.val).paramAt (fieldAt u.data 1 1)).isSome = true ∧ d.host.waits = []) (fun d => 
      let d := tookPdu n.val 6 q g u d
      finishKindWith (paramTag n.val (fieldAt u.data 1 1)) stOK [fieldAt u.data 2 1, min 58 (fieldAt u.data 3 1)] (setSess n.val { sessSt d n.val with paramAt := del (fieldAt u.data 1 1) (sessSt d n.val).paramAt } d))) ∧
  (∀ (n : Fin 4096) (p : PduIn) (s : State), Event (.leavePdu n p) s (fun _ => pduFirst p = some (7, n.val)) (fun d => receive p d)) ∧
  (∀ (n : Fin 4096) (q : Fin 6) (g : Datagram) (u : DgPdu) (s : State), Event (.leavePdu n (.udp q g)) s (fun d => PduOk n.val 7 q g u d ∧ d.flag (SESS.CTX.STAT.STOPPING n.val) = false) (fun d => sessIdle n.val (tookPdu n.val 7 q g u d)))

/-- Tyrid sessions: slots, timeouts and broadcasts. The slot of a polled session runs, and each timeout of a session acts in the state its rule names. (R231, R234, R235, R236, R239, R240, R241, R244) -/
def Obligations.SessionTimersComplete : Prop :=
  (∀ (n : Fin 4096) (s : State), Event (.pollSlot n) s (fun d => sessServed d ∧ isPolled d n.val) (fun d => pollSlotEffect n.val d)) ∧
  (∀ (n : Fin 4096) (t : Nat) (s : State), Event (.respTimeout n 0) s (fun d => (sessSt d n.val).pollAt = some t ∧ d.rd (SESS.CTX.CFG.RETRY n.val) ≤ (sessSt d n.val).tries) (fun d => pollMiss n.val (toUp (t + respNs d n.val) d))) ∧
  (∀ (n : Fin 4096) (t : Nat) (s : State), Event (.respTimeout n 1) s (fun d => (sessSt d n.val).outAt = some t) (fun d => outMiss n.val (toUp (t + respNs d n.val) d))) ∧
  (∀ (n : Fin 4096) (id t : Nat) (rest : List (Nat × Nat)) (s : State), Event (.respTimeout n 2) s (fun d => (sessSt d n.val).paramAt = (id, t) :: rest) (fun d => 
      let d := toUp (t + respNs d n.val * (d.rd (SESS.CTX.CFG.RETRY n.val) + 1)) d
      finishKindWith (paramTag n.val id) 0x0405 [] (setSess n.val { sessSt d n.val with paramAt := rest } d))) ∧
  (∀ (n : Fin 4096) (s : State), Event (.joinTimeout n) s (fun d => sessState d n.val = 1) (fun d => setSessState n.val 3 (toUp ((sessSt d n.val).joinAt + max 1 (d.rd (SESS.CTX.TMO.JOIN_TMO n.val)) * 100000000) d))) ∧
  (∀ (n : Fin 4096) (s : State), Event (.lostTimeout n) s (fun d => sessState d n.val = 3) (fun d => 
      let x := sessSt d n.val
      let d := toUp (x.rxAt.getD x.joinAt + max 10 (d.rd (SESS.CTX.TMO.LOST_TMO n.val)) * 100000000) d
      setSessState n.val 4 (setSess n.val { sessSt d n.val with pollAt := none, outAt := none, statusAt := d.up } d))) ∧
  (∀ (n : Fin 4096) (s : State), Event (.lostPoll n) s (fun d => sessServed d ∧ sessState d n.val = 4) (fun d => 
      let d := toUp ((sessSt d n.val).statusAt + max 1 (d.rd SESS.CFG.LOST_POLL) * 1000000000) d
      sendPdu n.val 5 (toBytes 1 (d.rd (SESS.CTX.STAT.EPOCH n.val))) (setSess n.val { sessSt d n.val with statusAt := d.up } d))) ∧
  (∀ (n : Fin 4096) (s : State), Event (.sessionStopEnd n) s (fun d => d.flag (SESS.CTX.STAT.STOPPING n.val)) (fun d => 
      let d := sessIdle n.val (toUp ((sessSt d n.val).stopAt + respNs d n.val) d)
      let d := setSess n.val { sessSt d n.val with minoff := true, stopAt := d.up } d
      finishSess n.val false d)) ∧
  (∀ (n : Fin 4096) (s : State), Event (.sessMinoffEnd n) s (fun d => (sessSt d n.val).minoff) (fun d => 
      let d := toUp ((sessSt d n.val).stopAt + 10000000) d
      (setSess n.val { sessSt d n.val with minoff := false } d).wr (SESS.CTX.STAT.PENDING_REARM n.val) 0)) ∧
  (∀ (s : State), Event .timeBroadcast s (fun d => sessServed d ∧ islandOn d 11) (fun d => 
      let d := toUp (d.timeSentAt + 10000000000) d
      broadcast (sessChans d) (List.range 6) (toBytes 1 1 ++ toBytes 6 (svcSec d) ++ toBytes 4 (svcNs d)) { d with timeSentAt := d.up }))

/-- Converters, calibration, digital lines, pulse inputs and analogue outputs. The commands of the ADC unit complete, a pass converts its due entries, and the events of inputs and outputs act where the unit serves them. (R249, R253, R255, R256, R260, R262, R265, R268, R269, R271, R273, R275) -/
def Obligations.ProcessIoComplete : Prop :=
  (∀ (h : CmdHdr) (sar cfg tim gain ofs param : Nat) (codes refs : List Int) (s : State), Cmd { unit := 5, op := 1, isl := [9] } (.adcInject h sar cfg tim gain ofs param codes refs) h s (fun _ => sar ≤ 1) (fun d => 
      let e := entryCfg cfg tim
      if ¬ sarsCan d ∨ ¬ injectOk sar e.time d then .done (raiseEv 83 sar 0 (d.bump (PIO.SAR.CNT.INJ_DROP sar))) 0x0501 []
      else
        adcInjectEffect sar cfg tim gain ofs param codes refs d)) ∧
  (∀ (h : CmdHdr) (sar entry ref : Nat) (s : State), Cmd { unit := 5, op := 2, c := true, isl := [9] } (.adcCal h sar entry 1 ref) h s (fun d => sar ≤ 1 ∧ entry ≤ 255 ∧ d.flag (PIO.ENTRY.CFG.USE sar entry) = true ∧ (entryOf d sar entry).kind ≠ 4 ∧ calSess d sar entry = none) (fun d => 
      let d := (setCal sar entry { opened := d.up } d).wr (PIO.RESULT.STAT.CAL sar entry) 1
      .done (if d.flag (PIO.RESULT.STAT.STALE sar entry) then d else handWordAt 0 (entKey sar entry) (entSt d sar entry).clean 2 d) stOK [0, 0, 0])) ∧
  (∀ (h : CmdHdr) (sar action : Nat) (s : State), Cmd { unit := 5, op := 3, c := true, isl := [9] } (.sarService h sar action) h s (fun d => sar ≤ 1 ∧ action ≤ 1 ∧ action = 0 ∧ ¬ ((sarSt d sar).out) ∧ ¬ ((sarSt d (1 - sar)).out) ∧ sarState d (1 - sar) = 1 ∧ ¬ ((sarSt d (1 - sar)).stopping)) (fun d => let d := sarTakeOut sar false d; .done d stOK [sarStatWord d sar])) ∧
  (∀ (h : CmdHdr) (sar action : Nat) (s : State), Cmd { unit := 5, op := 3, c := true, isl := [9] } (.sarService h sar action) h s (fun d => sar ≤ 1 ∧ action ≤ 1 ∧ action ≠ 0 ∧ (sarSt d sar).out ∧ ¬ ((sarSt d sar).failed) ∧ sarState d sar ≠ 3) (fun d => let d := sarReturn sar d; .done d stOK [sarStatWord d sar])) ∧
  (∀ (h : CmdHdr) (n gain ofs : Nat) (s : State), Cmd { unit := 5, op := 4, c := true, isl := [9] } (.dacCal h n gain ofs) h s (fun _ => n ≤ 31) (fun d => .done ((d.wr (PIO.DAC.GAIN n) gain).wr (PIO.DAC.OFS n) ofs) stOK [])) ∧
  (∀ (h : CmdHdr) (n count : Nat) (s : State), Cmd { unit := 5, op := 5, c := true, isl := [9] } (.pinLoad h n count) h s (fun _ => n ≤ 63) (fun d => .done { d with pio := { d.pio with loads := ins n (count % 2 ^ 32) d.pio.loads } } stOK [d.rd (PIO.PIN.COUNT n)])) ∧
  (∀ (k : Fin 2) (convs : List (List Int × List Int)) (conv : Nat) (s : State), Event (.sarPass k convs) s (fun d => sarFor d k.val = some conv) (fun d => sarPassEffect k convs conv d)) ∧
  (∀ (k : Fin 2) (s : State), Event (.sarMinoffEnd k) s (fun _ => True) (fun d => 
      let d := if (sarSt d k.val).stopping then settlePio (toUp ((sarSt d k.val).conv + 3) d) else d
      if ¬ d.flag (PIO.SAR.STAT.MINOFF k.val) then d
      else
        let d := (toUp ((sarSt d k.val).offAt + 100000) d).wr (PIO.SAR.STAT.MINOFF k.val) 0
        if d.flag (PIO.SAR.STAT.PENDING_REARM k.val) then sarStart k.val d else d)) ∧
  (∀ (k : Fin 2) (s : State), Event (.sarSelfcalEnd k) s (fun d => sarState d k.val = 3) (fun d => 
      let d := d.wr (PIO.SAR.STAT.SSTATE k.val) 2
      if d.host.waits.any fun w => w.kind == .sar k.val true then
        let d := sarReturn k.val d
        finishKindWith (.sar k.val true) stOK [sarStatWord d k.val] d
      else d)) ∧
  (∀ (k : Fin 2) (e : Fin 256) (c : CalSess) (s : State), Event (.calTimeout k e) s (fun d => calSess d k.val e.val = some c) (fun d => abandonCal k.val e.val (toUp (c.opened + 600000000000) d))) ∧
  (∀ (k : Fin 2) (e : Fin 256) (t : Nat) (s : State), Event (.inputStaleTimeout k e) s (fun d => (entSt d k.val e.val).lastAt = some t ∧ d.flag (PIO.ENTRY.CFG.USE k.val e.val) = true ∧ d.flag (PIO.RESULT.STAT.STALE k.val e.val) = false) (fun d => entStale k.val e.val (toUp (t + 2 * (d.rd (PIO.ENTRY.TIM.DIV k.val e.val) + 1) * sarPeriod d k.val * tickNs + 1000000) d))) ∧
  (∀ (n : Fin 128) (v : Bool) (s : State), Event (.dioLevelChange n v) s (fun d => islandOn d 9 ∧ 2 ≤ opState d ∧ dioLvl d n.val ≠ v) (fun d => dioLevelChangeEffect n v d)) ∧
  (∀ (n : Fin 128) (s : State), Event (.dioMismatch n) s (fun d => islandOn d 9 ∧ (dioPin d n.val) ≠ 2 ∧ (dioPin d n.val) ≠ b2n (dioLvl d n.val) ∧ ¬ (bitOf (d.rd (PIO.DIO.MISM (n.val / 32))) (n.val % 32))) (fun d => 
      let f := PIO.DIO.MISM (n.val / 32)
      raise 137 n.val (raiseEv 86 n.val 0 (d.wr f (setBit (d.rd f) (n.val % 32) true))))) ∧
  (∀ (n : Fin 64) (rise : Bool) (s : State), Event (.pinEdge n rise) s (fun d => pioRuns d ∧ d.flag (PIO.PIN.CFG.EN n.val) ∧ (((d.rd (PIO.PIN.CFG.EDGE n.val)) = 3 ∨ ((d.rd (PIO.PIN.CFG.EDGE n.val)) = 2 ∧ ¬ rise) ∨ ((d.rd (PIO.PIN.CFG.EDGE n.val)) ≤ 1 ∧ rise)))) (fun d => 
      let rate := match look d.pio.edge n.val with
        | some t => if d.up ≤ t then f32Inf false else f32OfRatio 1000000000 (d.up - t)
        | none => d.rd (PIO.PIN.RATE n.val)
      let d := ((d.wr (PIO.PIN.COUNT n.val) (d.rd (PIO.PIN.COUNT n.val) + 1)).wr (PIO.PIN.STAMP n.val) (svcTotalNs d / 1000)).wr (PIO.PIN.RATE n.val) rate
      { d with pio := { d.pio with edge := ins n.val d.up d.pio.edge } })) ∧
  (∀ (n : Fin 64) (t : Nat) (s : State), Event (.rateTimeout n) s (fun d => look d.pio.edge n.val = some t) (fun d => (toUp (t + max 1 (d.rd (PIO.PIN.CFG.RATE_TMO n.val)) * 1000000000) d).wr (PIO.PIN.RATE n.val) 0)) ∧
  (∀ (n : Fin 16) (now : Bool) (s : State), Event (.excOpen n now) s (fun d => islandOn d 9 ∧ d.rd (PIO.EXC.CFG.CUR n.val) ≠ 0 ∧ d.flag (PIO.EXC.CFG.OPEN n.val) ≠ now) (fun d => 
      let d := d.put (PIO.EXC.CFG.OPEN n.val) now
      if now then raise 138 n.val d else d)) ∧
  (∀ (n : Fin 32) (now : Bool) (s : State), Event (.dacOpen n now) s (fun d => islandOn d 9 ∧ d.rd (PIO.DAC.CFG.MODE n.val) = 2 ∧ ¬ (now)) (fun d => d.wr (PIO.DAC.CFG.OPEN n.val) 0))

/-- The loop engine: commands, writes of contexts, samples and the base tick. On a loop in use each LOOP command schedules its change on all lanes at the tick R416 names and answers the index of the first sample it acts on; samples and base ticks run. (R15, R38, R397, R404, R406, R409, R414, R416, R417, R419, R423) -/
def Obligations.LoopComplete : Prop :=
  (∀ (s : State), Event .baseTick s (fun d => 2 ≤ opState d) (fun d => 
      let d := toSvcNs ((svcTotalNs d / tickNs + 1) * tickNs) d
      let handed := d.gate.t0.getD 0 + effTick 20000 d * tickNs
      let d := d.pio.loads.foldl (fun (d : Dev) e => onMeter (fun k => { k with loadAt := ins e.1 (handed :: (lookD k.loadAt e.1 []).filter fun t => decide (d.up < t + 2000000000)) k.loadAt }) (d.wr (PIO.PIN.COUNT e.1) e.2)) d
      let d : Dev := { d with pio := { d.pio with loads := [] } }
      let ws := pulseWords false d
      if pioRuns d ∧ ws ≠ [] then handPulse ws 0 d else d)) ∧
  (∀ (h : CmdHdr) (n mode src : Nat) (s : State), Cmd { unit := 9, op := 1, c := true, kw := true } (.loopMode h n mode src) h s (fun d => LoopOk n d ∧ ¬ (3 < mode ∧ mode ≠ 255) ∧ ¬ (2 < src ∧ src ≠ 255) ∧ ¬ (src = 2 ∧ (lookD (lowSt d).binds n {}).cas = false) ∧ ¬ (mode = 3 ∧ pendingMode d n (loopEff d) = 0)) (fun d => 
      let eff := loopEff d
      let old := pendingMode d n eff
      .done (handLoop eff n (.mode (if mode = 255 ∨ mode = old then none else some mode) (if src = 255 then none else some src)) d) stOK [loopIdx d n eff, ctrlWord d n eff (if mode = 255 then old else mode) (if src = 255 then pendingSrc d n eff else src)])) ∧
  (∀ (h : CmdHdr) (n v : Nat) (s : State), Cmd { unit := 9, op := 2, c := true } (.loopSp h n v) h s (fun d => LoopOk n d ∧ f32Finite v = true) (fun d => .done (handLoop (loopEff d) n (.lsp v) d) stOK [loopIdx d n (loopEff d)])) ∧
  (∀ (h : CmdHdr) (n v : Nat) (s : State), Cmd { unit := 9, op := 3, c := true, kw := true } (.loopManual h n v) h s (fun d => LoopOk n d ∧ f32Finite v = true) (fun d => .done (handLoop (loopEff d) n (.man v) d) stOK [loopIdx d n (loopEff d)])) ∧
  (∀ (h : CmdHdr) (n : Nat) (s : State), Cmd { unit := 9, op := 4, c := true } (.loopCoef h n) h s (fun d => LoopOk n d ∧ sendOk h 52 = true ∧ coefLocked d n = false ∧ coefsOk ((coefOffs.zip (bytesToWords 13 (inBuf h d))).map (·.2)) = true) (fun d => 
      let ws := coefOffs.zip (bytesToWords 13 (inBuf h d))
      .done (commitWords n ws (scheduleWords n ws d)) stOK [loopIdx d n (loopEff d)])) ∧
  (∀ (h : CmdHdr) (n : Nat) (s : State), Cmd { unit := 9, op := 5, c := true } (.loopLimits h n) h s (fun d => LoopOk n d ∧ sendOk h 36 = true ∧ limitsOk ((limOffs.zip (bytesToWords 9 (inBuf h d))).map (·.2)) = true) (fun d => 
      let ws := limOffs.zip (bytesToWords 9 (inBuf h d))
      .done (commitWords n ws (scheduleWords n ws d)) stOK [loopIdx d n (loopEff d)])) ∧
  (∀ (h : CmdHdr) (n v : Nat) (s : State), Cmd { unit := 9, op := 6, c := true } (.loopForce h n 1 v) h s (fun d => LoopOk n d ∧ f32Finite v = true) (fun d => 
      let d' : Dev := { d with frc := { d.frc with loop := ins n v d.frc.loop } }
      .done (raiseEvFrom (laneSrc d') 123 n 1 (handLoop (loopEff d) n (.force (some v)) d')) stOK [loopIdx d n (loopEff d)])) ∧
  (∀ (h : CmdHdr) (n v : Nat) (s : State), Cmd { unit := 9, op := 6, c := true } (.loopForce h n 0 v) h s (fun d => LoopOk n d ∧ (look d.frc.loop n).isSome = true) (fun d => 
      let d' : Dev := { d with frc := { d.frc with loop := del n d.frc.loop, relTick := max d.frc.relTick (loopEff d) } }
      .done (raiseEvFrom (laneSrc d') 123 n 0 (handLoop (loopEff d) n (.force none) d')) stOK [loopIdx d n (loopEff d)])) ∧
  (∀ (h : CmdHdr) (n count : Nat) (s : State), Cmd { unit := 9, op := 7, kw := true } (.loopRead h n count) h s (fun d => LoopOk n d ∧ 1 ≤ count ∧ count ≤ 64 ∧ recvOk h (256 * count) = true) (fun d => .done (outBuf h ((List.range (min count (1024 - n))).flatMap fun i => ctxBytes (lowSt d) (n + i)) d) stOK [min count (1024 - n)])) ∧
  (∀ (p : Fin 2) (addr v : Nat) (s : State), Event (.loopCtxWrite p addr v) s (fun _ => 0xE10000 ≤ addr ∧ addr < 0xE50000 ∧ addr % 4 = 0) (fun d => guardWrite p.val addr (loopCtxWriteOp p.val addr (v % 2 ^ 32)) d)) ∧
  (∀ (l : Fin 3) (c : Fin 8) (late : Bool) (idx T : Nat) (s : State), Event (.loopSample l c late) s (fun d => laneRuns d l.val = true ∧ d.gate.t0.isSome = true ∧ nextSample (laneSt d l.val) c.val = some (idx, T) ∧ fasterDue (laneSt d l.val) c.val T = false ∧ ((laneSt (toTick T d) l.val).runs.any fun r => r.cls == c.val) = false) (fun d => 
      let d := toTick T d
      let (x, evs) := pumpRuns T (afterSample c.val idx late (startRun c.val idx T (laneSt d l.val)))
      let d := raiseLane l.val evs (setLane l.val x d)
      if late then skipSample l.val c.val d else d)) ∧
  (∀ (l : Fin 3) (c : Fin 8) (late : Bool) (idx T : Nat) (s : State), Event (.loopSample l c late) s (fun d => laneRuns d l.val = true ∧ d.gate.t0.isSome = true ∧ nextSample (laneSt d l.val) c.val = some (idx, T) ∧ fasterDue (laneSt d l.val) c.val T = false ∧ ((laneSt (toTick T d) l.val).runs.any fun r => r.cls == c.val) = true) (fun d => 
      let d := toTick T d
      skipSample l.val c.val (setLane l.val (afterSample c.val idx false (laneSt d l.val)) d)))

/-- Lanes, the vote, arbitration and re-admission. The commands of the LANES unit complete; publications, window closes, arbitration, offset checks and the phases of a re-admission act. (R459, R460, R461, R464, R465, R469, R470, R472, R474, R477) -/
def Obligations.LanesComplete : Prop :=
  (∀ (h : CmdHdr) (lane action : Nat) (s : State), Cmd { unit := 10, op := 1, c := true, kw := true } (.laneReq h lane action) h s (fun d => lane ≤ 2 ∧ action ≤ 1 ∧ action = 0 ∧ 2 ≤ inServ d - b2n (laneIn d lane)) (fun d => 
      let d := isolate lane 7 d
      .done d stOK [lanesStatWord d])) ∧
  (∀ (h : CmdHdr) (lane : Nat) (s : State), Cmd { unit := 10, op := 1, c := true, kw := true } (.laneReq h lane 1) h s (fun d => lane ≤ 2 ∧ canReadmit lane d = true) (fun d => .done (beginReadmit lane d) stOK [lanesStatWord (beginReadmit lane d)])) ∧
  (∀ (h : CmdHdr) (s : State), Cmd { unit := 10, op := 2, c := true, kw := true } (.safeCmd h 1) h s (fun _ => True) (fun d => .done (applySafe 2 d) stOK [(applySafe 2 d).rd LANES.SAFE.CAUSE])) ∧
  (∀ (h : CmdHdr) (s : State), Cmd { unit := 10, op := 2, c := true, kw := true } (.safeCmd h 0) h s (fun d => setBit (d.rd LANES.SAFE.CAUSE) 2 false = 0 ∧ 2 ≤ inServ d) (fun d => .done (releaseSafe (clearSafeCause 2 d)) stOK [(releaseSafe (clearSafeCause 2 d)).rd LANES.SAFE.CAUSE])) ∧
  (∀ (h : CmdHdr) (first count : Nat) (s : State), Cmd { unit := 10, op := 3, kw := true } (.laneLogRead h first count) h s (fun _ => first ≤ 15 ∧ count ≠ 0 ∧ count ≤ 16 ∧ recvOk h (16 * count)) (fun d => 
      let n := min count (16 - first)
      .done (outBuf h ((List.range n).flatMap fun i => dlogBytes d (first + i)) d) stOK [n])) ∧
  (∀ (l : Fin 3) (upsets : List PubUpset) (x : Pub) (rest : List Pub) (s : State), Event (.lanePublication l upsets) s (fun d => (laneSt d l.val).outbox = x :: rest ∧ lstate d l.val = 5 ∧ lookD d.gate.inFrom l.val 0 ≤ (upsetPub upsets x).tick) (fun d => gateTake l.val (upsetPub upsets x) (setLane l.val { laneSt d l.val with outbox := rest } d))) ∧
  (∀ (l : Fin 3) (upsets : List PubUpset) (x : Pub) (rest : List Pub) (s : State), Event (.lanePublication l upsets) s (fun d => (laneSt d l.val).outbox = x :: rest ∧ lstate d l.val = 4) (fun d => failShadow (shadowTake l.val (upsetPub upsets x) (setLane l.val { laneSt d l.val with outbox := rest } d)))) ∧
  (∀ (src : Fin 9) (s : State), Event (.voteWindowClose src) s (fun _ => True) (fun d => sendImmediate (failShadow (closeWindow src.val (markUndelivered src.val d))))) ∧
  (∀ (f : Finding) (rest : List Finding) (s : State), Event (.csArbitration none) s (fun d => d.gate.findings = f :: rest) (fun d => arbitrate f { d with gate := { d.gate with findings := rest } })) ∧
  (∀ (l : Fin 3) (s : State), Event (.csArbitration (some l)) s (fun d => laneIn d l.val = true) (fun d => isolate l.val 3 d)) ∧
  (∀ (offs : List Int) (s : State), Event (.offsetCheck offs) s (fun _ => True) (fun d => [0, 1, 2].foldl (fun (d : Dev) l => offsetLane l (offs.getD l 0) d) d)) ∧
  (∀ (r : Readmit) (s : State), Event .readmitStartingEnd s (fun d => readmitIn 1 d = some r ∧ islandOn d (3 + r.lane) = true) (fun d => setLState r.lane 2 (laneLoad true r.lane d))) ∧
  (∀ (r : Readmit) (l : Nat) (s : State), Event .readmitSelftestEnd s (fun d => readmitIn 2 d = some r ∧ firstLane d = some l) (fun d => setLState r.lane 3 { d with gate := { d.gate with readmit := some { r with source := l, since := d.up } } })) ∧
  (∀ (r : Readmit) (t : Nat) (s : State), Event .mirrorCheckpoint s (fun d => readmitIn 3 d = some r ∧ d.gate.t0 = some t ∧ d.up + 100000 ≤ t + (laneSt d r.source).clp.next * tickNs) (fun d => 
      let d := setLane r.lane (mirror (laneSt d r.source) (laneSt d r.lane)) d
      setLState r.lane 4 { d with gate := { d.gate with readmit := some { r with since := d.up, seen := [] } } })) ∧
  (∀ (s : State), Event .mirrorTimeout s (fun _ => True) (fun d => 
      match readmitIn 3 d with
      | some r => failReadmit 0x0A04 (toUp (r.since + 1000 * max 1 ((laneSt d r.source).rd CLP.STAT.PERIOD) * tickNs) d)
      | none => d)) ∧
  (∀ (r : Readmit) (s : State), Event .shadowEnd s (fun d => readmitIn 4 d = some r ∧ r.since + max 1 (d.rd LANES.CFG.SHADOW) * 100000000 ≤ d.up ∧ (shadowNeeds d).all r.seen.contains = true) (fun d => 
      let d := setLState r.lane 5 (d.wr (LANES.LANE.CNT.STRIKES r.lane) 0)
      endReadmit r.lane 0 (checkPair { d with gate := { d.gate with inFrom := ins r.lane (nextTick d) d.gate.inFrom } }))) ∧
  (∀ (s : State), Event .laneStatPublication s (fun d => (opState d = 3 ∨ opState d = 4)) (fun d => 
      let n := d.time.svc / (secUnits / 10)
      publish 0x40 (n % 2 ^ 32) true false (laneStatBody d) d))

/-- The CLP's commands and cycles. The commands of the CLP unit complete with a lane in service, and cycles, the watchdog, the retentive copy and the minimum off time act. (R430, R433, R440, R444, R445, R447, R450, R451, R452, R454) -/
def Obligations.LogicProcessorComplete : Prop :=
  (∀ (p : Fin 2) (v : Nat) (s : State), Event (.clpEnWrite p v) s (fun d => writable p.val 0xF00000 d = true) (fun d => 
      let was := lflag d CLP.CFG.EN
      let ticks := lrd d CLP.CFG.MIN_TICKS
      let (d', refused) := writeFields false 0xF00000 v d
      let d' := if refused then ignoreWrite p.val 0xF00000 d' else d'
      clpCfgEffect was ticks d')) ∧
  (∀ (h : CmdHdr) (space addr v k : Nat) (s : State), Cmd { unit := 11, op := 1, c := true } (.clpForce h 1 space addr v) h s (fun d => (space ≤ 1 ∨ space = 5 ∨ space = 6) ∧ spaceOk space addr = true ∧ ¬ (space ≤ 1 ∧ 1 < v) ∧ (lowLane d).isSome = true ∧ (lowSt d).clp.img.unforce.contains (space, addr) = false ∧ ¬ (space = 6 ∧ loopOwned (lowSt d) addr = true) ∧ (forceEntry d space addr <|> freeEntry d) = some k) (fun d => 
      let eff := effTick 1000000 d
      let d' : Dev := { d with frc := { d.frc with clp := ins k { space := space, addr := addr, v := v % 2 ^ 32, eff := eff } d.frc.clp } }
      .done (raiseEvFrom (laneSrc d') 130 k 1 (handAt eff [.force space addr (v % 2 ^ 32)] d')) stOK [eff, k])) ∧
  (∀ (h : CmdHdr) (space addr v k : Nat) (s : State), Cmd { unit := 11, op := 1, c := true } (.clpForce h 0 space addr v) h s (fun d => (space ≤ 1 ∨ space = 5 ∨ space = 6) ∧ spaceOk space addr = true ∧ (lowLane d).isSome = true ∧ forceEntry d space addr = some k) (fun d => .done (releaseForce (effTick 1000000 d) k d) stOK [effTick 1000000 d, k])) ∧
  (∀ (h : CmdHdr) (s : State), Cmd { unit := 11, op := 2, c := true } (.clpForceAll h) h s (fun d => ¬ ((lowLane d).isNone)) (fun d => 
      let eff := effTick 1000000 d
      let ks := d.frc.clp.map (·.1)
      .done (ks.foldl (fun (d : Dev) k => releaseForce eff k d) d) stOK [ks.length, eff])) ∧
  (∀ (h : CmdHdr) (s : State), Cmd { unit := 11, op := 3, c := true } (.clpRun h 1) h s (fun d => (lowLane d).isSome = true) (fun d => .done (clpRunReq d) stOK [clpStatWord (clpRunReq d)])) ∧
  (∀ (h : CmdHdr) (s : State), Cmd { unit := 11, op := 3, c := true } (.clpRun h 0) h s (fun d => (lowLane d).isSome = true ∧ lrd (clpStopReq d) CLP.STAT.STATE = 2) (fun d => .later (clpStopReq d) (.clpRun false) [])) ∧
  (∀ (h : CmdHdr) (space addr v : Nat) (s : State), Cmd { unit := 11, op := 4, c := true } (.clpData h space addr v) h s (fun d => ((space = 2 ∨ space = 4 ∨ space = 7)) ∧ spaceOk space addr ∧ ¬ (space = 2 ∧ 1 < v) ∧ ¬ ((lowLane d).isNone)) (fun d => 
      let eff := effTick 1000000 d
      .done (handAt eff [.data space addr (v % 2 ^ 32)] d) stOK [eff])) ∧
  (∀ (h : CmdHdr) (first count : Nat) (s : State), Cmd { unit := 11, op := 5, kw := true } (.clpRead h 7 first count) h s (fun d => (lowLane d).isSome = true ∧ first < 8192 ∧ 1 ≤ count ∧ recvOk h (count * 4) = true) (fun d => 
      let cyc := (lowSt d).rd CLP.CYC.CYCLE
      .done (outBuf h (packItems 32 ((List.range (min count (8192 - first))).map fun i => lookD (lowSt d).clp.dw (first + i) 0)) d) stOK [min count (8192 - first), cyc % 2 ^ 32, cyc / 2 ^ 32])) ∧
  (∀ (h : CmdHdr) (first count : Nat) (s : State), Cmd { unit := 11, op := 5, kw := true } (.clpRead h 1 first count) h s (fun d => (lowLane d).isSome = true ∧ first < 65536 ∧ 1 ≤ count ∧ recvOk h ((count + 31) / 32 * 4) = true) (fun d => 
      let cyc := (lowSt d).rd CLP.CYC.CYCLE
      .done (outBuf h (packItems 1 ((List.range (min count (65536 - first))).map fun i => b2n (lookD (lowSt d).clp.outB (first + i) false))) d) stOK [min count (65536 - first), cyc % 2 ^ 32, cyc / 2 ^ 32])) ∧
  (∀ (l : Fin 3) (late : Bool) (s : State), Event (.clpCycle l late) s (fun d => laneRuns d l.val = true ∧ d.gate.t0.isSome = true ∧ (laneSt d l.val).rd CLP.STAT.STATE ≠ 3) (fun d => laneCycle l.val late d)) ∧
  (∀ (l : Fin 3) (s : State), Event (.clpWatchdog l) s (fun d => laneRuns d l.val ∧ ¬ (d.gate.t0.isNone) ∧ ((laneSt d l.val).rd CLP.STAT.STATE) ≠ 0 ∧ ((laneSt d l.val).rd CLP.STAT.STATE) ≠ 3) (fun d => isolate l.val 4 (raiseEvFrom (4 + l.val) 129 l.val 0 (clpSetState l.val 3 d)))) ∧
  (∀ (s : State), Event .retentiveCopyEv s (fun d => ¬ (d.gate.t0.isNone) ∧ ¬ ((lowLane d).isNone)) (fun d => 
      let d := toUp (d.gate.retAt + 10000000000) d
      retentiveCopy { d with gate := { d.gate with retAt := d.up } })) ∧
  (∀ (s : State), Event .clpMinoffEnd s (fun d => lflag d CLP.STAT.MINOFF) (fun d => 
      let re := lflag d CLP.STAT.PENDING_REARM
      let d := eachLane (fun x => (x.wr CLP.STAT.MINOFF 0).wr CLP.STAT.PENDING_REARM 0) d
      if re then clpRunReq d else d))

/-- The CLP's bit instructions. Every bit instruction completes on a lane that runs, with the operation of its row. (R436, R437, R438, R439, R440) -/
def Obligations.LogicBitComplete : Prop :=
  (∀ (l : Fin 3) (s : State), Event (.iNopInstr l) s (fun d => ClpRuns l.val d) (fun d => clpTook clpNop l.val d)) ∧
  (∀ (l : Fin 3) (sp : Fin 16) (n : Bool) (qm : Fin 16) (a : Nat) (s : State), Event (.iLd l sp n qm a) s (fun d => ClpRuns l.val d) (fun d => clpTook (clpLd sp.val n qm.val a) l.val d)) ∧
  (∀ (l : Fin 3) (sp : Fin 16) (n : Bool) (qm : Fin 16) (a : Nat) (s : State), Event (.iAnd l sp n qm a) s (fun d => ClpRuns l.val d) (fun d => clpTook (clpAnd sp.val n qm.val a) l.val d)) ∧
  (∀ (l : Fin 3) (sp : Fin 16) (n : Bool) (qm : Fin 16) (a : Nat) (s : State), Event (.iOr l sp n qm a) s (fun d => ClpRuns l.val d) (fun d => clpTook (clpOr sp.val n qm.val a) l.val d)) ∧
  (∀ (l : Fin 3) (sp : Fin 16) (n : Bool) (qm : Fin 16) (a : Nat) (s : State), Event (.iXor l sp n qm a) s (fun d => ClpRuns l.val d) (fun d => clpTook (clpXor sp.val n qm.val a) l.val d)) ∧
  (∀ (l : Fin 3) (s : State), Event (.iNot l) s (fun d => ClpRuns l.val d) (fun d => clpTook clpNot l.val d)) ∧
  (∀ (l : Fin 3) (combine : Fin 4) (s : State), Event (.iBopen l combine) s (fun d => ClpRuns l.val d) (fun d => clpTook (clpBopen combine.val) l.val d)) ∧
  (∀ (l : Fin 3) (s : State), Event (.iBclose l) s (fun d => ClpRuns l.val d) (fun d => clpTook clpBclose l.val d)) ∧
  (∀ (l : Fin 3) (sp : Fin 16) (n : Bool) (a : Nat) (s : State), Event (.iSt l sp n a) s (fun d => ClpRuns l.val d) (fun d => clpTook (clpSt sp.val n a) l.val d)) ∧
  (∀ (l : Fin 3) (sp : Fin 16) (a : Nat) (s : State), Event (.iSet l sp a) s (fun d => ClpRuns l.val d) (fun d => clpTook (clpSet sp.val a) l.val d)) ∧
  (∀ (l : Fin 3) (sp : Fin 16) (a : Nat) (s : State), Event (.iRst l sp a) s (fun d => ClpRuns l.val d) (fun d => clpTook (clpRst sp.val a) l.val d)) ∧
  (∀ (l : Fin 3) (a : Nat) (s : State), Event (.iPedge l a) s (fun d => ClpRuns l.val d) (fun d => clpTook (clpPedge a) l.val d)) ∧
  (∀ (l : Fin 3) (a : Nat) (s : State), Event (.iNedge l a) s (fun d => ClpRuns l.val d) (fun d => clpTook (clpNedge a) l.val d))

/-- The CLP's timers, counters, jumps and END. Every timer, counter and jump instruction and END completes on a lane that runs; END publishes. (R433, R436, R438, R439, R441, R442) -/
def Obligations.LogicTimerComplete : Prop :=
  (∀ (l : Fin 3) (t : Nat) (s : State), Event (.iTon l t) s (fun d => ClpRuns l.val d) (fun d => clpTook (clpTon t) l.val d)) ∧
  (∀ (l : Fin 3) (t : Nat) (s : State), Event (.iTof l t) s (fun d => ClpRuns l.val d) (fun d => clpTook (clpTof t) l.val d)) ∧
  (∀ (l : Fin 3) (t : Nat) (s : State), Event (.iTp l t) s (fun d => ClpRuns l.val d) (fun d => clpTook (clpTp t) l.val d)) ∧
  (∀ (l : Fin 3) (t : Nat) (s : State), Event (.iTpre l t) s (fun d => ClpRuns l.val d) (fun d => clpTook (clpTpre t) l.val d)) ∧
  (∀ (l : Fin 3) (t : Nat) (s : State), Event (.iTrst l t) s (fun d => ClpRuns l.val d) (fun d => clpTook (clpTrst t) l.val d)) ∧
  (∀ (l : Fin 3) (a : Nat) (s : State), Event (.iCtu l a) s (fun d => ClpRuns l.val d) (fun d => clpTook (clpCtu a) l.val d)) ∧
  (∀ (l : Fin 3) (a : Nat) (s : State), Event (.iCtd l a) s (fun d => ClpRuns l.val d) (fun d => clpTook (clpCtd a) l.val d)) ∧
  (∀ (l : Fin 3) (a : Nat) (s : State), Event (.iCrst l a) s (fun d => ClpRuns l.val d) (fun d => clpTook (clpCrst a) l.val d)) ∧
  (∀ (l : Fin 3) (a : Nat) (s : State), Event (.iCld l a) s (fun d => ClpRuns l.val d) (fun d => clpTook (clpCld a) l.val d)) ∧
  (∀ (l : Fin 3) (t : Nat) (s : State), Event (.iJmp l t) s (fun d => ClpRuns l.val d) (fun d => clpTook (clpJmp t) l.val d)) ∧
  (∀ (l : Fin 3) (t : Nat) (s : State), Event (.iJc l t) s (fun d => ClpRuns l.val d) (fun d => clpTook (clpJc t) l.val d)) ∧
  (∀ (l : Fin 3) (t : Nat) (s : State), Event (.iJnc l t) s (fun d => ClpRuns l.val d) (fun d => clpTook (clpJnc t) l.val d)) ∧
  (∀ (l : Fin 3) (s : State), Event (.iEnd l) s (fun d => ClpRuns l.val d) (fun d => clpCycleEnd l.val false none (clpTook clpEnd l.val d)))

/-- The CLP's word instructions. Every word instruction completes on a lane that runs, with the operation of its row. (R436, R437, R438, R440) -/
def Obligations.LogicWordComplete : Prop :=
  (∀ (l : Fin 3) (sp : Fin 16) (a : Nat) (s : State), Event (.iLdw l sp a) s (fun d => ClpRuns l.val d) (fun d => clpTook (clpLdw sp.val a) l.val d)) ∧
  (∀ (l : Fin 3) (imm : Nat) (s : State), Event (.iLdkh l imm) s (fun d => ClpRuns l.val d) (fun d => clpTook (clpLdkh imm) l.val d)) ∧
  (∀ (l : Fin 3) (sp : Fin 16) (a : Nat) (s : State), Event (.iStw l sp a) s (fun d => ClpRuns l.val d) (fun d => clpTook (clpStw sp.val a) l.val d)) ∧
  (∀ (l : Fin 3) (sp : Fin 16) (a : Nat) (s : State), Event (.iStwc l sp a) s (fun d => ClpRuns l.val d) (fun d => clpTook (clpStwc sp.val a) l.val d)) ∧
  (∀ (l : Fin 3) (sp : Fin 16) (a : Nat) (s : State), Event (.iAdd l sp a) s (fun d => ClpRuns l.val d) (fun d => clpTook (clpAdd sp.val a) l.val d)) ∧
  (∀ (l : Fin 3) (sp : Fin 16) (a : Nat) (s : State), Event (.iSub l sp a) s (fun d => ClpRuns l.val d) (fun d => clpTook (clpSub sp.val a) l.val d)) ∧
  (∀ (l : Fin 3) (sp : Fin 16) (a : Nat) (s : State), Event (.iMul l sp a) s (fun d => ClpRuns l.val d) (fun d => clpTook (clpMul sp.val a) l.val d)) ∧
  (∀ (l : Fin 3) (sp : Fin 16) (a : Nat) (s : State), Event (.iDiv l sp a) s (fun d => ClpRuns l.val d) (fun d => clpTook (clpDiv sp.val a) l.val d)) ∧
  (∀ (l : Fin 3) (sp : Fin 16) (a : Nat) (s : State), Event (.iAndw l sp a) s (fun d => ClpRuns l.val d) (fun d => clpTook (clpAndw sp.val a) l.val d)) ∧
  (∀ (l : Fin 3) (sp : Fin 16) (a : Nat) (s : State), Event (.iOrw l sp a) s (fun d => ClpRuns l.val d) (fun d => clpTook (clpOrw sp.val a) l.val d)) ∧
  (∀ (l : Fin 3) (sp : Fin 16) (a : Nat) (s : State), Event (.iXorw l sp a) s (fun d => ClpRuns l.val d) (fun d => clpTook (clpXorw sp.val a) l.val d)) ∧
  (∀ (l : Fin 3) (k : Fin 32) (s : State), Event (.iShl l k) s (fun d => ClpRuns l.val d) (fun d => clpTook (clpShl k.val) l.val d)) ∧
  (∀ (l : Fin 3) (k : Fin 32) (s : State), Event (.iShr l k) s (fun d => ClpRuns l.val d) (fun d => clpTook (clpShr k.val) l.val d)) ∧
  (∀ (l : Fin 3) (sp : Fin 16) (n : Bool) (rel : Fin 6) (a : Nat) (s : State), Event (.iCmp l sp n rel a) s (fun d => ClpRuns l.val d) (fun d => clpTook (clpCmp sp.val n rel.val a) l.val d))

/-- The CLP's binary32 instructions. Every binary32 instruction and conversion completes on a lane that runs, with the operation of its row. (R401, R436, R437, R438, R440) -/
def Obligations.LogicFloatComplete : Prop :=
  (∀ (l : Fin 3) (sp : Fin 16) (a : Nat) (s : State), Event (.iFadd l sp a) s (fun d => ClpRuns l.val d) (fun d => clpTook (clpFadd sp.val a) l.val d)) ∧
  (∀ (l : Fin 3) (sp : Fin 16) (a : Nat) (s : State), Event (.iFsub l sp a) s (fun d => ClpRuns l.val d) (fun d => clpTook (clpFsub sp.val a) l.val d)) ∧
  (∀ (l : Fin 3) (sp : Fin 16) (a : Nat) (s : State), Event (.iFmul l sp a) s (fun d => ClpRuns l.val d) (fun d => clpTook (clpFmul sp.val a) l.val d)) ∧
  (∀ (l : Fin 3) (sp : Fin 16) (a : Nat) (s : State), Event (.iFdiv l sp a) s (fun d => ClpRuns l.val d) (fun d => clpTook (clpFdiv sp.val a) l.val d)) ∧
  (∀ (l : Fin 3) (sp : Fin 16) (a : Nat) (s : State), Event (.iFmin l sp a) s (fun d => ClpRuns l.val d) (fun d => clpTook (clpFmin sp.val a) l.val d)) ∧
  (∀ (l : Fin 3) (sp : Fin 16) (a : Nat) (s : State), Event (.iFmax l sp a) s (fun d => ClpRuns l.val d) (fun d => clpTook (clpFmax sp.val a) l.val d)) ∧
  (∀ (l : Fin 3) (sp : Fin 16) (n : Bool) (rel : Fin 6) (a : Nat) (s : State), Event (.iFcmp l sp n rel a) s (fun d => ClpRuns l.val d) (fun d => clpTook (clpFcmp sp.val n rel.val a) l.val d)) ∧
  (∀ (l : Fin 3) (s : State), Event (.iItof l) s (fun d => ClpRuns l.val d) (fun d => clpTook clpItof l.val d)) ∧
  (∀ (l : Fin 3) (s : State), Event (.iFtoi l) s (fun d => ClpRuns l.val d) (fun d => clpTook clpFtoi l.val d))

/-- Electrical metering. The electrical metering commands of the METER unit complete, and samples, cycles, windows, closes, pulses and timers act where the unit serves them. (R286, R288, R290, R296, R298, R299, R300, R303, R304, R306, R308, R310) -/
def Obligations.MeterCommandsComplete : Prop :=
  (∀ (h : CmdHdr) (ch ref : Nat) (s : State), Cmd { unit := 6, op := 1, c := true, isl := [8] } (.mtrCal h ch 1 ref) h s (fun d => ch ≤ 59 ∧ (look d.meter.cal ch).isNone = true) (fun d => 
      let d := onMeter (fun m => { m with cal := ins ch { gain := d.rd (METER.CH.GAIN ch), phase := d.rd (METER.CH.PHASE ch), opened := d.up } m.cal }) (d.wr (METER.CH.CFG.CAL ch) 1)
      .done (settleMeter d) stOK [d.rd (METER.CH.GAIN ch), d.rd (METER.CH.PHASE ch), 0])) ∧
  (∀ (h : CmdHdr) (ch ref : Nat) (x : MCal) (s : State), Cmd { unit := 6, op := 1, c := true, isl := [8] } (.mtrCal h ch 2 ref) h s (fun d => ch ≤ 59 ∧ look d.meter.cal ch = some x ∧ x.busy = none) (fun d => .later (onMeter (fun m => { m with cal := ins ch { x with busy := some (false, ref % 2 ^ 32, 10, some 0) } m.cal }) d) (mcalTag ch) [])) ∧
  (∀ (h : CmdHdr) (ch ref : Nat) (x : MCal) (s : State), Cmd { unit := 6, op := 1, c := true, isl := [8] } (.mtrCal h ch 5 ref) h s (fun d => ch ≤ 59 ∧ look d.meter.cal ch = some x ∧ x.busy = none) (fun d => .done (raiseEv 94 ch 0 (mcalClose ch (finishKindWith (mcalTag ch) 0x0603 [] d))) stOK (mcalWords d ch 0))) ∧
  (∀ (h : CmdHdr) (k : Nat) (s : State), Cmd { unit := 6, op := 2, c := true, isl := [8] } (.mtrService h k 0) h s (fun d => k ≤ 3 ∧ d.rd METER.DSP.OUT = 0 ∧ d.meter.svc = none ∧ meterRuns d = true) (fun d => .later (onMeter (fun m => { m with svc := some (k, false) }) d) (.mtrService k) [])) ∧
  (∀ (h : CmdHdr) (k action : Nat) (s : State), Cmd { unit := 6, op := 2, c := true, isl := [8] } (.mtrService h k action) h s (fun d => k ≤ 3 ∧ action ≤ 1 ∧ action ≠ 0 ∧ (bitOf (d.rd METER.DSP.OUT) k) ∧ ¬ (bitOf (d.rd METER.DSP.FAIL) k) ∧ ¬ (bitOf (d.rd METER.DSP.TEST) k) ∧ ¬ (meterRuns d)) (fun d => let d := dspBack k d; .done d stOK [dspWord d])) ∧
  (∀ (h : CmdHdr) (ring period fmask bmask flags : Nat) (s : State), Cmd { unit := 6, op := 3, c := true, isl := [8], kw := true } (.mtrStream h ring period fmask bmask flags) h s (fun d => period ≤ 1 ∧ fmask ≤ 65535 ∧ bmask ≤ 15 ∧ flags ≤ 15 ∧ ring ≤ 31 ∧ ringPort ring = h.port.val ∧ ringKind d ring = 4 ∧ ringState d ring = 1) (fun d => .done (onMeter (fun m => { m with stream := some { ring := ring, perSec := period == 1, fmask := fmask, bmask := bmask, flags := flags } }) d) stOK [])) ∧
  (∀ (h : CmdHdr) (f first count : Nat) (s : State), Cmd { unit := 6, op := 4, isl := [8], kw := true } (.mtrIvlRead h f first count) h s (fun d => f ≤ 15 ∧ count ≠ 0 ∧ count ≤ 96 ∧ recvOk h (192 * count) ∧ (recsFrom (fdrSt d f).recs first count) ≠ []) (fun d => 
      let rs := recsFrom (fdrSt d f).recs first count
      .done (outBuf h rs.flatten d) stOK [rs.length])) ∧
  (∀ (raw : List Int) (s : State), Event (.meterSample raw) s (fun d => meterRuns d) (fun d => takeSamples raw (dspHandOver (settleMeter d)))) ∧
  (∀ (b : Fin 4) (frac c : Nat) (s : State), Event (.meterCycleEnd b (some frac)) s (fun d => meterRuns d = true ∧ (busSt d b.val).winCyc < winCycles d b.val ∧ (busSt d b.val).from_ < d.meter.n ∧ (busSt d b.val).cross = some c ∧ (busSt d b.val).cyc < d.meter.n * 2 ^ 32 - 2 ^ 32 + frac % 2 ^ 32 ∧ c < d.meter.n * 2 ^ 32 - 2 ^ 32 + frac % 2 ^ 32 ∧ d.flag (METER.BUS.STAT.FREQ_VALID b.val) = true) (fun d => 
      let x := busSt d b.val
      let pos := d.meter.n * 2 ^ 32 - 2 ^ 32 + frac % 2 ^ 32
      let freq := freqOf 1 (pos - c)
      let valid := freqInRange d b.val (fundMag (lastX d (chanV b.val 0) (pos / 2 ^ 32) (pos / 2 ^ 32 - c / 2 ^ 32)) freq) freq
      cycleAt b.val pos freq valid (setBus b.val { x with cross := some pos } d))) ∧
  (∀ (b : Fin 4) (frac : Nat) (s : State), Event (.meterCycleEnd b (some frac)) s (fun d => meterRuns d = true ∧ (busSt d b.val).winCyc < winCycles d b.val ∧ (busSt d b.val).from_ < d.meter.n ∧ (busSt d b.val).cross = none ∧ (busSt d b.val).cyc < d.meter.n * 2 ^ 32 - 2 ^ 32 + frac % 2 ^ 32) (fun d => 
      setBus b.val { busSt d b.val with cross := some (d.meter.n * 2 ^ 32 - 2 ^ 32 + frac % 2 ^ 32) } d)) ∧
  (∀ (b : Fin 4) (s : State), Event (.meterCycleEnd b none) s (fun d => meterRuns d = true ∧ (busSt d b.val).winCyc < winCycles d b.val ∧ (busSt d b.val).from_ < d.meter.n ∧ d.flag (METER.BUS.STAT.FREQ_VALID b.val) = false ∧ (busSt d b.val).cyc + 8000 * 2 ^ 32 / nomHz d b.val ≤ d.meter.n * 2 ^ 32) (fun d => cycleAt b.val ((busSt d b.val).cyc + 8000 * 2 ^ 32 / nomHz d b.val) (f32OfInt (nomHz d b.val)) false d)) ∧
  (∀ (b : Fin 4) (s : State), Event (.meterWindowEnd b) s (fun d => meterRuns d ∧ winCycles d b.val ≤ (busSt d b.val).winCyc) (fun d => windowEnd b.val d)) ∧
  (∀ (b : Fin 4) (s : State), Event (.urmsHalfCycle b) s (fun d => meterRuns d ∧ (d.rd (METER.BUS.UDIN b.val)) % 2 ^ 31 ≠ 0 ∧ ¬ (bitOf (d.rd (METER.BUS.UDIN b.val)) 31) ∧ (busSt d b.val).from_ + halfCycleN d b.val ≤ d.meter.n) (fun d => urmsHalfCycleEffect b.val d)) ∧
  (∀ (s : State), Event .meterIntervalClose s (fun d => ((opState d = 3 ∨ opState d = 4)) ∧ islandOn d 8) (fun d => meterIntervalCloseEffect d)) ∧
  (∀ (r : SignRec) (t : List SignRec) (s : State), Event .recordSigning s (fun d => d.meter.recQ = r :: t ∧ (islandOn d 13 = true ∨ keyLost d = true) ∧ ¬ (recSign d r.kind = true ∧ slotOk (onMeter (fun m => { m with recQ := t }) d) (recSlot (onMeter (fun m => { m with recQ := t }) d) r.kind) 2 = true)) (fun d => releaseUnsigned r (onMeter (fun m => { m with recQ := t }) d))) ∧
  (∀ (r : SignRec) (t : List SignRec) (s : State), Event .recordSigning s (fun d => d.meter.recQ = r :: t ∧ islandOn d 13 = true ∧ recSign d r.kind = true ∧ slotOk (onMeter (fun m => { m with recQ := t }) d) (recSlot (onMeter (fun m => { m with recQ := t }) d) r.kind) 2 = true) (fun d => 
      let d := onMeter (fun m => { m with recQ := t }) d
      let s := recSlot d r.kind
      let d := slotDerive s d
      let body := patch r.body 100 (toBytes 4 (d.rd (KEYS.SLOT.GEN s)))
      keepRecord r.kind r.idx (body ++ (slotSign s body d).1) (slotSign s body d).2)) ∧
  (∀ (s : State), Event .meterCheckpoint s (fun d => ((opState d = 3 ∨ opState d = 4))) (fun d => 
      let d := toUp (d.meter.ckptUp + 60000000000) d
      meterCkpt false (onMeter (fun m => { m with ckptUp := d.up }) d))) ∧
  (∀ (k : Fin 32) (s : State), Event (.poutPulse k) s (fun d => d.flag (METER.POUT.CFG.EN k.val) ∧ d.rd (METER.POUT.STAT.BACKLOG k.val) ≠ 0 ∧ ¬ (localSafe d) ∧ meterRuns d = true) (fun d => 
      let d := toUp (lookD d.meter.pBusy k.val 0) d
      let w := clampN 2 250 (d.rd (METER.POUT.CFG.WIDTH_MS k.val)) * 1000000
      let d := d.wr (METER.POUT.STAT.BACKLOG k.val) (d.rd (METER.POUT.STAT.BACKLOG k.val) - 1)
      onMeter (fun m => { m with pBusy := ins k.val (d.up + 2 * w) m.pBusy, pSent := ins k.val (lookD m.pSent k.val 0 + 1) m.pSent }) d)) ∧
  (∀ (k : Fin 4) (s : State), Event (.dtfPulse k) s (fun d => d.flag (METER.DTF.CFG.EN k.val) ∧ d.flag (METER.FDR.STAT.P_VALID (d.rd (METER.DTF.CFG.FDR k.val))) ∧ ¬ (localSafe d) ∧ meterRuns d) (fun d => dtfPulseEffect k.val d)) ∧
  (∀ (c : Fin 60) (x : MCal) (s : State), Event (.mcalTimeout c) s (fun d => look d.meter.cal c.val = some x) (fun d => raiseEv 94 c.val 0 (mcalClose c.val (finishKindWith (mcalTag c.val) 0x0603 [] (toUp (x.opened + 600000000000) d))))) ∧
  (∀ (k : Fin 4) (pass : Bool) (s : State), Event (.dspSelftestEnd k pass) s (fun d => bitOf (d.rd METER.DSP.TEST) k.val) (fun d => dspSelftestEndEffect k.val pass d)) ∧
  (∀ (t : Fin 32) (s : State), Event (.cttTempUpdate t) s (fun d => islandOn d 8 ∧ ((opState d = 3 ∨ opState d = 4))) (fun d => 
      let d := toUp ((look d.meter.ttAt t.val).elim 0 (· + 1000000000)) d
      cttTempUpdateEffect t.val (onMeter (fun m => { m with ttAt := ins t.val d.up m.ttAt }) d)))

/-- Heat and cold metering: the commands. The reads of heat records and the close of a billing period complete, where the conditions of R331 hold, with what it gives each. (R325, R326, R328, R331) -/
def Obligations.HeatComplete : Prop :=
  (∀ (h : CmdHdr) (m first count : Nat) (s : State), Cmd { unit := 6, op := 0x10, isl := [8], kw := true } (.heatIvlRead h m first count) h s (fun d => m ≤ 255 ∧ 1 ≤ count ∧ count ≤ 4 ∧ recvOk h (192 * count) = true ∧ recsFrom (heatSt d m).recI first count ≠ []) (fun d => 
      let rs := recsFrom (heatSt d m).recI first count
      .done (outBuf h rs.flatten d) stOK [rs.length])) ∧
  (∀ (h : CmdHdr) (m first count : Nat) (s : State), Cmd { unit := 6, op := 0x11, isl := [8], kw := true } (.heatBillRead h m first count) h s (fun d => m ≤ 255 ∧ 1 ≤ count ∧ count ≤ 13 ∧ recvOk h (192 * count) = true ∧ recsFrom (heatSt d m).recB first count ≠ []) (fun d => 
      let rs := recsFrom (heatSt d m).recB first count
      .done (outBuf h rs.flatten d) stOK [rs.length])) ∧
  (∀ (h : CmdHdr) (s : State), Cmd { unit := 6, op := 0x12, c := true, isl := [8] } (.heatBillClose h) h s (fun d => sendOk h 32 ∧ ((heatRunning d).filter (bitOf (ofBytes (inBuf h d)))) ≠ []) (fun d => 
      let mask := ofBytes (inBuf h d)
      let ms := (heatRunning d).filter (bitOf mask)
      .done (raiseEv 97 ms.length 0 (ms.foldl (fun (d : Dev) m => heatBill m true d) d)) stOK [ms.length]))

/-- Heat and cold metering: samples and closes. A heat meter in use takes its sample at the next grid point, and the interval and billing closes act. (R316, R317, R325, R326) -/
def Obligations.HeatEventsComplete : Prop :=
  (∀ (m : Fin 256) (s : State), Event (.heatSample m) s (fun d => (heatSt (heatSettle m.val d) m.val).running = true ∧ (heatSt (heatSettle m.val d) m.val).old = none) (fun d => 
      let m := m.val
      let d := heatSettle m d
      let per := heatPer d m
      let t := (svcTotalNs d + per - 1) / per * per
      let t := if (heatSt d m).lastAt = some t then t + per else t
      heatTake m (copyNow (toSvcNs t d)))) ∧
  (∀ (m : Fin 256) (s : State), Event (.heatSample m) s (fun d => (heatSt (heatSettle m.val d) m.val).running = false) (fun d => heatSettle m.val d)) ∧
  (∀ (m : Fin 256) (rs : SMap Nat) (s : State), Event (.heatSample m) s (fun d => (heatSt (heatSettle m.val d) m.val).running = true ∧ (heatSt (heatSettle m.val d) m.val).old = some rs ∧ (heatSt (heatSettle m.val d) m.val).newSrc = false) (fun d => 
      let m := m.val
      let d := heatSettle m d
      let new := heatSettings m d
      let d := withSettings m new (heatSampleAt m (withSettings m rs d))
      heatSettle m (setHeat m { heatSt d m with old := none, newSrc := false } d))) ∧
  (∀ (s : State), Event .heatIntervalClose s (fun d => ((opState d = 3 ∨ opState d = 4)) ∧ islandOn d 8) (fun d => heatIntervalCloseEffect d)) ∧
  (∀ (s : State), Event .billingClose s (fun d => ((opState d = 3 ∨ opState d = 4)) ∧ islandOn d 8) (fun d => billingCloseEffect d))

/-- The model, the estimator and the transport delay engine. The commands of the MODEL unit complete; ticks, gather windows, estimates and transport steps act. The memory a model needs is open (log 33), so MODEL_LOAD's start of the analysis and MODEL_TOO_BIG stand side by side. (R23, R24, R25, R340, R341, R342, R343, R344, R349, R356) -/
def Obligations.ModelComplete : Prop :=
  (∀ (h : CmdHdr) (s : State), Cmd { unit := 7, op := 1, isl := [2] } (.modelLoad h) h s (fun d => d.model.analysing = none ∧ 64 ≤ bufLen h ∧ sendOk h (imgLen (imgCounts (inBuf h d))) = true ∧ (imgCounts (inBuf h d)).1 ≤ 8192 ∧ (imgCounts (inBuf h d)).2.1 ≤ 16384 ∧ (imgCounts (inBuf h d)).2.2.1 ≤ 32768 ∧ modelFault d.model.active (inBuf h d) (parseModel (inBuf h d)) = none) (fun d => 
      let m := parseModel (inBuf h d)
      if d.rd SOLV.PART_CFG.SRAM_E * 4096 < modelNeed m then .done d 0x0702 [0, modelNeed m]
      else .later ((onModel (fun k => { k with analysing := some (m, d.up) }) d).wr MODEL.MODEL_STAT.ANALYSING 1) .modelLoad [])) ∧
  (∀ (m : NetModel) (t : Nat) (s : State), Event .modelAnalysisEnd s (fun d => d.model.analysing = some (m, t)) (fun d => 
      let d := modelRegs ((onModel (fun k => { k with staged := some m, analysing := none }) d).wr MODEL.MODEL_STAT.ANALYSING 0)
      finishKindWith .modelLoad stOK [0, 0, (d.up - t) / 1000000] d)) ∧
  (∀ (h : CmdHdr) (s : State), Cmd { unit := 7, op := 2, c := true } (.modelActivate h) h s (fun d => d.model.analysing = none ∧ d.model.staged.isSome = true) (fun d => .later (d.wr MODEL.MODEL_STAT.ACT_PENDING 1) (.other 51 0) [])) ∧
  (∀ (h : CmdHdr) (count : Nat) (m : NetModel) (s : State), Cmd { unit := 7, op := 3, c := true } (.modelEdit h count) h s (fun d => 1 ≤ count ∧ count ≤ 256 ∧ sendOk h (16 * count) = true ∧ d.model.active = some m ∧ (((chunksOf 16 count (inBuf h d)).map editRec).all fun e => !editBad m e) = true) (fun d => 
      let es := (chunksOf 16 count (inBuf h d)).map editRec
      let freed := (es.filter fun e => e.1 == 4).filterMap fun e => (m.meas[e.2.1]?).map (·.tag)
      .done (quarCount (onModel (fun k => { k with active := some (es.foldl applyEdit m), quar := k.quar.filter (fun t => !freed.contains t), badRun := keepKeys (fun t => !freed.contains t) k.badRun }) d)) stOK [0xFFFFFFFF])) ∧
  (∀ (h : CmdHdr) (table first count : Nat) (m : NetModel) (s : State), Cmd { unit := 7, op := 4, kw := true } (.modelRead h table first count) h s (fun d => table ≤ 3 ∧ d.model.active = some m ∧ recvOk h ((match table with | 1 => 48 | 3 => 4 | _ => 32) * count) = true) (fun d => 
      let rs := ((modelRecs d m table).drop first).take count
      .done (outBuf h rs.flatten d) stOK [rs.length])) ∧
  (∀ (s : State), Event .modelTick s (fun d => d.flag TIME.SVC.STAT.TEMPOS_RUN ∧ ((opState d = 3 ∨ opState d = 4))) (fun d => modelTickEffect d)) ∧
  (∀ (w : EstWin) (s : State), Event .gatherEnd s (fun d => d.model.win = some w ∧ estRuns d = true ∧ w.gathered = false) (fun d => 
      let d := toSvcNs (w.tickNs + clampN 2 500 (d.rd MODEL.EST_CFG.GATHER_MS) * 1000000) d
      onModel (fun k => { k with win := some (gatherNow w d) }) (checkBodies [1, 2, 3, 4] d))) ∧
  (∀ (w : EstWin) (s : State), Event .gatherEnd s (fun d => d.model.win = some w ∧ estRuns d = false) (fun d => onModel (fun k => { k with win := none }) d)) ∧
  (∀ (w : EstWin) (s : State), Event .estConverged s (fun d => d.model.win = some w ∧ estRuns d = true ∧ w.gathered = true ∧ anyInput w = true) (fun d => 
      match (winRun d w 15).status with
      | none => d
      | some 0 => estPublish w (estResult d w (winRun d w 15) 0 true) d
      | some st => estPublish w (estFailed d w (winRun d w 15) st) d)) ∧
  (∀ (done : Nat) (thermal : Bool) (w : EstWin) (s : State), Event (.estDeadline done thermal) s (fun d => d.model.win = some w ∧ estRuns d = true ∧ w.gathered = false) (fun d => 
      let d := toSvcNs (w.tickNs + clampN 100 990 (d.rd MODEL.EST_CFG.DEADLINE_MS) * 1000000) d
      let w := { w with gatherUp := d.up, vals := w.model.meas.map fun _ => none }
      estPublish w (estFailed d w { x := [] } 0x0711) d)) ∧
  (∀ (done : Nat) (thermal : Bool) (w : EstWin) (s : State), Event (.estDeadline done thermal) s (fun d => d.model.win = some w ∧ estRuns d = true ∧ w.gathered = true ∧ anyInput w = false) (fun d => 
      let d := toSvcNs (w.tickNs + clampN 100 990 (d.rd MODEL.EST_CFG.DEADLINE_MS) * 1000000) d
      estPublish w (estFailed d w { x := [] } 0x0713) d)) ∧
  (∀ (done : Nat) (thermal : Bool) (w : EstWin) (s : State), Event (.estDeadline done thermal) s (fun d => d.model.win = some w ∧ estRuns d = true ∧ w.gathered = true ∧ anyInput w = true) (fun d => 
      let d := toSvcNs (w.tickNs + clampN 100 990 (d.rd MODEL.EST_CFG.DEADLINE_MS) * 1000000) d
      let r := winRun d w done
      if r.status = some 0x0712 then estPublish w (estFailed d w r 0x0712) d
      else if r.it ≠ 0 ∧ f64Le r.dx (f64Mul (f64OfInt 10) (mreg d MODEL.TOL_X)) then estPublish w (estResult d w r 0x0710 thermal) d
      else estPublish w (estFailed d w r 0x0711) d)) ∧
  (∀ (t : Nat) (m : NetModel) (s : State), Event .tdeStep s (fun d => d.model.stepDue = some t ∧ d.model.active = some m ∧ tdeRuns d = true) (fun d => dTake (tdeRun m (if d.model.estDone = true then d else toSvcNs (t + clampN 20 99 (d.rd MODEL.TDE_CFG.WAIT) * 10000000) d))))

/-- The dispatch solver. The partition and structure commands of the SOLV unit complete, and takes, deliveries, deadlines and partition timers act. (R23, R364, R365, R366, R372, R374, R375, R378, R379, R380, R388, R389) -/
def Obligations.SolverComplete : Prop :=
  (∀ (h : CmdHdr) (tiles sram : List Nat) (bwE bwF : Nat) (s : State), Cmd { unit := 8, op := 1, c := true, isl := [6] } (.partSet h tiles sram bwE bwF) h s (fun d => bwE ≤ 90 ∧ bwF ≤ 90 ∧ tiles.getD 0 0 + tiles.getD 1 0 + tiles.getD 2 0 ≤ 8 - ((List.range 8).filter (bitOf (d.rd SOLV.TILE_STAT.OUT))).length ∧ sram.getD 0 0 + sram.getD 1 0 + sram.getD 2 0 ≤ 12 ∧ residentTooBig d (sram.getD 0 0) (sram.getD 2 0) = false) (fun d => .later (onSolv (fun k => { k with setReq := k.setReq ++ [[tiles.getD 0 0, tiles.getD 1 0, tiles.getD 2 0, sram.getD 0 0, sram.getD 1 0, sram.getD 2 0, bwE, bwF]] }) d) .partSet [])) ∧
  (∀ (q : List Nat) (rest : List (List Nat)) (s : State), Event .partSetApply s (fun d => d.solv.setReq = q :: rest ∧ d.model.win = none ∧ (partSt d 0).cycle = none ∧ (partSt d 1).cycle = none) (fun d => 
      let v (i : Nat) := q.getD i 0
      let d := (((d.wr SOLV.PART_CFG.E_TILES (v 0)).wr SOLV.PART_CFG.D_TILES (v 1)).wr SOLV.PART_CFG.F_TILES (v 2)).wr SOLV.PART_CFG.SRAM_E (v 3)
      let d := (((d.wr SOLV.PART_CFG.SRAM_D (v 4)).wr SOLV.PART_CFG.SRAM_F (v 5)).wr SOLV.BW_CFG.BW_E (v 6)).wr SOLV.BW_CFG.BW_F (v 7)
      let d := layTiles (tileWord d) (onSolv (fun k => { k with setReq := rest }) d)
      finishFirst .partSet stOK [tileWord d] (settleSolv d))) ∧
  (∀ (h : CmdHdr) (p i : Nat) (s : State), Cmd { unit := 8, op := 2, isl := [6] } (.structLoad h p) h s (fun d => partOf p = some i ∧ anyAnalysis d = false ∧ 128 ≤ bufLen h ∧ sendOk h ((sectionAt (imgDims (inBuf h d))).getLast?.getD 0) = true ∧ structFault p (inBuf h d) (parseStruct (inBuf h d)) = none ∧ structTooBig (d.rd SOLV.PART_CFG.SRAM_F) (parseStruct (inBuf h d)) = false ∧ islandOn d 2 = true) (fun d => .later (setPart i { partSt d i with analysing := some (parseStruct (inBuf h d), d.up) } d) (.structLoad i) [])) ∧
  (∀ (p : Fin 2) (st : QpStruct) (t : Nat) (s : State), Event (.structAnalysisEnd p) s (fun d => (partSt d p.val).analysing = some (st, t)) (fun d => 
      let d := partIds p.val (setPart p.val { partSt d p.val with staged := some st, analysing := none } d)
      finishKindWith (.structLoad p.val) stOK [0, 0, (d.up - t) / 1000000] d)) ∧
  (∀ (h : CmdHdr) (p i : Nat) (s : State), Cmd { unit := 8, op := 3, c := true, isl := [6] } (.structActivate h p) h s (fun d => partOf p = some i ∧ anyAnalysis d = false ∧ (partSt d i).staged.isSome = true) (fun d => .later (setPart i { partSt d i with actPend := true } d) (.other 52 i) [])) ∧
  (∀ (h : CmdHdr) (p id i : Nat) (st : QpStruct) (s : State), Cmd { unit := 8, op := 4, isl := [6] } (.solvDelta h p id) h s (fun d => partOf p = some i ∧ sendOk h (16 * (bufLen h / 16)) = true ∧ bufLen h / 16 ≤ 1048576 ∧ ([(partSt d i).active, (partSt d i).staged].filterMap fun q => q).find? (fun st => st.id == id) = some st ∧ firstBad (fun j r => deltaBad st r || !((deltaRsvd (bufLen h / 16) (inBuf h d)).getD j false)) (deltaRecs (bufLen h / 16) (inBuf h d)) = none) (fun d => .done (pendCount i (setPart i { partSt d i with deltas := (partSt d i).deltas ++ [(id, deltaRecs (bufLen h / 16) (inBuf h d))] } d)) stOK [(partSt d i).deltas.length + 1])) ∧
  (∀ (h : CmdHdr) (p action i : Nat) (s : State), Cmd { unit := 8, op := 5, c := true, isl := [6] } (.solvCtrl h p action) h s (fun d => partOf p = some i ∧ action ≤ 1 ∧ ((partRequest i (action == 1) d).flag (SOLV.PART.STAT.PENDING_REARM i) = false ∨ action = 0)) (fun d => .done (partRequest i (action == 1) d) stOK [partWord (partRequest i (action == 1) d) i])) ∧
  (∀ (h : CmdHdr) (p i : Nat) (s : State), Cmd { unit := 8, op := 5, c := true, isl := [6] } (.solvCtrl h p 1) h s (fun d => partOf p = some i ∧ d.flag (SOLV.PART.STAT.MINOFF i) = true ∧ (partRequest i true d).flag (SOLV.PART.STAT.PENDING_REARM i) = true) (fun d => .later (partRequest i true d) (.solvPart i true) [])) ∧
  (∀ (h : CmdHdr) (p i : Nat) (s : State), Cmd { unit := 8, op := 5, c := true, isl := [6] } (.solvCtrl h p 2) h s (fun _ => partOf p = some i) (fun d => .done (setPart i { partSt d i with coldNext := true } d) stOK [partWord d i])) ∧
  (∀ (h : CmdHdr) (p what first count i : Nat) (st : QpStruct) (s : State), Cmd { unit := 8, op := 6, isl := [6], kw := true } (.solvRead h p what first count) h s (fun d => partOf p = some i ∧ what ≤ 2 ∧ (partSt d i).active = some st ∧ recvOk h (8 * count) = true) (fun d => 
      let vs := ((match what with
        | 0 => (partSt d i).lastX
        | 1 => (partSt d i).lastY
        | _ => dayOldX d i st).drop first).take count
      .done (outBuf h (vs.flatMap (toBytes 8)) d) stOK [vs.length])) ∧
  (∀ (t : Nat) (s : State), Event .planWaitExpiry s (fun d => (partSt d 0).planTick = some t) (fun d => dTake (toSvcNs (t + max 1 (d.rd SOLV.PLAN_CFG.PLAN_WAIT) * 100000000) d))) ∧
  (∀ (s : State), Event .fTake s (fun d => d.flag TIME.SVC.STAT.TEMPOS_RUN ∧ opState d = 3) (fun d => 
      let t := (svcTotalNs d / 100000000 + 1) * 100000000
      let d := toSvcNs t d
      let d := setPart 1 { partSt d 1 with ticks := (partSt d 1).ticks + 1 } d
      if partState d 1 ≠ 1 then d else takeData 1 t (t + clampN 10 95 (d.rd SOLV.F_CFG.F_DL) * 1000000) d)) ∧
  (∀ (p : Fin 2) (st : QpStruct) (c : QpCycle) (s : State), Event (.partitionDelivery p) s (fun d => (partSt d p.val).active = some st ∧ (partSt d p.val).cycle = some c ∧ svcTotalNs d ≤ c.deadline) (fun d => 
      let r := cycleRun d p.val st c (max 1 (d.rd (SOLV.PART.CTRL.ITER_MAX p.val)))
      match r.stop with
      | none => d
      | some (status, why) =>
        let last := r.it.scaleOut c.dvec c.evec
        deliverSol p.val st c { status := status, reason := why, iters := r.n, it := if status = 0 then some last else none } (some last) d)) ∧
  (∀ (p : Fin 2) (done : Nat) (c : QpCycle) (s : State), Event (.solveDeadline p done) s (fun d => (partSt d p.val).cycle = some c) (fun d => 
      let mx := max 1 (d.rd (SOLV.PART.CTRL.ITER_MAX p.val))
      if mx ≤ done then deliverDeadline p.val mx true d else deliverDeadline p.val done false (toSvcNs c.deadline d))) ∧
  (∀ (p : Fin 2) (s : State), Event (.partitionMinoffEnd p) s (fun d => d.flag (SOLV.PART.STAT.MINOFF p.val)) (fun d => 
      let d := (d.wr (SOLV.PART.STAT.MINOFF p.val) 0).wr (SOLV.PART.STAT.PENDING_REARM p.val) 0
      let d := settlePart p.val d
      finishKindWith (.solvPart p.val true) stOK [partWord d p.val] d))

/-- The Setpoint Distributor. SD_MAP completes with a map whose entries are in range and name each target once; rounds and ramps act. (R383, R384, R385, R386) -/
def Obligations.DistributorComplete : Prop :=
  (∀ (h : CmdHdr) (count : Nat) (s : State), Cmd { unit := 8, op := 7, c := true } (.sdMap h count) h s (fun d => count ≤ 2048 ∧ bufLen h = 32 * count ∧ (count = 0 ∨ sendOk h (32 * count) = true) ∧ firstBad (fun _ e => sdBad d e) ((chunksOf 32 count (inBuf h d)).map sdRec) = none ∧ firstBad (fun i e => (((chunksOf 32 count (inBuf h d)).map sdRec).take i).any fun o => sameTarget o e) ((chunksOf 32 count (inBuf h d)).map sdRec) = none) (fun d => .done (onSolv (fun k => { k with sdNext := some ((chunksOf 32 count (inBuf h d)).map sdRec) }) d) stOK [0xFFFFFFFF])) ∧
  (∀ (p : Nat) (rest : List Nat) (s : State), Event .sdRound s (fun d => d.solv.sdDue = p :: rest ∧ d.boot.frozenRsp = false ∧ sdRuns (sdSwap (onSolv (fun k => { k with sdDue := rest }) d)) = true ∧ benchNewer (sdSwap (onSolv (fun k => { k with sdDue := rest }) d)) (0x20 + p) (if p = 0 then (sdSwap (onSolv (fun k => { k with sdDue := rest }) d)).solv.seqD else (sdSwap (onSolv (fun k => { k with sdDue := rest }) d)).solv.seqF) = true) (fun d => 
      let d := checkBodies [0x20 + p] (sdSwap (onSolv (fun k => { k with sdDue := rest }) d))
      let seq := (benchTab d (0x20 + p)).current.seq
      let d := onSolv (fun k => if p = 0 then { k with seqD := seq } else { k with seqF := seq }) d
      let mine (i : SdItem) : Bool := i.e.en && i.e.part == p + 1
      let aimed := d.solv.sd.map fun i => if mine i then sdTarget d i else (i, false)
      let d := onSolv (fun k => { k with sd := aimed.map (·.1) }) d
      let d := sdIssueAll (fun i => mine i && !i.held) (d.addSat SOLV.SD_STAT.CLAMPS (aimed.filter (·.2)).length)
      let held := (d.solv.sd.filter fun i => mine i && i.held).length
      publishSetpt (if held ≠ 0 then raiseEv 117 held 0 (d.addSat SOLV.SD_STAT.HOLDS 1) else d))) ∧
  (∀ (s : State), Event .rampIssue s (fun d => sdRuns d ∧ islandOn d 6 ∧ (d.solv.sd.any ramping) ≠ false) (fun d => 
      let per := 10000000 * clampN 1 100 (d.rd SOLV.SD_CFG.RAMP_MS)
      let d := toSvcNs ((svcTotalNs d / per + 1) * per) d
      publishSetpt (sdIssueAll ramping d)))

/-- Keys. The commands of the KEYS unit complete: a key update that passes every check is applied with its counter, and keys, operations and tables answer. (R523, R524, R527, R528, R529, R530, R531, R533, R534, R540, R542) -/
def Obligations.KeysComplete : Prop :=
  (∀ (h : CmdHdr) (s : State), Cmd { unit := 14, op := 1, c := true, isl := [13] } (.keyUpdate h) h s (fun d => bufOk h = true ∧ kuCheck d (inBuf h d) = 0) (fun d => 
      let m := kuParse (inBuf h d)
      let (x, d) := kuApply m (setCnt 1 (if m.kind = 2 ∧ m.flags = 1 then d.rd (CRUST.CNT.VALUE 1) else d.rd (CRUST.CNT.VALUE 1) + 1) d)
      let d := raiseEv 161 m.kind (d.rd (CRUST.CNT.VALUE 1)) ((d.wr KEYS.KU.LAST_STATUS 0).wr KEYS.KU.LAST_KIND m.kind)
      .done d stOK [d.rd (CRUST.CNT.VALUE 1), x])) ∧
  (∀ (h : CmdHdr) (slot : Nat) (nonce : List Byte) (s : State), Cmd { unit := 14, op := 2, isl := [13], kw := true } (.keyPub h slot nonce) h s (fun d => slot ≤ 63 ∧ slotRefusal d slot [2, 3, 4] = 0 ∧ recvOk h 192 = true) (fun d => 
      let d := slotDerive slot d
      let k := ((curveOf (slotUse d slot)).pubKey (slotPriv d slot) ++ List.replicate 96 0).take 96
      let (sig, d') := identitySign ((nonce ++ List.replicate 32 0).take 32 ++ k ++ toBytes 1 slot ++ toBytes 4 (d.rd (KEYS.SLOT.GEN slot))) d
      .done (outBuf h (k ++ sig) d') stOK [192, d.rd (KEYS.SLOT.GEN slot)])) ∧
  (∀ (h : CmdHdr) (nonce : List Byte) (s : State), Cmd { unit := 14, op := 2, isl := [13], kw := true } (.keyPub h 0xFF nonce) h s (fun _ => recvOk h (192 + identityCert.length) = true) (fun d => 
      let k := (p384.pubKey (identityPriv d) ++ List.replicate 96 0).take 96
      let (sig, d') := identitySign ((nonce ++ List.replicate 32 0).take 32 ++ k ++ toBytes 1 0xFF ++ toBytes 4 0) d
      .done (outBuf h (k ++ sig ++ identityCert) d') stOK [192 + identityCert.length, 0])) ∧
  (∀ (h : CmdHdr) (slot : Nat) (iv : List Byte) (s : State), Cmd { unit := 14, op := 3, isl := [13] } (.keyOp h slot 1 iv) h s (fun d => slot ≤ 63 ∧ bufOk h = true ∧ bufLen h ≤ 65536 ∧ slotRefusal d slot [5] = 0) (fun d => 
      let o := hmac (slotKey (slotDerive slot d) slot) (inBuf h d)
      .done (outAtInput h o (slotDerive slot d)) stOK [o.length])) ∧
  (∀ (h : CmdHdr) (slot : Nat) (iv : List Byte) (s : State), Cmd { unit := 14, op := 3, isl := [13] } (.keyOp h slot 2 iv) h s (fun d => slot ≤ 63 ∧ bufOk h = true ∧ bufLen h ≤ 65536 ∧ slotRefusal d slot [6] = 0) (fun d => 
      let o := gcmSeal (slotKey (slotDerive slot d) slot) ((iv ++ List.replicate 12 0).take 12) (inBuf h d)
      .done (outAtInput h o (slotDerive slot d)) stOK [o.length])) ∧
  (∀ (h : CmdHdr) (slot : Nat) (iv : List Byte) (s : State), Cmd { unit := 14, op := 3, isl := [13] } (.keyOp h slot 3 iv) h s (fun d => slot ≤ 63 ∧ bufOk h = true ∧ bufLen h ≤ 65536 ∧ slotRefusal d slot [6] = 0) (fun d => 
      match gcmOpen (slotKey (slotDerive slot d) slot) ((iv ++ List.replicate 12 0).take 12) (inBuf h d) with
      | some o => .done (outAtInput h o (slotDerive slot d)) stOK [o.length]
      | none => .done (outAtInput h (List.replicate ((inBuf h d).length - 16) 0) (slotDerive slot d)) 0x0E04 [(inBuf h d).length - 16])) ∧
  (∀ (h : CmdHdr) (slot : Nat) (iv : List Byte) (s : State), Cmd { unit := 14, op := 3, isl := [13] } (.keyOp h slot 4 iv) h s (fun d => slot ≤ 63 ∧ bufOk h = true ∧ bufLen h ≤ 65536 ∧ slotRefusal d slot [4] = 0) (fun d => 
      let (o, d') := slotSign slot (inBuf h d) (slotDerive slot d)
      .done (outAtInput h o d') stOK [o.length])) ∧
  (∀ (h : CmdHdr) (table first count : Nat) (s : State), Cmd { unit := 14, op := 4, isl := [13], kw := true } (.keyRead h table first count) h s (fun _ => table ≤ 1 ∧ first < (if table = 0 then 128 else 64) ∧ recvOk h ((if table = 0 then 48 else 16) * count)) (fun d => 
      let total := if table = 0 then 128 else 64
      let l := ((List.range total).drop first).take count
      .done (outBuf h (l.flatMap fun i => if table = 0 then nodeRecBytes d i else slotRecBytes d i) d) stOK [l.length])) ∧
  (∀ (h : CmdHdr) (s : State), Cmd { unit := 14, op := 5, c := true } (.keyJtag h) h s (fun d => (checkGrant 5 h d).1 = 0) (fun d => .done ((checkGrant 5 h d).2.wr KEYS.STAT.JTAG_OPEN 1) stOK []))

/-- Staging, activation, recovery and Recipes. The commands of the UPDATE unit complete, and timeouts, arming, the collect and the switches act. (R546, R550, R551, R552, R553, R554, R555, R556, R559, R560, R561, R566) -/
def Obligations.UpdateComplete : Prop :=
  (∀ (h : CmdHdr) (s : State), Cmd { unit := 15, op := 1, c := true, isl := [13], kw := true, rack := true } (.updOpen h 0) h s (fun d => bufOk h = true ∧ d.upd.staging = none ∧ d.upd.arm = none ∧ openCheck false (inBuf h d) d = 0) (fun d => 
      let b := inBuf h d
      let g : Staging := { header := b.take 384, man := hdrParts b, wrap := (b.drop (384 + 64 * hdrCount b)).take 128, got := [], last := d.up }
      let d := onUpd (fun u => { u with staging := some g, staged := none, prev := none, forReset := none }) d
      .done ((((d.wr UPD.STAT.STATE 1).wr UPD.STAT.PREV_VALID 0).put UPD.STAT.RECIPE false).wr UPD.STG_ID (fieldAt b 28 4)) stOK [hdrPayload b])) ∧
  (∀ (h : CmdHdr) (s : State), Cmd { unit := 15, op := 10, c := true, isl := [13] } (.recipeImport h 0) h s (fun d => bufOk h = true ∧ d.upd.staging = none ∧ d.upd.arm = none ∧ openCheck true (inBuf h d) d = 0) (fun d => 
      let b := inBuf h d
      let g : Staging := { header := b.take 384, man := hdrParts b, wrap := (b.drop (384 + 64 * hdrCount b)).take 128, got := [], last := d.up }
      let d := onUpd (fun u => { u with staging := some g, staged := none, prev := none, forReset := none }) d
      .done ((((d.wr UPD.STAT.STATE 1).wr UPD.STAT.PREV_VALID 0).put UPD.STAT.RECIPE true).wr UPD.STG_ID (fieldAt b 28 4)) stOK [hdrPayload b])) ∧
  (∀ (h : CmdHdr) (part offset : Nat) (badA badB : Bool) (g : Staging) (p : UpdPart) (s : State), Cmd { unit := 15, op := 2, kw := true, rack := true } (.updData h part offset badA badB) h s (fun d => d.upd.staging = some g ∧ g.man[part]? = some p ∧ bufOk h = true ∧ offset + bufLen h ≤ p.len ∧ ¬ (badA = true ∧ badB = true)) (fun d => 
      let d' := ((if badA = true then raise 166 0 d else d) : Dev)
      let d' := ((if badB = true then raise 167 0 d' else d') : Dev)
      let d' := if badA = true ∨ badB = true then d'.wr UPD.STAT.SINGLE_COPY 1 else d'
      let got := (inBuf h d').zipIdx.foldl (fun (m : SMap Byte) e => ins (p.off + offset + e.2) e.1 m) g.got
      let g : Staging := { g with got := got, last := d'.up, single := g.single || badA || badB }
      .done (onUpd (fun u => { u with staging := some g }) d') stOK [bytesMissing g])) ∧
  (∀ (h : CmdHdr) (parts : List PartIn) (g : Staging) (area : List Byte) (s : State), Cmd { unit := 15, op := 3, c := true, kw := true, rack := true } (.updClose h parts false false) h s (fun d => d.upd.staging = some g ∧ payloadArea g d = some area ∧
      (let ps := g.man.zipIdx.map fun e => { e.1 with bytes := (area.drop e.1.off).take e.1.len, content := (parts.getD e.2 {}).content }
       (ps.zipIdx.all fun e => partFault g (expectAfter ps d) e.1 (parts.getD e.2 {}).sealOk d == 0) = true)) (fun d => 
      let ps := g.man.zipIdx.map fun e => { e.1 with bytes := (area.drop e.1.off).take e.1.len, content := (parts.getD e.2 {}).content }
      let s : TraySet := { hdrSet g.header with parts := ps, dir := overDir (ps.filter fun p => !((hdrSet g.header).recipe && decide (p.kind ≤ 9))) d.upd.active.dir }
      let d := if g.single = true then d else d.wr UPD.STAT.SINGLE_COPY 0
      let d := endStaging 0 (onUpd (fun u => { u with staged := some s }) (d.wr UPD.STAT.STATE 2))
      .done (if s.recipe = true then raiseEvFrom 9 174 0 0 (onUpd (fun u => { u with imported := (u.imported.filter fun e => e.1 != s.exporter) ++ [(s.exporter, s.expCnt)] }) d) else d) stOK [0xFFFFFFFF, 0, armBound ps])) ∧
  (∀ (h : CmdHdr) (sec tick : Nat) (t : TraySet) (s : State), Cmd { unit := 15, op := 4, c := true } (.updActivate h sec tick) h s (fun d => epochBad sec tick d = false ∧ d.upd.staged = some t ∧ d.rd UPD.STAT.STATE = 2 ∧ countLost d = false ∧ 2 ≤ inServ d ∧ (t.recipe = false ∨ t.lo = d.rd GLB.COMPAT_LEVEL.LEVEL) ∧ refusal t.defaults false t.parts d = none) (fun d => 
      let ps := armParts t.recipe t.parts d
      let lanes := [0, 1, 2].filter (laneIn d)
      let d := ((d.wr UPD.EPOCH_LO.SEC_LO (sec % 2 ^ 32)).wr UPD.EPOCH_HI.SEC_HI (sec / 2 ^ 32)).wr UPD.EPOCH_HI.TICK tick
      .later (onUpd (fun u => { u with arm := some { sec := sec, tick := tick, set := t, parts := ps, lanes := lanes } }) (d.wr UPD.STAT.STATE 3)) (.other 60 0) [])) ∧
  (∀ (h : CmdHdr) (sec tick : Nat) (t : TraySet) (s : State), Cmd { unit := 15, op := 5, c := true } (.updRevert h sec tick) h s (fun d => epochBad sec tick d = false ∧ d.upd.prev = some t ∧ d.upd.arm = none ∧ countLost d = false ∧ d.rd (CRUST.CNT.VALUE 0) ≤ t.rb ∧ 2 ≤ inServ d ∧ refusal d.upd.active.defaults true (revertParts t.dir d.upd.active.dir) d = none) (fun d => 
      let ps := armParts t.recipe (revertParts t.dir d.upd.active.dir) d
      let defaults := d.upd.active.defaults
      let lanes := [0, 1, 2].filter (laneIn d)
      let d := ((d.wr UPD.EPOCH_LO.SEC_LO (sec % 2 ^ 32)).wr UPD.EPOCH_HI.SEC_HI (sec / 2 ^ 32)).wr UPD.EPOCH_HI.TICK tick
      .later (onUpd (fun u => { u with arm := some { sec := sec, tick := tick, revert := true, set := { t with defaults := defaults }, parts := ps, lanes := lanes } }) (d.wr UPD.STAT.STATE 3)) (.other 60 0) [])) ∧
  (∀ (h : CmdHdr) (s : State), Cmd { unit := 15, op := 6, c := true, kw := true, rack := true } (.updCancel h) h s (fun d => (d.upd.arm.any (·.committed)) = false) (fun d => 
      let d := abortArm 5 stActAborted 0xFF (endStaging stAborted d)
      .done d stOK [updStatWord d])) ∧
  (∀ (h : CmdHdr) (t : TraySet) (s : State), Cmd { unit := 15, op := 7, c := true, rack := true } (.updRecover h 0) h s (fun d => d.upd.arm = none ∧ d.upd.staged = some t ∧ levelOk t d = true ∧ countLost d = false ∧ rollbackOk t d = true) (fun d => 
      let d := onUpd (fun u => { u with forReset := some false }) (d.wr UPD.STAT.STATE 5)
      let ps := (armParts t.recipe t.parts d).map fun p => if p.st = 0 then { p with st := 2 } else p
      let d := writeReport 4 stOK 0xFF 0 { sec := 0, tick := 0, set := t, parts := ps } (raiseEvFrom 9 173 0 0 d)
      .done d stOK [updStatWord d])) ∧
  (∀ (h : CmdHdr) (t : TraySet) (s : State), Cmd { unit := 15, op := 7, c := true, rack := true } (.updRecover h 1) h s (fun d => d.upd.arm = none ∧ d.upd.prev = some t ∧ levelOk t d = true ∧ countLost d = false ∧ d.rd (CRUST.CNT.VALUE 0) ≤ t.rb) (fun d => 
      let d := onUpd (fun u => { u with forReset := some true }) (d.wr UPD.STAT.STATE 5)
      let ps := (armParts t.recipe (revertParts t.dir d.upd.active.dir) d).map fun p => if p.st = 0 then { p with st := 2 } else p
      let d := writeReport 4 stOK 0xFF 0 { sec := 0, tick := 0, set := t, parts := ps } (raiseEvFrom 9 173 0 0 d)
      .done d stOK [updStatWord d])) ∧
  (∀ (h : CmdHdr) (s : State), Cmd { unit := 15, op := 8, kw := true } (.updReport h) h s (fun _ => recvOk h 1216) (fun d => .done (outBuf h (padTo 1216 d.upd.report) d) stOK [fieldAt d.upd.report 2 1])) ∧
  (∀ (h : CmdHdr) (flags : Nat) (target : List Byte) (s : State), Cmd { unit := 15, op := 9, c := true, isl := [13], kw := true } (.recipeExport h flags target false) h s (fun d => flags = 2 ∧ slotRefusal d (d.rd UPD.CFG.REPORT_SLOT) [3] = 0 ∧ countLost d = false ∧ d.rd (CRUST.CNT.VALUE 2) ≠ 0xFFFFFFFF) (fun d => 
      let cnt := d.rd (CRUST.CNT.VALUE 2) + 1
      let (b, d') := recipeBytes false (padTo 16 target) cnt (setCnt 2 cnt d)
      .done (raiseEvFrom 9 174 0 0 (onUpd (fun u => { u with drop := ins 1 b u.drop }) d')) stOK [b.length, cnt])) ∧
  (∀ (h : CmdHdr) (flags : Nat) (target : List Byte) (badB : Bool) (s : State), Cmd { unit := 15, op := 9, c := true, isl := [13], kw := true } (.recipeExport h flags target badB) h s (fun d => flags ≤ 1 ∧ slotRefusal d (d.rd UPD.CFG.REPORT_SLOT) [3] = 0 ∧ countLost d = false ∧ d.rd (CRUST.CNT.VALUE 2) ≠ 0xFFFFFFFF) (fun d => 
      let cnt := d.rd (CRUST.CNT.VALUE 2) + 1
      let (b, d') := recipeBytes (bitOf flags 0) (padTo 16 target) cnt (setCnt 2 cnt d)
      if recvOk h b.length = true then .done (raiseEvFrom 9 174 0 0 (outBuf h b d')) stOK [b.length, cnt] else .done d stBadBuffer [])) ∧
  (∀ (g : Staging) (s : State), Event .stagingTimeout s (fun d => d.upd.staging = some g) (fun d => endStaging stAborted (toUp (g.last + 600000000000) d))) ∧
  (∀ (part : Nat) (a : Arming) (s : State), Event (.partArmed part) s (fun d => d.upd.arm = some a ∧ a.committed = false) (fun d => onUpd (fun u => { u with arm := some { a with parts := a.parts.modify part fun (p : ArmPart) => if p.st = 0 then { p with st := 1 } else p } }) d)) ∧
  (∀ (ok : Bool) (a : Arming) (s : State), Event (.collect ok) s (fun d => d.upd.arm = some a ∧ a.committed = false ∧ collectFault ok a (toSvcNs (epochNs a.sec a.tick - 50000000) d) = none) (fun d => 
      let d := commitArm a (toSvcNs (epochNs a.sec a.tick - 50000000) d)
      if allSwitched a = true then finishArm { a with committed := true } d else d)) ∧
  (∀ (ok : Bool) (a : Arming) (r st i : Nat) (s : State), Event (.collect ok) s (fun d => d.upd.arm = some a ∧ a.committed = false ∧ collectFault ok a (toSvcNs (epochNs a.sec a.tick - 50000000) d) = some (r, st, i)) (fun d => abortArm r st i (toSvcNs (epochNs a.sec a.tick - 50000000) d))) ∧
  (∀ (part : Nat) (a : Arming) (p : ArmPart) (s : State), Event (.partSwitch part) s (fun d => d.upd.arm = some a ∧ a.parts[part]? = some p ∧ a.committed = true ∧ p.st = 1 ∧ (p.part.kind ≠ 2 ∨ (a.parts.all fun q => q.st != 1 || q.part.kind == 2) = true) ∧ islandOn (toSvcNs (epochNs a.sec a.tick) d) (partIsland p.part) = true) (fun d => 
      let d := toSvcNs (epochNs a.sec a.tick) d
      let (i, d) := switchPart p.part (effTick 0 d) d
      let a : Arming := { a with forces := if p.part.kind = 0x11 then d.frc.clp.length else a.forces, parts := a.parts.set part { p with st := 3, idx := i % 2 ^ 32 } }
      let d := onUpd (fun u => { u with arm := some a }) d
      if allSwitched a = true then finishArm a d else d)) ∧
  (∀ (part : Nat) (a : Arming) (p : ArmPart) (s : State), Event (.partSwitch part) s (fun d => d.upd.arm = some a ∧ a.parts[part]? = some p ∧ a.committed = true ∧ p.st = 1 ∧ (p.part.kind ≠ 2 ∨ (a.parts.all fun q => q.st != 1 || q.part.kind == 2) = true) ∧ islandOn (toSvcNs (epochNs a.sec a.tick) d) (partIsland p.part) = false) (fun d => 
      deferPart part p a (toSvcNs (epochNs a.sec a.tick) d)))

/-- A step runs the command at the front of the queue. A step of a state whose queue begins with a command is exec of that command on the state with the rest of the queue; on an empty queue one AON clock period of 4 ns passes (the model's choice, log 2). (R128) -/
def Obligations.StepRunsFrontCommand : Prop :=
  (∀ (c : Instr) (s : State), step { s with pending := c :: s.pending } = exec c s) ∧
    ∀ s : State, s.pending = [] → step s = .next { s with dev := settle (elapse 1 s.dev) }

/-- A step takes exactly its command from the queue. Every step answers a next state, and leaves in the queue exactly what stood behind the front command, for every command of the table. (R128) -/
def Obligations.QueueShrinksByOne : Prop :=
  (∀ s : State, ∃ t : State, step s = .next t ∧ t.pending = s.pending.tail) ∧
    ∀ (c : Instr) (s : State), ∃ d : Dev, exec c s = .next { s with dev := d }

/-- The state right after reset. At reset the queue is empty, the state is PROOF, the lock is open, every island but the Crust and AON is STARTING and not yet ON, every ring is stopped, every detector has its table class and no open record, no Bench table is published, and host memory lists nothing (log 5). (R31, R74, R90, R104, R105, R124, R503) -/
def Obligations.ResetState : Prop :=
  State.reset.pending = [] ∧ opState State.reset.dev = 2 ∧ locked State.reset.dev = false ∧
    (∀ n, 2 ≤ n → n < 14 → islState State.reset.dev n = 1 ∧ islandOn State.reset.dev n = false) ∧
    (∀ n, n < 32 → ringState State.reset.dev n = 0) ∧
    (∀ n, n < 172 → classOf State.reset.dev n = fdClass n ∧ State.reset.dev.rd (FCU.REC.STATE.OPEN n) = 0) ∧
    State.reset.dev.bench = [] ∧ State.reset.dev.host.mem = [] ∧ State.reset.dev.host.waits = [] ∧ State.reset.dev.evr.queue = []

/-- The invariant holds at reset. At reset no raise waits and the queue is empty, so the invariant of StepKeepsInvariant holds. (R480) -/
def Obligations.ResetMeetsInvariant : Prop :=
  Inv State.reset

/-- No raise outlives its step. From every state that meets the invariant, whatever command stands in front, the step's next state meets it: every raise made in the step has been acted on, and every waiting command is still one that a sender can give. (R480, R483) -/
def Obligations.StepKeepsInvariant : Prop :=
  ∀ s t : State, Inv s → step s = .next t → Inv t

/-- Every run of every queue completes. From every state and for every number n of steps the run of n steps reaches a state: none stops. It has taken the first n commands of the queue, in order and nothing else, and after at least one step no raise waits. (R128, R480) -/
def Obligations.EveryRunCompletes : Prop :=
  ∀ (n : Nat) (s : State), ∃ t : State, run n s = some t ∧ t.pending = s.pending.drop n ∧ (0 < n → t.dev.fcu.todo = [])

/-- Host memory: what a write changes. Bytes written through a port at an address read back, every byte outside them reads as before through either port, the canonical form is kept, and nothing but host memory changes. (R126, R597) -/
def Obligations.HostMemoryWrites : Prop :=
  ∀ (d : Dev) (p a : Nat) (bs : List Byte), bs.length ≤ 2 ^ 64 →
    memRead (memWrite p a bs d) p a bs.length = bs ∧
    (∀ q b : Nat, (∀ i, i < bs.length → memKey q b ≠ memKey p (a + i)) → memByte (memWrite p a bs d) q b = memByte d q b) ∧
    (Memory.wf d.host.mem = true → Memory.wf (memWrite p a bs d).host.mem = true) ∧
    memWrite p a bs d = { d with host := { d.host with mem := (memWrite p a bs d).host.mem } }

/-- A Bench publication is whole. A publication into a table whose other buffer no consumer leases becomes current in one step with its flags, sequence, stamp, body and check together; the buffer that was current stays whole in the other place; no other table and nothing else changes. Where the other buffer is leased, the current one stays as it is and the publication waits. (R28) -/
def Obligations.BenchPublishesWhole : Prop :=
  ∀ (d : Dev) (t tempo : Nat) (valid stale : Bool) (body : List Byte),
    let b := benchTab d t
    let d' := publish t tempo valid stale body d
    let x : BenchBuf := { valid := valid, inputStale := stale, init := b.fresh, seq := ((if b.fresh then 0 else b.current.seq) + 1) % 2 ^ 32, tempo := tempo % 2 ^ 32, sec := svcSec d % 2 ^ 48, ns := svcNs d, frac := svcFrac d, body := body, check := crc32 body }
    (b.otherLeases = [] → (benchTab d' t).current = x ∧ (benchTab d' t).other = b.current) ∧
    (b.otherLeases ≠ [] → (benchTab d' t).current = b.current ∧ (benchTab d' t).other = b.other ∧ (benchTab d' t).waiting = some x) ∧
    (∀ u, u ≠ t → benchTab d' u = benchTab d u) ∧ d' = { d with bench := d'.bench }

/-- CTU and CTD. On a lane that runs, CTU adds 1 to the signed CV on a rising edge of BA against its own copy, up to 2^31 − 1, and CTD subtracts 1 against its own copy, down to −2^31; each takes the present BA as its copy and leaves BA, the other copy, every other counter and everything else as it was; PV depends on the image alone. (R442) -/
def Obligations.LogicCountersStep : Prop :=
  (∀ (l : Fin 3) (a : Nat) (s : State), ClpRuns l.val s.dev → ((laneSt s.dev l.val).ctr a).cv < 2 ^ 32 →
    let x := laneSt s.dev l.val
    let k := x.ctr a
    (∃ v, v < 2 ^ 32 ∧ sgn 32 v = (if x.clp.ba = true ∧ k.lastU = false then min (sgn 32 k.cv + 1) (2 ^ 31 - 1) else sgn 32 k.cv) ∧
      ClpWrites (.iCtu l a) l.val s 4 { x.clp with ctr := ins a { k with cv := v, lastU := x.clp.ba } x.clp.ctr }) ∧
    ∃ v, v < 2 ^ 32 ∧ sgn 32 v = (if x.clp.ba = true ∧ k.lastD = false then max (sgn 32 k.cv - 1) (-2 ^ 31) else sgn 32 k.cv) ∧
      ClpWrites (.iCtd l a) l.val s 4 { x.clp with ctr := ins a { k with cv := v, lastD := x.clp.ba } x.clp.ctr }) ∧
    ∀ (x y : LaneSt) (a : Nat), x.clp.img = y.clp.img → x.ctrPv a = y.ctrPv a

/-- Word instructions compute in two's complement. On a lane that runs, with operands that are words, ADD, SUB and MUL leave in WA the signed sum, difference and product modulo 2^32, DIV the quotient truncated towards zero except for the two cases that set ERR, SHL and SHR the shifted pattern, LDW the operand, and change nothing else but the address and the time. (R437, R438, R440) -/
def Obligations.LogicWordsCompute : Prop :=
  ∀ (l : Fin 3) (sp : Fin 16) (a : Nat) (k : Fin 32) (s : State), ClpRuns l.val s.dev →
    let x := laneSt s.dev l.val
    let w := wordOpnd x false sp.val a
    x.clp.wa < 2 ^ 32 → w < 2 ^ 32 →
    ClpWrites (.iLdw l sp a) l.val s 2 { x.clp with wa := w } ∧
    ClpWrites (.iAdd l sp a) l.val s 2 { x.clp with wa := wrapI 32 (sgn 32 x.clp.wa + sgn 32 w) } ∧
    ClpWrites (.iSub l sp a) l.val s 2 { x.clp with wa := wrapI 32 (sgn 32 x.clp.wa - sgn 32 w) } ∧
    ClpWrites (.iMul l sp a) l.val s 4 { x.clp with wa := wrapI 32 (sgn 32 x.clp.wa * sgn 32 w) } ∧
    (sgn 32 w ≠ 0 → ¬ (sgn 32 x.clp.wa = -2 ^ 31 ∧ sgn 32 w = -1) →
      ClpWrites (.iDiv l sp a) l.val s 12 { x.clp with wa := wrapI 32 ((sgn 32 x.clp.wa).tdiv (sgn 32 w)) }) ∧
    ClpWrites (.iShl l k) l.val s 2 { x.clp with wa := x.clp.wa * 2 ^ k.val % 2 ^ 32 } ∧
    ClpWrites (.iShr l k) l.val s 2 { x.clp with wa := x.clp.wa / 2 ^ k.val }

/-- A detector's class in effect. A class from the table class up to 5 set in DET[d].CLASS is the class in effect, a value below acts as the table class, no setting makes it milder; the next raise that opens a record opens it with the class in effect then, and setting the class leaves the class of every record as it is. (R484) -/
def Obligations.FaultClassNeverMilder : Prop :=
  (∀ (d : Dev) (det v : Nat), fdClass det ≤ v → v ≤ 5 → classOf (d.wr (FCU.DET.CLASS det) v) det = v) ∧
    (∀ (d : Dev) (det v : Nat), v < fdClass det → classOf (d.wr (FCU.DET.CLASS det) v) det = fdClass det) ∧
    (∀ (d : Dev) (det : Nat), fdClass det ≤ classOf d det ∧ classOf d det ≤ 5) ∧
    (∀ (d : Dev) (det v n : Nat), (d.wr (FCU.DET.CLASS det) v).rd (FCU.REC.STATE.CLASS n) = d.rd (FCU.REC.STATE.CLASS n)) ∧
    ∀ (d : Dev) (r : Raise), r.det < 172 → opState d ≠ 2 → suppressed (d.bump (FCU.DET.COUNT r.det)) r = false → classOf d r.det ≠ 0 → d.flag (FCU.REC.STATE.OPEN r.det) = false →
      noteRaise r d = (openRecord r (classOf d r.det) (d.bump (FCU.DET.COUNT r.det)), !r.dry)

/-- A raise opens the detector's record. A raise that is taken while the detector's record is not open opens that record and no other: OPEN 1, MERGE 0, FIRST and LAST the service time, SRC and DETAIL from the raise, and EV144 is raised with the detector and its class. (R485) -/
def Obligations.FaultRecordOpens : Prop :=
  ∀ (d : Dev) (r : Raise), r.det < 172 → opState d ≠ 2 → suppressed (d.bump (FCU.DET.COUNT r.det)) r = false → classOf d r.det ≠ 0 → d.flag (FCU.REC.STATE.OPEN r.det) = false →
    ∃ d1 : Dev, (d1.rd (FCU.REC.STATE.OPEN r.det) = 1 ∧ d1.rd (FCU.REC.MERGE r.det) = 0 ∧
        d1.rd (FCU.REC.FIRST_SEC r.det) = svcSec d % 2 ^ (FCU.REC.FIRST_SEC r.det).width ∧ d1.rd (FCU.REC.FIRST_NS r.det) = svcNs d % 2 ^ (FCU.REC.FIRST_NS r.det).width ∧
        d1.rd (FCU.REC.LAST_SEC r.det) = svcSec d % 2 ^ (FCU.REC.LAST_SEC r.det).width ∧
        d1.rd (FCU.REC.SRC r.det) = r.src % 2 ^ (FCU.REC.SRC r.det).width ∧ d1.rd (FCU.REC.DETAIL r.det) = r.detail % 2 ^ (FCU.REC.DETAIL r.det).width ∧
        ∀ n, n ≠ r.det → d1.rd (FCU.REC.STATE.OPEN n) = d.rd (FCU.REC.STATE.OPEN n) ∧ d1.rd (FCU.REC.STATE.CLASS n) = d.rd (FCU.REC.STATE.CLASS n) ∧ d1.rd (FCU.REC.DETAIL n) = d.rd (FCU.REC.DETAIL n)) ∧
      noteRaise r d = (raiseEv 144 r.det (classOf d r.det) d1, !r.dry)

/-- The vote takes what two lanes publish equal. Of the values that up to three lanes publish for an item, the vote takes a value exactly when at least two of them are that value bit for bit. (R460, R461) -/
def Obligations.VoteNeedsTwoEqual : Prop :=
  ∀ (l : List Nat) (v : Nat), l.length ≤ 3 → (majority l = some v ↔ 2 ≤ l.count v)

/-- A ring command that the state refuses does nothing else. A reserved flag, the operating state (a command that Rack, KEEP-WARM or PROOF does not accept), an island that is off, a chain that is not valid and a failed buffer transfer are tested in this order; the command then completes with that status and no result word, and its own part does not run, for every ring command of the table. (R101, R102, R125, R128, R129, R137) -/
def Obligations.CommandsTurnedAway : Prop :=
  (∀ (sp : CmdSpec) (h : CmdHdr) (d : Dev), cmdGate sp h d =
    (if h.flagsBad = true then some stBadParam
     else if opState d < 2 ∨ (opState d = 5 ∧ sp.rack = false) ∨ (opState d = 4 ∧ sp.kw = false) ∨ (opState d = 2 ∧ sp.proof = false) then some stWrongState
     else if (∃ i ∈ sp.isl, islandOn d i = false) then some stUnavailable
     else if h.chained = true ∧ h.chainOk = false then some stChainError
     else if h.bufs ≠ [] ∧ h.dmaOk = false then some stDmaError
     else none)) ∧
    (∀ (h : CmdHdr) (isl on ret : Nat) (s : State), TurnedAway { unit := 0, op := 6, c := true, kw := true } (.islandPower h isl on ret) h s) ∧
    (∀ (h : CmdHdr) (s : State), TurnedAway { unit := 0, op := 1, proof := true } (.nop h) h s) ∧
    (∀ (h : CmdHdr) (count : Nat) (offs : List Nat) (s : State), TurnedAway { unit := 0, op := 2, kw := true, rack := true, proof := true } (.regRead h count offs) h s) ∧
    (∀ (h : CmdHdr) (count : Nat) (pairs : List (Nat × Nat)) (s : State), TurnedAway { unit := 0, op := 3, c := true } (.cfgWrite h count pairs) h s) ∧
    (∀ (h : CmdHdr) (action : Nat) (s : State), TurnedAway { unit := 0, op := 4, c := true, kw := true, rack := true } (.stateCmd h action) h s) ∧
    (∀ (h : CmdHdr) (v : Nat) (s : State), TurnedAway { unit := 0, op := 5, c := true, rack := true } (.startPolicy h v) h s) ∧
    (∀ (h : CmdHdr) (table : Nat) (s : State), TurnedAway { unit := 0, op := 7, kw := true } (.benchRead h table) h s) ∧
    (∀ (h : CmdHdr) (table : Nat) (s : State), TurnedAway { unit := 0, op := 8 } (.benchWrite h table) h s) ∧
    (∀ (h : CmdHdr) (s : State), TurnedAway { unit := 0, op := 9, c := true } (.unlock h) h s) ∧
    (∀ (h : CmdHdr) (ring kind log2size cring vector modCount modTime epoch base : Nat) (s : State), TurnedAway { unit := 1, op := 1, proof := true } (.ringSetup h ring kind log2size cring vector modCount modTime epoch base) h s) ∧
    (∀ (h : CmdHdr) (ring : Nat) (s : State), TurnedAway { unit := 1, op := 2, proof := true } (.ringStop h ring) h s) ∧
    (∀ (h : CmdHdr) (first count : Nat) (words : List Nat) (s : State), TurnedAway { unit := 1, op := 3, proof := true } (.routeSet h first count words) h s) ∧
    (∀ (h : CmdHdr) (mask claim : Nat) (s : State), TurnedAway { unit := 1, op := 4, c := true } (.ownSet h mask claim) h s) ∧
    (∀ (h : CmdHdr) (mode secs : Nat) (s : State), TurnedAway { unit := 2, op := 0x101, c := true } (.rtcSet h mode secs) h s) ∧
    (∀ (h : CmdHdr) (n : Nat) (s : State), TurnedAway { unit := 2, op := 0x102, c := true } (.cntIncr h n) h s) ∧
    (∀ (h : CmdHdr) (v : Nat) (s : State), TurnedAway { unit := 2, op := 0x103, c := true } (.tamperCfg h v) h s) ∧
    (∀ (h : CmdHdr) (det action : Nat) (s : State), TurnedAway { unit := 12, op := 1, c := true, kw := true, rack := true } (.fcuClear h det action) h s) ∧
    (∀ (h : CmdHdr) (secs : Nat) (s : State), TurnedAway { unit := 12, op := 2, c := true } (.fcuArm h secs) h s) ∧
    (∀ (h : CmdHdr) (det flags src : Nat) (s : State), TurnedAway { unit := 12, op := 3, c := true } (.fcuInject h det flags src) h s) ∧
    (∀ (h : CmdHdr) (first count : Nat) (s : State), TurnedAway { unit := 12, op := 4, kw := true, rack := true } (.fcuRead h first count) h s) ∧
    (∀ (h : CmdHdr) (area first count : Nat) (s : State), TurnedAway { unit := 13, op := 1, kw := true, rack := true, proof := true } (.evrRead h area first count) h s) ∧
    (∀ (h : CmdHdr) (ring area start first : Nat) (s : State), TurnedAway { unit := 13, op := 2, c := true, kw := true, rack := true, proof := true } (.evrStream h ring area start first) h s) ∧
    (∀ (h : CmdHdr) (areas conf : Nat) (s : State), TurnedAway { unit := 13, op := 3, c := true } (.evrClear h areas conf) h s) ∧
    (∀ (h : CmdHdr) (w0 w1 : Nat) (s : State), TurnedAway { unit := 13, op := 4 } (.evrNote h w0 w1) h s) ∧
    (∀ (h : CmdHdr) (dom auto : Nat) (s : State), TurnedAway { unit := 2, op := 1, c := true, isl := [10] } (.domSelect h dom auto) h s) ∧
    (∀ (h : CmdHdr) (s : State), TurnedAway { unit := 2, op := 2, c := true, isl := [10] } (.portAddr h) h s) ∧
    (∀ (h : CmdHdr) (port on : Nat) (s : State), TurnedAway { unit := 2, op := 3, c := true, isl := [10] } (.portPower h port on) h s) ∧
    (∀ (h : CmdHdr) (n v : Nat) (s : State), TurnedAway { unit := 2, op := 4, c := true, isl := [10] } (.tbLoad h n v) h s) ∧
    (∀ (h : CmdHdr) (ch action : Nat) (s : State), TurnedAway { unit := 3, op := 1, c := true, isl := [11] } (.canPower h ch action) h s) ∧
    (∀ (h : CmdHdr) (ch obj dlc flags : Nat) (inline : List Byte) (s : State), TurnedAway { unit := 3, op := 2, isl := [11] } (.canTx h ch obj dlc flags inline) h s) ∧
    (∀ (h : CmdHdr) (ch obj : Nat) (phase : Fin 3) (s : State), TurnedAway { unit := 3, op := 3, isl := [11] } (.canCancel h ch obj phase) h s) ∧
    (∀ (h : CmdHdr) (ch first count : Nat) (s : State), TurnedAway { unit := 3, op := 4, isl := [11], kw := true } (.canRxRead h ch first count) h s) ∧
    (∀ (h : CmdHdr) (ch : Nat) (s : State), TurnedAway { unit := 3, op := 5, isl := [11], kw := true } (.canHpbRead h ch) h s) ∧
    (∀ (h : CmdHdr) (ch : Nat) (s : State), TurnedAway { unit := 3, op := 6, isl := [11] } (.canResume h ch) h s) ∧
    (∀ (h : CmdHdr) (ch : Nat) (s : State), TurnedAway { unit := 3, op := 7, isl := [11] } (.canBoRecover h ch) h s) ∧
    (∀ (h : CmdHdr) (sar cfg tim gain ofs param : Nat) (codes refs : List Int) (s : State), TurnedAway { unit := 5, op := 1, isl := [9] } (.adcInject h sar cfg tim gain ofs param codes refs) h s) ∧
    (∀ (h : CmdHdr) (sar entry action ref : Nat) (s : State), TurnedAway { unit := 5, op := 2, c := true, isl := [9] } (.adcCal h sar entry action ref) h s) ∧
    (∀ (h : CmdHdr) (sar action : Nat) (s : State), TurnedAway { unit := 5, op := 3, c := true, isl := [9] } (.sarService h sar action) h s) ∧
    (∀ (h : CmdHdr) (n gain ofs : Nat) (s : State), TurnedAway { unit := 5, op := 4, c := true, isl := [9] } (.dacCal h n gain ofs) h s) ∧
    (∀ (h : CmdHdr) (n count : Nat) (s : State), TurnedAway { unit := 5, op := 5, c := true, isl := [9] } (.pinLoad h n count) h s) ∧
    (∀ (h : CmdHdr) (n mode src : Nat) (s : State), TurnedAway { unit := 9, op := 1, c := true, kw := true } (.loopMode h n mode src) h s) ∧
    (∀ (h : CmdHdr) (n v : Nat) (s : State), TurnedAway { unit := 9, op := 2, c := true } (.loopSp h n v) h s) ∧
    (∀ (h : CmdHdr) (n v : Nat) (s : State), TurnedAway { unit := 9, op := 3, c := true, kw := true } (.loopManual h n v) h s) ∧
    (∀ (h : CmdHdr) (n : Nat) (s : State), TurnedAway { unit := 9, op := 4, c := true } (.loopCoef h n) h s) ∧
    (∀ (h : CmdHdr) (n : Nat) (s : State), TurnedAway { unit := 9, op := 5, c := true } (.loopLimits h n) h s) ∧
    (∀ (h : CmdHdr) (n on v : Nat) (s : State), TurnedAway { unit := 9, op := 6, c := true } (.loopForce h n on v) h s) ∧
    (∀ (h : CmdHdr) (n count : Nat) (s : State), TurnedAway { unit := 9, op := 7, kw := true } (.loopRead h n count) h s) ∧
    (∀ (h : CmdHdr) (lane action : Nat) (s : State), TurnedAway { unit := 10, op := 1, c := true, kw := true } (.laneReq h lane action) h s) ∧
    (∀ (h : CmdHdr) (v : Nat) (s : State), TurnedAway { unit := 10, op := 2, c := true, kw := true } (.safeCmd h v) h s) ∧
    (∀ (h : CmdHdr) (first count : Nat) (s : State), TurnedAway { unit := 10, op := 3, kw := true } (.laneLogRead h first count) h s) ∧
    (∀ (h : CmdHdr) (action space addr v : Nat) (s : State), TurnedAway { unit := 11, op := 1, c := true } (.clpForce h action space addr v) h s) ∧
    (∀ (h : CmdHdr) (s : State), TurnedAway { unit := 11, op := 2, c := true } (.clpForceAll h) h s) ∧
    (∀ (h : CmdHdr) (action : Nat) (s : State), TurnedAway { unit := 11, op := 3, c := true } (.clpRun h action) h s) ∧
    (∀ (h : CmdHdr) (space addr v : Nat) (s : State), TurnedAway { unit := 11, op := 4, c := true } (.clpData h space addr v) h s) ∧
    (∀ (h : CmdHdr) (area first count : Nat) (s : State), TurnedAway { unit := 11, op := 5, kw := true } (.clpRead h area first count) h s) ∧
    (∀ (h : CmdHdr) (n : Nat) (s : State), TurnedAway { unit := 4, op := 1, c := true, isl := [11] } (.sessCfg h n) h s) ∧
    (∀ (h : CmdHdr) (n action : Nat) (s : State), TurnedAway { unit := 4, op := 2, c := true, isl := [2, 11] } (.sessPower h n action) h s) ∧
    (∀ (h : CmdHdr) (first count : Nat) (s : State), TurnedAway { unit := 4, op := 3, isl := [11], kw := true } (.sessRead h first count) h s) ∧
    (∀ (h : CmdHdr) (n rw len param : Nat) (s : State), TurnedAway { unit := 4, op := 4, isl := [11] } (.sessParam h n rw len param) h s) ∧
    (∀ (h : CmdHdr) (sub cans ports : Nat) (s : State), TurnedAway { unit := 4, op := 5, c := true, isl := [11] } (.sessBcast h sub cans ports) h s) ∧
    (∀ (h : CmdHdr) (ch action ref : Nat) (s : State), TurnedAway { unit := 6, op := 1, c := true, isl := [8] } (.mtrCal h ch action ref) h s) ∧
    (∀ (h : CmdHdr) (k action : Nat) (s : State), TurnedAway { unit := 6, op := 2, c := true, isl := [8] } (.mtrService h k action) h s) ∧
    (∀ (h : CmdHdr) (ring period fmask bmask flags : Nat) (s : State), TurnedAway { unit := 6, op := 3, c := true, isl := [8], kw := true } (.mtrStream h ring period fmask bmask flags) h s) ∧
    (∀ (h : CmdHdr) (f first count : Nat) (s : State), TurnedAway { unit := 6, op := 4, isl := [8], kw := true } (.mtrIvlRead h f first count) h s) ∧
    (∀ (h : CmdHdr) (m first count : Nat) (s : State), TurnedAway { unit := 6, op := 0x10, isl := [8], kw := true } (.heatIvlRead h m first count) h s) ∧
    (∀ (h : CmdHdr) (m first count : Nat) (s : State), TurnedAway { unit := 6, op := 0x11, isl := [8], kw := true } (.heatBillRead h m first count) h s) ∧
    (∀ (h : CmdHdr) (s : State), TurnedAway { unit := 6, op := 0x12, c := true, isl := [8] } (.heatBillClose h) h s) ∧
    (∀ (h : CmdHdr) (s : State), TurnedAway { unit := 7, op := 1, isl := [2] } (.modelLoad h) h s) ∧
    (∀ (h : CmdHdr) (s : State), TurnedAway { unit := 7, op := 2, c := true } (.modelActivate h) h s) ∧
    (∀ (h : CmdHdr) (count : Nat) (s : State), TurnedAway { unit := 7, op := 3, c := true } (.modelEdit h count) h s) ∧
    (∀ (h : CmdHdr) (table first count : Nat) (s : State), TurnedAway { unit := 7, op := 4, kw := true } (.modelRead h table first count) h s) ∧
    (∀ (h : CmdHdr) (tiles sram : List Nat) (bwE bwF : Nat) (s : State), TurnedAway { unit := 8, op := 1, c := true, isl := [6] } (.partSet h tiles sram bwE bwF) h s) ∧
    (∀ (h : CmdHdr) (p : Nat) (s : State), TurnedAway { unit := 8, op := 2, isl := [6] } (.structLoad h p) h s) ∧
    (∀ (h : CmdHdr) (p : Nat) (s : State), TurnedAway { unit := 8, op := 3, c := true, isl := [6] } (.structActivate h p) h s) ∧
    (∀ (h : CmdHdr) (p id : Nat) (s : State), TurnedAway { unit := 8, op := 4, isl := [6] } (.solvDelta h p id) h s) ∧
    (∀ (h : CmdHdr) (p action : Nat) (s : State), TurnedAway { unit := 8, op := 5, c := true, isl := [6] } (.solvCtrl h p action) h s) ∧
    (∀ (h : CmdHdr) (p what first count : Nat) (s : State), TurnedAway { unit := 8, op := 6, isl := [6], kw := true } (.solvRead h p what first count) h s) ∧
    (∀ (h : CmdHdr) (count : Nat) (s : State), TurnedAway { unit := 8, op := 7, c := true } (.sdMap h count) h s) ∧
    (∀ (h : CmdHdr) (s : State), TurnedAway { unit := 14, op := 1, c := true, isl := [13] } (.keyUpdate h) h s) ∧
    (∀ (h : CmdHdr) (slot : Nat) (nonce : List Byte) (s : State), TurnedAway { unit := 14, op := 2, isl := [13], kw := true } (.keyPub h slot nonce) h s) ∧
    (∀ (h : CmdHdr) (slot op : Nat) (iv : List Byte) (s : State), TurnedAway { unit := 14, op := 3, isl := [13] } (.keyOp h slot op iv) h s) ∧
    (∀ (h : CmdHdr) (table first count : Nat) (s : State), TurnedAway { unit := 14, op := 4, isl := [13], kw := true } (.keyRead h table first count) h s) ∧
    (∀ (h : CmdHdr) (s : State), TurnedAway { unit := 14, op := 5, c := true } (.keyJtag h) h s) ∧
    (∀ (h : CmdHdr) (source : Nat) (s : State), TurnedAway { unit := 15, op := 1, c := true, isl := [13], kw := true, rack := true } (.updOpen h source) h s) ∧
    (∀ (h : CmdHdr) (part offset : Nat) (badA badB : Bool) (s : State), TurnedAway { unit := 15, op := 2, kw := true, rack := true } (.updData h part offset badA badB) h s) ∧
    (∀ (h : CmdHdr) (parts : List PartIn) (badA badB : Bool) (s : State), TurnedAway { unit := 15, op := 3, c := true, kw := true, rack := true } (.updClose h parts badA badB) h s) ∧
    (∀ (h : CmdHdr) (sec tick : Nat) (s : State), TurnedAway { unit := 15, op := 4, c := true } (.updActivate h sec tick) h s) ∧
    (∀ (h : CmdHdr) (sec tick : Nat) (s : State), TurnedAway { unit := 15, op := 5, c := true } (.updRevert h sec tick) h s) ∧
    (∀ (h : CmdHdr) (s : State), TurnedAway { unit := 15, op := 6, c := true, kw := true, rack := true } (.updCancel h) h s) ∧
    (∀ (h : CmdHdr) (source : Nat) (s : State), TurnedAway { unit := 15, op := 7, c := true, rack := true } (.updRecover h source) h s) ∧
    (∀ (h : CmdHdr) (s : State), TurnedAway { unit := 15, op := 8, kw := true } (.updReport h) h s) ∧
    (∀ (h : CmdHdr) (flags : Nat) (target : List Byte) (badB : Bool) (s : State), TurnedAway { unit := 15, op := 9, c := true, isl := [13], kw := true } (.recipeExport h flags target badB) h s) ∧
    (∀ (h : CmdHdr) (source : Nat) (s : State), TurnedAway { unit := 15, op := 10, c := true, isl := [13] } (.recipeImport h source) h s)

/-- Registers that do not respond. A read of an unassigned address, of a block whose island is off, or in Rack state of a block outside GLB, HOST, PWR, FCU, EVR and the CRUST window answers 0 and changes nothing; a write there, and a write narrower than 32 bits anywhere, is ignored and counted; what a counted write changes among the registers is IGN_WRITES and IGN_ADDR. (R3, R22, R37, R39) -/
def Obligations.OffBlocksDoNotRespond : Prop :=
  (∀ (p a : Nat) (d : Dev), blockOf a = none → barRead p a d = (0, d)) ∧
    (∀ (p a b : Nat) (d : Dev), blockOf a = some b → b ≠ 14 → b ≠ 15 → islandOn d (blockIsland b) = false → barRead p a d = (0, d)) ∧
    (∀ (p a b : Nat) (d : Dev), blockOf a = some b → opState d = 5 → 5 < b → barRead p a d = (0, d)) ∧
    (∀ (p : Fin 2) (a v : Nat) (s : State), a % 4 = 0 →
      (blockOf a = none ∨ ∃ b, blockOf a = some b ∧ ((b ≠ 14 ∧ b ≠ 15 ∧ islandOn s.dev (blockIsland b) = false) ∨ (opState s.dev = 5 ∧ 5 < b))) →
      exec (.bar0Write p a 4 v) s = .next { s with dev := settle (ignoreWrite p.val a s.dev) }) ∧
    (∀ (p : Fin 2) (a size v : Nat) (s : State), size ≠ 4 → exec (.bar0Write p a size v) s = .next { s with dev := settle (ignoreWrite p.val a s.dev) }) ∧
    ∀ (p a : Nat) (d : Dev), let d' := countIgn p a d
      d'.rd GLB.IGN_WRITES.COUNT = min (d.rd GLB.IGN_WRITES.COUNT + 1) (2 ^ GLB.IGN_WRITES.COUNT.width - 1) ∧ d'.rd GLB.IGN_ADDR.ADDR = a % 2 ^ GLB.IGN_ADDR.ADDR.width ∧
      d' = { d with regs := d'.regs } ∧
      ∀ f : FRef, f.key ≠ GLB.IGN_WRITES.COUNT.key → f.key ≠ GLB.IGN_WRITES.LAST_PORT.key → f.key ≠ GLB.IGN_ADDR.ADDR.key → d'.rd f = d.rd f

/-- Compatibility snapshots give back the energy. SNAP and WRAPCNT of an energy register are the low 32 and the next 16 bits of the accumulator in snapshot units; the difference of two snapshots modulo 2^32 is the energy between them when it is less than one wrap, and with the wrap counts it is exact while the counts do not wrap. (R296, R297) -/
def Obligations.EnergySnapshotsExact : Prop :=
  (∀ (d : Dev) (f r : Nat), snapOf d f r + 2 ^ 32 * wrapOf d f r = energy d f r / snapDiv d % 2 ^ 48) ∧
    (∀ (d1 d2 : Dev) (f r : Nat), energy d1 f r / snapDiv d1 ≤ energy d2 f r / snapDiv d2 → energy d2 f r / snapDiv d2 - energy d1 f r / snapDiv d1 < 2 ^ 32 →
      ((snapOf d2 f r : Int) - snapOf d1 f r) % 2 ^ 32 = ((energy d2 f r / snapDiv d2 : Nat) : Int) - (energy d1 f r / snapDiv d1 : Nat)) ∧
    ∀ (d1 d2 : Dev) (f r : Nat), energy d1 f r / snapDiv d1 < 2 ^ 48 → energy d2 f r / snapDiv d2 < 2 ^ 48 →
      ((snapOf d2 f r : Int) - snapOf d1 f r) + 2 ^ 32 * ((wrapOf d2 f r : Int) - wrapOf d1 f r) = ((energy d2 f r / snapDiv d2 : Nat) : Int) - (energy d1 f r / snapDiv d1 : Nat)

/-- Comparing wrapping counters. The signed difference of two readings of a counter of w bits is the true distance of the two counts whenever that distance is less than half the counter's range. (R10) -/
def Obligations.WrappingCountersCompare : Prop :=
  ∀ (w a b : Nat), 0 < w → (a : Int) - b < 2 ^ (w - 1) → -(2 ^ (w - 1) : Int) < (a : Int) - b → sdiff w (a % 2 ^ w) (b % 2 ^ w) = (a : Int) - b

/-- The effective tick is the first one that leaves the lead. With the lanes' common start given, the effective tick of a hand-over starts at least the lead after the present instant, and no earlier tick does. (R26, R262) -/
def Obligations.EffectiveTickIsFirst : Prop :=
  ∀ (d : Dev) (t lead : Nat), d.gate.t0 = some t → t ≤ d.up + lead →
    d.up + lead ≤ t + effTick lead d * tickNs ∧ ∀ j, d.up + lead ≤ t + j * tickNs → effTick lead d ≤ j

/-- WC_TICKS is the least number of base ticks that holds the path. WC_TICKS of a program whose longest path takes c cycles of 2.5 ns is the smallest number of base ticks of 250 µs not below 5 µs plus the path's time. (R432) -/
def Obligations.CyclePeriodIsLeast : Prop :=
  ∀ c : Nat, 2000 + c ≤ wcTicks c * 100000 ∧ ∀ j, 2000 + c ≤ j * 100000 → wcTicks c ≤ j

/-- The recorder's input queue. An occurrence is appended behind those that wait while fewer than 1,024 do; otherwise it is dropped, the queue stays, and STAT.QDROP counts it up to its width; whatever list of occurrences is handed over, the queue keeps what it held, in order, and never exceeds 1,024 entries. (R507) -/
def Obligations.RecorderQueueDrops : Prop :=
  (∀ (o : Occ) (d : Dev), d.evr.queue.length < 1024 → pushOcc o d = { d with evr := { d.evr with queue := d.evr.queue ++ [o] } }) ∧
    (∀ (o : Occ) (d : Dev), 1024 ≤ d.evr.queue.length →
      (pushOcc o d).evr.queue = d.evr.queue ∧ (pushOcc o d).rd EVR.STAT.QDROP = min (d.rd EVR.STAT.QDROP + 1) (2 ^ EVR.STAT.QDROP.width - 1)) ∧
    ∀ (l : List Occ) (d : Dev), d.evr.queue.length ≤ 1024 →
      (l.foldl (fun d o => pushOcc o d) d).evr.queue = d.evr.queue ++ l.take (1024 - d.evr.queue.length)

/-- A key update that fails a check changes no key. KEY_UPDATE with a message that fails a check completes with that check's status and CNT[1]; the keys, counters and tables stay, and only LAST_STATUS, the count of refusals and EV162 follow. (R531, R543) -/
def Obligations.KeyUpdateRefusedWhole : Prop :=
  ∀ (h : CmdHdr) (s : State),
    let sp : CmdSpec := { unit := 14, op := 1, c := true, isl := [13] }
    let d := begun sp h s.dev
    let st := kuCheck d (inBuf h d)
    Ready sp h s → bufOk h = true → st ≠ 0 →
      exec (.keyUpdate h) s = .next { s with dev := settle (ended sp h s.dev (let d' := raiseEv 162 st 0 ((d.wr KEYS.KU.LAST_STATUS st).addSat KEYS.KU.REFUSED 1); .done d' st [d'.rd (CRUST.CNT.VALUE 1)])) }
end

