-- ==== Sys2Proof/Laws/Bank.lean ====
section
/-! SUPPORT. Laws of sparse tables and of the register bank: read after write, other keys, the rising order of the keys. -/
namespace Sys2Proof.Machine
open Sys2Proof

variable {β : Type}

/-! ### Sparse tables -/

@[simp] theorem look_ins_same (k : Nat) (v : β) (m : SMap β) : look (ins k v m) k = some v := by
  induction m with
  | nil => simp [ins, look]
  | cons e t ih =>
    obtain ⟨a, w⟩ := e
    simp only [ins]
    split
    · simp [look]
    · split
      · simp [look]
      · simp [look, *]

theorem look_ins_ne {k j : Nat} (h : j ≠ k) (v : β) (m : SMap β) : look (ins k v m) j = look m j := by
  induction m with
  | nil => simp [ins, look, h.symm]
  | cons e t ih =>
    obtain ⟨a, w⟩ := e
    simp only [ins]
    split
    · simp [look, h.symm]
    · split
      · subst_vars; simp [look, h.symm]
      · simp [look, ih]

@[simp] theorem look_del_same (k : Nat) (m : SMap β) : look (del k m) k = none := by
  induction m with
  | nil => rfl
  | cons e t ih =>
    obtain ⟨a, w⟩ := e
    simp only [del]
    split
    · exact ih
    · simp [look, *]

theorem look_del_ne {k j : Nat} (h : j ≠ k) (m : SMap β) : look (del k m) j = look m j := by
  induction m with
  | nil => rfl
  | cons e t ih =>
    obtain ⟨a, w⟩ := e
    simp only [del]
    split
    · subst_vars; simp [look, h.symm, ih]
    · simp [look, ih]

/-- The keys of a table whose keys rise strictly lie above a bound below its first key. -/
theorem sortedKeys_cons {a : Nat} {w : β} {t : SMap β} :
    sortedKeys ((a, w) :: t) = true ↔ sortedKeys t = true ∧ ∀ e ∈ t.head?, a < e.1 := by
  cases t with
  | nil => simp [sortedKeys]
  | cons e t => obtain ⟨b, v⟩ := e; simp [sortedKeys, and_comm]

theorem sortedKeys_ins (k : Nat) (v : β) {m : SMap β} (h : sortedKeys m = true) : sortedKeys (ins k v m) = true := by
  induction m with
  | nil => rfl
  | cons e t ih =>
    obtain ⟨a, w⟩ := e
    rw [sortedKeys_cons] at h
    simp only [ins]
    split
    · rename_i hk
      rw [sortedKeys_cons, sortedKeys_cons]
      exact ⟨h, by simpa using hk⟩
    · split
      · subst_vars
        rw [sortedKeys_cons]
        exact h
      · rename_i h1 h2
        rw [sortedKeys_cons]
        refine ⟨ih h.1, ?_⟩
        intro e he
        cases t with
        | nil => simp [ins] at he; subst he; simp; omega
        | cons e' t' =>
          obtain ⟨b, u⟩ := e'
          have hb : a < b := h.2 (b, u) (by simp)
          simp only [ins] at he
          split at he
          · simp at he; subst he; simp; omega
          · split at he
            · simp at he; subst he; simp; omega
            · simp at he; subst he; exact hb

theorem mem_del {k : Nat} {m : SMap β} {e : Nat × β} (h : e ∈ del k m) : e ∈ m := by
  induction m with
  | nil => exact h
  | cons e' t ih =>
    obtain ⟨a, w⟩ := e'
    simp only [del] at h
    split at h
    · exact .tail _ (ih h)
    · cases h with
      | head => exact .head _
      | tail _ h => exact .tail _ (ih h)

/-- Below the first key of a rising table no key lies. -/
theorem sortedKeys_lower {a : Nat} {w : β} {t : SMap β} (h : sortedKeys ((a, w) :: t) = true) : ∀ e ∈ t, a < e.1 := by
  induction t generalizing a w with
  | nil => simp
  | cons e' t ih =>
    obtain ⟨b, v⟩ := e'
    rw [sortedKeys_cons] at h
    intro e he
    have hb : a < b := h.2 (b, v) (by simp)
    cases he with
    | head => exact hb
    | tail _ he => exact Nat.lt_trans hb (ih h.1 e he)

theorem sortedKeys_del (k : Nat) {m : SMap β} (h : sortedKeys m = true) : sortedKeys (del k m) = true := by
  induction m with
  | nil => rfl
  | cons e t ih =>
    obtain ⟨a, w⟩ := e
    have hl := sortedKeys_lower h
    rw [sortedKeys_cons] at h
    simp only [del]
    split
    · exact ih h.1
    · rw [sortedKeys_cons]
      refine ⟨ih h.1, fun e he => hl e (mem_del (List.mem_of_mem_head? he))⟩

/-! ### The register bank (R3) -/

theorem bankRd_bankWr_same (m : SMap Nat) (f : FRef) (v : Nat) : bankRd (bankWr m f v) f = v % 2 ^ f.width := by
  simp only [bankRd, bankWr, lookD]
  split
  · simp_all
  · simp

theorem bankRd_bankWr_ne (m : SMap Nat) {f g : FRef} (v : Nat) (h : g.key ≠ f.key) : bankRd (bankWr m f v) g = bankRd m g := by
  simp only [bankRd, bankWr, lookD]
  split
  · rw [look_del_ne h]
  · rw [look_ins_ne h]

theorem sortedKeys_bankWr {m : SMap Nat} (f : FRef) (v : Nat) (h : sortedKeys m = true) : sortedKeys (bankWr m f v) = true := by
  simp only [bankWr]
  split
  · exact sortedKeys_del _ h
  · exact sortedKeys_ins _ _ h

/-- A field that was written reads as the value cut to its width. -/
@[simp] theorem Dev.rd_wr_same (d : Dev) (f : FRef) (v : Nat) : (d.wr f v).rd f = v % 2 ^ f.width := bankRd_bankWr_same _ _ _

/-- A field of another place reads as before. -/
theorem Dev.rd_wr_ne (d : Dev) {f g : FRef} (v : Nat) (h : g.key ≠ f.key) : (d.wr f v).rd g = d.rd g := bankRd_bankWr_ne _ _ h

end Sys2Proof.Machine
end

