-- ==== Sys2Proof/Laws/State.lean ====
section
/-! SUPPORT. What each update of the device leaves alone: one lemma per field per update. -/
namespace Sys2Proof.Machine
open Sys2Proof

/-! ### Writes of registers -/

@[simp] theorem Dev.wr_emram (d : Dev) (f : FRef) (v : Nat) : (d.wr f v).emram = d.emram := rfl
@[simp] theorem Dev.wr_free (d : Dev) (f : FRef) (v : Nat) : (d.wr f v).free = d.free := rfl
@[simp] theorem Dev.wr_up (d : Dev) (f : FRef) (v : Nat) : (d.wr f v).up = d.up := rfl
@[simp] theorem Dev.wr_boot (d : Dev) (f : FRef) (v : Nat) : (d.wr f v).boot = d.boot := rfl
@[simp] theorem Dev.wr_pins (d : Dev) (f : FRef) (v : Nat) : (d.wr f v).pins = d.pins := rfl
@[simp] theorem Dev.wr_pwr (d : Dev) (f : FRef) (v : Nat) : (d.wr f v).pwr = d.pwr := rfl
@[simp] theorem Dev.wr_host (d : Dev) (f : FRef) (v : Nat) : (d.wr f v).host = d.host := rfl
@[simp] theorem Dev.wr_bench (d : Dev) (f : FRef) (v : Nat) : (d.wr f v).bench = d.bench := rfl
@[simp] theorem Dev.wr_crust (d : Dev) (f : FRef) (v : Nat) : (d.wr f v).crust = d.crust := rfl
@[simp] theorem Dev.wr_time (d : Dev) (f : FRef) (v : Nat) : (d.wr f v).time = d.time := rfl
@[simp] theorem Dev.wr_lane (d : Dev) (f : FRef) (v : Nat) : (d.wr f v).lane = d.lane := rfl
@[simp] theorem Dev.wr_can (d : Dev) (f : FRef) (v : Nat) : (d.wr f v).can = d.can := rfl
@[simp] theorem Dev.wr_sess (d : Dev) (f : FRef) (v : Nat) : (d.wr f v).sess = d.sess := rfl
@[simp] theorem Dev.wr_rxSeqs (d : Dev) (f : FRef) (v : Nat) : (d.wr f v).rxSeqs = d.rxSeqs := rfl
@[simp] theorem Dev.wr_timeSentAt (d : Dev) (f : FRef) (v : Nat) : (d.wr f v).timeSentAt = d.timeSentAt := rfl
@[simp] theorem Dev.wr_meter (d : Dev) (f : FRef) (v : Nat) : (d.wr f v).meter = d.meter := rfl
@[simp] theorem Dev.wr_gate (d : Dev) (f : FRef) (v : Nat) : (d.wr f v).gate = d.gate := rfl
@[simp] theorem Dev.wr_frc (d : Dev) (f : FRef) (v : Nat) : (d.wr f v).frc = d.frc := rfl
@[simp] theorem Dev.wr_img (d : Dev) (f : FRef) (v : Nat) : (d.wr f v).img = d.img := rfl
@[simp] theorem Dev.wr_pio (d : Dev) (f : FRef) (v : Nat) : (d.wr f v).pio = d.pio := rfl
@[simp] theorem Dev.wr_model (d : Dev) (f : FRef) (v : Nat) : (d.wr f v).model = d.model := rfl
@[simp] theorem Dev.wr_solv (d : Dev) (f : FRef) (v : Nat) : (d.wr f v).solv = d.solv := rfl
@[simp] theorem Dev.wr_keys (d : Dev) (f : FRef) (v : Nat) : (d.wr f v).keys = d.keys := rfl
@[simp] theorem Dev.wr_upd (d : Dev) (f : FRef) (v : Nat) : (d.wr f v).upd = d.upd := rfl
@[simp] theorem Dev.wr_fcu (d : Dev) (f : FRef) (v : Nat) : (d.wr f v).fcu = d.fcu := rfl
@[simp] theorem Dev.wr_evr (d : Dev) (f : FRef) (v : Nat) : (d.wr f v).evr = d.evr := rfl

@[simp] theorem Dev.put_emram (d : Dev) (f : FRef) (b : Bool) : (d.put f b).emram = d.emram := rfl
@[simp] theorem Dev.put_free (d : Dev) (f : FRef) (b : Bool) : (d.put f b).free = d.free := rfl
@[simp] theorem Dev.put_up (d : Dev) (f : FRef) (b : Bool) : (d.put f b).up = d.up := rfl
@[simp] theorem Dev.put_boot (d : Dev) (f : FRef) (b : Bool) : (d.put f b).boot = d.boot := rfl
@[simp] theorem Dev.put_pins (d : Dev) (f : FRef) (b : Bool) : (d.put f b).pins = d.pins := rfl
@[simp] theorem Dev.put_pwr (d : Dev) (f : FRef) (b : Bool) : (d.put f b).pwr = d.pwr := rfl
@[simp] theorem Dev.put_host (d : Dev) (f : FRef) (b : Bool) : (d.put f b).host = d.host := rfl
@[simp] theorem Dev.put_bench (d : Dev) (f : FRef) (b : Bool) : (d.put f b).bench = d.bench := rfl
@[simp] theorem Dev.put_crust (d : Dev) (f : FRef) (b : Bool) : (d.put f b).crust = d.crust := rfl
@[simp] theorem Dev.put_time (d : Dev) (f : FRef) (b : Bool) : (d.put f b).time = d.time := rfl
@[simp] theorem Dev.put_lane (d : Dev) (f : FRef) (b : Bool) : (d.put f b).lane = d.lane := rfl
@[simp] theorem Dev.put_can (d : Dev) (f : FRef) (b : Bool) : (d.put f b).can = d.can := rfl
@[simp] theorem Dev.put_sess (d : Dev) (f : FRef) (b : Bool) : (d.put f b).sess = d.sess := rfl
@[simp] theorem Dev.put_rxSeqs (d : Dev) (f : FRef) (b : Bool) : (d.put f b).rxSeqs = d.rxSeqs := rfl
@[simp] theorem Dev.put_timeSentAt (d : Dev) (f : FRef) (b : Bool) : (d.put f b).timeSentAt = d.timeSentAt := rfl
@[simp] theorem Dev.put_meter (d : Dev) (f : FRef) (b : Bool) : (d.put f b).meter = d.meter := rfl
@[simp] theorem Dev.put_gate (d : Dev) (f : FRef) (b : Bool) : (d.put f b).gate = d.gate := rfl
@[simp] theorem Dev.put_frc (d : Dev) (f : FRef) (b : Bool) : (d.put f b).frc = d.frc := rfl
@[simp] theorem Dev.put_img (d : Dev) (f : FRef) (b : Bool) : (d.put f b).img = d.img := rfl
@[simp] theorem Dev.put_pio (d : Dev) (f : FRef) (b : Bool) : (d.put f b).pio = d.pio := rfl
@[simp] theorem Dev.put_model (d : Dev) (f : FRef) (b : Bool) : (d.put f b).model = d.model := rfl
@[simp] theorem Dev.put_solv (d : Dev) (f : FRef) (b : Bool) : (d.put f b).solv = d.solv := rfl
@[simp] theorem Dev.put_keys (d : Dev) (f : FRef) (b : Bool) : (d.put f b).keys = d.keys := rfl
@[simp] theorem Dev.put_upd (d : Dev) (f : FRef) (b : Bool) : (d.put f b).upd = d.upd := rfl
@[simp] theorem Dev.put_fcu (d : Dev) (f : FRef) (b : Bool) : (d.put f b).fcu = d.fcu := rfl
@[simp] theorem Dev.put_evr (d : Dev) (f : FRef) (b : Bool) : (d.put f b).evr = d.evr := rfl

@[simp] theorem Dev.bump_emram (d : Dev) (f : FRef) : (d.bump f).emram = d.emram := rfl
@[simp] theorem Dev.bump_free (d : Dev) (f : FRef) : (d.bump f).free = d.free := rfl
@[simp] theorem Dev.bump_up (d : Dev) (f : FRef) : (d.bump f).up = d.up := rfl
@[simp] theorem Dev.bump_boot (d : Dev) (f : FRef) : (d.bump f).boot = d.boot := rfl
@[simp] theorem Dev.bump_pins (d : Dev) (f : FRef) : (d.bump f).pins = d.pins := rfl
@[simp] theorem Dev.bump_pwr (d : Dev) (f : FRef) : (d.bump f).pwr = d.pwr := rfl
@[simp] theorem Dev.bump_host (d : Dev) (f : FRef) : (d.bump f).host = d.host := rfl
@[simp] theorem Dev.bump_bench (d : Dev) (f : FRef) : (d.bump f).bench = d.bench := rfl
@[simp] theorem Dev.bump_crust (d : Dev) (f : FRef) : (d.bump f).crust = d.crust := rfl
@[simp] theorem Dev.bump_time (d : Dev) (f : FRef) : (d.bump f).time = d.time := rfl
@[simp] theorem Dev.bump_lane (d : Dev) (f : FRef) : (d.bump f).lane = d.lane := rfl
@[simp] theorem Dev.bump_can (d : Dev) (f : FRef) : (d.bump f).can = d.can := rfl
@[simp] theorem Dev.bump_sess (d : Dev) (f : FRef) : (d.bump f).sess = d.sess := rfl
@[simp] theorem Dev.bump_rxSeqs (d : Dev) (f : FRef) : (d.bump f).rxSeqs = d.rxSeqs := rfl
@[simp] theorem Dev.bump_timeSentAt (d : Dev) (f : FRef) : (d.bump f).timeSentAt = d.timeSentAt := rfl
@[simp] theorem Dev.bump_meter (d : Dev) (f : FRef) : (d.bump f).meter = d.meter := rfl
@[simp] theorem Dev.bump_gate (d : Dev) (f : FRef) : (d.bump f).gate = d.gate := rfl
@[simp] theorem Dev.bump_frc (d : Dev) (f : FRef) : (d.bump f).frc = d.frc := rfl
@[simp] theorem Dev.bump_img (d : Dev) (f : FRef) : (d.bump f).img = d.img := rfl
@[simp] theorem Dev.bump_pio (d : Dev) (f : FRef) : (d.bump f).pio = d.pio := rfl
@[simp] theorem Dev.bump_model (d : Dev) (f : FRef) : (d.bump f).model = d.model := rfl
@[simp] theorem Dev.bump_solv (d : Dev) (f : FRef) : (d.bump f).solv = d.solv := rfl
@[simp] theorem Dev.bump_keys (d : Dev) (f : FRef) : (d.bump f).keys = d.keys := rfl
@[simp] theorem Dev.bump_upd (d : Dev) (f : FRef) : (d.bump f).upd = d.upd := rfl
@[simp] theorem Dev.bump_fcu (d : Dev) (f : FRef) : (d.bump f).fcu = d.fcu := rfl
@[simp] theorem Dev.bump_evr (d : Dev) (f : FRef) : (d.bump f).evr = d.evr := rfl

@[simp] theorem Dev.addSat_emram (d : Dev) (f : FRef) (n : Nat) : (d.addSat f n).emram = d.emram := rfl
@[simp] theorem Dev.addSat_free (d : Dev) (f : FRef) (n : Nat) : (d.addSat f n).free = d.free := rfl
@[simp] theorem Dev.addSat_up (d : Dev) (f : FRef) (n : Nat) : (d.addSat f n).up = d.up := rfl
@[simp] theorem Dev.addSat_boot (d : Dev) (f : FRef) (n : Nat) : (d.addSat f n).boot = d.boot := rfl
@[simp] theorem Dev.addSat_pins (d : Dev) (f : FRef) (n : Nat) : (d.addSat f n).pins = d.pins := rfl
@[simp] theorem Dev.addSat_pwr (d : Dev) (f : FRef) (n : Nat) : (d.addSat f n).pwr = d.pwr := rfl
@[simp] theorem Dev.addSat_host (d : Dev) (f : FRef) (n : Nat) : (d.addSat f n).host = d.host := rfl
@[simp] theorem Dev.addSat_bench (d : Dev) (f : FRef) (n : Nat) : (d.addSat f n).bench = d.bench := rfl
@[simp] theorem Dev.addSat_crust (d : Dev) (f : FRef) (n : Nat) : (d.addSat f n).crust = d.crust := rfl
@[simp] theorem Dev.addSat_time (d : Dev) (f : FRef) (n : Nat) : (d.addSat f n).time = d.time := rfl
@[simp] theorem Dev.addSat_lane (d : Dev) (f : FRef) (n : Nat) : (d.addSat f n).lane = d.lane := rfl
@[simp] theorem Dev.addSat_can (d : Dev) (f : FRef) (n : Nat) : (d.addSat f n).can = d.can := rfl
@[simp] theorem Dev.addSat_sess (d : Dev) (f : FRef) (n : Nat) : (d.addSat f n).sess = d.sess := rfl
@[simp] theorem Dev.addSat_rxSeqs (d : Dev) (f : FRef) (n : Nat) : (d.addSat f n).rxSeqs = d.rxSeqs := rfl
@[simp] theorem Dev.addSat_timeSentAt (d : Dev) (f : FRef) (n : Nat) : (d.addSat f n).timeSentAt = d.timeSentAt := rfl
@[simp] theorem Dev.addSat_meter (d : Dev) (f : FRef) (n : Nat) : (d.addSat f n).meter = d.meter := rfl
@[simp] theorem Dev.addSat_gate (d : Dev) (f : FRef) (n : Nat) : (d.addSat f n).gate = d.gate := rfl
@[simp] theorem Dev.addSat_frc (d : Dev) (f : FRef) (n : Nat) : (d.addSat f n).frc = d.frc := rfl
@[simp] theorem Dev.addSat_img (d : Dev) (f : FRef) (n : Nat) : (d.addSat f n).img = d.img := rfl
@[simp] theorem Dev.addSat_pio (d : Dev) (f : FRef) (n : Nat) : (d.addSat f n).pio = d.pio := rfl
@[simp] theorem Dev.addSat_model (d : Dev) (f : FRef) (n : Nat) : (d.addSat f n).model = d.model := rfl
@[simp] theorem Dev.addSat_solv (d : Dev) (f : FRef) (n : Nat) : (d.addSat f n).solv = d.solv := rfl
@[simp] theorem Dev.addSat_keys (d : Dev) (f : FRef) (n : Nat) : (d.addSat f n).keys = d.keys := rfl
@[simp] theorem Dev.addSat_upd (d : Dev) (f : FRef) (n : Nat) : (d.addSat f n).upd = d.upd := rfl
@[simp] theorem Dev.addSat_fcu (d : Dev) (f : FRef) (n : Nat) : (d.addSat f n).fcu = d.fcu := rfl
@[simp] theorem Dev.addSat_evr (d : Dev) (f : FRef) (n : Nat) : (d.addSat f n).evr = d.evr := rfl

/-! ### Reads after an update of another part of the device -/

@[simp] theorem Dev.rd_set_emram (d : Dev) (x : SMap Nat) (f : FRef) : Dev.rd { d with emram := x } f = d.rd f := rfl
@[simp] theorem Dev.rd_set_free (d : Dev) (x : Nat) (f : FRef) : Dev.rd { d with free := x } f = d.rd f := rfl
@[simp] theorem Dev.rd_set_up (d : Dev) (x : Nat) (f : FRef) : Dev.rd { d with up := x } f = d.rd f := rfl
@[simp] theorem Dev.rd_set_boot (d : Dev) (x : BootSt) (f : FRef) : Dev.rd { d with boot := x } f = d.rd f := rfl
@[simp] theorem Dev.rd_set_pins (d : Dev) (x : PinSt) (f : FRef) : Dev.rd { d with pins := x } f = d.rd f := rfl
@[simp] theorem Dev.rd_set_pwr (d : Dev) (x : PwrSt) (f : FRef) : Dev.rd { d with pwr := x } f = d.rd f := rfl
@[simp] theorem Dev.rd_set_host (d : Dev) (x : HostSt) (f : FRef) : Dev.rd { d with host := x } f = d.rd f := rfl
@[simp] theorem Dev.rd_set_bench (d : Dev) (x : SMap BenchTab) (f : FRef) : Dev.rd { d with bench := x } f = d.rd f := rfl
@[simp] theorem Dev.rd_set_crust (d : Dev) (x : CrustSt) (f : FRef) : Dev.rd { d with crust := x } f = d.rd f := rfl
@[simp] theorem Dev.rd_set_time (d : Dev) (x : TimeSt) (f : FRef) : Dev.rd { d with time := x } f = d.rd f := rfl
@[simp] theorem Dev.rd_set_lane (d : Dev) (x : SMap LaneSt) (f : FRef) : Dev.rd { d with lane := x } f = d.rd f := rfl
@[simp] theorem Dev.rd_set_can (d : Dev) (x : SMap CanSt) (f : FRef) : Dev.rd { d with can := x } f = d.rd f := rfl
@[simp] theorem Dev.rd_set_sess (d : Dev) (x : SMap SessSt) (f : FRef) : Dev.rd { d with sess := x } f = d.rd f := rfl
@[simp] theorem Dev.rd_set_rxSeqs (d : Dev) (x : List (Nat × (PduSrc × Nat) × Nat)) (f : FRef) : Dev.rd { d with rxSeqs := x } f = d.rd f := rfl
@[simp] theorem Dev.rd_set_timeSentAt (d : Dev) (x : Nat) (f : FRef) : Dev.rd { d with timeSentAt := x } f = d.rd f := rfl
@[simp] theorem Dev.rd_set_meter (d : Dev) (x : MeterSt) (f : FRef) : Dev.rd { d with meter := x } f = d.rd f := rfl
@[simp] theorem Dev.rd_set_gate (d : Dev) (x : GateSt) (f : FRef) : Dev.rd { d with gate := x } f = d.rd f := rfl
@[simp] theorem Dev.rd_set_frc (d : Dev) (x : FrcSt) (f : FRef) : Dev.rd { d with frc := x } f = d.rd f := rfl
@[simp] theorem Dev.rd_set_img (d : Dev) (x : ImgSt) (f : FRef) : Dev.rd { d with img := x } f = d.rd f := rfl
@[simp] theorem Dev.rd_set_pio (d : Dev) (x : PioSt) (f : FRef) : Dev.rd { d with pio := x } f = d.rd f := rfl
@[simp] theorem Dev.rd_set_model (d : Dev) (x : ModelSt) (f : FRef) : Dev.rd { d with model := x } f = d.rd f := rfl
@[simp] theorem Dev.rd_set_solv (d : Dev) (x : SolvSt) (f : FRef) : Dev.rd { d with solv := x } f = d.rd f := rfl
@[simp] theorem Dev.rd_set_keys (d : Dev) (x : KeySt) (f : FRef) : Dev.rd { d with keys := x } f = d.rd f := rfl
@[simp] theorem Dev.rd_set_upd (d : Dev) (x : UpdSt) (f : FRef) : Dev.rd { d with upd := x } f = d.rd f := rfl
@[simp] theorem Dev.rd_set_fcu (d : Dev) (x : FcuSt) (f : FRef) : Dev.rd { d with fcu := x } f = d.rd f := rfl
@[simp] theorem Dev.rd_set_evr (d : Dev) (x : EvrSt) (f : FRef) : Dev.rd { d with evr := x } f = d.rd f := rfl

/-! ### The state -/

@[simp] theorem State.dev_set_pending (s : State) (q : List Instr) : ({ s with pending := q } : State).dev = s.dev := rfl
@[simp] theorem State.pending_set_dev (s : State) (d : Dev) : ({ s with dev := d } : State).pending = s.pending := rfl
@[simp] theorem State.reset_pending : State.reset.pending = [] := rfl
@[simp] theorem State.reset_dev : State.reset.dev = {} := rfl

end Sys2Proof.Machine
end

