-- ==== Sys2Proof/Laws/Memory.lean ====
section
/-! SUPPORT. Laws of host memory: one byte read after a write, and the canonical form. -/
namespace Sys2Proof.Machine
open Sys2Proof

theorem mem_ins {β : Type} {k : Nat} {v : β} {m : SMap β} {e : Nat × β} (h : e ∈ ins k v m) : e = (k, v) ∨ e ∈ m := by
  induction m with
  | nil => simp [ins] at h; exact .inl h
  | cons e' t ih =>
    obtain ⟨a, w⟩ := e'
    simp only [ins] at h
    split at h
    · cases h with
      | head => exact .inl rfl
      | tail _ h => exact .inr h
    · split at h
      · cases h with
        | head => exact .inl rfl
        | tail _ h => exact .inr (.tail _ h)
      · cases h with
        | head => exact .inr (.head _)
        | tail _ h => exact (ih h).imp id (.tail _)

/-- One byte reads back. -/
@[simp] theorem putByte_same (m : SMap Byte) (k : Nat) (b : Byte) : lookD (putByte m k b) k 0 = b := by
  simp only [putByte, lookD]
  split
  · simp_all
  · simp

/-- The others read as before. -/
theorem putByte_ne {m : SMap Byte} {k j : Nat} (h : j ≠ k) (b : Byte) : lookD (putByte m k b) j 0 = lookD m j 0 := by
  simp only [putByte, lookD]
  split
  · rw [look_del_ne h]
  · rw [look_ins_ne h]

/-- One byte keeps the canonical form. -/
theorem putByte_wf {m : SMap Byte} (k : Nat) (b : Byte) (h : Memory.wf m = true) : Memory.wf (putByte m k b) = true := by
  simp only [Memory.wf, Bool.and_eq_true, List.all_eq_true] at h ⊢
  obtain ⟨h1, h2⟩ := h
  simp only [putByte]
  split
  · exact ⟨sortedKeys_del _ h1, fun e he => h2 e (mem_del he)⟩
  · refine ⟨sortedKeys_ins _ _ h1, fun e he => ?_⟩
    rcases mem_ins he with rfl | he
    · simpa
    · exact h2 e he

/-- A string of bytes keeps it. -/
theorem putBytes_wf (p : Nat) (bs : List Byte) {m : SMap Byte} (a : Nat) (h : Memory.wf m = true) : Memory.wf (putBytes m p a bs) = true := by
  induction bs generalizing m a with
  | nil => exact h
  | cons b t ih => exact ih (a + 1) (putByte_wf _ _ h)

/-- A write to host memory changes nothing else. -/
theorem memWrite_frame (p a : Nat) (bs : List Byte) (d : Dev) :
    memWrite p a bs d = { d with host := { d.host with mem := putBytes d.host.mem p a bs } } := rfl

/-- At reset host memory lists nothing, which is canonical. -/
theorem reset_memory_wf : Memory.wf State.reset.dev.host.mem = true := by decide

end Sys2Proof.Machine
end

