-- ==== Sys2Proof/Laws/Steps.lean ====
section
/-! SUPPORT. What the shared operations around a meaning can do: the end of a step, ring commands, instructions of the cyclic logic. -/
namespace Sys2Proof.Machine
open Sys2Proof

/-! ### The end of a step -/

/-- After the raises have been acted on none waits. -/
@[simp] theorem settleN_todo (n : Nat) (d : Dev) : (settleN n d).fcu.todo = [] := by
  induction n generalizing d with
  | zero => rfl
  | succ n ih =>
    simp only [settleN]
    split
    · assumption
    · exact ih _

@[simp] theorem settle_todo (d : Dev) : (settle d).fcu.todo = [] := settleN_todo _ _

/-- A meaning always answers a next state: its effect on the device, with every raise taken. -/
theorem go_next (f : Dev → Dev) (s : State) : go f s = .next { s with dev := settle (f s.dev) } := rfl

/-- An event's next state from its effect. -/
theorem go_event {f : Dev → Dev} {s : State} {d' : Dev} (h : f s.dev = d') : go f s = .next { s with dev := settle d' } := by rw [← h]; rfl

/-! ### Ring commands (R128) -/

/-- A command that is ready runs its own part, and completes or waits as that part says. -/
theorem runCmd_ready {sp : CmdSpec} {h : CmdHdr} {s : State} (body : Dev → CmdOut) (hr : Ready sp h s) :
    go (runCmd sp h body) s = .next { s with dev := settle (ended sp h s.dev (body (begun sp h s.dev))) } := by
  obtain ⟨h1, h2⟩ := hr
  simp only [go, runCmd, h1, not_true_eq_false, if_false, begun, cseqFor, ended] at *
  generalize admitCmd sp h (popFetched h s.dev) = a at *
  obtain ⟨c, d⟩ := a
  simp only [h2]
  all_goals (cases body d <;> rfl)

/-- A command that a common refusal meets completes with its status; its own part does not run. -/
theorem runCmd_turned {sp : CmdSpec} {h : CmdHdr} {s : State} {st : Nat} (body : Dev → CmdOut) (h1 : canStart h sp.unit sp.op s.dev = true)
    (h2 : cmdGate sp h (begun sp h s.dev) = some st) :
    go (runCmd sp h body) s = .next { s with dev := settle (settleRing h.ring.val (complete h (cseqFor sp h s.dev) st []
      (if st = stDmaError then aerNote h.port.val (begun sp h s.dev) else begun sp h s.dev))) } := by
  simp only [go, runCmd, h1, not_true_eq_false, if_false, begun, cseqFor] at *
  generalize admitCmd sp h (popFetched h s.dev) = a at *
  obtain ⟨c, d⟩ := a
  simp only [h2]

/-- A command that its ring cannot start leaves the device as it is (log 8). -/
theorem runCmd_idle {sp : CmdSpec} {h : CmdHdr} (body : Dev → CmdOut) {d : Dev} (h1 : canStart h sp.unit sp.op d = false) : runCmd sp h body d = d := by
  simp [runCmd, h1]

/-! ### The cyclic logic (R436) -/

/-- An instruction on a lane that runs. -/
theorem clpExec_runs {l : Fin 3} {d : Dev} (op : LaneSt → LaneSt) (h : ClpRuns l.val d) : clpExec l op d = clpTook op l.val d := by
  simp only [clpExec, clpTook]
  rw [if_neg (by simpa using h)]
  cases (op (laneSt d l.val)).clp.err <;> cases (laneSt d l.val).clp.err <;> cases (laneSt d l.val).clp.prevErr <;> simp [raiseLane]

/-- One that leaves ERR as it was raises nothing. -/
theorem clpTook_quiet {l : Nat} {d : Dev} {op : LaneSt → LaneSt} (h : (op (laneSt d l)).clp.err = (laneSt d l).clp.err) :
    clpTook op l d = setLane l (op (laneSt d l)) d := by
  simp only [clpTook, h]
  rw [if_neg]
  rintro ⟨h1, h2, -⟩
  simp [h1] at h2

/-- Reading back a lane. -/
@[simp] theorem laneSt_setLane (l : Nat) (x : LaneSt) (d : Dev) : laneSt (setLane l x d) l = x := by simp [laneSt, setLane, lookD]

/-- Another lane. -/
theorem laneSt_setLane_ne {l k : Nat} (h : k ≠ l) (x : LaneSt) (d : Dev) : laneSt (setLane l x d) k = laneSt d k := by
  simp [laneSt, setLane, lookD, look_ins_ne h]

end Sys2Proof.Machine
end

