-- ==== Sys2Proof/Laws/Ops.lean ====
section
/-! SUPPORT. What single shared operations can do: publishing a Bench table, a detector's class, the common refusals, registers that do not respond. -/
namespace Sys2Proof.Machine
open Sys2Proof

/-! ### The Bench (R28) -/

/-- A built buffer becomes the current one. -/
@[simp] theorem BenchTab.current_make (b : BenchTab) (x : BenchBuf) : (b.make x).current = x := by
  simp only [BenchTab.make]; split <;> rfl

/-- The buffer that was current becomes the other one. -/
@[simp] theorem BenchTab.other_make (b : BenchTab) (x : BenchBuf) : (b.make x).other = b.current := by
  simp only [BenchTab.make, BenchTab.current]; split <;> rfl

/-- With no lease on the other buffer, the built table becomes current at once. -/
theorem publish_free {d : Dev} {t tempo : Nat} {valid stale : Bool} {body : List Byte} (h : (benchTab d t).otherLeases = []) :
    publish t tempo valid stale body d = { d with bench := ins t ((benchTab d t).make (builtBuf d t tempo valid stale body)) d.bench } := by
  simp only [publish]; rw [if_pos h]

/-- With a lease on it, the built table waits, and replaces one that waited. -/
theorem publish_leased {d : Dev} {t tempo : Nat} {valid stale : Bool} {body : List Byte} (h : (benchTab d t).otherLeases ≠ []) :
    publish t tempo valid stale body d = { d with bench := ins t { benchTab d t with waiting := some (builtBuf d t tempo valid stale body) } d.bench } := by
  simp only [publish]; rw [if_neg h]

/-! ### Detectors (R480, R484) -/

/-- Counting a raise leaves the detector's class. -/
@[simp] theorem classOf_bump (d : Dev) (n : Nat) : classOf (d.bump (FCU.DET.COUNT n)) n = classOf d n := by
  simp only [classOf, Dev.bump]
  rw [Dev.rd_wr_ne]
  simp [FRef.key, FCU.DET.COUNT, FCU.DET.CLASS]

/-- No class lies above 5. -/
theorem classOf_le (d : Dev) (n : Nat) : classOf d n ≤ 5 := Nat.min_le_left _ _

/-! ### Commands (R101, R102) -/

/-- A command that passes the common refusals has good flags, a state that accepts it, its islands on, a valid chain and its buffers moved. -/
theorem cmdGate_none {sp : CmdSpec} {h : CmdHdr} {d : Dev} (hg : cmdGate sp h d = none) :
    h.flagsBad = false ∧ 2 ≤ opState d ∧ (∀ i ∈ sp.isl, islandOn d i = true) ∧ (h.chained = true → h.chainOk = true) ∧ (h.bufs = [] ∨ h.dmaOk = true) := by
  simp only [cmdGate] at hg
  split at hg
  · cases hg
  · split at hg
    · cases hg
    · split at hg
      · cases hg
      · split at hg
        · cases hg
        · split at hg
          · cases hg
          · rename_i h1 h2 h3 h4 h5
            refine ⟨by simpa using h1, by omega, by simpa using h3, by simpa using h4, ?_⟩
            by_cases hb : h.bufs = []
            · exact .inl hb
            · exact .inr (by simpa [hb] using h5)

/-! ### BAR0 (R3, R22, R37, R39) -/

/-- A block that does not respond refuses every write. -/
theorem writable_off {p a : Nat} {d : Dev} (h : ∀ b, blockOf a = some b → blockOn d b = false) : writable p a d = false := by
  simp only [writable]
  cases hb : blockOf a with
  | none => rfl
  | some b => simp [h b hb]

/-- Its registers read 0, and the read changes nothing. -/
theorem barRead_off {p a : Nat} {d : Dev} (h : ∀ b, blockOf a = some b → blockOn d b = false) : barRead p a d = (0, d) := by
  simp only [barRead]
  cases hb : blockOf a with
  | none => rfl
  | some b => simp [h b hb]

end Sys2Proof.Machine
end

