-- ==== Sys2Proof/Machine/Pins.lean ====
section
/-! DEFINITION. The balls (R42, R43, R49, R200): the groups with their banks, reset states and safe states, which of them applies, and the levels of the
outputs that follow the functions of their units. The analogue outputs and the DIO cells are in Machine/PioOps.lean, the fixed-meaning signals in
Machine/Flags.lean. -/
namespace Sys2Proof.Machine
open Sys2Proof

/-- The ball groups of R42, a row of several balls of different states by one constructor each; the fixed-meaning signals with MPG and WRST_N are those of
R49 and R52. -/
inductive BallGroup where
  /-- PCIE0_TX/RX, PCIE1_TX/RX. -/
  | pcieLane
  /-- PCIE0_REFCLK, PCIE1_REFCLK. -/
  | pcieRefclk
  /-- PERST0_N, PERST1_N. -/
  | perst
  /-- ETH_SD0 TX/RX. -/
  | ethSd0
  /-- ETH_SD1 to ETH_SD5 TX/RX. -/
  | ethSd15
  /-- SDREF P/N. -/
  | sdref
  /-- RGMII ports 2 to 5. -/
  | rgmii
  /-- MDC. -/
  | mdc
  /-- MDIO. -/
  | mdio
  /-- TIME_PPS0, TIME_PPS1. -/
  | pps
  /-- TIME_TRIG0, TIME_TRIG1. -/
  | trig
  /-- XSPI_A and XSPI_B CS0_N and CS1_N. -/
  | xspiCs
  /-- XSPI_A and XSPI_B CLK. -/
  | xspiClk
  /-- XSPI_A and XSPI_B DS and DQ0 to DQ7. -/
  | xspiDq
  /-- XSPI_A and XSPI_B RESET_N. -/
  | xspiReset
  /-- CAN_TXD0 to CAN_TXD15. -/
  | canTxd
  /-- CAN_RXD0 to CAN_RXD15. -/
  | canRxd
  /-- CAN_STBY0 to CAN_STBY15. -/
  | canStby
  /-- CAN_CLK. -/
  | canClk
  /-- AIN0 to AIN127. -/
  | ain
  /-- IEXC0 to IEXC15. -/
  | iexc
  /-- ADC_CLK. -/
  | adcClk
  /-- MTR_V0 to MTR_V11, MTR_I0 to MTR_I47. -/
  | mtr
  /-- MCLK. -/
  | mclk
  /-- VREF_OUT, VREF_IN, REFCAP_P, REFCAP_N. -/
  | vref
  /-- DAC0 to DAC31. -/
  | dac
  /-- PIN0 to PIN63. -/
  | pin
  /-- POUT0 to POUT31. -/
  | pout
  /-- DTF0 to DTF3. -/
  | dtf
  /-- DIO0 to DIO127. -/
  | dio
  /-- STRAP_SAFE, STRAP_XPROOF, STRAP_BIF. -/
  | strap
  /-- TMS, TDI. -/
  | jtagUp
  /-- TCK, TRST_N. -/
  | jtagDown
  /-- TDO. -/
  | tdo
  /-- AVS_CLK. -/
  | avsClk
  /-- AVS_MDATA. -/
  | avsMdata
  /-- AVS_SDATA. -/
  | avsSdata
  /-- REFCLK. -/
  | refclk
  /-- TESTMODE. -/
  | testmode
  /-- XTAL32_IN, XTAL32_OUT. -/
  | xtal32
  /-- CRP_SCL, CRP_SDA. -/
  | crp
  /-- CRP_ALERT_N. -/
  | crpAlert
  /-- VDDC_SENSE_P, VDDC_SENSE_N. -/
  | vddcSense
  /-- TDIODE_P, TDIODE_N. -/
  | tdiode
  /-- The reserved balls. -/
  | reserved
deriving DecidableEq, Repr

/-- What a ball shows, or how it is treated, where R42 says so; `function` where its unit's function has it. -/
inductive Ball where
  | function
  /-- A level driven, or a pull with the driver off. -/
  | low
  | high
  | pullUp
  | pullDown
  | z
  /-- A SerDes transmitter in electrical idle. -/
  | idle
  /-- An analogue input with its multiplexer open, or at high impedance. -/
  | open
  | off
  | on
  | running
  | counts
  | listens
  | sampled
  | ignored
  /-- As in any other state. -/
  | unchanged
  /-- Usable as the rule names it: the service interfaces, boundary scan. -/
  | usable
  /-- Serves the diagnostic service only. -/
  | diagOnly
  /-- As R46 gives for the safe mode. -/
  | perStrapSafe
  /-- Held at the last commanded value (R42; what VDDC does, `vddcHeld` says). -/
  | held
  | oscillating
  /-- The port serves its bus. -/
  | active
  /-- Connected to the die, whatever the supply. -/
  | connected
  /-- Boundary scan drives it: from its cell, or floating under HIGHZ (R584). -/
  | scan
  /-- Its bank has no supply. -/
  | unpowered
deriving DecidableEq, Repr

/-- The supply banks of these groups. -/
inductive Bank where
  | vddsd
  | vddio18
  | vddio33
  | vdda18
  | vdda33
  /-- The Crust bank, fed from VAUX33, or by VBAT where R43 lets it. -/
  | crust
  /-- The Crust crystal, which VBAT feeds too (R43). -/
  | crystal
  /-- No bank. -/
  | noBank
deriving DecidableEq, Repr

/-- The bank has its supply (R42, R43, R63). -/
def Bank.fed (d : Dev) : Bank → Bool
  | .vddsd => bitOf (d.rd PWR.RAIL_STAT.GOOD) 8
  | .vddio18 => bitOf (d.rd PWR.RAIL_STAT.GOOD) 2
  | .vddio33 => bitOf (d.rd PWR.RAIL_STAT.GOOD) 4
  | .vdda18 => bitOf (d.rd PWR.RAIL_STAT.GOOD) 3
  | .vdda33 => bitOf (d.rd PWR.RAIL_STAT.GOOD) 5
  | .crust => d.crust.vaux
  | .crystal => d.crust.vaux || d.crust.vbat
  | .noBank => true

/-- Number of balls (R42). -/
def BallGroup.count : BallGroup → Nat
  | .pcieLane => 32
  | .pcieRefclk => 4
  | .perst => 2
  | .ethSd0 => 4
  | .ethSd15 => 20
  | .sdref => 2
  | .rgmii => 48
  | .mdc => 1
  | .mdio => 1
  | .pps => 2
  | .trig => 2
  | .xspiCs => 4
  | .xspiClk => 2
  | .xspiDq => 18
  | .xspiReset => 2
  | .canTxd => 16
  | .canRxd => 16
  | .canStby => 16
  | .canClk => 1
  | .ain => 128
  | .iexc => 16
  | .adcClk => 1
  | .mtr => 120
  | .mclk => 1
  | .vref => 4
  | .dac => 32
  | .pin => 64
  | .pout => 32
  | .dtf => 4
  | .dio => 128
  | .strap => 5
  | .jtagUp => 2
  | .jtagDown => 2
  | .tdo => 1
  | .avsClk => 1
  | .avsMdata => 1
  | .avsSdata => 1
  | .refclk => 1
  | .testmode => 1
  | .xtal32 => 2
  | .crp => 2
  | .crpAlert => 1
  | .vddcSense => 2
  | .tdiode => 2
  | .reserved => 22

/-- Supply bank (R42). -/
def BallGroup.bank : BallGroup → Bank
  | .pcieLane => .vddsd
  | .pcieRefclk => .vddsd
  | .perst => .vddio18
  | .ethSd0 => .vddsd
  | .ethSd15 => .vddsd
  | .sdref => .vddsd
  | .rgmii => .vddio18
  | .mdc => .vddio18
  | .mdio => .vddio18
  | .pps => .vddio18
  | .trig => .vddio18
  | .xspiCs => .vddio18
  | .xspiClk => .vddio18
  | .xspiDq => .vddio18
  | .xspiReset => .vddio18
  | .canTxd => .vddio33
  | .canRxd => .vddio33
  | .canStby => .vddio33
  | .canClk => .vddio33
  | .ain => .vdda33
  | .iexc => .vdda33
  | .adcClk => .vdda18
  | .mtr => .vdda33
  | .mclk => .vdda18
  | .vref => .vdda33
  | .dac => .vdda33
  | .pin => .vddio33
  | .pout => .vddio33
  | .dtf => .vddio33
  | .dio => .vddio33
  | .strap => .vddio33
  | .jtagUp => .vddio33
  | .jtagDown => .vddio33
  | .tdo => .vddio33
  | .avsClk => .vddio18
  | .avsMdata => .vddio18
  | .avsSdata => .vddio18
  | .refclk => .vddio18
  | .testmode => .vddio33
  | .xtal32 => .crystal
  | .crp => .crust
  | .crpAlert => .crust
  | .vddcSense => .noBank
  | .tdiode => .noBank
  | .reserved => .noBank

/-- Reset state (R42). -/
def BallGroup.resetState : BallGroup → Ball
  | .pcieLane => .idle
  | .pcieRefclk => .ignored
  | .perst => .pullUp
  | .ethSd0 => .idle
  | .ethSd15 => .idle
  | .sdref => .ignored
  | .rgmii => .pullDown
  | .mdc => .pullUp
  | .mdio => .pullUp
  | .pps => .low
  | .trig => .pullDown
  | .xspiCs => .high
  | .xspiClk => .low
  | .xspiDq => .pullDown
  | .xspiReset => .low
  | .canTxd => .high
  | .canRxd => .pullUp
  | .canStby => .high
  | .canClk => .ignored
  | .ain => .open
  | .iexc => .off
  | .adcClk => .ignored
  | .mtr => .open
  | .mclk => .ignored
  | .vref => .off
  | .dac => .off
  | .pin => .pullDown
  | .pout => .low
  | .dtf => .low
  | .dio => .pullDown
  | .strap => .sampled
  | .jtagUp => .pullUp
  | .jtagDown => .pullDown
  | .tdo => .z
  | .avsClk => .low
  | .avsMdata => .high
  | .avsSdata => .pullUp
  | .refclk => .ignored
  | .testmode => .pullDown
  | .xtal32 => .oscillating
  | .crp => .z
  | .crpAlert => .z
  | .vddcSense => .connected
  | .tdiode => .connected
  | .reserved => .z

/-- Safe state (R42). -/
def BallGroup.safeState : BallGroup → Ball
  | .pcieLane => .unchanged
  | .pcieRefclk => .unchanged
  | .perst => .unchanged
  | .ethSd0 => .diagOnly
  | .ethSd15 => .idle
  | .sdref => .unchanged
  | .rgmii => .low
  | .mdc => .low
  | .mdio => .pullUp
  | .pps => .low
  | .trig => .ignored
  | .xspiCs => .usable
  | .xspiClk => .usable
  | .xspiDq => .usable
  | .xspiReset => .usable
  | .canTxd => .high
  | .canRxd => .listens
  | .canStby => .low
  | .canClk => .unchanged
  | .ain => .open
  | .iexc => .off
  | .adcClk => .unchanged
  | .mtr => .running
  | .mclk => .unchanged
  | .vref => .on
  | .dac => .perStrapSafe
  | .pin => .counts
  | .pout => .low
  | .dtf => .low
  | .dio => .perStrapSafe
  | .strap => .ignored
  | .jtagUp => .usable
  | .jtagDown => .usable
  | .tdo => .usable
  | .avsClk => .held
  | .avsMdata => .held
  | .avsSdata => .held
  | .refclk => .unchanged
  | .testmode => .ignored
  | .xtal32 => .oscillating
  | .crp => .active
  | .crpAlert => .active
  | .vddcSense => .connected
  | .tdiode => .connected
  | .reserved => .z

/-- The island that owns the group (R21, R42; the assignment is DEDUCED from the units' islands, log 90). -/
def BallGroup.island : BallGroup → Nat
  | .pcieLane => 12
  | .pcieRefclk => 12
  | .perst => 12
  | .ethSd0 => 10
  | .ethSd15 => 10
  | .sdref => 10
  | .rgmii => 10
  | .mdc => 10
  | .mdio => 10
  | .pps => 10
  | .trig => 10
  | .xspiCs => 1
  | .xspiClk => 1
  | .xspiDq => 1
  | .xspiReset => 1
  | .canTxd => 11
  | .canRxd => 11
  | .canStby => 11
  | .canClk => 11
  | .ain => 9
  | .iexc => 9
  | .adcClk => 9
  | .mtr => 9
  | .mclk => 8
  | .vref => 9
  | .dac => 9
  | .pin => 9
  | .pout => 9
  | .dtf => 9
  | .dio => 9
  | .strap => 1
  | .jtagUp => 1
  | .jtagDown => 1
  | .tdo => 1
  | .avsClk => 1
  | .avsMdata => 1
  | .avsSdata => 1
  | .refclk => 1
  | .testmode => 1
  | .xtal32 => 0
  | .crp => 0
  | .crpAlert => 0
  | .vddcSense => 1
  | .tdiode => 1
  | .reserved => 1

/-- The outputs that EXTEST, CLAMP and HIGHZ take (R584): neither the balls that the boundary-scan register excludes, nor inputs, nor the test port
itself. -/
def BallGroup.scanned (g : BallGroup) : Bool :=
  [BallGroup.rgmii, .mdc, .mdio, .pps, .xspiCs, .xspiClk, .xspiDq, .xspiReset, .canTxd, .canStby, .pout, .dtf, .dio, .avsClk, .avsMdata, .crp, .crpAlert].contains g

/-- The balls of the Ethernet ports. -/
def BallGroup.isEth (g : BallGroup) : Bool := [BallGroup.ethSd0, .ethSd15, .rgmii, .mdc, .mdio].contains g

/-- The safe states apply to a group: in PROOF, in Rack state, while the SAFE path is active, and while the owning island is off (R42). In RUN and
KEEP-WARM the Ethernet ports go on under the SAFE path: R243 has UDP sessions keep sending (DEDUCED, log 90). -/
def safeBalls (d : Dev) (g : BallGroup) : Bool :=
  (safeAct d && !g.isEth) || opState d == 2 || opState d == 5 || d.pwr.heldDie || !islandOn d g.island

/-- What a group's balls show (R42): nothing without their bank, the reset state in STANDBY and until the straps are latched, what boundary scan drives in
Rack state (R584), else the safe state, else their function. While FIELD is off, CAN_STBY is high and CAN_RXD is ignored; the outputs of ANA that R42 lets run need ANA and METER. -/
def ballState (d : Dev) (g : BallGroup) : Ball :=
  if ¬ g.bank.fed d then .unpowered
  else if resetOut d then g.resetState
  else if scanMode d ≠ 0 ∧ g.scanned then .scan
  else if ¬ safeBalls d g then .function
  else if g = .canStby ∧ ¬ islandOn d 11 then .high
  else if g = .canRxd ∧ ¬ islandOn d 11 then .ignored
  else if g = .mtr ∧ (¬ islandOn d 9 ∨ ¬ islandOn d 8) then .open
  else g.safeState

/-- CAN_STBY of channel n (R42, R200, R218): high in the reset state, while FIELD is off, in OFF, and in SLEEP but for WAKE_MODE 2. -/
def canStby (d : Dev) (n : Nat) : Level :=
  match ballState d .canStby with
  | .function => if canState d n = 0 ∨ (canState d n = 3 ∧ d.rd (CAN.CTRL.WAKE_MODE n) ≠ 2) then .high else .low
  | .low => .low
  | .high => .high
  | .scan => scanLevel "CAN_STBY" n d
  | _ => .z

/-- CAN_TXD of channel n may carry frames of its own (R200, R202): in ACTIVE by MODE, and in STOPPING for the running frame; else it is recessive. -/
def canTxdDrives (d : Dev) (n : Nat) : Bool :=
  ballState d .canTxd == .function && (canState d n == 2 || canState d n == 4) && canMode d n == 0 && !forcedLo d n

/-- The level of a PPS output as its ball shows it (R42, R191). -/
def ppsBall (d : Dev) (k : Nat) : Level :=
  match ballState d .pps with
  | .function => if ppsLevel d k then .high else .low
  | .low => .low
  | .scan => scanLevel "TIME_PPS" k d
  | _ => .z

/-- An excitation source drives its current (R42, R260). -/
def iexcOn (d : Dev) (n : Nat) : Bool := ballState d .iexc == .function && d.rd (PIO.EXC.CFG.CUR n) != 0

end Sys2Proof.Machine
end

