-- ==== Sys2Proof/Tests/Slice0.lean ====
section
/-! SUPPORT. The model's own tests: ill-formed commands that WellFormed refuses, figures of the spec's worked examples, single steps on small states, and for every statement
with hypotheses concrete states and operands that meet them together. -/
namespace Sys2Proof.Tests
open Sys2Proof Sys2Proof.Machine

set_option Elab.async false
set_option linter.unusedVariables false

/-! ### Small states -/

/-- The machine with device d and an empty queue. -/
def onDev (d : Dev) : State := { dev := d }
/-- Several fields of the bank written. -/
def wrs (l : List (FRef × Nat)) (d : Dev) : Dev := l.foldl (fun (d : Dev) e => d.wr e.1 e.2) d
/-- RUN, every island on, ring 0 a running command ring and ring 1 its completion ring, three lanes in service. -/
def rdyDev : Dev := wrs ([(GLB.STATE.STATE, 3), (HOST.RING.STAT.STATE 0, 1), (HOST.RING.CFG.LOG2SIZE 0, 4), (HOST.RING.CFG.CRING 0, 1), (HOST.RING.STAT.STATE 1, 1), (HOST.RING.CFG.KIND 1, 2), (HOST.RING.CFG.LOG2SIZE 1, 4), (LSTATE 0, 5), (LSTATE 1, 5), (LSTATE 2, 5), (LANES.STAT.INSERV, 3)] ++ (List.range 14).map fun n => (PWR.ISL_STAT.STATE n, 2)) {}
/-- A command on ring 0 with the given buffers. -/
def hdr (bufs : List (Nat × Nat)) : CmdHdr := { port := 0, ring := 0, tag := 1, bufs := bufs }
/-- A device whose host memory holds a maintenance grant that its anchor signed. -/
def grantDev : Dev := { memWrite 0 64 (toBytes 160 0xe6579a2c59e8393da687fe2ba73defcd6f374488c0e109f36877c0df197b6ddc74ad20f31ec7b18e37058bbe22ca87aab70a7672385e543a6c2955bf5df20255382a5482e041f759989ba78b623b1d6e74ad20f31ec7b18e37058bbe22ca87aa0000000000000000000000000000000000000000000000000000000000000000000000000000003f000000019600000000000000000000000000000000000001) (wrs [(CRUST.STATUS.COUNT_LOST, 0), (CRUST.STATUS.KEY_LOST, 0)] rdyDev) with keys := { rdyDev.keys with anchor := beBytes 48 p384.gx ++ beBytes 48 p384.gy } }
/-- A recorder record. -/
def rec0 : Rec := { seq := 0, sec := 0, ns := 0, qual := 0, code := 1, frozen := false, isOpen := false, lastGasp := false, inj := false, src := 0, rep := 1, w0 := 0, w1 := 0, off := 0 }
/-- An occurrence. -/
def occ0 : Occ := { unit := 0, num := 1 }
/-- A datagram whose one PDU is of class cls from the station of session n. -/
def dg (cls n seq : Nat) (b : List Byte) : Datagram := { ip := some 7, data := toBytes 2 (4096 * cls + n) ++ toBytes 2 (768 + seq) ++ toBytes 2 b.length ++ [0, 0] ++ b }
/-- That PDU. -/
def dgu (cls n seq : Nat) (b : List Byte) : DgPdu := { addr := n, cls := cls, seq := seq, up := true, whole := true, data := b }
/-- Session 1 is LIVE over Ethernet port 0. -/
def sessDev : Dev := setSess 1 { ip := some 7, pollAt := some 0, lastOut := some [], crc := 0, paramAt := [(0, 0)] } (wrs [(SESS.CTX.STAT.STATE 1, 2), (SESS.CTX.CFG.EN 1, 1), (SESS.CTX.CFG.TRANSPORT 1, 1), (ETH.PORT.STAT.PSTATE 0, 2), (ETH.PORT.STAT.LINK 0, 1), (ETH.PORT.CFG.ROLE 0, 2)] rdyDev)
/-- Three equal lanes. -/
def laneDev (x : LaneSt) : Dev := { rdyDev with lane := [(0, x), (1, x), (2, x)] }
/-- Three equal lanes after their common start, with the cyclic logic processor RUNNING. -/
def clpDev (x : LaneSt) : Dev := { laneDev (x.wr CLP.STAT.STATE 1) with gate := { rdyDev.gate with t0 := some 0 } }

/-- An image that passes every check of UPD_OPEN or RECIPE_IMPORT; the revision is one its header allows, whichever the device has. -/
theorem openCheck_zero {recipe : Bool} {b : List Byte} {d : Dev} (h1 : trayFormatOk recipe b = true) (h2 : fieldAt b 6 2 = 0x9600) (h3 : fieldAt b 8 2 = 65535)
    (h4 : isZero (hdrTarget b) = true ∨ hdrTarget b = deviceId d) (h5 : levelOk (hdrSet b) d = true) (h6 : countLost d = false) (h7 : rollbackOk (hdrSet b) d = true)
    (h8 : signersOk recipe b d = true) (h9 : ([0, 1].any fun p => portWorks d p && decide (poolFree d p < hdrPayload b)) = false) (h10 : (hdrParts b).any (fun p => p.kind == 0x30 || p.kind == 0x31) = false)
    (h11 : lastImport d (hdrSet b).exporter = none) : openCheck recipe b d = 0 := by
  have hs : ∀ x : Fin 16, bitOf 65535 x.val = true := by decide
  simp only [openCheck]
  rw [if_neg (by simp [h1]), if_neg (by simp [h2, h3, hs, h4]), if_neg (by simp [h5]), if_neg (by simp [h6]), if_neg (by simp [h7]), if_neg (by simp [h8]), if_neg (by simp only [h9]; decide),
    if_neg (by simp [h10]), h11]
  simp

/-! ### WellFormed refuses -/

theorem test_wf_accepts : Instr.wf (.nop (hdr [(64, 32)])) = true := by decide
theorem test_wf_ring_of_other_port : Instr.wf (.nop { port := 1, ring := 0, tag := 0 }) = false := by decide
theorem test_wf_tag : Instr.wf (.nop { port := 0, ring := 0, tag := 2 ^ 32 }) = false := by decide
theorem test_wf_buffer_address : Instr.wf (.nop (hdr [(2 ^ 64, 4)])) = false := by decide
theorem test_wf_buffer_empty : Instr.wf (.nop (hdr [(64, 0)])) = false := by decide
theorem test_wf_buffer_length : Instr.wf (.nop (hdr [(64, 2 ^ 32)])) = false := by decide
theorem test_wf_number : Instr.wf (.islandPower (hdr []) (2 ^ 64) 0 0) = false := by decide
theorem test_wf_write_address : Instr.wf (.bar0Write 0 (2 ^ 25) 4 0) = false := by decide
theorem test_wf_write_value : Instr.wf (.bar0Write 0 0 4 (2 ^ 32)) = false := by decide
theorem test_wf_write_size : Instr.wf (.bar0Write 0 0 3 0) = false := by decide
theorem test_wf_low_word : Instr.wf (.lowWordRead 0 (2 ^ 25) 4) = false := by decide
theorem test_wf_clear_on_read : Instr.wf (.clearOnRead 0 0 3) = false := by decide
theorem test_wf_loop_value : Instr.wf (.loopCtxWrite 0 0xE10000 (2 ^ 32)) = false := by decide
theorem test_wf_straps : Instr.wf (.strapSampling [1, 2] true) = false := by decide
theorem test_wf_target : Instr.wf (.recipeExport (hdr []) 0 [] 0) = false := by decide
theorem test_wf_nonce : Instr.wf (.keyPub (hdr []) 0 [1]) = false := by decide
theorem test_wf_iv : Instr.wf (.keyOp (hdr []) 0 0 []) = false := by decide
theorem test_wf_thermal : Instr.wf (.thermalRead [1]) = false := by decide
theorem test_wf_samples : Instr.wf (.meterSample []) = false := by decide

/-! ### The spec's own figures -/

/-- R10's worked example: 0x0000_0100 read after 0xFFFF_FF00 lies 512 µs later. -/
theorem test_wrapping_difference : sdiff 32 0x100 0xFFFFFF00 = 512 := by decide
/-- R11's worked example: EV88 of METER has unit event number 0x158. -/
theorem test_event_unit : (evUnit 88, 0x100 + 88) = (6, 0x158) := by decide
/-- EV72's code is 0x4148, of unit 4 (worked example of the recorder). -/
theorem test_event_code : evUnit 72 * 4096 + (0x100 + 72) = 0x4148 := by decide
/-- R27's check polynomial on the usual nine bytes. -/
theorem test_crc32 : crc32 (beBytes 9 0x313233343536373839) = 0xCBF43926 := by decide +kernel
/-- SHA-256 of "abc" (FIPS 180-4). -/
theorem test_sha256 : sha256 [0x61, 0x62, 0x63] = beBytes 32 0xba7816bf8f01cfea414140de5dae2223b00361a396177a9cb410ff61f20015ad := by decide +kernel
/-- AES-256 of the zero block under the zero key, through GCM's tag of the empty text (SP 800-38D). -/
theorem test_gcm : gcmSeal (List.replicate 32 0) (List.replicate 12 0) [] = beBytes 16 0x530f8afbc74536b9a963b4f1c4cb738b := by decide +kernel
/-- Pump 2's program (cyclic logic, worked example): every word is well-formed, and its longest path takes 25 cycles, so one base tick holds it. -/
def pump2 : List Nat := [0x06A90005, 0x0C200005, 0x40C00007, 0x18010000, 0x8140000C, 0xDA4242BE, 0x0EE9000C, 0x1C000000, 0x20800066, 0x24800064, 0x04000006, 0x2C800065,
  0x08A00066, 0x28800064, 0x04800064, 0x204000C8, 0x2060000A, 0xFC000000]
theorem test_pump2_words : pump2.all clpInstrOk = true := by decide +kernel
theorem test_pump2_path : (clpLongest pump2, wcTicks 25) = (some 25, 1) := by decide +kernel
/-- LD IQ 5 with QMASK 0b1001 and N: 1 where DIO5 is neither GOOD nor FORCED (its first word). -/
theorem test_pump2_first : (clpWord 0x06A90005 {}).clp.ba = !bitOpnd {} 5 5 9 := by decide +kernel
/-- The metering worked example: 0x004C_CB00 after 0xFFB4_3480 is 10,000,000 Wh on. -/
theorem test_snap_difference : ((0x004CCB00 : Int) - 0xFFB43480) % 2 ^ 32 = 10000000 := by decide
/-- PT1000 (R251): 1,385.06 Ω is within 0.01 °C of 100 °C. -/
theorem test_pt1000 : f32Lt (f32Abs (f32Sub false (rtdTemp 0x447A0000 0x44AD21EC) 0x42C80000)) 0x3C23D70A = true := by decide +kernel
/-- A class-4 detector stays class 4 whatever milder class is set; the least stricter setting is taken (R484). -/
theorem test_class : (classOf (({} : Dev).wr (FCU.DET.CLASS 29) 0) 29, classOf (({} : Dev).wr (FCU.DET.CLASS 29) 5) 29) = (fdClass 29, 5) := by decide +kernel
/-- Binary32: 1 + 1 = 2, 1 / 3 rounds to even, an overflow gives infinity. -/
theorem test_f32 : (f32Add false 0x3F800000 0x3F800000, f32Div false 0x3F800000 0x40400000, f32Mul false 0x7F000000 0x7F000000) = (0x40000000, 0x3EAAAAAB, 0x7F800000) := by decide +kernel
/-- Two of three lanes decide. -/
theorem test_vote : (majority [4, 7, 7], majority [4, 5, 7], majority [4, 4]) = (some 7, none, some 4) := by decide

/-! ### Single steps -/

/-- Reset: PROOF, with nothing waiting. -/
theorem test_reset : (opState State.reset.dev, State.reset.pending) = (2, []) := by decide +kernel
/-- A device address no block holds reads 0 and leaves the device alone (R37). -/
theorem test_unassigned : barRead 0 0x1F00000 rdyDev = (0, rdyDev) := by decide +kernel
/-- A write there is counted (R37). -/
theorem test_ignored : (ignoreWrite 0 0x1F00000 rdyDev).rd GLB.IGN_WRITES.COUNT = 1 := by decide +kernel
/-- NOP is not among the commands that Rack state accepts (R101). -/
theorem test_nop_rack : cmdGate { unit := 0, op := 1, proof := true } (hdr []) (wrs [(GLB.STATE.STATE, 5)] rdyDev) = some stWrongState := by decide +kernel
/-- A datagram of one PDU is read as that PDU (R230). -/
theorem test_datagram : dgPdus 24 (dg 1 1 3 [7, 8]).data = [dgu 1 1 3 [7, 8]] := by decide +kernel
/-- A datagram that MORE chains to a second PDU holds both (R230). -/
theorem test_datagram_more : (dgPdus 24 (patch (dg 1 1 3 []).data 6 [1] ++ (dg 4 1 4 []).data)).map (·.cls) = [1, 4] := by decide +kernel
/-- No row of the table has bits, so a word spells no command. -/
theorem test_decode : decodeTableWord 32 0xFFFFFFFF = none := by decide
/-- CTU counts an edge and takes the copy (R442). -/
theorem test_ctu : ((clpCtu 3 { clp := { ba := true } }).ctr 3).cv = 1 := by decide +kernel
/-- DIV by 0 leaves WA and sets ERR (R441). -/
theorem test_div_zero : let x := clpDiv 9 0 { clp := { wa := 7 } }; x.clp.err = true := by decide +kernel

/-! ### The hypotheses of the statements are met -/

theorem witness_ResetsAndProofComplete_0_mpgRise :
    ∃ (testmode : Bool) (d : Dev), opState d = 1 ∧ d.crust.vaux = true ∧ d.pwr.heldRail = false ∧ d.pwr.tripHold = false ∧ bitOf (d.rd PWR.CLK_STAT.PRESENT) 0 = true :=
  ⟨false, { wrs [(GLB.STATE.STATE, 1), (PWR.CLK_STAT.PRESENT, 255)] {} with crust := { (({} : Dev).crust) with vaux := true } }, by decide +kernel⟩
theorem witness_ResetsAndProofComplete_1_strapSampling :
    ∃ (samples : List Nat) (safeOk : Bool) (d : Dev), inProof d = true ∧ d.pins.strapped = false :=
  ⟨[], true, {}, by decide +kernel⟩
theorem witness_ResetsAndProofComplete_2_strapSampling :
    ∃ (samples : List Nat) (safeOk : Bool) (d : Dev), d.pins.strapped = true :=
  ⟨[1], true, { ({} : Dev) with pins := { (({} : Dev).pins) with strapped := true } }, by decide +kernel⟩
theorem witness_ResetsAndProofComplete_3_proofStart :
    ∃ (w : Witness) (d : Dev), inProof d = true ∧ d.boot.proofRun = false :=
  ⟨{}, {}, by decide +kernel⟩
theorem witness_ResetsAndProofComplete_4_proofVerdict :
    ∃ (r : ProofResult) (d : Dev), inProof d ∧ d.boot.proofRun :=
  ⟨{}, { ({} : Dev) with boot := { (({} : Dev).boot) with proofRun := true } }, by decide +kernel⟩
theorem witness_ResetsAndProofComplete_5_proofDeadline :
    ∃ (d : Dev), inProof d = true ∧ d.boot.hangs = 0 :=
  ⟨{}, by decide +kernel⟩
theorem witness_ResetsAndProofComplete_6_proofDeadline :
    ∃ (d : Dev), inProof d = true ∧ 0 < d.boot.hangs :=
  ⟨{ ({} : Dev) with boot := { (({} : Dev).boot) with hangs := 1 } }, by decide +kernel⟩
theorem witness_ResetsAndProofComplete_7_mpgFall :
    ∃ (d : Dev), d.crust.vaux = true ∧ opState d ≠ 0 ∧ d.flag CRUST.RTC_CFG.PON_MODE = false :=
  ⟨{}, by decide +kernel⟩
theorem witness_ResetsAndProofComplete_8_wrstN :
    ∃ (lowNs : Nat) (d : Dev), d.crust.vaux = true ∧ d.pins.mpg = true ∧ 1 < opState d ∧ 10000 ≤ lowNs ∧ d.pwr.heldRail = false ∧ d.pwr.heldClk = false ∧ d.pwr.tripHold = false :=
  ⟨10000, { ({} : Dev) with pins := { (({} : Dev).pins) with mpg := true }, crust := { (({} : Dev).crust) with vaux := true } }, by decide +kernel⟩
theorem witness_ResetsAndProofComplete_9_mpgFall :
    ∃ (d : Dev), d.crust.vaux = false :=
  ⟨{ ({} : Dev) with crust := { ({} : Dev).crust with vaux := false } }, by decide +kernel⟩
theorem witness_ResetsAndProofComplete_10_pfailNFall :
    ∃ (d : Dev), d.crust.vaux = true ∧ dieRunning d = true :=
  ⟨{ ({} : Dev) with crust := { (({} : Dev).crust) with vaux := true } }, by decide +kernel⟩
theorem witness_ResetsAndProofComplete_11_pfailNFall :
    ∃ (mpgToo : Bool) (d : Dev), d.crust.vaux = true ∧ 1 < opState d ∧ (mpgToo = true ∨ d.pwr.heldDie = true) :=
  ⟨true, {}, by decide +kernel⟩
theorem witness_RailsClocksComplete_0_railOutOfRange :
    ∃ (r : Fin 12) (order : Bool) (d : Dev), d.crust.vaux = true ∧ dieRunning d = true ∧ railClass r.val = 0 :=
  ⟨2, false, {}, by decide +kernel⟩
theorem witness_RailsClocksComplete_1_railOutOfRange :
    ∃ (r : Fin 12) (order : Bool) (d : Dev), d.crust.vaux = true ∧ dieRunning d = true ∧ railClass r.val = 1 ∧ islState d 9 ≠ 0 :=
  ⟨3, false, wrs [(PWR.ISL_STAT.STATE 9, 2)] {}, by decide +kernel⟩
theorem witness_RailsClocksComplete_2_railOutOfRange :
    ∃ (r : Fin 12) (order : Bool) (d : Dev), d.crust.vaux = true ∧ dieRunning d = true ∧ railClass r.val = 2 :=
  ⟨8, false, {}, by decide +kernel⟩
theorem witness_RailsClocksComplete_3_railOutOfRange :
    ∃ (r : Fin 12) (order : Bool) (d : Dev), d.crust.vaux = true ∧ dieRunning d = true ∧ railClass r.val = 3 :=
  ⟨9, false, {}, by decide +kernel⟩
theorem witness_RailsClocksComplete_4_railOutOfRange :
    ∃ (r : Fin 12) (order : Bool) (d : Dev), d.crust.vaux = true ∧ dieRunning d = false ∧ railClass r.val ≠ 4 :=
  ⟨2, true, wrs [(GLB.STATE.STATE, 1)] {}, by decide +kernel⟩
theorem witness_RailsClocksComplete_5_railOutOfRange :
    ∃ (r : Fin 12) (order : Bool) (d : Dev), d.crust.vaux = false ∧ railClass r.val ≠ 4 :=
  ⟨2, true, { ({} : Dev) with crust := { ({} : Dev).crust with vaux := false } }, by decide +kernel⟩
theorem witness_RailsClocksComplete_8_railRecovery :
    ∃ (rails : Nat) (d : Dev), d.pwr.heldRail = true ∧ d.pwr.heldClk = false ∧ d.pwr.heldHang = false ∧ d.pwr.tripHold = false ∧ d.crust.vaux = true ∧ d.pins.mpg = true ∧ bitOf (d.rd PWR.CLK_STAT.PRESENT) 0 = true ∧ railsGood (d.wr PWR.RAIL_STAT.GOOD (d.rd PWR.RAIL_STAT.GOOD ||| rails / 2 % 1024 * 2)) = true :=
  ⟨2047, { ({} : Dev) with pwr := { ({} : Dev).pwr with heldRail := true } }, by decide +kernel⟩
theorem witness_RailsClocksComplete_9_clockLost :
    ∃ (n : Fin 8) (d : Dev), dieRunning d = true ∧ n ≠ 0 :=
  ⟨2, {}, by decide +kernel⟩
theorem witness_RailsClocksComplete_10_clockLost :
    ∃ (d : Dev), dieRunning d = true :=
  ⟨{}, by decide +kernel⟩
theorem witness_RailsClocksComplete_11_clockLost :
    ∃ (d : Dev), d.pwr.heldDie = true ∧ 2 ≤ opState d :=
  ⟨{ ({} : Dev) with pwr := { ({} : Dev).pwr with heldHang := true } }, by decide +kernel⟩
theorem witness_RailsClocksComplete_12_refclkRecovery :
    ∃ (d : Dev), d.pwr.heldClk = true ∧ d.pwr.heldRail = false ∧ d.pwr.heldHang = false ∧ d.pwr.tripHold = false ∧ 1 < opState d :=
  ⟨{ ({} : Dev) with pwr := { (({} : Dev).pwr) with heldClk := true } }, by decide +kernel⟩
theorem witness_RailsClocksComplete_14_pllLockLost :
    ∃ (i : Fin 7) (d : Dev), dieRunning d = true ∧ i ≠ 5 ∧ bitOf (d.rd PWR.CLK_STAT.LOCK) i.val = true :=
  ⟨0, wrs [(PWR.CLK_STAT.LOCK, 127)] {}, by decide +kernel⟩
theorem witness_RailsClocksComplete_15_pllLockLost :
    ∃ (d : Dev), dieRunning d = true ∧ bitOf (d.rd PWR.CLK_STAT.LOCK) 5 = true :=
  ⟨wrs [(PWR.CLK_STAT.LOCK, 127)] {}, by decide +kernel⟩
theorem witness_RailsClocksComplete_17_thermalTrip :
    ∃ (d : Dev), dieRunning d = true :=
  ⟨{}, by decide +kernel⟩
theorem witness_RailsClocksComplete_18_thermalRead :
    ∃ (temps : List Int) (d : Dev), dieRunning d ∧ temps ≠ [] :=
  ⟨[50], {}, by decide +kernel⟩
theorem witness_RailsClocksComplete_19_throttleStep :
    ∃ (d : Dev), d.pwr.solvSteps + d.pwr.appSteps ≠ 0 ∧ tThr d ≤ tj d ∧ d.pwr.stepTj ≤ tj d :=
  ⟨{ wrs [(PWR.THERM_STAT.TJ, 400)] {} with pwr := { (({} : Dev).pwr) with solvSteps := 1 } }, by decide +kernel⟩
theorem witness_RailsClocksComplete_20_throttleStep :
    ∃ (d : Dev), d.pwr.solvSteps + d.pwr.appSteps ≠ 0 ∧ tj d < tThr d ∧ tj d ≤ tThr d - tHyst d :=
  ⟨{ ({} : Dev) with pwr := { (({} : Dev).pwr) with solvSteps := 1 } }, by decide +kernel⟩
theorem witness_IslandsAvsComplete_0_islCtrlEn :
    ∃ (p : Fin 2) (n : Fin 14) (v : Nat) (d : Dev), writable p.val (0x200100 + 4 * n.val) d = true :=
  ⟨0, 2, 1, {}, by decide +kernel⟩
theorem witness_IslandsAvsComplete_1_islandStopEnd :
    ∃ (n : Fin 14) (d : Dev), islState d n.val = 3 :=
  ⟨2, wrs [(PWR.ISL_STAT.STATE 2, 3)] {}, by decide +kernel⟩
theorem witness_IslandsAvsComplete_2_islandStartEnd :
    ∃ (n : Fin 14) (d : Dev), islState d n.val = 1 ∧ look (finishIsland n.val true (onHook n.val (d.wr (PWR.ISL_STAT.STATE n.val) 2))).pwr.waitOff n.val = none :=
  ⟨2, wrs [(PWR.ISL_STAT.STATE 2, 1)] {}, by decide +kernel⟩
theorem witness_IslandsAvsComplete_3_islandStartEnd :
    ∃ (n : Fin 14) (c : Nat) (d : Dev), islState d n.val = 1 ∧ look (finishIsland n.val true (onHook n.val (d.wr (PWR.ISL_STAT.STATE n.val) 2))).pwr.waitOff n.val = some c ∧ c ≠ causeUpd ∧ laneAtWork (finishIsland n.val true (onHook n.val (d.wr (PWR.ISL_STAT.STATE n.val) 2))) n.val = false :=
  ⟨2, 1, { wrs [(PWR.ISL_STAT.STATE 2, 1)] {} with pwr := { (({} : Dev).pwr) with waitOff := [(2, 1)] } }, by decide +kernel⟩
theorem witness_IslandsAvsComplete_4_islandStartEnd :
    ∃ (n : Fin 14) (c : Nat) (d : Dev), islState d n.val = 1 ∧ look (finishIsland n.val true (onHook n.val (d.wr (PWR.ISL_STAT.STATE n.val) 2))).pwr.waitOff n.val = some c ∧ c ≠ causeUpd ∧ laneAtWork (finishIsland n.val true (onHook n.val (d.wr (PWR.ISL_STAT.STATE n.val) 2))) n.val = true :=
  ⟨3, 1, { wrs [(PWR.ISL_STAT.STATE 3, 1)] rdyDev with pwr := { ({} : Dev).pwr with waitOff := [(3, 1)] } }, by decide +kernel⟩
theorem witness_IslandsAvsComplete_5_islandMinoffEnd :
    ∃ (n : Fin 14) (d : Dev), islState d n.val = 0 ∧ d.flag (PWR.ISL_STAT.PENDING_REARM n.val) = true ∧ held d n.val = false :=
  ⟨2, wrs [(PWR.ISL_STAT.STATE 2, 0), (PWR.ISL_STAT.PENDING_REARM 2, 1)] {}, by decide +kernel⟩
theorem witness_IslandsAvsComplete_6_hostReturnTimer :
    ∃ (d : Dev), d.host.returnSecs.isSome = true ∧ held d 12 = false ∧ islState d 12 = 0 ∧ d.flag (PWR.ISL_STAT.MINOFF 12) = false :=
  ⟨{ wrs [(PWR.ISL_STAT.STATE 12, 0)] {} with host := { (({} : Dev).host) with returnSecs := some 1 } }, by decide +kernel⟩
theorem witness_IslandsAvsComplete_7_actionDelayEnd :
    ∃ (rest : List Delayed) (d : Dev), d.host.delayed = .warmReset :: rest :=
  ⟨[], { ({} : Dev) with host := { (({} : Dev).host) with delayed := [.warmReset] } }, by decide +kernel⟩
theorem witness_IslandsAvsComplete_8_actionDelayEnd :
    ∃ (rest : List Delayed) (d : Dev), d.host.delayed = .retryProof :: rest :=
  ⟨[], { ({} : Dev) with host := { (({} : Dev).host) with delayed := [.retryProof] } }, by decide +kernel⟩
theorem witness_IslandsAvsComplete_9_actionDelayEnd :
    ∃ (rest : List Delayed) (secs : Nat) (d : Dev), d.host.delayed = .hostOff secs :: rest :=
  ⟨[], 1, { ({} : Dev) with host := { (({} : Dev).host) with delayed := [.hostOff 1] } }, by decide +kernel⟩
theorem witness_IslandsAvsComplete_10_islandPower :
    ∃ (h : CmdHdr) (isl ret : Nat) (s : State) (d : Dev), d = begun { unit := 0, op := 6, c := true, kw := true } h s.dev ∧ Ready { unit := 0, op := 6, c := true, kw := true } h s ∧ 2 ≤ isl ∧ isl ≤ 13 ∧ held d isl = false ∧ islState (requestOn isl d) isl ≠ 2 ∧ (requestOn isl d).flag (PWR.ISL_STAT.PENDING_REARM isl) = false :=
  ⟨hdr [], 2, 0, onDev (wrs [(PWR.ISL_STAT.STATE 2, 0)] rdyDev), _, rfl, by decide +kernel, by decide +kernel⟩
theorem witness_IslandsAvsComplete_11_islandPower :
    ∃ (h : CmdHdr) (isl ret : Nat) (s : State) (d : Dev), d = begun { unit := 0, op := 6, c := true, kw := true } h s.dev ∧ Ready { unit := 0, op := 6, c := true, kw := true } h s ∧ 2 ≤ isl ∧ isl ≤ 13 ∧ isl ≠ 12 ∧ laneAtWork d isl = false ∧ held d isl = false ∧ islState (requestOff isl causeHost d) isl ≠ 0 :=
  ⟨hdr [], 2, 0, onDev (rdyDev), _, rfl, by decide +kernel, by decide +kernel⟩
theorem witness_IslandsAvsComplete_12_islandPower :
    ∃ (h : CmdHdr) (isl ret : Nat) (s : State) (d : Dev), d = begun { unit := 0, op := 6, c := true, kw := true } h s.dev ∧ Ready { unit := 0, op := 6, c := true, kw := true } h s ∧ laneAtWork d isl = true ∧ 2 ≤ inServ d - b2n (laneIn d (isl - 3)) :=
  ⟨hdr [], 3, 0, onDev (rdyDev), _, rfl, by decide +kernel, by decide +kernel⟩
theorem witness_IslandsAvsComplete_13_islandPower :
    ∃ (h : CmdHdr) (ret : Nat) (s : State) (d : Dev), d = begun { unit := 0, op := 6, c := true, kw := true } h s.dev ∧ Ready { unit := 0, op := 6, c := true, kw := true } h s ∧ 1 ≤ ret ∧ ret ≤ 600 ∧ held d 12 = false ∧ islState d 12 ≠ 0 :=
  ⟨hdr [], 1, onDev (rdyDev), _, rfl, by decide +kernel, by decide +kernel⟩
theorem witness_IslandsAvsComplete_14_avsCommand :
    ∃ (c : AvsCmd) (answer : Option Nat) (d : Dev), dieRunning d :=
  ⟨.voltWrite 750, some 0, {}, by decide +kernel⟩
theorem witness_JtagComplete_4_extest :
    ∃ (d : Dev), opState d = 5 :=
  ⟨wrs [(GLB.STATE.STATE, 5)] {}, by decide +kernel⟩
theorem witness_JtagComplete_5_clamp :
    ∃ (d : Dev), opState d = 5 :=
  ⟨wrs [(GLB.STATE.STATE, 5)] {}, by decide +kernel⟩
theorem witness_JtagComplete_6_highz :
    ∃ (d : Dev), opState d = 5 :=
  ⟨wrs [(GLB.STATE.STATE, 5)] {}, by decide +kernel⟩
theorem witness_JtagComplete_7_extest :
    ∃ (d : Dev), opState d ≠ 5 :=
  ⟨{}, by decide +kernel⟩
theorem witness_RegisterAccessComplete_0_bar0Write :
    ∃ (p : Fin 2) (addr size v : Nat) (d : Dev), size = 4 ∧ addr % 4 = 0 :=
  ⟨0, 0x60, 4, 1, rdyDev, by decide +kernel⟩
theorem witness_RegisterAccessComplete_3_kick :
    ∃ (p : Fin 2) (v : Nat) (link : LinkRes) (d : Dev), writable p.val 0x100000 d = true :=
  ⟨0, 1, {}, rdyDev, by decide +kernel⟩
theorem witness_RegisterAccessComplete_4_lock :
    ∃ (p : Fin 2) (d : Dev), writable p.val 0x60 d = true :=
  ⟨0, rdyDev, by decide +kernel⟩
theorem witness_RegisterAccessComplete_5_lockCommitEnd :
    ∃ (ok : Bool) (d : Dev), d.boot.committing :=
  ⟨true, { rdyDev with boot := { rdyDev.boot with committing := true } }, by decide +kernel⟩
theorem witness_RegisterAccessComplete_6_ringEnSet :
    ∃ (p : Fin 2) (n : Fin 32) (v : Nat) (d : Dev), writable p.val (ringCfgAddr n.val) d = true :=
  ⟨0, 2, 0, rdyDev, by decide +kernel⟩
theorem witness_RegisterAccessComplete_7_ringEnClear :
    ∃ (p : Fin 2) (n : Fin 32) (v : Nat) (d : Dev), writable p.val (ringCfgAddr n.val) d = true :=
  ⟨0, 2, 0, rdyDev, by decide +kernel⟩
theorem witness_RegisterAccessComplete_8_canEnWrite :
    ∃ (p : Fin 2) (n : Fin 16) (v : Nat) (d : Dev), writable p.val (0x800000 + 0x10000 * n.val) d = true :=
  ⟨0, 2, 1, rdyDev, by decide +kernel⟩
theorem witness_RegisterAccessComplete_9_sarEnWrite :
    ∃ (p : Fin 2) (k : Fin 2) (v : Nat) (d : Dev), writable p.val (0xC00000 + 0x40 * k.val) d = true :=
  ⟨0, 1, 1, rdyDev, by decide +kernel⟩
theorem witness_RegisterAccessComplete_10_sessEnWrite :
    ∃ (p : Fin 2) (n : Fin 4096) (v : Nat) (d : Dev), writable p.val (sessCtx n.val) d = true :=
  ⟨0, 1, 1, rdyDev, by decide +kernel⟩
theorem witness_RegisterAccessComplete_11_clpEnWrite :
    ∃ (p : Fin 2) (v : Nat) (d : Dev), writable p.val 0xF00000 d = true :=
  ⟨0, 1, rdyDev, by decide +kernel⟩
theorem witness_RegisterAccessComplete_12_portEnWrite :
    ∃ (p : Fin 2) (q : Fin 6) (v : Nat) (d : Dev), writable p.val (0xA00000 + 0x100 * q.val) d = true :=
  ⟨0, 1, 1, rdyDev, by decide +kernel⟩
theorem witness_RegisterAccessComplete_13_partEnWrite :
    ∃ (port : Fin 2) (p : Fin 2) (v : Nat) (d : Dev), writable port.val (0x1000100 + 0x80 * p.val) d = true :=
  ⟨0, 1, 1, rdyDev, by decide +kernel⟩
theorem witness_RegisterAccessComplete_14_heatEnClear :
    ∃ (p : Fin 2) (m : Fin 256) (v : Nat) (d : Dev), writable p.val (0xD10000 + 0x80 * m.val) d = true :=
  ⟨0, 1, 0, rdyDev, by decide +kernel⟩
theorem witness_RegisterAccessComplete_15_cttCfgWrite :
    ∃ (p : Fin 2) (t : Fin 32) (v : Nat) (d : Dev), writable p.val (0xD03000 + 0x80 * t.val) d = true :=
  ⟨0, 1, 0, rdyDev, by decide +kernel⟩
theorem witness_RegisterAccessComplete_16_ppsTargetWrite :
    ∃ (p : Fin 2) (k : Fin 2) (v : Nat) (d : Dev), writable p.val (0x60030C + 0x10 * k.val) d = true :=
  ⟨0, 1, 0, rdyDev, by decide +kernel⟩
theorem witness_RegisterAccessComplete_17_loopCtxWrite :
    ∃ (p : Fin 2) (addr v : Nat) (d : Dev), 0xE10000 ≤ addr ∧ addr < 0xE50000 ∧ addr % 4 = 0 :=
  ⟨0, 0xE10000, 0, rdyDev, by decide +kernel⟩
theorem witness_RegisterAccessComplete_20_capSecLoRead :
    ∃ (p k : Fin 2) (c : Capture) (rest : List Capture) (d : Dev), blockOn d 6 = true ∧ lookD d.time.trigQ k.val [] = c :: rest :=
  ⟨0, 1, { rise := true, sec := 5, ns := 6 }, [], { rdyDev with time := { rdyDev.time with trigQ := [(1, [{ rise := true, sec := 5, ns := 6 }])] } }, by decide +kernel⟩
theorem witness_RegisterAccessComplete_22_curSeqWrite :
    ∃ (p : Fin 2) (v : Nat) (d : Dev), writable p.val 0x400024 d = true :=
  ⟨0, 1, rdyDev, by decide +kernel⟩
theorem witness_RegisterAccessComplete_23_areaWrite :
    ∃ (p : Fin 2) (v : Nat) (d : Dev), writable p.val 0x400020 d = true :=
  ⟨0, 1, rdyDev, by decide +kernel⟩
theorem witness_RegisterAccessComplete_24_next :
    ∃ (p : Fin 2) (v : Nat) (d : Dev), writable p.val 0x400020 d = true :=
  ⟨0, 1, rdyDev, by decide +kernel⟩
theorem witness_PortsRingsComplete_0_perstAssert :
    ∃ (p : Fin 2) (d : Dev), portEnabled d p.val :=
  ⟨0, {}, by decide +kernel⟩
theorem witness_PortsRingsComplete_3_portReturn :
    ∃ (p : Fin 2) (up : LinkUp) (d : Dev), portEnabled d p.val ∧ ¬ (d.host.perst.contains p.val) ∧ islandOn d 12 :=
  ⟨0, {}, rdyDev, by decide +kernel⟩
theorem witness_PortsRingsComplete_4_hostHeartbeatCheck :
    ∃ (p : Fin 2) (d : Dev), (min 60 (d.rd (HOST.PORT.CFG.HB_TIMEOUT p.val))) ≠ 0 ∧ ¬ (portIsGone d p.val) ∧ portEnabled d p.val ∧ islandOn d 12 :=
  ⟨0, wrs [(HOST.PORT.CFG.HB_TIMEOUT 0, 3)] rdyDev, by decide +kernel⟩
theorem witness_PortsRingsComplete_5_doorbellPoll :
    ∃ (p : Fin 2) (link : LinkRes) (d : Dev), islandOn d 12 ∧ ¬ (portIsGone d p.val) ∧ portEnabled d p.val :=
  ⟨0, {}, rdyDev, by decide +kernel⟩
theorem witness_PortsRingsComplete_6_moderationTimeout :
    ∃ (n : Fin 32) (d : Dev), (ringSt d n.val).pend ≠ 0 ∧ islandOn d 12 :=
  ⟨1, setRingSt 1 { pend := 1 } rdyDev, by decide +kernel⟩
theorem witness_PortsRingsComplete_7_leaseExpiry :
    ∃ (table : Fin 256) (buffer : Bool) (consumer : Nat) (l : Nat × Nat) (d : Dev), ((benchTab d table.val).leases buffer).find? (fun x => x.1 == consumer) = some l :=
  ⟨1, false, 7, (7, 0), { rdyDev with bench := [(1, { lease0 := [(7, 0)] })] }, by decide +kernel⟩
theorem witness_PortsRingsComplete_8_nop :
    ∃ (h : CmdHdr) (s : State) (d : Dev), d = begun { unit := 0, op := 1, proof := true } h s.dev ∧ Ready { unit := 0, op := 1, proof := true } h s ∧ True :=
  ⟨hdr [], onDev (rdyDev), _, rfl, by decide +kernel, by decide +kernel⟩
theorem witness_PortsRingsComplete_9_regRead :
    ∃ (h : CmdHdr) (count : Nat) (offs : List Nat) (s : State) (d : Dev), d = begun { unit := 0, op := 2, kw := true, rack := true, proof := true } h s.dev ∧ Ready { unit := 0, op := 2, kw := true, rack := true, proof := true } h s ∧ 1 ≤ count ∧ count ≤ 5 ∧ ¬ ((offs.take count).any (fun a => a % 4 != 0 || decide (0x2000000 ≤ a))) :=
  ⟨hdr [], 1, [0], onDev (rdyDev), _, rfl, by decide +kernel, by decide +kernel⟩
theorem witness_PortsRingsComplete_10_cfgWrite :
    ∃ (h : CmdHdr) (count : Nat) (pairs : List (Nat × Nat)) (s : State) (d : Dev), d = begun { unit := 0, op := 3, c := true } h s.dev ∧ Ready { unit := 0, op := 3, c := true } h s ∧ 1 ≤ count ∧ count ≤ 5 ∧ ¬ d.boot.committing ∧ cfgFault h.port.val ((pairs ++ List.replicate 5 (0, 0)).take count) d = none :=
  ⟨hdr [], 1, [(0x200020, 0)], onDev (rdyDev), _, rfl, by decide +kernel, by decide +kernel⟩
theorem witness_PortsRingsComplete_11_stateCmd :
    ∃ (h : CmdHdr) (s : State) (d : Dev), d = begun { unit := 0, op := 4, c := true, kw := true, rack := true } h s.dev ∧ Ready { unit := 0, op := 4, c := true, kw := true, rack := true } h s ∧ opState d ≠ 5 :=
  ⟨hdr [], onDev (rdyDev), _, rfl, by decide +kernel, by decide +kernel⟩
theorem witness_PortsRingsComplete_12_stateCmd :
    ∃ (h : CmdHdr) (s : State) (d : Dev), d = begun { unit := 0, op := 4, c := true, kw := true, rack := true } h s.dev ∧ Ready { unit := 0, op := 4, c := true, kw := true, rack := true } h s ∧ opState d = 4 ∧ class4Open d = false :=
  ⟨hdr [], onDev (wrs [(GLB.STATE.STATE, 4)] rdyDev), _, rfl, by decide +kernel, by decide +kernel⟩
theorem witness_PortsRingsComplete_13_stateCmd :
    ∃ (h : CmdHdr) (s : State) (d : Dev), d = begun { unit := 0, op := 4, c := true, kw := true, rack := true } h s.dev ∧ Ready { unit := 0, op := 4, c := true, kw := true, rack := true } h s ∧ True :=
  ⟨hdr [], onDev (rdyDev), _, rfl, by decide +kernel, by decide +kernel⟩
theorem witness_PortsRingsComplete_14_stateCmd :
    ∃ (h : CmdHdr) (s : State) (d : Dev), d = begun { unit := 0, op := 4, c := true, kw := true, rack := true } h s.dev ∧ Ready { unit := 0, op := 4, c := true, kw := true, rack := true } h s ∧ opState d ≠ 4 :=
  ⟨hdr [], onDev (rdyDev), _, rfl, by decide +kernel, by decide +kernel⟩
theorem witness_PortsRingsComplete_15_startPolicy :
    ∃ (h : CmdHdr) (v : Nat) (s : State) (d : Dev), d = begun { unit := 0, op := 5, c := true, rack := true } h s.dev ∧ Ready { unit := 0, op := 5, c := true, rack := true } h s ∧ v ≤ 1 :=
  ⟨hdr [], 1, onDev (rdyDev), _, rfl, by decide +kernel, by decide +kernel⟩
theorem witness_PortsRingsComplete_16_benchRead :
    ∃ (h : CmdHdr) (table : Nat) (s : State) (d : Dev), d = begun { unit := 0, op := 7, kw := true } h s.dev ∧ Ready { unit := 0, op := 7, kw := true } h s ∧ table ≠ 0 ∧ table ≤ 255 ∧ benchKnown d table ∧ bufOk h ∧ (benchBytes d table).length ≤ bufLen h ∧ ¬ (d.host.stalled.contains h.port.val) :=
  ⟨hdr [(64, 4096)], 1, onDev (rdyDev), _, rfl, by decide +kernel, by decide +kernel⟩
theorem witness_PortsRingsComplete_17_benchWrite :
    ∃ (h : CmdHdr) (table : Nat) (s : State) (d : Dev), d = begun { unit := 0, op := 8 } h s.dev ∧ Ready { unit := 0, op := 8 } h s ∧ benchProducer table = 1 ∧ bufOk h ∧ 32 ≤ bufLen h :=
  ⟨hdr [(64, 64)], 0x50, onDev (rdyDev), _, rfl, by decide +kernel, by decide +kernel⟩
theorem witness_PortsRingsComplete_18_unlock :
    ∃ (h : CmdHdr) (s : State) (d : Dev), d = begun { unit := 0, op := 9, c := true } h s.dev ∧ Ready { unit := 0, op := 9, c := true } h s ∧ d.boot.committing = false ∧ (checkGrant 0 h d).1 = 0 :=
  ⟨hdr [(64, 160)], onDev (grantDev), _, rfl, by decide +kernel, by decide +kernel⟩
theorem witness_PortsRingsComplete_19_ringSetup :
    ∃ (h : CmdHdr) (ring kind log2size cring vector modCount modTime epoch base : Nat) (s : State) (d : Dev), d = begun { unit := 1, op := 1, proof := true } h s.dev ∧ Ready { unit := 1, op := 1, proof := true } h s ∧ ringTarget h ring d = 0 ∧ base % 64 = 0 ∧ cring ≤ 31 ∧ vector ≤ 63 ∧ ringState d ring = 0 :=
  ⟨hdr [], 2, 3, 6, 0, 1, 0, 0, 1, 4096, onDev (rdyDev), _, rfl, by decide +kernel, by decide +kernel⟩
theorem witness_PortsRingsComplete_20_ringStop :
    ∃ (h : CmdHdr) (ring : Nat) (s : State) (d : Dev), d = begun { unit := 1, op := 2, proof := true } h s.dev ∧ Ready { unit := 1, op := 2, proof := true } h s ∧ ringTarget h ring d = 0 ∧ (stopRing ring d).2 = false :=
  ⟨hdr [], 2, onDev (rdyDev), _, rfl, by decide +kernel, by decide +kernel⟩
theorem witness_PortsRingsComplete_21_routeSet :
    ∃ (h : CmdHdr) (first count : Nat) (words : List Nat) (s : State) (d : Dev), d = begun { unit := 1, op := 3, proof := true } h s.dev ∧ Ready { unit := 1, op := 3, proof := true } h s ∧ 1 ≤ count ∧ count ≤ 10 ∧ first + count ≤ 256 :=
  ⟨hdr [], 0, 1, [0], onDev (rdyDev), _, rfl, by decide +kernel, by decide +kernel⟩
theorem witness_PortsRingsComplete_22_ownSet :
    ∃ (h : CmdHdr) (mask claim : Nat) (s : State) (d : Dev), d = begun { unit := 1, op := 4, c := true } h s.dev ∧ Ready { unit := 1, op := 4, c := true } h s ∧ claim ≤ 1 ∧ claim = 0 ∧ (mask % 2 ^ 32) &&& (if h.port.val = 1 then (d.rd HOST.OWN.BLOCK) else 0xFFFFFFFF - (d.rd HOST.OWN.BLOCK)) = (mask % 2 ^ 32) :=
  ⟨hdr [], 1, 0, onDev (rdyDev), _, rfl, by decide +kernel, by decide +kernel⟩
theorem witness_PortsRingsComplete_23_ownSet :
    ∃ (h : CmdHdr) (mask claim : Nat) (s : State) (d : Dev), d = begun { unit := 1, op := 4, c := true } h s.dev ∧ Ready { unit := 1, op := 4, c := true } h s ∧ claim ≤ 1 ∧ claim ≠ 0 ∧ ¬ ((mask % 2 ^ 32) &&& (if h.port.val = 1 then (d.rd HOST.OWN.BLOCK) else 0xFFFFFFFF - (d.rd HOST.OWN.BLOCK)) ≠ (mask % 2 ^ 32) ∧ ¬ portIsGone d (1 - h.port.val)) :=
  ⟨hdr [], 1, 1, onDev ({ wrs [(HOST.OWN.BLOCK, 1)] rdyDev with host := { rdyDev.host with gone := [1] } }), _, rfl, by decide +kernel, by decide +kernel⟩
theorem witness_FcuComplete_0_fcuClear :
    ∃ (h : CmdHdr) (det action : Nat) (s : State) (d : Dev), d = begun { unit := 12, op := 1, c := true, kw := true, rack := true } h s.dev ∧ Ready { unit := 12, op := 1, c := true, kw := true, rack := true } h s ∧ action ≤ 1 ∧ ¬ (191 < det ∧ det ≠ 0xFFFF) ∧ det ≠ 0xFFFF ∧ d.flag (FCU.REC.STATE.OPEN det) :=
  ⟨hdr [], 3, 1, onDev (wrs [(FCU.REC.STATE.OPEN 3, 1)] rdyDev), _, rfl, by decide +kernel, by decide +kernel⟩
theorem witness_FcuComplete_1_fcuClear :
    ∃ (h : CmdHdr) (action : Nat) (s : State) (d : Dev), d = begun { unit := 12, op := 1, c := true, kw := true, rack := true } h s.dev ∧ Ready { unit := 12, op := 1, c := true, kw := true, rack := true } h s ∧ action ≤ 1 :=
  ⟨hdr [], 1, onDev (rdyDev), _, rfl, by decide +kernel, by decide +kernel⟩
theorem witness_FcuComplete_2_fcuArm :
    ∃ (h : CmdHdr) (secs : Nat) (s : State) (d : Dev), d = begun { unit := 12, op := 2, c := true } h s.dev ∧ Ready { unit := 12, op := 2, c := true } h s ∧ 1 ≤ secs ∧ secs ≤ 3600 ∧ (checkGrant 1 h d).1 = 0 :=
  ⟨hdr [(64, 160)], 60, onDev (grantDev), _, rfl, by decide +kernel, by decide +kernel⟩
theorem witness_FcuComplete_3_fcuArm :
    ∃ (h : CmdHdr) (s : State) (d : Dev), d = begun { unit := 12, op := 2, c := true } h s.dev ∧ Ready { unit := 12, op := 2, c := true } h s ∧ (checkGrant 1 h d).1 = 0 :=
  ⟨hdr [(64, 160)], onDev (grantDev), _, rfl, by decide +kernel, by decide +kernel⟩
theorem witness_FcuComplete_4_fcuInject :
    ∃ (h : CmdHdr) (det flags src scope n : Nat) (s : State) (d : Dev), d = begun { unit := 12, op := 3, c := true } h s.dev ∧ Ready { unit := 12, op := 3, c := true } h s ∧ det ≤ 191 ∧ d.fcu.session = some (scope, n) ∧ fdInj det ≠ 0 ∧ ¬ (fdInj det = 2 ∧ bitsOf flags 2 1 = 3) ∧ d.flag (FCU.REC.STATE.OPEN det) = false ∧ (bitOf flags 0 = true ∨ classOf d det < 4 ∨ bitOf scope 2 = true) :=
  ⟨hdr [], 30, 1, 0, 4, 1, onDev ({ rdyDev with fcu := { rdyDev.fcu with session := some (4, 1) } }), _, rfl, by decide +kernel, by decide +kernel⟩
theorem witness_FcuComplete_5_fcuRead :
    ∃ (h : CmdHdr) (first count : Nat) (s : State) (d : Dev), d = begun { unit := 12, op := 4, kw := true, rack := true } h s.dev ∧ Ready { unit := 12, op := 4, kw := true, rack := true } h s ∧ first ≤ 191 ∧ 1 ≤ count ∧ count ≤ 192 ∧ recvOk h (32 * count) :=
  ⟨hdr [(64, 32)], 0, 1, onDev (rdyDev), _, rfl, by decide +kernel, by decide +kernel⟩
theorem witness_FcuComplete_7_detectorRaise :
    ∃ (det : Fin 192) (src detail loc : Nat) (f : DetFinding) (d : Dev), findingRaises d f = false :=
  ⟨88, 0, 0, 0, .access 0 (.privMem 0) false, rdyDev, by decide +kernel⟩
theorem witness_FcuComplete_8_windowExpiry :
    ∃ (det : Fin 192) (t : Nat) (d : Dev), look d.fcu.winEnd det.val = some t ∧ d.flag (FCU.REC.STATE.OPEN det.val) = true :=
  ⟨31, 5, { wrs [(FCU.REC.STATE.OPEN 31, 1), (FCU.REC.STATE.CLASS 31, 2)] rdyDev with fcu := { rdyDev.fcu with winEnd := [(31, 5)] } }, by decide +kernel⟩
theorem witness_FcuComplete_9_csRaiseUnacknowledged :
    ∃ (det : Fin 192) (d : Dev), csRaised det.val :=
  ⟨46, rdyDev, by decide +kernel⟩
theorem witness_FcuComplete_10_heartbeatTimeout :
    ∃ (e : Fin 23) (d : Dev), watched d e.val ∧ ¬ (e.val = 22 ∧ opState d = 2) :=
  ⟨22, rdyDev, by decide +kernel⟩
theorem witness_FcuComplete_12_injectionFire :
    ∃ (det : Fin 192) (i : Inj) (d : Dev), d.fcu.injections.find? (fun i => i.det == det.val) = some i :=
  ⟨30, { det := 30, dry := false, lane := 0, src := 0, port := 0 }, { rdyDev with fcu := { rdyDev.fcu with injections := [{ det := 30, dry := false, lane := 0, src := 0, port := 0 }] } }, by decide +kernel⟩
theorem witness_FcuComplete_13_injectionNoPath :
    ∃ (det : Fin 192) (i : Inj) (d : Dev), d.fcu.injections.find? (fun i => i.det == det.val) = some i :=
  ⟨30, { det := 30, dry := false, lane := 0, src := 0, port := 0 }, { rdyDev with fcu := { rdyDev.fcu with injections := [{ det := 30, dry := false, lane := 0, src := 0, port := 0 }] } }, by decide +kernel⟩
theorem witness_FcuComplete_14_injectionSessionEnd :
    ∃ (d : Dev), d.fcu.session.isSome = true :=
  ⟨{ rdyDev with fcu := { rdyDev.fcu with session := some (4, 1) } }, by decide +kernel⟩
theorem witness_RecorderComplete_0_evrRead :
    ∃ (h : CmdHdr) (area first count : Nat) (r : Rec) (rs : List Rec) (s : State) (d : Dev), d = begun { unit := 13, op := 1, kw := true, rack := true, proof := true } h s.dev ∧ Ready { unit := 13, op := 1, kw := true, rack := true, proof := true } h s ∧ area ≤ 1 ∧ ¬ (area = 1 ∧ d.rd EVR.CFG.CONF = 2) ∧ 1 ≤ count ∧ count ≤ 65536 ∧ recvOk h (32 * count) = true ∧ ((readableArea (area = 1) d).filter fun r => decide (0 ≤ sdiff 32 r.seq first) && decide (sdiff 32 r.seq first < count)) = r :: rs :=
  ⟨hdr [(64, 32)], 0, 0, 1, { rec0 with seq := 0 }, [], onDev ({ rdyDev with evr := { rdyDev.evr with areaC := [{ rec0 with seq := 0 }] } }), _, rfl, by decide +kernel, by decide +kernel⟩
theorem witness_RecorderComplete_1_evrStream :
    ∃ (h : CmdHdr) (ring area start first : Nat) (s : State) (d : Dev), d = begun { unit := 13, op := 2, c := true, kw := true, rack := true, proof := true } h s.dev ∧ Ready { unit := 13, op := 2, c := true, kw := true, rack := true, proof := true } h s ∧ area ≤ 1 ∧ ¬ (area = 1 ∧ d.rd EVR.CFG.CONF = 2) ∧ start ≤ 1 ∧ ring ≤ 31 ∧ ringPort ring = h.port.val ∧ ringKind d ring = 5 ∧ ringState d ring = 1 ∧ start ≠ 0 :=
  ⟨hdr [], 3, 0, 1, 0, onDev (wrs [(HOST.RING.CFG.KIND 3, 5), (HOST.RING.STAT.STATE 3, 1)] rdyDev), _, rfl, by decide +kernel, by decide +kernel⟩
theorem witness_RecorderComplete_2_evrClear :
    ∃ (h : CmdHdr) (areas conf : Nat) (s : State) (d : Dev), d = begun { unit := 13, op := 3, c := true } h s.dev ∧ Ready { unit := 13, op := 3, c := true } h s ∧ areas ≤ 3 ∧ conf ≤ 2 ∧ confMiB conf ≤ d.evr.partA ∧ d.pwr.memLost = false ∧ (checkGrant 3 h d).1 = 0 :=
  ⟨hdr [(64, 160)], 3, 0, onDev (grantDev), _, rfl, by decide +kernel, by decide +kernel⟩
theorem witness_RecorderComplete_3_evrNote :
    ∃ (h : CmdHdr) (w0 w1 : Nat) (s : State) (d : Dev), d = begun { unit := 13, op := 4 } h s.dev ∧ Ready { unit := 13, op := 4 } h s ∧ True :=
  ⟨hdr [], 1, 2, onDev (rdyDev), _, rfl, by decide +kernel, by decide +kernel⟩
theorem witness_RecorderComplete_4_recordIntake :
    ∃ (o : Occ) (rest : List Occ) (d : Dev), recorderTakes d = true ∧ d.evr.queue = o :: rest :=
  ⟨occ0, [], { rdyDev with evr := { rdyDev.evr with queue := [occ0] } }, by decide +kernel⟩
theorem witness_RecorderComplete_5_recordMirror :
    ∃ (okA okB : Bool) (d : Dev), fullPages d ≠ [] :=
  ⟨true, true, { rdyDev with evr := { rdyDev.evr with areaC := [{ rec0 with seq := 0 }], nextSeq := 128 } }, by decide +kernel⟩
theorem witness_RecorderComplete_6_recordMirror :
    ∃ (okA okB : Bool) (d : Dev), fullPages d = [] :=
  ⟨true, true, { rdyDev with evr := { rdyDev.evr with areaC := [{ rec0 with seq := 0 }] } }, by decide +kernel⟩
theorem witness_RecorderComplete_7_areaCReloadEnd :
    ∃ (d : Dev), d.flag EVR.STAT.RELOADING ∧ ¬ (confC d ≠ 0 ∧ opState d = 2) :=
  ⟨wrs [(EVR.STAT.RELOADING, 1)] rdyDev, by decide +kernel⟩
theorem witness_RecorderComplete_8_wearCheck :
    ∃ (forecast : Nat) (d : Dev), min forecast 65535 < serviceY d * 10 - min 65535 ((d.evr.ageDays + if d.evr.stageChk then 0 else 1) * 10 / 365) :=
  ⟨1, rdyDev, by decide +kernel⟩
theorem witness_RecorderComplete_9_wearCheck :
    ∃ (forecast : Nat) (d : Dev), (serviceY d * 10 - min 65535 ((d.evr.ageDays + if d.evr.stageChk then 0 else 1) * 10 / 365)) * 11 < min forecast 65535 * 10 ∧ 30 ≤ d.evr.goodDays + (if d.evr.stageChk then 0 else 1) ∧ d.rd EVR.STAT.WSTAGE = 1 :=
  ⟨60000, { wrs [(EVR.STAT.WSTAGE, 1)] rdyDev with evr := { rdyDev.evr with goodDays := 29 } }, by decide +kernel⟩
theorem witness_CrustComplete_0_ponTimeout :
    ∃ (d : Dev), d.crust.waking :=
  ⟨{ rdyDev with crust := { rdyDev.crust with waking := true } }, by decide +kernel⟩
theorem witness_CrustComplete_2_crustSwitchBack :
    ∃ (w : Witness) (d : Dev), ¬ (d.crust.vaux) ∧ opState d ≠ 0 :=
  ⟨{}, { rdyDev with crust := { rdyDev.crust with vaux := false } }, by decide +kernel⟩
theorem witness_CrustComplete_3_crustPowerUp :
    ∃ (vaux : Bool) (w : Witness) (d : Dev), opState d = 0 :=
  ⟨true, {}, wrs [(GLB.STATE.STATE, 0)] rdyDev, by decide +kernel⟩
theorem witness_CrustComplete_7_scrub :
    ∃ (parityError : Bool) (d : Dev), d.crust.vaux ∧ parityError :=
  ⟨true, { rdyDev with crust := { rdyDev.crust with vaux := true } }, by decide +kernel⟩
theorem witness_CrustComplete_8_almFire :
    ∃ (i : Fin 2) (d : Dev), d.flag (CRUST.ALM.CTRL.EN i.val) ∧ ¬ (timeLost d) ∧ ¬ (d.flag (CRUST.ALM.STAT.NEVER i.val)) :=
  ⟨0, wrs [(CRUST.ALM.CTRL.EN 0, 1), (CRUST.STATUS.TIME_LOST, 0)] rdyDev, by decide +kernel⟩
theorem witness_CrustComplete_10_compStep :
    ∃ (temp : Int) (d : Dev), ¬ (¬ d.crust.vaux ∧ ¬ d.crust.vbat) :=
  ⟨25, { rdyDev with crust := { rdyDev.crust with vaux := true } }, by decide +kernel⟩
theorem witness_CrustComplete_11_calendarEnd :
    ∃ (d : Dev), ¬ (timeLost d) :=
  ⟨wrs [(CRUST.STATUS.TIME_LOST, 0)] rdyDev, by decide +kernel⟩
theorem witness_CrustComplete_12_rtcSet :
    ∃ (h : CmdHdr) (secs : Nat) (s : State) (d : Dev), d = begun { unit := 2, op := 0x101, c := true } h s.dev ∧ Ready { unit := 2, op := 0x101, c := true } h s ∧ inCalRange d (secs % 2 ^ 48) = true :=
  ⟨hdr [], calFirst, onDev (rdyDev), _, rfl, by decide +kernel, by decide +kernel⟩
theorem witness_CrustComplete_13_rtcSet :
    ∃ (h : CmdHdr) (secs : Nat) (s : State) (d : Dev), d = begun { unit := 2, op := 0x101, c := true } h s.dev ∧ Ready { unit := 2, op := 0x101, c := true } h s ∧ svcValid d = true ∧ inCalRange d (svcSec d + 1) = true :=
  ⟨hdr [], 0, onDev ({ wrs [(TIME.SVC.STAT.VALID, 1), (TIME.SVC.STAT.STATE, 3)] rdyDev with time := { rdyDev.time with svc := 946684800 * 1000000000 * 2 ^ 32 } }), _, rfl, by decide +kernel, by decide +kernel⟩
theorem witness_CrustComplete_14_rtcSet :
    ∃ (h : CmdHdr) (secs : Nat) (s : State) (d : Dev), d = begun { unit := 2, op := 0x101, c := true } h s.dev ∧ Ready { unit := 2, op := 0x101, c := true } h s ∧ svcValid d = true ∧ timeLost d = false ∧ (rtcOffset d).natAbs ≤ hundredMs :=
  ⟨hdr [], 0, onDev (wrs [(TIME.SVC.STAT.VALID, 1), (TIME.SVC.STAT.STATE, 3), (CRUST.STATUS.TIME_LOST, 0)] rdyDev), _, rfl, by decide +kernel, by decide +kernel⟩
theorem witness_CrustComplete_15_rtcStep :
    ∃ (p : RtcSet) (rest : List RtcSet) (d : Dev), d.crust.pendingSets = p :: rest ∧ p.mode = 0 :=
  ⟨{ hdr := hdr [], cseq := none, mode := 0, secs := 5 }, [], { rdyDev with crust := { rdyDev.crust with pendingSets := [{ hdr := hdr [], cseq := none, mode := 0, secs := 5 }] } }, by decide +kernel⟩
theorem witness_CrustComplete_16_cntIncr :
    ∃ (h : CmdHdr) (n : Nat) (s : State) (d : Dev), d = begun { unit := 2, op := 0x102, c := true } h s.dev ∧ Ready { unit := 2, op := 0x102, c := true } h s ∧ n ≤ 15 ∧ 4 ≤ n ∧ ¬ (countLost d) ∧ d.rd (CRUST.CNT.VALUE n) ≠ 0xFFFFFFFF :=
  ⟨hdr [], 4, onDev (wrs [(CRUST.STATUS.COUNT_LOST, 0)] rdyDev), _, rfl, by decide +kernel, by decide +kernel⟩
theorem witness_CrustComplete_17_tamperCfg :
    ∃ (h : CmdHdr) (v : Nat) (s : State) (d : Dev), d = begun { unit := 2, op := 0x103, c := true } h s.dev ∧ Ready { unit := 2, op := 0x103, c := true } h s ∧ ((List.range 4).any fun n => (d.flag (tampEn n) && !bitOf v (8 * n + 7)) || (d.flag (tampZero n) && !bitOf v (8 * n + 3))) = false :=
  ⟨hdr [], 0x80, onDev (rdyDev), _, rfl, by decide +kernel, by decide +kernel⟩
theorem witness_CrustComplete_18_tamperEvent :
    ∃ (n : Fin 4) (level : Bool) (heldNs : Nat) (d : Dev), d.flag (tampEn n.val) = true ∧ level = d.flag (tampPol n.val) ∧ filtNs (d.rd (tampFilt n.val)) ≤ heldNs ∧ bitOf d.pins.tamper n.val ≠ level ∧ d.crust.vaux = true ∧ timeLost d = false ∧ d.crust.tamperLog.length < 16 ∧ d.flag (tampZero n.val) = false ∧ d.flag (tampSafe n.val) = false ∧ d.flag (tampWake n.val) = false :=
  ⟨1, false, 100000000000, { wrs [(tampEn 1, 1), (CRUST.STATUS.TIME_LOST, 0)] rdyDev with crust := { rdyDev.crust with vaux := true }, pins := { rdyDev.pins with tamper := 15 } }, by decide +kernel⟩
theorem witness_CrustComplete_19_tamperEvent :
    ∃ (n : Fin 4) (level : Bool) (heldNs : Nat) (d : Dev), d.flag (tampEn n.val) = false ∧ bitOf d.pins.tamper n.val ≠ level :=
  ⟨1, false, 0, { rdyDev with pins := { rdyDev.pins with tamper := 15 } }, by decide +kernel⟩
theorem witness_CrustComplete_26_crpReadLastGasp :
    ∃ (code : Fin 256) (d : Dev), 0x10 ≤ code.val ∧ code.val ≤ 0x17 ∧ d.crust.vaux = true :=
  ⟨0x10, {}, by decide +kernel⟩
theorem witness_CrustComplete_27_crpReadLastGasp :
    ∃ (code : Fin 256) (d : Dev), code.val = 0 ∨ (6 < code.val ∧ code.val < 0x10) ∨ 0x17 < code.val :=
  ⟨0x18, {}, by decide +kernel⟩
theorem witness_CrustComplete_28_crpWake :
    ∃ (d : Dev), d.crust.vaux = true ∧ d.flag CRUST.RTC_CFG.PORT_WAKE = true :=
  ⟨{ wrs [(CRUST.RTC_CFG.PORT_WAKE, 1)] rdyDev with crust := { rdyDev.crust with vaux := true } }, by decide +kernel⟩
theorem witness_CrustComplete_29_alertClr :
    ∃ (d : Dev), d.crust.vaux = true :=
  ⟨{ rdyDev with crust := { rdyDev.crust with vaux := true } }, by decide +kernel⟩
theorem witness_CrustComplete_30_alertResponse :
    ∃ (d : Dev), d.crust.vaux ∧ d.crust.alert ≠ 0 :=
  ⟨{ rdyDev with crust := { rdyDev.crust with vaux := true, alert := 1 } }, by decide +kernel⟩
theorem witness_TimeComplete_0_domSelect :
    ∃ (h : CmdHdr) (dom auto : Nat) (s : State) (d : Dev), d = begun { unit := 2, op := 1, c := true, isl := [10] } h s.dev ∧ Ready { unit := 2, op := 1, c := true, isl := [10] } h s ∧ dom ≤ 1 ∧ auto ≤ 1 ∧ d.flag (TIME.DOM.CFG.EN dom) ∧ domState d dom = 3 :=
  ⟨hdr [], 0, 0, onDev (wrs [(TIME.DOM.CFG.EN 0, 1), (TIME.DOM.STAT.STATE 0, 3)] rdyDev), _, rfl, by decide +kernel, by decide +kernel⟩
theorem witness_TimeComplete_1_tbLoad :
    ∃ (h : CmdHdr) (n v : Nat) (s : State) (d : Dev), d = begun { unit := 2, op := 4, c := true, isl := [10] } h s.dev ∧ Ready { unit := 2, op := 4, c := true, isl := [10] } h s ∧ n ≤ 3 ∧ d.rd (TIME.TB.CFG.SRC n) = 0 :=
  ⟨hdr [], 0, 5, onDev (rdyDev), _, rfl, by decide +kernel, by decide +kernel⟩
theorem witness_TimeComplete_3_announceTimeout :
    ∃ (dom : Fin 2) (q : Fin 6) (d : Dev), domState d dom.val ≠ 0 :=
  ⟨0, 0, wrs [(TIME.DOM.STAT.STATE 0, 1)] rdyDev, by decide +kernel⟩
theorem witness_TimeComplete_6_ptpTxInterval :
    ∃ (dom : Fin 2) (q : Fin 6) (d : Dev), domState d dom.val ≠ 0 ∧ domainsOn d = true ∧ bitOf (d.rd (TIME.DOM.CFG.PORTS dom.val)) q.val = true ∧ bitOf (d.rd (ETH.PORT.CFG.ROLE q.val)) 0 = true ∧ ethState d q.val = 2 ∧ d.flag (ETH.PORT.STAT.LINK q.val) = true ∧ masterPort d dom.val q.val = true :=
  ⟨0, 0, wrs [(TIME.DOM.STAT.STATE 0, 5), (TIME.DOM.CFG.PORTS 0, 1), (ETH.PORT.CFG.ROLE 0, 1), (ETH.PORT.STAT.PSTATE 0, 2), (ETH.PORT.STAT.LINK 0, 1)] rdyDev, by decide +kernel⟩
theorem witness_TimeComplete_7_txtsStale :
    ∃ (q : Fin 6) (x : TxStamp) (rest : List TxStamp) (d : Dev), lookD d.time.txts q.val [] = x :: rest ∧ x.twoStep = false :=
  ⟨0, { ident := 0, ns := 0, twoStep := false }, [], { rdyDev with time := { rdyDev.time with txts := [(0, [{ ident := 0, ns := 0, twoStep := false }])] } }, by decide +kernel⟩
theorem witness_TimeComplete_8_revertTimer :
    ∃ (d : Dev), d.flag TIME.SVC.CFG.AUTO ∧ d.flag TIME.SVC.CFG.REVERT ∧ domState d (d.rd TIME.SVC.CFG.PREF) = 3 :=
  ⟨wrs [(TIME.SVC.CFG.AUTO, 1), (TIME.SVC.CFG.REVERT, 1), (TIME.DOM.STAT.STATE 0, 3)] rdyDev, by decide +kernel⟩
theorem witness_TimeComplete_9_holdValidExpiry :
    ∃ (d : Dev), svcState d = 4 :=
  ⟨wrs [(TIME.SVC.STAT.STATE, 4)] rdyDev, by decide +kernel⟩
theorem witness_TimeComplete_10_temposStart :
    ∃ (d : Dev), ¬ (d.flag TIME.SVC.STAT.TEMPOS_RUN) ∧ ((opState d = 3 ∨ opState d = 4)) :=
  ⟨wrs [(TIME.SVC.STAT.TEMPOS_RUN, 0)] rdyDev, by decide +kernel⟩
theorem witness_TimeComplete_11_trigCapture :
    ∃ (k : Fin 2) (rise : Bool) (d : Dev), d.flag (TIME.TRIG.CFG.EN k.val) ∧ (if (d.rd (TIME.TRIG.CFG.EDGE k.val)) = 3 then true else if (d.rd (TIME.TRIG.CFG.EDGE k.val)) = 2 then !rise else rise) ∧ islandOn d 10 ∧ (lookD d.time.trigQ k.val []).length < 4 :=
  ⟨0, true, wrs [(TIME.TRIG.CFG.EN 0, 1), (TIME.TRIG.CFG.EDGE 0, 3)] rdyDev, by decide +kernel⟩
theorem witness_TimeComplete_12_ppsPulse :
    ∃ (k : Fin 2) (d : Dev), d.flag (TIME.PPS.CFG.EN k.val) ∧ ¬ (d.flag (TIME.PPS.CFG.MODE k.val)) ∧ islandOn d 10 :=
  ⟨0, wrs [(TIME.PPS.CFG.EN 0, 1), (TIME.PPS.CFG.MODE 0, 0)] rdyDev, by decide +kernel⟩
theorem witness_TimeComplete_13_ppsCompare :
    ∃ (k : Fin 2) (d : Dev), d.time.ppsArmed.contains k.val :=
  ⟨0, { rdyDev with time := { rdyDev.time with ppsArmed := [0] } }, by decide +kernel⟩
theorem witness_EthernetComplete_0_portAddr :
    ∃ (h : CmdHdr) (s : State) (d : Dev), d = begun { unit := 2, op := 2, c := true, isl := [10] } h s.dev ∧ Ready { unit := 2, op := 2, c := true, isl := [10] } h s ∧ sendOk h 384 ∧ (chunksOf 64 6 (inBuf h d)).all addrRecordOk :=
  ⟨hdr [(64, 384)], onDev (rdyDev), _, rfl, by decide +kernel, by decide +kernel⟩
theorem witness_EthernetComplete_1_portPower :
    ∃ (h : CmdHdr) (port : Nat) (s : State) (d : Dev), d = begun { unit := 2, op := 3, c := true, isl := [10] } h s.dev ∧ Ready { unit := 2, op := 3, c := true, isl := [10] } h s ∧ port ≤ 5 ∧ badFunc (ethRequest port true d) (106 + port) = false ∧ ethState (ethRequest port true d) port = 1 ∧ ¬ ((ethRequest port true d).flag (ETH.PORT.STAT.CFG_ERR port) = true ∧ ethState (ethRequest port true d) port = 0) :=
  ⟨hdr [], 0, onDev (wrs [(ETH.PORT.CFG.MODE 0, 1)] rdyDev), _, rfl, by decide +kernel, by decide +kernel⟩
theorem witness_EthernetComplete_2_portPower :
    ∃ (h : CmdHdr) (port : Nat) (s : State) (d : Dev), d = begun { unit := 2, op := 3, c := true, isl := [10] } h s.dev ∧ Ready { unit := 2, op := 3, c := true, isl := [10] } h s ∧ port ≤ 5 ∧ ethState (ethRequest port false d) port = 3 :=
  ⟨hdr [], 0, onDev (wrs [(ETH.PORT.STAT.PSTATE 0, 2), (ETH.PORT.CFG.EN 0, 1)] rdyDev), _, rfl, by decide +kernel, by decide +kernel⟩
theorem witness_EthernetComplete_3_portStopEnd :
    ∃ (q : Fin 6) (d : Dev), ethState d q.val = 3 :=
  ⟨0, wrs [(ETH.PORT.STAT.PSTATE 0, 3)] rdyDev, by decide +kernel⟩
theorem witness_EthernetComplete_4_portStartEnd :
    ∃ (q : Fin 6) (d : Dev), ethState d q.val = 1 :=
  ⟨0, wrs [(ETH.PORT.STAT.PSTATE 0, 1)] rdyDev, by decide +kernel⟩
theorem witness_EthernetComplete_6_linkChange :
    ∃ (q : Fin 6) (up : Bool) (speed : Fin 3) (d : Dev), up :=
  ⟨0, true, 2, wrs [(ETH.PORT.STAT.PSTATE 0, 2)] rdyDev, by decide +kernel⟩
theorem witness_EthernetComplete_7_linkChange :
    ∃ (q : Fin 6) (up : Bool) (speed : Fin 3) (d : Dev), ¬ (up) :=
  ⟨0, false, 2, rdyDev, by decide +kernel⟩
theorem witness_EthernetComplete_8_frameRx :
    ∃ (q : Fin 6) (f : EthFrame) (d : Dev), (ethUp d q.val = true ∨ (ethState d q.val = 2 ∧ d.flag (ETH.PORT.STAT.LINK q.val) = true)) ∧ islandOn d 10 = true ∧ ethTakes d q.val f = true :=
  ⟨0, { kind := .other, len := 64, dst := 0xFFFFFFFFFFFF }, wrs [(ETH.PORT.STAT.PSTATE 0, 2), (ETH.PORT.STAT.LINK 0, 1)] rdyDev, by decide +kernel⟩
theorem witness_EthernetComplete_9_prpSupervision :
    ∃ (pair : Fin 2) (d : Dev), prpOn d pair.val ∧ ((opState d = 3 ∨ opState d = 4)) ∧ ¬ (ethState d (2 * pair.val) ≠ 2 ∧ ethState d (2 * pair.val + 1) ≠ 2) :=
  ⟨0, wrs [(ETH.PORT.STAT.PSTATE 0, 2), (ETH.PRP.CFG.EN 0, 1)] rdyDev, by decide +kernel⟩
theorem witness_EthernetComplete_10_prpLanTimeout :
    ∃ (pair : Fin 2) (lanB : Bool) (d : Dev), prpOn d pair.val ∧ d.flag (if lanB then ETH.PRP.STAT.LAN_B_OK pair.val else ETH.PRP.STAT.LAN_A_OK pair.val) :=
  ⟨0, false, wrs [(ETH.PRP.STAT.LAN_A_OK 0, 1), (ETH.PRP.CFG.EN 0, 1)] rdyDev, by decide +kernel⟩
theorem witness_EthernetComplete_13_diagBar0Read :
    ∃ (q : Fin 6) (ident off len : Nat) (d : Dev), len ≤ 1400 ∧ off % 4 = 0 ∧ len % 4 = 0 ∧ off + len ≤ 0x2000000 :=
  ⟨0, 1, 0, 4, rdyDev, by decide +kernel⟩
theorem witness_EthernetComplete_14_diagProofReport :
    ∃ (q : Fin 6) (ident off len : Nat) (d : Dev), opState d ≠ 2 :=
  ⟨0, 1, 0, 4, rdyDev, by decide +kernel⟩
theorem witness_EthernetComplete_15_diagFaultRecords :
    ∃ (q : Fin 6) (ident first len : Nat) (d : Dev), len ≤ 1400 ∧ first ≤ 191 :=
  ⟨0, 1, 0, 4, rdyDev, by decide +kernel⟩
theorem witness_EthernetComplete_16_diagRecorderRecords :
    ∃ (q : Fin 6) (ident seq len : Nat) (d : Dev), len ≤ 1400 :=
  ⟨0, 1, 0, 4, rdyDev, by decide +kernel⟩
theorem witness_CanComplete_0_canClkRecovery :
    ∃ (d : Dev), islandOn d 11 = true :=
  ⟨rdyDev, by decide +kernel⟩
theorem witness_CanComplete_1_canClkRecovery :
    ∃ (d : Dev), islandOn d 11 = false :=
  ⟨wrs [(PWR.ISL_STAT.STATE 11, 0)] rdyDev, by decide +kernel⟩
theorem witness_CanComplete_2_canPower :
    ∃ (h : CmdHdr) (ch : Nat) (s : State) (d : Dev), d = begun { unit := 3, op := 1, c := true, isl := [11] } h s.dev ∧ Ready { unit := 3, op := 1, c := true, isl := [11] } h s ∧ ch ≤ 15 ∧ badFunc d (115 + ch) = false ∧ canState (commitField (CAN.CTRL.EN ch) (canRequest ch true d)) ch = 1 :=
  ⟨hdr [], 0, onDev (wrs [(CAN.STAT.CSTATE 0, 1)] rdyDev), _, rfl, by decide +kernel, by decide +kernel⟩
theorem witness_CanComplete_3_canPower :
    ∃ (h : CmdHdr) (ch : Nat) (s : State) (d : Dev), d = begun { unit := 3, op := 1, c := true, isl := [11] } h s.dev ∧ Ready { unit := 3, op := 1, c := true, isl := [11] } h s ∧ ch ≤ 15 ∧ canState (commitField (CAN.CTRL.EN ch) (canRequest ch false d)) ch = 4 :=
  ⟨hdr [], 0, onDev (wrs [(CAN.STAT.CSTATE 0, 2), (CAN.CTRL.EN 0, 1)] rdyDev), _, rfl, by decide +kernel, by decide +kernel⟩
theorem witness_CanComplete_4_canPower :
    ∃ (h : CmdHdr) (ch : Nat) (s : State) (d : Dev), d = begun { unit := 3, op := 1, c := true, isl := [11] } h s.dev ∧ Ready { unit := 3, op := 1, c := true, isl := [11] } h s ∧ ch ≤ 15 ∧ canState d ch = 2 :=
  ⟨hdr [], 0, onDev (wrs [(CAN.STAT.CSTATE 0, 2)] rdyDev), _, rfl, by decide +kernel, by decide +kernel⟩
theorem witness_CanComplete_5_canPower :
    ∃ (h : CmdHdr) (ch : Nat) (s : State) (d : Dev), d = begun { unit := 3, op := 1, c := true, isl := [11] } h s.dev ∧ Ready { unit := 3, op := 1, c := true, isl := [11] } h s ∧ ch ≤ 15 ∧ canState d ch = 3 :=
  ⟨hdr [], 0, onDev (wrs [(CAN.STAT.CSTATE 0, 3)] rdyDev), _, rfl, by decide +kernel, by decide +kernel⟩
theorem witness_CanComplete_6_canTx :
    ∃ (h : CmdHdr) (ch obj dlc flags : Nat) (inline : List Byte) (s : State) (d : Dev), d = begun { unit := 3, op := 2, isl := [11] } h s.dev ∧ Ready { unit := 3, op := 2, isl := [11] } h s ∧ ch ≤ 15 ∧ obj ≤ 127 ∧ ¬ (chanOff d ch) ∧ ¬ (objOwned d ch obj) ∧ isTxObj d ch obj ∧ ¬ (d.flag (CAN.OBJ.STAT.TXREQ ch obj)) ∧ ¬ ((d.flag (CAN.OBJ.CFG.FDF ch obj)) ∧ (¬ d.flag (CAN.CTRL.FD_EN ch) ∨ d.flag (CAN.OBJ.CFG.RTR ch obj))) ∧ ¬ (h.bufs = [] ∧ 40 < (dlcBytes (d.flag (CAN.OBJ.CFG.FDF ch obj)) (dlc % 16))) ∧ ¬ (h.bufs ≠ [] ∧ ¬ sendOk h (dlcBytes (d.flag (CAN.OBJ.CFG.FDF ch obj)) (dlc % 16))) :=
  ⟨hdr [], 0, 0, 1, 0, [], onDev (wrs [(CAN.STAT.CSTATE 0, 2), (CAN.OBJ.CFG.USE 0 0, 1), (CAN.OBJ.CFG.DIR 0 0, 1)] rdyDev), _, rfl, by decide +kernel, by decide +kernel⟩
theorem witness_CanComplete_7_canCancel :
    ∃ (h : CmdHdr) (ch obj : Nat) (phase : Fin 3) (s : State) (d : Dev), d = begun { unit := 3, op := 3, isl := [11] } h s.dev ∧ Ready { unit := 3, op := 3, isl := [11] } h s ∧ ch ≤ 15 ∧ obj ≤ 127 ∧ ¬ (objOwned d ch obj) ∧ d.flag (CAN.OBJ.STAT.TXREQ ch obj) ∧ (phase.val = 0 ∨ canDrives d ch obj = false) :=
  ⟨hdr [], 0, 0, 0, onDev (wrs [(CAN.STAT.CSTATE 0, 2), (CAN.OBJ.CFG.USE 0 0, 1), (CAN.OBJ.CFG.DIR 0 0, 1), (CAN.OBJ.STAT.TXREQ 0 0, 1)] rdyDev), _, rfl, by decide +kernel, by decide +kernel⟩
theorem witness_CanComplete_8_canCancel :
    ∃ (h : CmdHdr) (ch obj : Nat) (phase : Fin 3) (s : State) (d : Dev), d = begun { unit := 3, op := 3, isl := [11] } h s.dev ∧ Ready { unit := 3, op := 3, isl := [11] } h s ∧ ch ≤ 15 ∧ obj ≤ 127 ∧ ¬ (objOwned d ch obj) ∧ d.flag (CAN.OBJ.STAT.TXREQ ch obj) ∧ phase.val ≠ 0 ∧ canDrives d ch obj = true :=
  ⟨hdr [], 0, 0, 1, onDev (setCan 0 { cancels := [0] } (wrs [(CAN.STAT.CSTATE 0, 2), (CAN.OBJ.CFG.USE 0 0, 1), (CAN.OBJ.CFG.DIR 0 0, 1), (CAN.OBJ.STAT.TXREQ 0 0, 1)] rdyDev)), _, rfl, by decide +kernel, by decide +kernel⟩
theorem witness_CanComplete_9_canRxRead :
    ∃ (h : CmdHdr) (ch first count : Nat) (s : State) (d : Dev), d = begun { unit := 3, op := 4, isl := [11], kw := true } h s.dev ∧ Ready { unit := 3, op := 4, isl := [11], kw := true } h s ∧ ch ≤ 15 ∧ first ≤ 127 ∧ 1 ≤ count ∧ count ≤ 128 ∧ ¬ (((List.range 128).filter fun k => first ≤ k && k < first + count).any (objOwned d ch)) ∧ recvOk h (80 * count) :=
  ⟨hdr [(64, 80)], 0, 0, 1, onDev (rdyDev), _, rfl, by decide +kernel, by decide +kernel⟩
theorem witness_CanComplete_10_canHpbRead :
    ∃ (h : CmdHdr) (ch : Nat) (s : State) (d : Dev), d = begun { unit := 3, op := 5, isl := [11], kw := true } h s.dev ∧ Ready { unit := 3, op := 5, isl := [11], kw := true } h s ∧ ch ≤ 15 ∧ recvOk h 320 :=
  ⟨hdr [(64, 320)], 0, onDev (rdyDev), _, rfl, by decide +kernel, by decide +kernel⟩
theorem witness_CanComplete_11_canResume :
    ∃ (h : CmdHdr) (ch : Nat) (s : State) (d : Dev), d = begun { unit := 3, op := 6, isl := [11] } h s.dev ∧ Ready { unit := 3, op := 6, isl := [11] } h s ∧ ch ≤ 15 :=
  ⟨hdr [], 0, onDev (rdyDev), _, rfl, by decide +kernel, by decide +kernel⟩
theorem witness_CanComplete_12_canBoRecover :
    ∃ (h : CmdHdr) (ch : Nat) (s : State) (d : Dev), d = begun { unit := 3, op := 7, isl := [11] } h s.dev ∧ Ready { unit := 3, op := 7, isl := [11] } h s ∧ ch ≤ 15 ∧ d.flag (CAN.STAT.BO_WAIT ch) :=
  ⟨hdr [], 0, onDev (wrs [(CAN.STAT.BO_WAIT 0, 1)] rdyDev), _, rfl, by decide +kernel, by decide +kernel⟩
theorem witness_CanComplete_13_canStartEnd :
    ∃ (n : Fin 16) (d : Dev), canState d n.val = 1 :=
  ⟨0, wrs [(CAN.STAT.CSTATE 0, 1)] rdyDev, by decide +kernel⟩
theorem witness_CanComplete_14_canStopEnd :
    ∃ (n : Fin 16) (d : Dev), canState d n.val = 4 :=
  ⟨0, wrs [(CAN.STAT.CSTATE 0, 4)] rdyDev, by decide +kernel⟩
theorem witness_CanComplete_15_canStopTimeout :
    ∃ (n : Fin 16) (d : Dev), canState d n.val = 4 :=
  ⟨0, wrs [(CAN.STAT.CSTATE 0, 4)] rdyDev, by decide +kernel⟩
theorem witness_CanComplete_17_canFrameRx :
    ∃ (n : Fin 16) (f : CanFrame) (age : Nat) (d : Dev), islandOn d 11 = true ∧ canServes d = true ∧ ¬ (f.fdf = true ∧ ¬ d.flag (CAN.CTRL.FD_EN n.val) = true) ∧ (canState d n.val = 2 ∨ canState d n.val = 4) :=
  ⟨0, { id := 5, dlc := 0, data := [] }, 0, wrs [(CAN.STAT.CSTATE 0, 2)] rdyDev, by decide +kernel⟩
theorem witness_CanComplete_18_canFrameRx :
    ∃ (n : Fin 16) (f : CanFrame) (age : Nat) (d : Dev), islandOn d 11 = true ∧ canServes d = true ∧ ¬ (f.fdf = true ∧ ¬ d.flag (CAN.CTRL.FD_EN n.val) = true) ∧ canState d n.val = 3 ∧ d.rd (CAN.CTRL.WAKE_MODE n.val) = 2 :=
  ⟨0, { id := 5, dlc := 0, data := [] }, 0, wrs [(CAN.STAT.CSTATE 0, 3), (CAN.CTRL.WAKE_MODE 0, 2)] rdyDev, by decide +kernel⟩
theorem witness_CanComplete_19_canTxEnd :
    ∃ (n : Fin 16) (r : CanEnd) (tdcv age : Nat) (d : Dev), islandOn d 11 ∧ canServes d ∧ ((canState d n.val = 2 ∨ canState d n.val = 4)) ∧ canMode d n.val ≠ 1 :=
  ⟨0, .success 0, 0, 0, wrs [(CAN.STAT.CSTATE 0, 2), (CAN.OBJ.CFG.USE 0 0, 1), (CAN.OBJ.CFG.DIR 0 0, 1), (CAN.OBJ.STAT.TXREQ 0 0, 1)] rdyDev, by decide +kernel⟩
theorem witness_CanComplete_20_busoffRecoveryEnd :
    ∃ (n : Fin 16) (d : Dev), canState d n.val = 5 ∧ ¬ (d.flag (CAN.STAT.BO_WAIT n.val)) :=
  ⟨0, wrs [(CAN.STAT.CSTATE 0, 5)] rdyDev, by decide +kernel⟩
theorem witness_CanComplete_21_sleepEntry :
    ∃ (n : Fin 16) (d : Dev), canState d n.val = 2 ∧ (canSt d n.val).sleepReq :=
  ⟨0, setCan 0 { sleepReq := true } (wrs [(CAN.STAT.CSTATE 0, 2)] rdyDev), by decide +kernel⟩
theorem witness_CanComplete_22_canWake :
    ∃ (n : Fin 16) (d : Dev), canState d n.val = 3 ∧ d.rd (CAN.CTRL.WAKE_MODE n.val) = 1 :=
  ⟨0, wrs [(CAN.STAT.CSTATE 0, 3), (CAN.CTRL.WAKE_MODE 0, 1)] rdyDev, by decide +kernel⟩
theorem witness_CanComplete_23_protocolException :
    ∃ (n : Fin 16) (d : Dev), islandOn d 11 ∧ (canState d n.val = 2 ∨ canState d n.val = 4) :=
  ⟨0, wrs [(CAN.STAT.CSTATE 0, 2)] rdyDev, by decide +kernel⟩
theorem witness_CanComplete_24_canRxError :
    ∃ (n : Fin 16) (code : Fin 7) (dataPhase plus8 : Bool) (d : Dev), islandOn d 11 ∧ ((canState d n.val = 2 ∨ canState d n.val = 4)) ∧ code.val ≠ 0 :=
  ⟨0, 1, false, false, wrs [(CAN.STAT.CSTATE 0, 2)] rdyDev, by decide +kernel⟩
theorem witness_SessionCommandsComplete_0_sessCfg :
    ∃ (h : CmdHdr) (n : Nat) (s : State) (d : Dev), d = begun { unit := 4, op := 1, c := true, isl := [11] } h s.dev ∧ Ready { unit := 4, op := 1, c := true, isl := [11] } h s ∧ n ≤ 4095 ∧ sendOk h 32 ∧ ¬ (sessEn d n) ∧ sessState d n = 0 :=
  ⟨hdr [(64, 32)], 1, onDev (rdyDev), _, rfl, by decide +kernel, by decide +kernel⟩
theorem witness_SessionCommandsComplete_1_sessPower :
    ∃ (h : CmdHdr) (n : Nat) (s : State) (d : Dev), d = begun { unit := 4, op := 2, c := true, isl := [2, 11] } h s.dev ∧ Ready { unit := 4, op := 2, c := true, isl := [2, 11] } h s ∧ n ≤ 4095 ∧ slicesFit d n = true ∧ sessRefused (d.wr (SESS.CTX.CFG.EN n) 1) n = none ∧ (commitField (SESS.CTX.CFG.EN n) (sessRequest n true d)).flag (SESS.CTX.STAT.PENDING_REARM n) = false ∧ sessState (commitField (SESS.CTX.CFG.EN n) (sessRequest n true d)) n = 0 :=
  ⟨hdr [], 1, onDev (wrs [(SESS.CTX.CFG.TRANSPORT 1, 1)] rdyDev), _, rfl, by decide +kernel, by decide +kernel⟩
theorem witness_SessionCommandsComplete_2_sessPower :
    ∃ (h : CmdHdr) (n : Nat) (s : State) (d : Dev), d = begun { unit := 4, op := 2, c := true, isl := [2, 11] } h s.dev ∧ Ready { unit := 4, op := 2, c := true, isl := [2, 11] } h s ∧ n ≤ 4095 :=
  ⟨hdr [], 1, onDev (rdyDev), _, rfl, by decide +kernel, by decide +kernel⟩
theorem witness_SessionCommandsComplete_3_sessRead :
    ∃ (h : CmdHdr) (first count : Nat) (s : State) (d : Dev), d = begun { unit := 4, op := 3, isl := [11], kw := true } h s.dev ∧ Ready { unit := 4, op := 3, isl := [11], kw := true } h s ∧ first ≤ 4095 ∧ count ≠ 0 ∧ count ≤ 256 ∧ recvOk h (16 * count) :=
  ⟨hdr [(64, 16)], 0, 1, onDev (rdyDev), _, rfl, by decide +kernel, by decide +kernel⟩
theorem witness_SessionCommandsComplete_4_sessParam :
    ∃ (h : CmdHdr) (n rw len param : Nat) (s : State) (d : Dev), d = begun { unit := 4, op := 4, isl := [11] } h s.dev ∧ Ready { unit := 4, op := 4, isl := [11] } h s ∧ n ≤ 4095 ∧ rw ≤ 1 ∧ len ≤ 58 ∧ param ≤ 65535 ∧ ¬ (len ≠ 0 ∧ ¬ (if rw = 1 then sendOk h len else recvOk h len)) ∧ ¬ (sessState d n ≠ 2 ∧ sessState d n ≠ 5) ∧ (toBytes 1 (d.rd (SESS.CTX.STAT.EPOCH n)) ++ toBytes 1 (sessSt d n).paramId ++ toBytes 1 rw ++ toBytes 1 len ++ toBytes 2 param ++ (if rw = 1 ∧ len ≠ 0 then inBuf h d else [])).length ≤ pduLimit d n :=
  ⟨hdr [], 1, 0, 0, 5, onDev (wrs [(SESS.CTX.CFG.TRANSPORT 1, 1), (SESS.CTX.STAT.STATE 1, 2)] rdyDev), _, rfl, by decide +kernel, by decide +kernel⟩
theorem witness_SessionCommandsComplete_5_sessBcast :
    ∃ (h : CmdHdr) (sub cans ports : Nat) (s : State) (d : Dev), d = begun { unit := 4, op := 5, c := true, isl := [11] } h s.dev ∧ Ready { unit := 4, op := 5, c := true, isl := [11] } h s ∧ ((sub = 2 ∨ sub = 3)) ∧ cans < 2 ^ 16 ∧ ports < 64 :=
  ⟨hdr [], 2, 1, 0, onDev (rdyDev), _, rfl, by decide +kernel, by decide +kernel⟩
theorem witness_SessionCommandsComplete_6_sessEnWrite :
    ∃ (p : Fin 2) (n : Fin 4096) (v : Nat) (d : Dev), writable p.val (sessCtx n.val) d = true :=
  ⟨0, 1, 1, rdyDev, by decide +kernel⟩
theorem witness_SessionPdusComplete_0_joinRequest :
    ∃ (n : Fin 4096) (p : PduIn) (d : Dev), pduFirst p = some (0, n.val) :=
  ⟨1, .udp 0 (dg 0 1 3 []), sessDev, by decide +kernel⟩
theorem witness_SessionPdusComplete_1_joinRequest :
    ∃ (n : Fin 4096) (q : Fin 6) (g : Datagram) (u : DgPdu) (d : Dev), PduArrives n.val 0 q g u d ∧ 16 ≤ u.data.length :=
  ⟨1, 0, dg 0 1 3 (List.replicate 16 0), dgu 0 1 3 (List.replicate 16 0), sessDev, by decide +kernel⟩
theorem witness_SessionPdusComplete_2_pollResponse :
    ∃ (n : Fin 4096) (p : PduIn) (d : Dev), pduFirst p = some (1, n.val) :=
  ⟨1, .udp 0 (dg 1 1 3 []), sessDev, by decide +kernel⟩
theorem witness_SessionPdusComplete_3_pollResponse :
    ∃ (n : Fin 4096) (q : Fin 6) (g : Datagram) (u : DgPdu) (t : Nat) (d : Dev), PduOk n.val 1 q g u d ∧ sessState d n.val ≠ 4 ∧ (sessSt d n.val).pollAt = some t ∧ fieldAt u.data 1 1 = (sessSt d n.val).pollSeq ∧ d.up ≤ t + respNs d n.val ∧ fieldAt u.data 2 1 ≤ 2 :=
  ⟨1, 0, dg 1 1 3 (List.replicate 8 0), dgu 1 1 3 (List.replicate 8 0), 0, sessDev, by decide +kernel⟩
theorem witness_SessionPdusComplete_4_outConfirmation :
    ∃ (n : Fin 4096) (p : PduIn) (d : Dev), pduFirst p = some (2, n.val) ∨ pduFirst p = some (3, n.val) :=
  ⟨1, .udp 0 (dg 2 1 3 []), sessDev, by decide +kernel⟩
theorem witness_SessionPdusComplete_5_outConfirmation :
    ∃ (n : Fin 4096) (q : Fin 6) (g : Datagram) (u : DgPdu) (d : Dev), PduOk n.val 2 q g u d ∧ (sessSt d n.val).lastOut.isSome = true ∧ fieldAt u.data 1 1 = d.rd (SESS.CTX.OUTSEQ.SENT n.val) ∧ fieldAt u.data 2 4 = (sessSt d n.val).crc :=
  ⟨1, 0, dg 2 1 3 (List.replicate 7 0), dgu 2 1 3 (List.replicate 7 0), sessDev, by decide +kernel⟩
theorem witness_SessionPdusComplete_6_outConfirmation :
    ∃ (n : Fin 4096) (q : Fin 6) (g : Datagram) (u : DgPdu) (d : Dev), PduOk n.val 3 q g u d ∧ fieldAt u.data 1 1 = (sessSt d n.val).spSeq ∧ fieldAt u.data 2 4 = 0 ∧ fieldAt u.data 6 1 ≠ 0 :=
  ⟨1, 0, dg 3 1 3 (List.replicate 6 0 ++ [1]), dgu 3 1 3 (List.replicate 6 0 ++ [1]), sessDev, by decide +kernel⟩
theorem witness_SessionPdusComplete_7_alarmPdu :
    ∃ (n : Fin 4096) (p : PduIn) (d : Dev), pduFirst p = some (4, n.val) :=
  ⟨1, .udp 0 (dg 4 1 3 []), sessDev, by decide +kernel⟩
theorem witness_SessionPdusComplete_8_alarmPdu :
    ∃ (n : Fin 4096) (q : Fin 6) (g : Datagram) (u : DgPdu) (d : Dev), PduOk n.val 4 q g u d :=
  ⟨1, 0, dg 4 1 3 (List.replicate 8 0), dgu 4 1 3 (List.replicate 8 0), sessDev, by decide +kernel⟩
theorem witness_SessionPdusComplete_9_statusAnswer :
    ∃ (n : Fin 4096) (p : PduIn) (d : Dev), pduFirst p = some (5, n.val) :=
  ⟨1, .udp 0 (dg 5 1 3 []), sessDev, by decide +kernel⟩
theorem witness_SessionPdusComplete_10_statusAnswer :
    ∃ (n : Fin 4096) (q : Fin 6) (g : Datagram) (u : DgPdu) (d : Dev), PduOk n.val 5 q g u d :=
  ⟨1, 0, dg 5 1 3 (List.replicate 8 0), dgu 5 1 3 (List.replicate 8 0), sessDev, by decide +kernel⟩
theorem witness_SessionPdusComplete_11_paramAnswer :
    ∃ (n : Fin 4096) (p : PduIn) (d : Dev), pduFirst p = some (6, n.val) :=
  ⟨1, .udp 0 (dg 6 1 3 []), sessDev, by decide +kernel⟩
theorem witness_SessionPdusComplete_12_paramAnswer :
    ∃ (n : Fin 4096) (q : Fin 6) (g : Datagram) (u : DgPdu) (d : Dev), PduOk n.val 6 q g u d ∧ (look (sessSt d n.val).paramAt (fieldAt u.data 1 1)).isSome = true ∧ d.host.waits = [] :=
  ⟨1, 0, dg 6 1 3 (List.replicate 6 0), dgu 6 1 3 (List.replicate 6 0), sessDev, by decide +kernel⟩
theorem witness_SessionPdusComplete_13_leavePdu :
    ∃ (n : Fin 4096) (p : PduIn) (d : Dev), pduFirst p = some (7, n.val) :=
  ⟨1, .udp 0 (dg 7 1 3 []), sessDev, by decide +kernel⟩
theorem witness_SessionPdusComplete_14_leavePdu :
    ∃ (n : Fin 4096) (q : Fin 6) (g : Datagram) (u : DgPdu) (d : Dev), PduOk n.val 7 q g u d ∧ d.flag (SESS.CTX.STAT.STOPPING n.val) = false :=
  ⟨1, 0, dg 7 1 3 (List.replicate 2 0), dgu 7 1 3 (List.replicate 2 0), sessDev, by decide +kernel⟩
theorem witness_SessionTimersComplete_0_pollSlot :
    ∃ (n : Fin 4096) (d : Dev), sessServed d ∧ isPolled d n.val :=
  ⟨1, wrs [(SESS.CTX.STAT.STATE 1, 2)] rdyDev, by decide +kernel⟩
theorem witness_SessionTimersComplete_1_respTimeout :
    ∃ (n : Fin 4096) (t : Nat) (d : Dev), (sessSt d n.val).pollAt = some t ∧ d.rd (SESS.CTX.CFG.RETRY n.val) ≤ (sessSt d n.val).tries :=
  ⟨1, 0, setSess 1 { pollAt := some 0, tries := 7 } rdyDev, by decide +kernel⟩
theorem witness_SessionTimersComplete_2_respTimeout :
    ∃ (n : Fin 4096) (t : Nat) (d : Dev), (sessSt d n.val).outAt = some t :=
  ⟨1, 0, setSess 1 { outAt := some 0 } rdyDev, by decide +kernel⟩
theorem witness_SessionTimersComplete_3_respTimeout :
    ∃ (n : Fin 4096) (id t : Nat) (rest : List (Nat × Nat)) (d : Dev), (sessSt d n.val).paramAt = (id, t) :: rest :=
  ⟨1, 3, 0, [], setSess 1 { paramAt := [(3, 0)] } rdyDev, by decide +kernel⟩
theorem witness_SessionTimersComplete_4_joinTimeout :
    ∃ (n : Fin 4096) (d : Dev), sessState d n.val = 1 :=
  ⟨1, wrs [(SESS.CTX.STAT.STATE 1, 1)] rdyDev, by decide +kernel⟩
theorem witness_SessionTimersComplete_5_lostTimeout :
    ∃ (n : Fin 4096) (d : Dev), sessState d n.val = 3 :=
  ⟨1, wrs [(SESS.CTX.STAT.STATE 1, 3)] rdyDev, by decide +kernel⟩
theorem witness_SessionTimersComplete_6_lostPoll :
    ∃ (n : Fin 4096) (d : Dev), sessServed d ∧ sessState d n.val = 4 :=
  ⟨1, wrs [(SESS.CTX.STAT.STATE 1, 4)] rdyDev, by decide +kernel⟩
theorem witness_SessionTimersComplete_7_sessionStopEnd :
    ∃ (n : Fin 4096) (d : Dev), d.flag (SESS.CTX.STAT.STOPPING n.val) :=
  ⟨1, wrs [(SESS.CTX.STAT.STOPPING 1, 1)] rdyDev, by decide +kernel⟩
theorem witness_SessionTimersComplete_8_sessMinoffEnd :
    ∃ (n : Fin 4096) (d : Dev), (sessSt d n.val).minoff :=
  ⟨1, setSess 1 { minoff := true } rdyDev, by decide +kernel⟩
theorem witness_SessionTimersComplete_9_timeBroadcast :
    ∃ (d : Dev), sessServed d ∧ islandOn d 11 :=
  ⟨rdyDev, by decide +kernel⟩
theorem witness_ProcessIoComplete_0_adcInject :
    ∃ (h : CmdHdr) (sar cfg tim gain ofs param : Nat) (codes refs : List Int) (s : State) (d : Dev), d = begun { unit := 5, op := 1, isl := [9] } h s.dev ∧ Ready { unit := 5, op := 1, isl := [9] } h s ∧ sar ≤ 1 :=
  ⟨hdr [], 0, 0, 0, 0x3F800000, 0, 0, [0], [], onDev (rdyDev), _, rfl, by decide +kernel, by decide +kernel⟩
theorem witness_ProcessIoComplete_1_adcCal :
    ∃ (h : CmdHdr) (sar entry ref : Nat) (s : State) (d : Dev), d = begun { unit := 5, op := 2, c := true, isl := [9] } h s.dev ∧ Ready { unit := 5, op := 2, c := true, isl := [9] } h s ∧ sar ≤ 1 ∧ entry ≤ 255 ∧ d.flag (PIO.ENTRY.CFG.USE sar entry) = true ∧ (entryOf d sar entry).kind ≠ 4 ∧ calSess d sar entry = none :=
  ⟨hdr [], 0, 0, 0, onDev (wrs [(PIO.ENTRY.CFG.USE 0 0, 1)] rdyDev), _, rfl, by decide +kernel, by decide +kernel⟩
theorem witness_ProcessIoComplete_2_sarService :
    ∃ (h : CmdHdr) (sar action : Nat) (s : State) (d : Dev), d = begun { unit := 5, op := 3, c := true, isl := [9] } h s.dev ∧ Ready { unit := 5, op := 3, c := true, isl := [9] } h s ∧ sar ≤ 1 ∧ action ≤ 1 ∧ action = 0 ∧ ¬ ((sarSt d sar).out) ∧ ¬ ((sarSt d (1 - sar)).out) ∧ sarState d (1 - sar) = 1 ∧ ¬ ((sarSt d (1 - sar)).stopping) :=
  ⟨hdr [], 0, 0, onDev (wrs [(PIO.SAR.STAT.SSTATE 0, 1), (PIO.SAR.STAT.SSTATE 1, 1)] rdyDev), _, rfl, by decide +kernel, by decide +kernel⟩
theorem witness_ProcessIoComplete_3_sarService :
    ∃ (h : CmdHdr) (sar action : Nat) (s : State) (d : Dev), d = begun { unit := 5, op := 3, c := true, isl := [9] } h s.dev ∧ Ready { unit := 5, op := 3, c := true, isl := [9] } h s ∧ sar ≤ 1 ∧ action ≤ 1 ∧ action ≠ 0 ∧ (sarSt d sar).out ∧ ¬ ((sarSt d sar).failed) ∧ sarState d sar ≠ 3 :=
  ⟨hdr [], 0, 1, onDev (setSar 0 { out := true } rdyDev), _, rfl, by decide +kernel, by decide +kernel⟩
theorem witness_ProcessIoComplete_4_dacCal :
    ∃ (h : CmdHdr) (n gain ofs : Nat) (s : State) (d : Dev), d = begun { unit := 5, op := 4, c := true, isl := [9] } h s.dev ∧ Ready { unit := 5, op := 4, c := true, isl := [9] } h s ∧ n ≤ 31 :=
  ⟨hdr [], 0, 0, 0, onDev (rdyDev), _, rfl, by decide +kernel, by decide +kernel⟩
theorem witness_ProcessIoComplete_5_pinLoad :
    ∃ (h : CmdHdr) (n count : Nat) (s : State) (d : Dev), d = begun { unit := 5, op := 5, c := true, isl := [9] } h s.dev ∧ Ready { unit := 5, op := 5, c := true, isl := [9] } h s ∧ n ≤ 63 :=
  ⟨hdr [], 0, 5, onDev (rdyDev), _, rfl, by decide +kernel, by decide +kernel⟩
theorem witness_ProcessIoComplete_6_sarPass :
    ∃ (k : Fin 2) (convs : List (List Int × List Int)) (conv : Nat) (d : Dev), sarFor d k.val = some conv :=
  ⟨0, [], 0, wrs [(PIO.SAR.CTRL.EN 0, 1), (PIO.SAR.STAT.SSTATE 0, 1), (TIME.SVC.STAT.TEMPOS_RUN, 1), (PIO.SAR.CTRL.PERIOD 0, 1)] rdyDev, by decide +kernel⟩
theorem witness_ProcessIoComplete_8_sarSelfcalEnd :
    ∃ (k : Fin 2) (d : Dev), sarState d k.val = 3 :=
  ⟨0, wrs [(PIO.SAR.STAT.SSTATE 0, 3)] rdyDev, by decide +kernel⟩
theorem witness_ProcessIoComplete_9_calTimeout :
    ∃ (k : Fin 2) (e : Fin 256) (c : CalSess) (d : Dev), calSess d k.val e.val = some c :=
  ⟨0, 0, { opened := 0 }, setCal 0 0 { opened := 0 } rdyDev, by decide +kernel⟩
theorem witness_ProcessIoComplete_10_inputStaleTimeout :
    ∃ (k : Fin 2) (e : Fin 256) (t : Nat) (d : Dev), (entSt d k.val e.val).lastAt = some t ∧ d.flag (PIO.ENTRY.CFG.USE k.val e.val) = true ∧ d.flag (PIO.RESULT.STAT.STALE k.val e.val) = false :=
  ⟨0, 0, 0, setEnt 0 0 { lastAt := some 0 } (wrs [(PIO.ENTRY.CFG.USE 0 0, 1), (PIO.RESULT.STAT.STALE 0 0, 0)] rdyDev), by decide +kernel⟩
theorem witness_ProcessIoComplete_11_dioLevelChange :
    ∃ (n : Fin 128) (v : Bool) (d : Dev), islandOn d 9 ∧ 2 ≤ opState d ∧ dioLvl d n.val ≠ v :=
  ⟨0, true, rdyDev, by decide +kernel⟩
theorem witness_ProcessIoComplete_12_dioMismatch :
    ∃ (n : Fin 128) (d : Dev), islandOn d 9 ∧ (dioPin d n.val) ≠ 2 ∧ (dioPin d n.val) ≠ b2n (dioLvl d n.val) ∧ ¬ (bitOf (d.rd (PIO.DIO.MISM (n.val / 32))) (n.val % 32)) :=
  ⟨0, { wrs [(LANES.SAFE.CAUSE, 0), (LANES.STAT.SAFE_ACT, 0)] rdyDev with pio := { rdyDev.pio with dio := [(0, 1)] }, pins := { rdyDev.pins with strapped := true } }, by decide +kernel⟩
theorem witness_ProcessIoComplete_13_pinEdge :
    ∃ (n : Fin 64) (rise : Bool) (d : Dev), pioRuns d ∧ d.flag (PIO.PIN.CFG.EN n.val) ∧ (((d.rd (PIO.PIN.CFG.EDGE n.val)) = 3 ∨ ((d.rd (PIO.PIN.CFG.EDGE n.val)) = 2 ∧ ¬ rise) ∨ ((d.rd (PIO.PIN.CFG.EDGE n.val)) ≤ 1 ∧ rise))) :=
  ⟨0, true, wrs [(PIO.PIN.CFG.EN 0, 1)] rdyDev, by decide +kernel⟩
theorem witness_ProcessIoComplete_14_rateTimeout :
    ∃ (n : Fin 64) (t : Nat) (d : Dev), look d.pio.edge n.val = some t :=
  ⟨0, 0, { rdyDev with pio := { rdyDev.pio with edge := [(0, 0)] } }, by decide +kernel⟩
theorem witness_ProcessIoComplete_15_excOpen :
    ∃ (n : Fin 16) (now : Bool) (d : Dev), islandOn d 9 ∧ d.rd (PIO.EXC.CFG.CUR n.val) ≠ 0 ∧ d.flag (PIO.EXC.CFG.OPEN n.val) ≠ now :=
  ⟨0, true, wrs [(PIO.EXC.CFG.CUR 0, 1)] rdyDev, by decide +kernel⟩
theorem witness_ProcessIoComplete_16_dacOpen :
    ∃ (n : Fin 32) (now : Bool) (d : Dev), islandOn d 9 ∧ d.rd (PIO.DAC.CFG.MODE n.val) = 2 ∧ ¬ (now) :=
  ⟨0, false, wrs [(PIO.DAC.CFG.MODE 0, 2)] rdyDev, by decide +kernel⟩
theorem witness_LoopComplete_0_baseTick :
    ∃ (d : Dev), 2 ≤ opState d :=
  ⟨rdyDev, by decide +kernel⟩
theorem witness_LoopComplete_1_loopMode :
    ∃ (h : CmdHdr) (n mode src : Nat) (s : State) (d : Dev), d = begun { unit := 9, op := 1, c := true, kw := true } h s.dev ∧ Ready { unit := 9, op := 1, c := true, kw := true } h s ∧ LoopOk n d ∧ ¬ (3 < mode ∧ mode ≠ 255) ∧ ¬ (2 < src ∧ src ≠ 255) ∧ ¬ (src = 2 ∧ (lookD (lowSt d).binds n {}).cas = false) ∧ ¬ (mode = 3 ∧ pendingMode d n (loopEff d) = 0) :=
  ⟨hdr [], 5, 1, 255, onDev (laneDev { binds := [(5, {})] }), _, rfl, by decide +kernel, by decide +kernel⟩
theorem witness_LoopComplete_2_loopSp :
    ∃ (h : CmdHdr) (n v : Nat) (s : State) (d : Dev), d = begun { unit := 9, op := 2, c := true } h s.dev ∧ Ready { unit := 9, op := 2, c := true } h s ∧ LoopOk n d ∧ f32Finite v = true :=
  ⟨hdr [], 5, 0x3F800000, onDev (laneDev { binds := [(5, {})] }), _, rfl, by decide +kernel, by decide +kernel⟩
theorem witness_LoopComplete_3_loopManual :
    ∃ (h : CmdHdr) (n v : Nat) (s : State) (d : Dev), d = begun { unit := 9, op := 3, c := true, kw := true } h s.dev ∧ Ready { unit := 9, op := 3, c := true, kw := true } h s ∧ LoopOk n d ∧ f32Finite v = true :=
  ⟨hdr [], 5, 0x3F800000, onDev (laneDev { binds := [(5, {})] }), _, rfl, by decide +kernel, by decide +kernel⟩
theorem witness_LoopComplete_4_loopCoef :
    ∃ (h : CmdHdr) (n : Nat) (s : State) (d : Dev), d = begun { unit := 9, op := 4, c := true } h s.dev ∧ Ready { unit := 9, op := 4, c := true } h s ∧ LoopOk n d ∧ sendOk h 52 = true ∧ coefLocked d n = false ∧ coefsOk ((coefOffs.zip (bytesToWords 13 (inBuf h d))).map (·.2)) = true :=
  ⟨hdr [(64, 52)], 5, onDev (memWrite 0 96 (toBytes 4 0x3F800000) (laneDev { binds := [(5, {})] })), _, rfl, by decide +kernel, by decide +kernel⟩
theorem witness_LoopComplete_5_loopLimits :
    ∃ (h : CmdHdr) (n : Nat) (s : State) (d : Dev), d = begun { unit := 9, op := 5, c := true } h s.dev ∧ Ready { unit := 9, op := 5, c := true } h s ∧ LoopOk n d ∧ sendOk h 36 = true ∧ limitsOk ((limOffs.zip (bytesToWords 9 (inBuf h d))).map (·.2)) = true :=
  ⟨hdr [(64, 36)], 5, onDev (memWrite 0 68 (toBytes 4 0x3F800000) (memWrite 0 88 (toBytes 4 0x3F800000) (laneDev { binds := [(5, {})] }))), _, rfl, by decide +kernel, by decide +kernel⟩
theorem witness_LoopComplete_6_loopForce :
    ∃ (h : CmdHdr) (n v : Nat) (s : State) (d : Dev), d = begun { unit := 9, op := 6, c := true } h s.dev ∧ Ready { unit := 9, op := 6, c := true } h s ∧ LoopOk n d ∧ f32Finite v = true :=
  ⟨hdr [], 5, 0, onDev (laneDev { binds := [(5, {})] }), _, rfl, by decide +kernel, by decide +kernel⟩
theorem witness_LoopComplete_7_loopForce :
    ∃ (h : CmdHdr) (n v : Nat) (s : State) (d : Dev), d = begun { unit := 9, op := 6, c := true } h s.dev ∧ Ready { unit := 9, op := 6, c := true } h s ∧ LoopOk n d ∧ (look d.frc.loop n).isSome = true :=
  ⟨hdr [], 5, 0, onDev ({ laneDev { binds := [(5, {})] } with frc := { loop := [(5, 0)] } }), _, rfl, by decide +kernel, by decide +kernel⟩
theorem witness_LoopComplete_8_loopRead :
    ∃ (h : CmdHdr) (n count : Nat) (s : State) (d : Dev), d = begun { unit := 9, op := 7, kw := true } h s.dev ∧ Ready { unit := 9, op := 7, kw := true } h s ∧ LoopOk n d ∧ 1 ≤ count ∧ count ≤ 64 ∧ recvOk h (256 * count) = true :=
  ⟨hdr [(64, 256)], 5, 1, onDev (laneDev { binds := [(5, {})] }), _, rfl, by decide +kernel, by decide +kernel⟩
theorem witness_LoopComplete_9_loopCtxWrite :
    ∃ (p : Fin 2) (addr v : Nat) (d : Dev), 0xE10000 ≤ addr ∧ addr < 0xE50000 ∧ addr % 4 = 0 :=
  ⟨0, 0xE10000, 0, rdyDev, by decide +kernel⟩
theorem witness_LoopComplete_10_loopSample :
    ∃ (l : Fin 3) (c : Fin 8) (late : Bool) (idx T : Nat) (d : Dev), laneRuns d l.val = true ∧ d.gate.t0.isSome = true ∧ nextSample (laneSt d l.val) c.val = some (idx, T) ∧ fasterDue (laneSt d l.val) c.val T = false ∧ ((laneSt (toTick T d) l.val).runs.any fun r => r.cls == c.val) = false :=
  ⟨0, 0, false, 0, 0, { laneDev { binds := [(5, {})] } with gate := { rdyDev.gate with t0 := some 0 } }, by decide +kernel⟩
theorem witness_LoopComplete_11_loopSample :
    ∃ (l : Fin 3) (c : Fin 8) (late : Bool) (idx T : Nat) (d : Dev), laneRuns d l.val = true ∧ d.gate.t0.isSome = true ∧ nextSample (laneSt d l.val) c.val = some (idx, T) ∧ fasterDue (laneSt d l.val) c.val T = false ∧ ((laneSt (toTick T d) l.val).runs.any fun r => r.cls == c.val) = true :=
  ⟨0, 0, false, 0, 0, { laneDev { binds := [(5, {})], runs := [{ cls := 0, idx := 0, tick := 0, rest := [] }] } with gate := { rdyDev.gate with t0 := some 0 } }, by decide +kernel⟩
theorem witness_LanesComplete_0_laneReq :
    ∃ (h : CmdHdr) (lane action : Nat) (s : State) (d : Dev), d = begun { unit := 10, op := 1, c := true, kw := true } h s.dev ∧ Ready { unit := 10, op := 1, c := true, kw := true } h s ∧ lane ≤ 2 ∧ action ≤ 1 ∧ action = 0 ∧ 2 ≤ inServ d - b2n (laneIn d lane) :=
  ⟨hdr [], 0, 0, onDev (rdyDev), _, rfl, by decide +kernel, by decide +kernel⟩
theorem witness_LanesComplete_1_laneReq :
    ∃ (h : CmdHdr) (lane : Nat) (s : State) (d : Dev), d = begun { unit := 10, op := 1, c := true, kw := true } h s.dev ∧ Ready { unit := 10, op := 1, c := true, kw := true } h s ∧ lane ≤ 2 ∧ canReadmit lane d = true :=
  ⟨hdr [], 2, onDev (wrs [(LSTATE 2, 6), (PWR.ISL_STAT.STATE 5, 0), (PWR.ISL_STAT.HELD 5, 1), (PWR.ISL_STAT.CAUSE 5, 3)] rdyDev), _, rfl, by decide +kernel, by decide +kernel⟩
theorem witness_LanesComplete_2_safeCmd :
    ∃ (h : CmdHdr) (s : State) (d : Dev), d = begun { unit := 10, op := 2, c := true, kw := true } h s.dev ∧ Ready { unit := 10, op := 2, c := true, kw := true } h s ∧ True :=
  ⟨hdr [], onDev (rdyDev), _, rfl, by decide +kernel, by decide +kernel⟩
theorem witness_LanesComplete_3_safeCmd :
    ∃ (h : CmdHdr) (s : State) (d : Dev), d = begun { unit := 10, op := 2, c := true, kw := true } h s.dev ∧ Ready { unit := 10, op := 2, c := true, kw := true } h s ∧ setBit (d.rd LANES.SAFE.CAUSE) 2 false = 0 ∧ 2 ≤ inServ d :=
  ⟨hdr [], onDev (wrs [(LANES.SAFE.CAUSE, 4)] rdyDev), _, rfl, by decide +kernel, by decide +kernel⟩
theorem witness_LanesComplete_4_laneLogRead :
    ∃ (h : CmdHdr) (first count : Nat) (s : State) (d : Dev), d = begun { unit := 10, op := 3, kw := true } h s.dev ∧ Ready { unit := 10, op := 3, kw := true } h s ∧ first ≤ 15 ∧ count ≠ 0 ∧ count ≤ 16 ∧ recvOk h (16 * count) :=
  ⟨hdr [(64, 16)], 0, 1, onDev (rdyDev), _, rfl, by decide +kernel, by decide +kernel⟩
theorem witness_LanesComplete_5_lanePublication :
    ∃ (l : Fin 3) (upsets : List PubUpset) (x : Pub) (rest : List Pub) (d : Dev), (laneSt d l.val).outbox = x :: rest ∧ lstate d l.val = 5 ∧ lookD d.gate.inFrom l.val 0 ≤ (upsetPub upsets x).tick :=
  ⟨0, [], { src := 8, idx := 0, tick := 0 }, [], laneDev { outbox := [{ src := 8, idx := 0, tick := 0 }] }, by decide +kernel⟩
theorem witness_LanesComplete_6_lanePublication :
    ∃ (l : Fin 3) (upsets : List PubUpset) (x : Pub) (rest : List Pub) (d : Dev), (laneSt d l.val).outbox = x :: rest ∧ lstate d l.val = 4 :=
  ⟨2, [], { src := 8, idx := 0, tick := 0 }, [], (laneDev { outbox := [{ src := 8, idx := 0, tick := 0 }] }).wr (LSTATE 2) 4, by decide +kernel⟩
theorem witness_LanesComplete_8_csArbitration :
    ∃ (f : Finding) (rest : List Finding) (d : Dev), d.gate.findings = f :: rest :=
  ⟨{ idx := 0, src := 0 }, [], { rdyDev with gate := { rdyDev.gate with findings := [{ idx := 0, src := 0 }] } }, by decide +kernel⟩
theorem witness_LanesComplete_9_csArbitration :
    ∃ (l : Fin 3) (d : Dev), laneIn d l.val = true :=
  ⟨0, rdyDev, by decide +kernel⟩
theorem witness_LanesComplete_11_readmitStartingEnd :
    ∃ (r : Readmit) (d : Dev), readmitIn 1 d = some r ∧ islandOn d (3 + r.lane) = true :=
  ⟨{ lane := 2, source := 0 }, { wrs [(LSTATE 2, 1)] rdyDev with gate := { rdyDev.gate with readmit := some { lane := 2, source := 0 } } }, by decide +kernel⟩
theorem witness_LanesComplete_12_readmitSelftestEnd :
    ∃ (r : Readmit) (l : Nat) (d : Dev), readmitIn 2 d = some r ∧ firstLane d = some l :=
  ⟨{ lane := 2, source := 0 }, 0, { wrs [(LSTATE 2, 2)] rdyDev with gate := { rdyDev.gate with readmit := some { lane := 2, source := 0 } } }, by decide +kernel⟩
theorem witness_LanesComplete_13_mirrorCheckpoint :
    ∃ (r : Readmit) (t : Nat) (d : Dev), readmitIn 3 d = some r ∧ d.gate.t0 = some t ∧ d.up + 100000 ≤ t + (laneSt d r.source).clp.next * tickNs :=
  ⟨{ lane := 2, source := 0 }, 200000, { wrs [(LSTATE 2, 3)] rdyDev with gate := { rdyDev.gate with readmit := some { lane := 2, source := 0 }, t0 := some 200000 } }, by decide +kernel⟩
theorem witness_LanesComplete_15_shadowEnd :
    ∃ (r : Readmit) (d : Dev), readmitIn 4 d = some r ∧ r.since + max 1 (d.rd LANES.CFG.SHADOW) * 100000000 ≤ d.up ∧ (shadowNeeds d).all r.seen.contains = true :=
  ⟨{ lane := 2, source := 0, seen := [8] }, { wrs [(LSTATE 2, 4)] rdyDev with up := 10000000000000, gate := { rdyDev.gate with readmit := some { lane := 2, source := 0, seen := [8] } } }, by decide +kernel⟩
theorem witness_LanesComplete_16_laneStatPublication :
    ∃ (d : Dev), (opState d = 3 ∨ opState d = 4) :=
  ⟨rdyDev, by decide +kernel⟩
theorem witness_LogicProcessorComplete_0_clpEnWrite :
    ∃ (p : Fin 2) (v : Nat) (d : Dev), writable p.val 0xF00000 d = true :=
  ⟨0, 1, rdyDev, by decide +kernel⟩
theorem witness_LogicProcessorComplete_1_clpForce :
    ∃ (h : CmdHdr) (space addr v k : Nat) (s : State) (d : Dev), d = begun { unit := 11, op := 1, c := true } h s.dev ∧ Ready { unit := 11, op := 1, c := true } h s ∧ (space ≤ 1 ∨ space = 5 ∨ space = 6) ∧ spaceOk space addr = true ∧ ¬ (space ≤ 1 ∧ 1 < v) ∧ (lowLane d).isSome = true ∧ (lowSt d).clp.img.unforce.contains (space, addr) = false ∧ ¬ (space = 6 ∧ loopOwned (lowSt d) addr = true) ∧ (forceEntry d space addr <|> freeEntry d) = some k :=
  ⟨hdr [], 1, 3, 1, 0, onDev (rdyDev), _, rfl, by decide +kernel, by decide +kernel⟩
theorem witness_LogicProcessorComplete_2_clpForce :
    ∃ (h : CmdHdr) (space addr v k : Nat) (s : State) (d : Dev), d = begun { unit := 11, op := 1, c := true } h s.dev ∧ Ready { unit := 11, op := 1, c := true } h s ∧ (space ≤ 1 ∨ space = 5 ∨ space = 6) ∧ spaceOk space addr = true ∧ (lowLane d).isSome = true ∧ forceEntry d space addr = some k :=
  ⟨hdr [], 1, 3, 1, 0, onDev ({ rdyDev with frc := { clp := [(0, { space := 1, addr := 3, v := 1, eff := 0 })] } }), _, rfl, by decide +kernel, by decide +kernel⟩
theorem witness_LogicProcessorComplete_3_clpForceAll :
    ∃ (h : CmdHdr) (s : State) (d : Dev), d = begun { unit := 11, op := 2, c := true } h s.dev ∧ Ready { unit := 11, op := 2, c := true } h s ∧ ¬ ((lowLane d).isNone) :=
  ⟨hdr [], onDev (rdyDev), _, rfl, by decide +kernel, by decide +kernel⟩
theorem witness_LogicProcessorComplete_4_clpRun :
    ∃ (h : CmdHdr) (s : State) (d : Dev), d = begun { unit := 11, op := 3, c := true } h s.dev ∧ Ready { unit := 11, op := 3, c := true } h s ∧ (lowLane d).isSome = true :=
  ⟨hdr [], onDev (rdyDev), _, rfl, by decide +kernel, by decide +kernel⟩
theorem witness_LogicProcessorComplete_5_clpRun :
    ∃ (h : CmdHdr) (s : State) (d : Dev), d = begun { unit := 11, op := 3, c := true } h s.dev ∧ Ready { unit := 11, op := 3, c := true } h s ∧ (lowLane d).isSome = true ∧ lrd (clpStopReq d) CLP.STAT.STATE = 2 :=
  ⟨hdr [], onDev (laneDev (({} : LaneSt).wr CLP.STAT.STATE 1)), _, rfl, by decide +kernel, by decide +kernel⟩
theorem witness_LogicProcessorComplete_6_clpData :
    ∃ (h : CmdHdr) (space addr v : Nat) (s : State) (d : Dev), d = begun { unit := 11, op := 4, c := true } h s.dev ∧ Ready { unit := 11, op := 4, c := true } h s ∧ ((space = 2 ∨ space = 4 ∨ space = 7)) ∧ spaceOk space addr ∧ ¬ (space = 2 ∧ 1 < v) ∧ ¬ ((lowLane d).isNone) :=
  ⟨hdr [], 2, 0, 1, onDev (rdyDev), _, rfl, by decide +kernel, by decide +kernel⟩
theorem witness_LogicProcessorComplete_7_clpRead :
    ∃ (h : CmdHdr) (first count : Nat) (s : State) (d : Dev), d = begun { unit := 11, op := 5, kw := true } h s.dev ∧ Ready { unit := 11, op := 5, kw := true } h s ∧ (lowLane d).isSome = true ∧ first < 8192 ∧ 1 ≤ count ∧ recvOk h (count * 4) = true :=
  ⟨hdr [(64, 4)], 0, 1, onDev (rdyDev), _, rfl, by decide +kernel, by decide +kernel⟩
theorem witness_LogicProcessorComplete_8_clpRead :
    ∃ (h : CmdHdr) (first count : Nat) (s : State) (d : Dev), d = begun { unit := 11, op := 5, kw := true } h s.dev ∧ Ready { unit := 11, op := 5, kw := true } h s ∧ (lowLane d).isSome = true ∧ first < 65536 ∧ 1 ≤ count ∧ recvOk h ((count + 31) / 32 * 4) = true :=
  ⟨hdr [(64, 4)], 0, 1, onDev (rdyDev), _, rfl, by decide +kernel, by decide +kernel⟩
theorem witness_LogicProcessorComplete_9_clpCycle :
    ∃ (l : Fin 3) (late : Bool) (d : Dev), laneRuns d l.val = true ∧ d.gate.t0.isSome = true ∧ (laneSt d l.val).rd CLP.STAT.STATE ≠ 3 :=
  ⟨0, false, clpDev {}, by decide +kernel⟩
theorem witness_LogicProcessorComplete_10_clpWatchdog :
    ∃ (l : Fin 3) (d : Dev), laneRuns d l.val ∧ ¬ (d.gate.t0.isNone) ∧ ((laneSt d l.val).rd CLP.STAT.STATE) ≠ 0 ∧ ((laneSt d l.val).rd CLP.STAT.STATE) ≠ 3 :=
  ⟨0, { laneDev (({} : LaneSt).wr CLP.STAT.STATE 1) with gate := { rdyDev.gate with t0 := some 0 } }, by decide +kernel⟩
theorem witness_LogicProcessorComplete_11_retentiveCopyEv :
    ∃ (d : Dev), ¬ (d.gate.t0.isNone) ∧ ¬ ((lowLane d).isNone) :=
  ⟨clpDev {}, by decide +kernel⟩
theorem witness_LogicProcessorComplete_12_clpMinoffEnd :
    ∃ (d : Dev), lflag d CLP.STAT.MINOFF :=
  ⟨laneDev (({} : LaneSt).wr CLP.STAT.MINOFF 1), by decide +kernel⟩
theorem witness_LogicBitComplete_0_iNopInstr :
    ∃ (l : Fin 3) (d : Dev), ClpRuns l.val d :=
  ⟨0, clpDev {}, by decide +kernel⟩
theorem witness_LogicBitComplete_1_iLd :
    ∃ (l : Fin 3) (sp : Fin 16) (n : Bool) (qm : Fin 16) (a : Nat) (d : Dev), ClpRuns l.val d :=
  ⟨0, 0, false, 0, 0, clpDev {}, by decide +kernel⟩
theorem witness_LogicBitComplete_2_iAnd :
    ∃ (l : Fin 3) (sp : Fin 16) (n : Bool) (qm : Fin 16) (a : Nat) (d : Dev), ClpRuns l.val d :=
  ⟨0, 0, false, 0, 0, clpDev {}, by decide +kernel⟩
theorem witness_LogicBitComplete_3_iOr :
    ∃ (l : Fin 3) (sp : Fin 16) (n : Bool) (qm : Fin 16) (a : Nat) (d : Dev), ClpRuns l.val d :=
  ⟨0, 0, false, 0, 0, clpDev {}, by decide +kernel⟩
theorem witness_LogicBitComplete_4_iXor :
    ∃ (l : Fin 3) (sp : Fin 16) (n : Bool) (qm : Fin 16) (a : Nat) (d : Dev), ClpRuns l.val d :=
  ⟨0, 0, false, 0, 0, clpDev {}, by decide +kernel⟩
theorem witness_LogicBitComplete_5_iNot :
    ∃ (l : Fin 3) (d : Dev), ClpRuns l.val d :=
  ⟨0, clpDev {}, by decide +kernel⟩
theorem witness_LogicBitComplete_6_iBopen :
    ∃ (l : Fin 3) (combine : Fin 4) (d : Dev), ClpRuns l.val d :=
  ⟨0, 0, clpDev {}, by decide +kernel⟩
theorem witness_LogicBitComplete_7_iBclose :
    ∃ (l : Fin 3) (d : Dev), ClpRuns l.val d :=
  ⟨0, clpDev {}, by decide +kernel⟩
theorem witness_LogicBitComplete_8_iSt :
    ∃ (l : Fin 3) (sp : Fin 16) (n : Bool) (a : Nat) (d : Dev), ClpRuns l.val d :=
  ⟨0, 0, false, 0, clpDev {}, by decide +kernel⟩
theorem witness_LogicBitComplete_9_iSet :
    ∃ (l : Fin 3) (sp : Fin 16) (a : Nat) (d : Dev), ClpRuns l.val d :=
  ⟨0, 0, 0, clpDev {}, by decide +kernel⟩
theorem witness_LogicBitComplete_10_iRst :
    ∃ (l : Fin 3) (sp : Fin 16) (a : Nat) (d : Dev), ClpRuns l.val d :=
  ⟨0, 0, 0, clpDev {}, by decide +kernel⟩
theorem witness_LogicBitComplete_11_iPedge :
    ∃ (l : Fin 3) (a : Nat) (d : Dev), ClpRuns l.val d :=
  ⟨0, 0, clpDev {}, by decide +kernel⟩
theorem witness_LogicBitComplete_12_iNedge :
    ∃ (l : Fin 3) (a : Nat) (d : Dev), ClpRuns l.val d :=
  ⟨0, 0, clpDev {}, by decide +kernel⟩
theorem witness_LogicTimerComplete_0_iTon :
    ∃ (l : Fin 3) (t : Nat) (d : Dev), ClpRuns l.val d :=
  ⟨0, 0, clpDev {}, by decide +kernel⟩
theorem witness_LogicTimerComplete_1_iTof :
    ∃ (l : Fin 3) (t : Nat) (d : Dev), ClpRuns l.val d :=
  ⟨0, 0, clpDev {}, by decide +kernel⟩
theorem witness_LogicTimerComplete_2_iTp :
    ∃ (l : Fin 3) (t : Nat) (d : Dev), ClpRuns l.val d :=
  ⟨0, 0, clpDev {}, by decide +kernel⟩
theorem witness_LogicTimerComplete_3_iTpre :
    ∃ (l : Fin 3) (t : Nat) (d : Dev), ClpRuns l.val d :=
  ⟨0, 0, clpDev {}, by decide +kernel⟩
theorem witness_LogicTimerComplete_4_iTrst :
    ∃ (l : Fin 3) (t : Nat) (d : Dev), ClpRuns l.val d :=
  ⟨0, 0, clpDev {}, by decide +kernel⟩
theorem witness_LogicTimerComplete_5_iCtu :
    ∃ (l : Fin 3) (a : Nat) (d : Dev), ClpRuns l.val d :=
  ⟨0, 0, clpDev {}, by decide +kernel⟩
theorem witness_LogicTimerComplete_6_iCtd :
    ∃ (l : Fin 3) (a : Nat) (d : Dev), ClpRuns l.val d :=
  ⟨0, 0, clpDev {}, by decide +kernel⟩
theorem witness_LogicTimerComplete_7_iCrst :
    ∃ (l : Fin 3) (a : Nat) (d : Dev), ClpRuns l.val d :=
  ⟨0, 0, clpDev {}, by decide +kernel⟩
theorem witness_LogicTimerComplete_8_iCld :
    ∃ (l : Fin 3) (a : Nat) (d : Dev), ClpRuns l.val d :=
  ⟨0, 0, clpDev {}, by decide +kernel⟩
theorem witness_LogicTimerComplete_9_iJmp :
    ∃ (l : Fin 3) (t : Nat) (d : Dev), ClpRuns l.val d :=
  ⟨0, 0, clpDev {}, by decide +kernel⟩
theorem witness_LogicTimerComplete_10_iJc :
    ∃ (l : Fin 3) (t : Nat) (d : Dev), ClpRuns l.val d :=
  ⟨0, 0, clpDev {}, by decide +kernel⟩
theorem witness_LogicTimerComplete_11_iJnc :
    ∃ (l : Fin 3) (t : Nat) (d : Dev), ClpRuns l.val d :=
  ⟨0, 0, clpDev {}, by decide +kernel⟩
theorem witness_LogicTimerComplete_12_iEnd :
    ∃ (l : Fin 3) (d : Dev), ClpRuns l.val d :=
  ⟨0, clpDev {}, by decide +kernel⟩
theorem witness_LogicWordComplete_0_iLdw :
    ∃ (l : Fin 3) (sp : Fin 16) (a : Nat) (d : Dev), ClpRuns l.val d :=
  ⟨0, 0, 0, clpDev {}, by decide +kernel⟩
theorem witness_LogicWordComplete_1_iLdkh :
    ∃ (l : Fin 3) (imm : Nat) (d : Dev), ClpRuns l.val d :=
  ⟨0, 0, clpDev {}, by decide +kernel⟩
theorem witness_LogicWordComplete_2_iStw :
    ∃ (l : Fin 3) (sp : Fin 16) (a : Nat) (d : Dev), ClpRuns l.val d :=
  ⟨0, 0, 0, clpDev {}, by decide +kernel⟩
theorem witness_LogicWordComplete_3_iStwc :
    ∃ (l : Fin 3) (sp : Fin 16) (a : Nat) (d : Dev), ClpRuns l.val d :=
  ⟨0, 0, 0, clpDev {}, by decide +kernel⟩
theorem witness_LogicWordComplete_4_iAdd :
    ∃ (l : Fin 3) (sp : Fin 16) (a : Nat) (d : Dev), ClpRuns l.val d :=
  ⟨0, 0, 0, clpDev {}, by decide +kernel⟩
theorem witness_LogicWordComplete_5_iSub :
    ∃ (l : Fin 3) (sp : Fin 16) (a : Nat) (d : Dev), ClpRuns l.val d :=
  ⟨0, 0, 0, clpDev {}, by decide +kernel⟩
theorem witness_LogicWordComplete_6_iMul :
    ∃ (l : Fin 3) (sp : Fin 16) (a : Nat) (d : Dev), ClpRuns l.val d :=
  ⟨0, 0, 0, clpDev {}, by decide +kernel⟩
theorem witness_LogicWordComplete_7_iDiv :
    ∃ (l : Fin 3) (sp : Fin 16) (a : Nat) (d : Dev), ClpRuns l.val d :=
  ⟨0, 0, 0, clpDev {}, by decide +kernel⟩
theorem witness_LogicWordComplete_8_iAndw :
    ∃ (l : Fin 3) (sp : Fin 16) (a : Nat) (d : Dev), ClpRuns l.val d :=
  ⟨0, 0, 0, clpDev {}, by decide +kernel⟩
theorem witness_LogicWordComplete_9_iOrw :
    ∃ (l : Fin 3) (sp : Fin 16) (a : Nat) (d : Dev), ClpRuns l.val d :=
  ⟨0, 0, 0, clpDev {}, by decide +kernel⟩
theorem witness_LogicWordComplete_10_iXorw :
    ∃ (l : Fin 3) (sp : Fin 16) (a : Nat) (d : Dev), ClpRuns l.val d :=
  ⟨0, 0, 0, clpDev {}, by decide +kernel⟩
theorem witness_LogicWordComplete_11_iShl :
    ∃ (l : Fin 3) (k : Fin 32) (d : Dev), ClpRuns l.val d :=
  ⟨0, 0, clpDev {}, by decide +kernel⟩
theorem witness_LogicWordComplete_12_iShr :
    ∃ (l : Fin 3) (k : Fin 32) (d : Dev), ClpRuns l.val d :=
  ⟨0, 0, clpDev {}, by decide +kernel⟩
theorem witness_LogicWordComplete_13_iCmp :
    ∃ (l : Fin 3) (sp : Fin 16) (n : Bool) (rel : Fin 6) (a : Nat) (d : Dev), ClpRuns l.val d :=
  ⟨0, 0, false, 0, 0, clpDev {}, by decide +kernel⟩
theorem witness_LogicFloatComplete_0_iFadd :
    ∃ (l : Fin 3) (sp : Fin 16) (a : Nat) (d : Dev), ClpRuns l.val d :=
  ⟨0, 0, 0, clpDev {}, by decide +kernel⟩
theorem witness_LogicFloatComplete_1_iFsub :
    ∃ (l : Fin 3) (sp : Fin 16) (a : Nat) (d : Dev), ClpRuns l.val d :=
  ⟨0, 0, 0, clpDev {}, by decide +kernel⟩
theorem witness_LogicFloatComplete_2_iFmul :
    ∃ (l : Fin 3) (sp : Fin 16) (a : Nat) (d : Dev), ClpRuns l.val d :=
  ⟨0, 0, 0, clpDev {}, by decide +kernel⟩
theorem witness_LogicFloatComplete_3_iFdiv :
    ∃ (l : Fin 3) (sp : Fin 16) (a : Nat) (d : Dev), ClpRuns l.val d :=
  ⟨0, 0, 0, clpDev {}, by decide +kernel⟩
theorem witness_LogicFloatComplete_4_iFmin :
    ∃ (l : Fin 3) (sp : Fin 16) (a : Nat) (d : Dev), ClpRuns l.val d :=
  ⟨0, 0, 0, clpDev {}, by decide +kernel⟩
theorem witness_LogicFloatComplete_5_iFmax :
    ∃ (l : Fin 3) (sp : Fin 16) (a : Nat) (d : Dev), ClpRuns l.val d :=
  ⟨0, 0, 0, clpDev {}, by decide +kernel⟩
theorem witness_LogicFloatComplete_6_iFcmp :
    ∃ (l : Fin 3) (sp : Fin 16) (n : Bool) (rel : Fin 6) (a : Nat) (d : Dev), ClpRuns l.val d :=
  ⟨0, 0, false, 0, 0, clpDev {}, by decide +kernel⟩
theorem witness_LogicFloatComplete_7_iItof :
    ∃ (l : Fin 3) (d : Dev), ClpRuns l.val d :=
  ⟨0, clpDev {}, by decide +kernel⟩
theorem witness_LogicFloatComplete_8_iFtoi :
    ∃ (l : Fin 3) (d : Dev), ClpRuns l.val d :=
  ⟨0, clpDev {}, by decide +kernel⟩
theorem witness_MeterCommandsComplete_0_mtrCal :
    ∃ (h : CmdHdr) (ch ref : Nat) (s : State) (d : Dev), d = begun { unit := 6, op := 1, c := true, isl := [8] } h s.dev ∧ Ready { unit := 6, op := 1, c := true, isl := [8] } h s ∧ ch ≤ 59 ∧ (look d.meter.cal ch).isNone = true :=
  ⟨hdr [], 0, 0, onDev (rdyDev), _, rfl, by decide +kernel, by decide +kernel⟩
theorem witness_MeterCommandsComplete_1_mtrCal :
    ∃ (h : CmdHdr) (ch ref : Nat) (x : MCal) (s : State) (d : Dev), d = begun { unit := 6, op := 1, c := true, isl := [8] } h s.dev ∧ Ready { unit := 6, op := 1, c := true, isl := [8] } h s ∧ ch ≤ 59 ∧ look d.meter.cal ch = some x ∧ x.busy = none :=
  ⟨hdr [], 0, 0, { gain := 0, phase := 0, opened := 0 }, onDev ({ rdyDev with meter := { rdyDev.meter with cal := [(0, { gain := 0, phase := 0, opened := 0 })] } }), _, rfl, by decide +kernel, by decide +kernel⟩
theorem witness_MeterCommandsComplete_2_mtrCal :
    ∃ (h : CmdHdr) (ch ref : Nat) (x : MCal) (s : State) (d : Dev), d = begun { unit := 6, op := 1, c := true, isl := [8] } h s.dev ∧ Ready { unit := 6, op := 1, c := true, isl := [8] } h s ∧ ch ≤ 59 ∧ look d.meter.cal ch = some x ∧ x.busy = none :=
  ⟨hdr [], 0, 0, { gain := 0, phase := 0, opened := 0 }, onDev ({ rdyDev with meter := { rdyDev.meter with cal := [(0, { gain := 0, phase := 0, opened := 0 })] } }), _, rfl, by decide +kernel, by decide +kernel⟩
theorem witness_MeterCommandsComplete_3_mtrService :
    ∃ (h : CmdHdr) (k : Nat) (s : State) (d : Dev), d = begun { unit := 6, op := 2, c := true, isl := [8] } h s.dev ∧ Ready { unit := 6, op := 2, c := true, isl := [8] } h s ∧ k ≤ 3 ∧ d.rd METER.DSP.OUT = 0 ∧ d.meter.svc = none ∧ meterRuns d = true :=
  ⟨hdr [], 0, onDev (wrs [(PWR.CLK_STAT.PRESENT, 127), (METER.DSP.OUT, 0)] rdyDev), _, rfl, by decide +kernel, by decide +kernel⟩
theorem witness_MeterCommandsComplete_4_mtrService :
    ∃ (h : CmdHdr) (k action : Nat) (s : State) (d : Dev), d = begun { unit := 6, op := 2, c := true, isl := [8] } h s.dev ∧ Ready { unit := 6, op := 2, c := true, isl := [8] } h s ∧ k ≤ 3 ∧ action ≤ 1 ∧ action ≠ 0 ∧ (bitOf (d.rd METER.DSP.OUT) k) ∧ ¬ (bitOf (d.rd METER.DSP.FAIL) k) ∧ ¬ (bitOf (d.rd METER.DSP.TEST) k) ∧ ¬ (meterRuns d) :=
  ⟨hdr [], 0, 1, onDev (wrs [(PWR.CLK_STAT.PRESENT, 0), (METER.DSP.OUT, 1), (METER.DSP.FAIL, 0), (METER.DSP.TEST, 0)] rdyDev), _, rfl, by decide +kernel, by decide +kernel⟩
theorem witness_MeterCommandsComplete_5_mtrStream :
    ∃ (h : CmdHdr) (ring period fmask bmask flags : Nat) (s : State) (d : Dev), d = begun { unit := 6, op := 3, c := true, isl := [8], kw := true } h s.dev ∧ Ready { unit := 6, op := 3, c := true, isl := [8], kw := true } h s ∧ period ≤ 1 ∧ fmask ≤ 65535 ∧ bmask ≤ 15 ∧ flags ≤ 15 ∧ ring ≤ 31 ∧ ringPort ring = h.port.val ∧ ringKind d ring = 4 ∧ ringState d ring = 1 :=
  ⟨hdr [], 2, 0, 1, 0, 0, onDev (wrs [(HOST.RING.CFG.KIND 2, 4), (HOST.RING.STAT.STATE 2, 1)] rdyDev), _, rfl, by decide +kernel, by decide +kernel⟩
theorem witness_MeterCommandsComplete_6_mtrIvlRead :
    ∃ (h : CmdHdr) (f first count : Nat) (s : State) (d : Dev), d = begun { unit := 6, op := 4, isl := [8], kw := true } h s.dev ∧ Ready { unit := 6, op := 4, isl := [8], kw := true } h s ∧ f ≤ 15 ∧ count ≠ 0 ∧ count ≤ 96 ∧ recvOk h (192 * count) ∧ (recsFrom (fdrSt d f).recs first count) ≠ [] :=
  ⟨hdr [(64, 192)], 0, 1, 1, onDev (setFdr 0 { recs := [[0, 0, 0, 0, 1, 0, 0, 0]] } rdyDev), _, rfl, by decide +kernel, by decide +kernel⟩
theorem witness_MeterCommandsComplete_7_meterSample :
    ∃ (raw : List Int) (d : Dev), meterRuns d :=
  ⟨[], wrs [(PWR.CLK_STAT.PRESENT, 127)] rdyDev, by decide +kernel⟩
theorem witness_MeterCommandsComplete_8_meterCycleEnd :
    ∃ (b : Fin 4) (frac c : Nat) (d : Dev), meterRuns d = true ∧ (busSt d b.val).winCyc < winCycles d b.val ∧ (busSt d b.val).from_ < d.meter.n ∧ (busSt d b.val).cross = some c ∧ (busSt d b.val).cyc < d.meter.n * 2 ^ 32 - 2 ^ 32 + frac % 2 ^ 32 ∧ c < d.meter.n * 2 ^ 32 - 2 ^ 32 + frac % 2 ^ 32 ∧ d.flag (METER.BUS.STAT.FREQ_VALID b.val) = true :=
  ⟨0, 1, 0, setBus 0 { cross := some 0 } { wrs [(PWR.CLK_STAT.PRESENT, 127), (METER.BUS.STAT.FREQ_VALID 0, 1)] rdyDev with meter := { rdyDev.meter with n := 2 } }, by decide +kernel⟩
theorem witness_MeterCommandsComplete_9_meterCycleEnd :
    ∃ (b : Fin 4) (frac : Nat) (d : Dev), meterRuns d = true ∧ (busSt d b.val).winCyc < winCycles d b.val ∧ (busSt d b.val).from_ < d.meter.n ∧ (busSt d b.val).cross = none ∧ (busSt d b.val).cyc < d.meter.n * 2 ^ 32 - 2 ^ 32 + frac % 2 ^ 32 :=
  ⟨0, 1, { wrs [(PWR.CLK_STAT.PRESENT, 127)] rdyDev with meter := { rdyDev.meter with n := 200 } }, by decide +kernel⟩
theorem witness_MeterCommandsComplete_10_meterCycleEnd :
    ∃ (b : Fin 4) (d : Dev), meterRuns d = true ∧ (busSt d b.val).winCyc < winCycles d b.val ∧ (busSt d b.val).from_ < d.meter.n ∧ d.flag (METER.BUS.STAT.FREQ_VALID b.val) = false ∧ (busSt d b.val).cyc + 8000 * 2 ^ 32 / nomHz d b.val ≤ d.meter.n * 2 ^ 32 :=
  ⟨0, { wrs [(PWR.CLK_STAT.PRESENT, 127)] rdyDev with meter := { rdyDev.meter with n := 200 } }, by decide +kernel⟩
theorem witness_MeterCommandsComplete_11_meterWindowEnd :
    ∃ (b : Fin 4) (d : Dev), meterRuns d ∧ winCycles d b.val ≤ (busSt d b.val).winCyc :=
  ⟨0, setBus 0 { winCyc := 12 } (wrs [(PWR.CLK_STAT.PRESENT, 127)] rdyDev), by decide +kernel⟩
theorem witness_MeterCommandsComplete_12_urmsHalfCycle :
    ∃ (b : Fin 4) (d : Dev), meterRuns d ∧ (d.rd (METER.BUS.UDIN b.val)) % 2 ^ 31 ≠ 0 ∧ ¬ (bitOf (d.rd (METER.BUS.UDIN b.val)) 31) ∧ (busSt d b.val).from_ + halfCycleN d b.val ≤ d.meter.n :=
  ⟨0, { wrs [(PWR.CLK_STAT.PRESENT, 127), (METER.BUS.UDIN 0, 0x43660000)] rdyDev with meter := { rdyDev.meter with n := 200 } }, by decide +kernel⟩
theorem witness_MeterCommandsComplete_13_meterIntervalClose :
    ∃ (d : Dev), ((opState d = 3 ∨ opState d = 4)) ∧ islandOn d 8 :=
  ⟨rdyDev, by decide +kernel⟩
theorem witness_MeterCommandsComplete_14_recordSigning :
    ∃ (r : SignRec) (t : List SignRec) (d : Dev), d.meter.recQ = r :: t ∧ (islandOn d 13 = true ∨ keyLost d = true) ∧ ¬ (recSign d r.kind = true ∧ slotOk (onMeter (fun m => { m with recQ := t }) d) (recSlot (onMeter (fun m => { m with recQ := t }) d) r.kind) 2 = true) :=
  ⟨{ kind := 0, idx := 0, body := [] }, [], { rdyDev with meter := { rdyDev.meter with recQ := [{ kind := 0, idx := 0, body := [] }] } }, by decide +kernel⟩
theorem witness_MeterCommandsComplete_15_recordSigning :
    ∃ (r : SignRec) (t : List SignRec) (d : Dev), d.meter.recQ = r :: t ∧ islandOn d 13 = true ∧ recSign d r.kind = true ∧ slotOk (onMeter (fun m => { m with recQ := t }) d) (recSlot (onMeter (fun m => { m with recQ := t }) d) r.kind) 2 = true :=
  ⟨{ kind := 0, idx := 0, body := [] }, [], { wrs [(METER.CFG.SIGN, 1), (METER.CFG.KEY_SLOT, 0), (CRUST.STATUS.KEY_LOST, 0), (KEYS.SLOT.CFG.TYPE 0, 1), (KEYS.SLOT.CFG.USE 0, 2), (KEYS.SLOT.CFG.NODE 0, 0), (KEYS.NODE.CFG.STATE 0, 1), (KEYS.NODE.CFG.PARENT 0, 0xFFFF), (KEYS.NODE.CFG.USE 0, 2)] rdyDev with meter := { rdyDev.meter with recQ := [{ kind := 0, idx := 0, body := [] }] } }, by decide +kernel⟩
theorem witness_MeterCommandsComplete_16_meterCheckpoint :
    ∃ (d : Dev), ((opState d = 3 ∨ opState d = 4)) :=
  ⟨rdyDev, by decide +kernel⟩
theorem witness_MeterCommandsComplete_17_poutPulse :
    ∃ (k : Fin 32) (d : Dev), d.flag (METER.POUT.CFG.EN k.val) ∧ d.rd (METER.POUT.STAT.BACKLOG k.val) ≠ 0 ∧ ¬ (localSafe d) ∧ meterRuns d = true :=
  ⟨0, wrs [(PWR.CLK_STAT.PRESENT, 127), (METER.POUT.CFG.EN 0, 1), (METER.POUT.STAT.BACKLOG 0, 1), (LANES.STAT.SAFE_ACT, 0)] rdyDev, by decide +kernel⟩
theorem witness_MeterCommandsComplete_18_dtfPulse :
    ∃ (k : Fin 4) (d : Dev), d.flag (METER.DTF.CFG.EN k.val) ∧ d.flag (METER.FDR.STAT.P_VALID (d.rd (METER.DTF.CFG.FDR k.val))) ∧ ¬ (localSafe d) ∧ meterRuns d :=
  ⟨0, wrs [(METER.DTF.CFG.EN 0, 1), (METER.FDR.STAT.P_VALID 0, 1), (LANES.STAT.SAFE_ACT, 0), (PWR.CLK_STAT.PRESENT, 127)] rdyDev, by decide +kernel⟩
theorem witness_MeterCommandsComplete_19_mcalTimeout :
    ∃ (c : Fin 60) (x : MCal) (d : Dev), look d.meter.cal c.val = some x :=
  ⟨0, { gain := 0, phase := 0, opened := 0 }, { rdyDev with meter := { rdyDev.meter with cal := [(0, { gain := 0, phase := 0, opened := 0 })] } }, by decide +kernel⟩
theorem witness_MeterCommandsComplete_20_dspSelftestEnd :
    ∃ (k : Fin 4) (pass : Bool) (d : Dev), bitOf (d.rd METER.DSP.TEST) k.val :=
  ⟨0, true, wrs [(METER.DSP.TEST, 1)] rdyDev, by decide +kernel⟩
theorem witness_MeterCommandsComplete_21_cttTempUpdate :
    ∃ (t : Fin 32) (d : Dev), islandOn d 8 ∧ ((opState d = 3 ∨ opState d = 4)) :=
  ⟨0, rdyDev, by decide +kernel⟩
theorem witness_HeatComplete_0_heatIvlRead :
    ∃ (h : CmdHdr) (m first count : Nat) (s : State) (d : Dev), d = begun { unit := 6, op := 0x10, isl := [8], kw := true } h s.dev ∧ Ready { unit := 6, op := 0x10, isl := [8], kw := true } h s ∧ m ≤ 255 ∧ 1 ≤ count ∧ count ≤ 4 ∧ recvOk h (192 * count) = true ∧ recsFrom (heatSt d m).recI first count ≠ [] :=
  ⟨hdr [(64, 192)], 0, 1, 1, onDev (setHeat 0 { recI := [[0, 0, 0, 0, 1, 0, 0, 0]] } rdyDev), _, rfl, by decide +kernel, by decide +kernel⟩
theorem witness_HeatComplete_1_heatBillRead :
    ∃ (h : CmdHdr) (m first count : Nat) (s : State) (d : Dev), d = begun { unit := 6, op := 0x11, isl := [8], kw := true } h s.dev ∧ Ready { unit := 6, op := 0x11, isl := [8], kw := true } h s ∧ m ≤ 255 ∧ 1 ≤ count ∧ count ≤ 13 ∧ recvOk h (192 * count) = true ∧ recsFrom (heatSt d m).recB first count ≠ [] :=
  ⟨hdr [(64, 192)], 0, 1, 1, onDev (setHeat 0 { recB := [[0, 0, 0, 0, 1, 0, 0, 0]] } rdyDev), _, rfl, by decide +kernel, by decide +kernel⟩
theorem witness_HeatComplete_2_heatBillClose :
    ∃ (h : CmdHdr) (s : State) (d : Dev), d = begun { unit := 6, op := 0x12, c := true, isl := [8] } h s.dev ∧ Ready { unit := 6, op := 0x12, c := true, isl := [8] } h s ∧ sendOk h 32 ∧ ((heatRunning d).filter (bitOf (ofBytes (inBuf h d)))) ≠ [] :=
  ⟨hdr [(64, 32)], onDev (setHeat 0 { running := true } { memWrite 0 64 (toBytes 1 1) rdyDev with up := 0 }), _, rfl, by decide +kernel, by decide +kernel⟩
theorem witness_HeatEventsComplete_0_heatSample :
    ∃ (m : Fin 256) (d : Dev), (heatSt (heatSettle m.val d) m.val).running = true ∧ (heatSt (heatSettle m.val d) m.val).old = none :=
  ⟨0, wrs [(METER.HEAT_CFG.EN, 1), (METER.HM.CFG.EN 0, 1), (METER.HM.CFG.FKIND 0, 1), (METER.HM.TLIM.TMAX 0, 100), (METER.HM.PRESS 0, 0x3F800000)] rdyDev, by decide +kernel⟩
theorem witness_HeatEventsComplete_1_heatSample :
    ∃ (m : Fin 256) (d : Dev), (heatSt (heatSettle m.val d) m.val).running = false :=
  ⟨0, rdyDev, by decide +kernel⟩
theorem witness_HeatEventsComplete_2_heatSample :
    ∃ (m : Fin 256) (rs : SMap Nat) (d : Dev), (heatSt (heatSettle m.val d) m.val).running = true ∧ (heatSt (heatSettle m.val d) m.val).old = some rs ∧ (heatSt (heatSettle m.val d) m.val).newSrc = false :=
  ⟨0, [], setHeat 0 { running := true, old := some [] } (wrs [(METER.HEAT_CFG.EN, 1), (METER.HM.CFG.EN 0, 1), (METER.HM.CFG.FKIND 0, 1), (METER.HM.TLIM.TMAX 0, 100), (METER.HM.PRESS 0, 0x3F800000)] rdyDev), by decide +kernel⟩
theorem witness_HeatEventsComplete_3_heatIntervalClose :
    ∃ (d : Dev), ((opState d = 3 ∨ opState d = 4)) ∧ islandOn d 8 :=
  ⟨rdyDev, by decide +kernel⟩
theorem witness_HeatEventsComplete_4_billingClose :
    ∃ (d : Dev), ((opState d = 3 ∨ opState d = 4)) ∧ islandOn d 8 :=
  ⟨rdyDev, by decide +kernel⟩
theorem witness_ModelComplete_0_modelLoad :
    ∃ (h : CmdHdr) (s : State) (d : Dev), d = begun { unit := 7, op := 1, isl := [2] } h s.dev ∧ Ready { unit := 7, op := 1, isl := [2] } h s ∧ d.model.analysing = none ∧ 64 ≤ bufLen h ∧ sendOk h (imgLen (imgCounts (inBuf h d))) = true ∧ (imgCounts (inBuf h d)).1 ≤ 8192 ∧ (imgCounts (inBuf h d)).2.1 ≤ 16384 ∧ (imgCounts (inBuf h d)).2.2.1 ≤ 32768 ∧ modelFault d.model.active (inBuf h d) (parseModel (inBuf h d)) = none :=
  ⟨hdr [(64, 64)], onDev (memWrite 0 64 (toBytes 64 0x10000000000000001) rdyDev), _, rfl, by decide +kernel, by decide +kernel⟩
theorem witness_ModelComplete_1_modelAnalysisEnd :
    ∃ (m : NetModel) (t : Nat) (d : Dev), d.model.analysing = some (m, t) :=
  ⟨{ id := 1 }, 0, { rdyDev with model := { rdyDev.model with analysing := some ({ id := 1 }, 0) } }, by decide +kernel⟩
theorem witness_ModelComplete_2_modelActivate :
    ∃ (h : CmdHdr) (s : State) (d : Dev), d = begun { unit := 7, op := 2, c := true } h s.dev ∧ Ready { unit := 7, op := 2, c := true } h s ∧ d.model.analysing = none ∧ d.model.staged.isSome = true :=
  ⟨hdr [], onDev ({ rdyDev with model := { rdyDev.model with staged := some { id := 1 } } }), _, rfl, by decide +kernel, by decide +kernel⟩
theorem witness_ModelComplete_3_modelEdit :
    ∃ (h : CmdHdr) (count : Nat) (m : NetModel) (s : State) (d : Dev), d = begun { unit := 7, op := 3, c := true } h s.dev ∧ Ready { unit := 7, op := 3, c := true } h s ∧ 1 ≤ count ∧ count ≤ 256 ∧ sendOk h (16 * count) = true ∧ d.model.active = some m ∧ (((chunksOf 16 count (inBuf h d)).map editRec).all fun e => !editBad m e) = true :=
  ⟨hdr [(64, 16)], 1, { id := 1, meas := [measRec []] }, onDev (memWrite 0 64 (toBytes 16 2) { rdyDev with model := { rdyDev.model with active := some { id := 1, meas := [measRec []] } } }), _, rfl, by decide +kernel, by decide +kernel⟩
theorem witness_ModelComplete_4_modelRead :
    ∃ (h : CmdHdr) (table first count : Nat) (m : NetModel) (s : State) (d : Dev), d = begun { unit := 7, op := 4, kw := true } h s.dev ∧ Ready { unit := 7, op := 4, kw := true } h s ∧ table ≤ 3 ∧ d.model.active = some m ∧ recvOk h ((match table with | 1 => 48 | 3 => 4 | _ => 32) * count) = true :=
  ⟨hdr [(64, 32)], 0, 0, 1, { id := 1 }, onDev ({ rdyDev with model := { rdyDev.model with active := some { id := 1 } } }), _, rfl, by decide +kernel, by decide +kernel⟩
theorem witness_ModelComplete_5_modelTick :
    ∃ (d : Dev), d.flag TIME.SVC.STAT.TEMPOS_RUN ∧ ((opState d = 3 ∨ opState d = 4)) :=
  ⟨wrs [(TIME.SVC.STAT.TEMPOS_RUN, 1)] rdyDev, by decide +kernel⟩
theorem witness_ModelComplete_6_gatherEnd :
    ∃ (w : EstWin) (d : Dev), d.model.win = some w ∧ estRuns d = true ∧ w.gathered = false :=
  ⟨{ tickNs := 0, model := { id := 1 } }, { wrs [(MODEL.EST_CFG.EN, 1), (SOLV.PART_CFG.E_TILES, 1)] rdyDev with model := { rdyDev.model with active := some { id := 1 }, win := some { tickNs := 0, model := { id := 1 } } } }, by decide +kernel⟩
theorem witness_ModelComplete_7_gatherEnd :
    ∃ (w : EstWin) (d : Dev), d.model.win = some w ∧ estRuns d = false :=
  ⟨{ tickNs := 0, model := { id := 1 } }, { wrs [(PWR.ISL_STAT.STATE 6, 0)] rdyDev with model := { rdyDev.model with active := some { id := 1 }, win := some { tickNs := 0, model := { id := 1 } } } }, by decide +kernel⟩
theorem witness_ModelComplete_8_estConverged :
    ∃ (w : EstWin) (d : Dev), d.model.win = some w ∧ estRuns d = true ∧ w.gathered = true ∧ anyInput w = true :=
  ⟨{ tickNs := 0, model := { id := 1, meas := [{ measRec [] with flags := 1 }] }, gathered := true, vals := [some (0, false)] }, { wrs [(MODEL.EST_CFG.EN, 1), (SOLV.PART_CFG.E_TILES, 1)] rdyDev with model := { rdyDev.model with active := some { id := 1 }, win := some { tickNs := 0, model := { id := 1, meas := [{ measRec [] with flags := 1 }] }, gathered := true, vals := [some (0, false)] } } }, by decide +kernel⟩
theorem witness_ModelComplete_9_estDeadline :
    ∃ (done : Nat) (thermal : Bool) (w : EstWin) (d : Dev), d.model.win = some w ∧ estRuns d = true ∧ w.gathered = false :=
  ⟨0, false, { tickNs := 0, model := { id := 1 } }, { wrs [(MODEL.EST_CFG.EN, 1), (SOLV.PART_CFG.E_TILES, 1)] rdyDev with model := { rdyDev.model with active := some { id := 1 }, win := some { tickNs := 0, model := { id := 1 } } } }, by decide +kernel⟩
theorem witness_ModelComplete_10_estDeadline :
    ∃ (done : Nat) (thermal : Bool) (w : EstWin) (d : Dev), d.model.win = some w ∧ estRuns d = true ∧ w.gathered = true ∧ anyInput w = false :=
  ⟨0, false, { tickNs := 0, model := { id := 1 }, gathered := true }, { wrs [(MODEL.EST_CFG.EN, 1), (SOLV.PART_CFG.E_TILES, 1)] rdyDev with model := { rdyDev.model with active := some { id := 1 }, win := some { tickNs := 0, model := { id := 1 }, gathered := true } } }, by decide +kernel⟩
theorem witness_ModelComplete_11_estDeadline :
    ∃ (done : Nat) (thermal : Bool) (w : EstWin) (d : Dev), d.model.win = some w ∧ estRuns d = true ∧ w.gathered = true ∧ anyInput w = true :=
  ⟨0, false, { tickNs := 0, model := { id := 1, meas := [{ measRec [] with flags := 1 }] }, gathered := true, vals := [some (0, false)] }, { wrs [(MODEL.EST_CFG.EN, 1), (SOLV.PART_CFG.E_TILES, 1)] rdyDev with model := { rdyDev.model with active := some { id := 1 }, win := some { tickNs := 0, model := { id := 1, meas := [{ measRec [] with flags := 1 }] }, gathered := true, vals := [some (0, false)] } } }, by decide +kernel⟩
theorem witness_ModelComplete_12_tdeStep :
    ∃ (t : Nat) (m : NetModel) (d : Dev), d.model.stepDue = some t ∧ d.model.active = some m ∧ tdeRuns d = true :=
  ⟨0, { id := 1 }, { wrs [(MODEL.TDE_CFG.EN, 1)] rdyDev with model := { rdyDev.model with active := some { id := 1 }, stepDue := some 0 } }, by decide +kernel⟩
theorem witness_SolverComplete_0_partSet :
    ∃ (h : CmdHdr) (tiles sram : List Nat) (bwE bwF : Nat) (s : State) (d : Dev), d = begun { unit := 8, op := 1, c := true, isl := [6] } h s.dev ∧ Ready { unit := 8, op := 1, c := true, isl := [6] } h s ∧ bwE ≤ 90 ∧ bwF ≤ 90 ∧ tiles.getD 0 0 + tiles.getD 1 0 + tiles.getD 2 0 ≤ 8 - ((List.range 8).filter (bitOf (d.rd SOLV.TILE_STAT.OUT))).length ∧ sram.getD 0 0 + sram.getD 1 0 + sram.getD 2 0 ≤ 12 ∧ residentTooBig d (sram.getD 0 0) (sram.getD 2 0) = false :=
  ⟨hdr [], [0, 0, 0], [0, 0, 0], 0, 0, onDev (rdyDev), _, rfl, by decide +kernel, by decide +kernel⟩
theorem witness_SolverComplete_1_partSetApply :
    ∃ (q : List Nat) (rest : List (List Nat)) (d : Dev), d.solv.setReq = q :: rest ∧ d.model.win = none ∧ (partSt d 0).cycle = none ∧ (partSt d 1).cycle = none :=
  ⟨[1, 0, 0, 0, 0, 0, 0, 0], [], { rdyDev with solv := { rdyDev.solv with setReq := [[1, 0, 0, 0, 0, 0, 0, 0]] } }, by decide +kernel⟩
theorem witness_SolverComplete_2_structLoad :
    ∃ (h : CmdHdr) (p i : Nat) (s : State) (d : Dev), d = begun { unit := 8, op := 2, isl := [6] } h s.dev ∧ Ready { unit := 8, op := 2, isl := [6] } h s ∧ partOf p = some i ∧ anyAnalysis d = false ∧ 128 ≤ bufLen h ∧ sendOk h ((sectionAt (imgDims (inBuf h d))).getLast?.getD 0) = true ∧ structFault p (inBuf h d) (parseStruct (inBuf h d)) = none ∧ structTooBig (d.rd SOLV.PART_CFG.SRAM_F) (parseStruct (inBuf h d)) = false ∧ islandOn d 2 = true :=
  ⟨hdr [(64, 144)], 2, 1, onDev (memWrite 0 64 (toBytes 144 0x1000000000000000000000000000000000000000104020001) (wrs [(SOLV.PART_CFG.SRAM_F, 1)] rdyDev)), _, rfl, by decide +kernel, by decide +kernel⟩
theorem witness_SolverComplete_3_structAnalysisEnd :
    ∃ (p : Fin 2) (st : QpStruct) (t : Nat) (d : Dev), (partSt d p.val).analysing = some (st, t) :=
  ⟨1, { part := 2, id := 1, horizon := 1, dense := true }, 0, setPart 1 { analysing := some ({ part := 2, id := 1, horizon := 1, dense := true }, 0) } rdyDev, by decide +kernel⟩
theorem witness_SolverComplete_4_structActivate :
    ∃ (h : CmdHdr) (p i : Nat) (s : State) (d : Dev), d = begun { unit := 8, op := 3, c := true, isl := [6] } h s.dev ∧ Ready { unit := 8, op := 3, c := true, isl := [6] } h s ∧ partOf p = some i ∧ anyAnalysis d = false ∧ (partSt d i).staged.isSome = true :=
  ⟨hdr [], 2, 1, onDev (setPart 1 { staged := some { part := 2, id := 1, horizon := 1, dense := true } } rdyDev), _, rfl, by decide +kernel, by decide +kernel⟩
theorem witness_SolverComplete_5_solvDelta :
    ∃ (h : CmdHdr) (p id i : Nat) (st : QpStruct) (s : State) (d : Dev), d = begun { unit := 8, op := 4, isl := [6] } h s.dev ∧ Ready { unit := 8, op := 4, isl := [6] } h s ∧ partOf p = some i ∧ sendOk h (16 * (bufLen h / 16)) = true ∧ bufLen h / 16 ≤ 1048576 ∧ ([(partSt d i).active, (partSt d i).staged].filterMap fun q => q).find? (fun st => st.id == id) = some st ∧ firstBad (fun j r => deltaBad st r || !((deltaRsvd (bufLen h / 16) (inBuf h d)).getD j false)) (deltaRecs (bufLen h / 16) (inBuf h d)) = none :=
  ⟨hdr [(64, 16)], 2, 1, 1, { part := 2, id := 1, horizon := 1, dense := true, q := [0], vars := [(1, 0)] }, onDev (memWrite 0 64 (toBytes 16 1) (setPart 1 { active := some { part := 2, id := 1, horizon := 1, dense := true, q := [0], vars := [(1, 0)] } } rdyDev)), _, rfl, by decide +kernel, by decide +kernel⟩
theorem witness_SolverComplete_6_solvCtrl :
    ∃ (h : CmdHdr) (p action i : Nat) (s : State) (d : Dev), d = begun { unit := 8, op := 5, c := true, isl := [6] } h s.dev ∧ Ready { unit := 8, op := 5, c := true, isl := [6] } h s ∧ partOf p = some i ∧ action ≤ 1 ∧ ((partRequest i (action == 1) d).flag (SOLV.PART.STAT.PENDING_REARM i) = false ∨ action = 0) :=
  ⟨hdr [], 1, 1, 0, onDev (rdyDev), _, rfl, by decide +kernel, by decide +kernel⟩
theorem witness_SolverComplete_7_solvCtrl :
    ∃ (h : CmdHdr) (p i : Nat) (s : State) (d : Dev), d = begun { unit := 8, op := 5, c := true, isl := [6] } h s.dev ∧ Ready { unit := 8, op := 5, c := true, isl := [6] } h s ∧ partOf p = some i ∧ d.flag (SOLV.PART.STAT.MINOFF i) = true ∧ (partRequest i true d).flag (SOLV.PART.STAT.PENDING_REARM i) = true :=
  ⟨hdr [], 1, 0, onDev (wrs [(SOLV.PART.STAT.MINOFF 0, 1)] rdyDev), _, rfl, by decide +kernel, by decide +kernel⟩
theorem witness_SolverComplete_8_solvCtrl :
    ∃ (h : CmdHdr) (p i : Nat) (s : State) (d : Dev), d = begun { unit := 8, op := 5, c := true, isl := [6] } h s.dev ∧ Ready { unit := 8, op := 5, c := true, isl := [6] } h s ∧ partOf p = some i :=
  ⟨hdr [], 1, 0, onDev (rdyDev), _, rfl, by decide +kernel, by decide +kernel⟩
theorem witness_SolverComplete_9_solvRead :
    ∃ (h : CmdHdr) (p what first count i : Nat) (st : QpStruct) (s : State) (d : Dev), d = begun { unit := 8, op := 6, isl := [6], kw := true } h s.dev ∧ Ready { unit := 8, op := 6, isl := [6], kw := true } h s ∧ partOf p = some i ∧ what ≤ 2 ∧ (partSt d i).active = some st ∧ recvOk h (8 * count) = true :=
  ⟨hdr [(64, 8)], 2, 0, 0, 1, 1, { part := 2, id := 1, horizon := 1, dense := true }, onDev (setPart 1 { active := some { part := 2, id := 1, horizon := 1, dense := true } } rdyDev), _, rfl, by decide +kernel, by decide +kernel⟩
theorem witness_SolverComplete_10_planWaitExpiry :
    ∃ (t : Nat) (d : Dev), (partSt d 0).planTick = some t :=
  ⟨0, setPart 0 { planTick := some 0 } rdyDev, by decide +kernel⟩
theorem witness_SolverComplete_11_fTake :
    ∃ (d : Dev), d.flag TIME.SVC.STAT.TEMPOS_RUN ∧ opState d = 3 :=
  ⟨wrs [(TIME.SVC.STAT.TEMPOS_RUN, 1)] rdyDev, by decide +kernel⟩
theorem witness_SolverComplete_12_partitionDelivery :
    ∃ (p : Fin 2) (st : QpStruct) (c : QpCycle) (d : Dev), (partSt d p.val).active = some st ∧ (partSt d p.val).cycle = some c ∧ svcTotalNs d ≤ c.deadline :=
  ⟨1, { part := 2, id := 1, horizon := 1, dense := true }, { tickNs := 0, takeUp := 0, deadline := 1000, base := 0, dvec := [], evec := [], start := {} }, setPart 1 { active := some { part := 2, id := 1, horizon := 1, dense := true }, cycle := some { tickNs := 0, takeUp := 0, deadline := 1000, base := 0, dvec := [], evec := [], start := {} } } rdyDev, by decide +kernel⟩
theorem witness_SolverComplete_13_solveDeadline :
    ∃ (p : Fin 2) (done : Nat) (c : QpCycle) (d : Dev), (partSt d p.val).cycle = some c :=
  ⟨1, 0, { tickNs := 0, takeUp := 0, deadline := 1000, base := 0, dvec := [], evec := [], start := {} }, setPart 1 { active := some { part := 2, id := 1, horizon := 1, dense := true }, cycle := some { tickNs := 0, takeUp := 0, deadline := 1000, base := 0, dvec := [], evec := [], start := {} } } rdyDev, by decide +kernel⟩
theorem witness_SolverComplete_14_partitionMinoffEnd :
    ∃ (p : Fin 2) (d : Dev), d.flag (SOLV.PART.STAT.MINOFF p.val) :=
  ⟨0, wrs [(SOLV.PART.STAT.MINOFF 0, 1)] rdyDev, by decide +kernel⟩
theorem witness_DistributorComplete_0_sdMap :
    ∃ (h : CmdHdr) (count : Nat) (s : State) (d : Dev), d = begun { unit := 8, op := 7, c := true } h s.dev ∧ Ready { unit := 8, op := 7, c := true } h s ∧ count ≤ 2048 ∧ bufLen h = 32 * count ∧ (count = 0 ∨ sendOk h (32 * count) = true) ∧ firstBad (fun _ e => sdBad d e) ((chunksOf 32 count (inBuf h d)).map sdRec) = none ∧ firstBad (fun i e => (((chunksOf 32 count (inBuf h d)).map sdRec).take i).any fun o => sameTarget o e) ((chunksOf 32 count (inBuf h d)).map sdRec) = none :=
  ⟨hdr [], 0, onDev (rdyDev), _, rfl, by decide +kernel, by decide +kernel⟩
theorem witness_DistributorComplete_1_sdRound :
    ∃ (p : Nat) (rest : List Nat) (d : Dev), d.solv.sdDue = p :: rest ∧ d.boot.frozenRsp = false ∧ sdRuns (sdSwap (onSolv (fun k => { k with sdDue := rest }) d)) = true ∧ benchNewer (sdSwap (onSolv (fun k => { k with sdDue := rest }) d)) (0x20 + p) (if p = 0 then (sdSwap (onSolv (fun k => { k with sdDue := rest }) d)).solv.seqD else (sdSwap (onSolv (fun k => { k with sdDue := rest }) d)).solv.seqF) = true :=
  ⟨0, [], { wrs [(SOLV.SD_CFG.EN, 1)] rdyDev with solv := { rdyDev.solv with sdDue := [0] }, bench := [(0x20, { buf0 := { init := true } }) ] }, by decide +kernel⟩
theorem witness_DistributorComplete_2_rampIssue :
    ∃ (d : Dev), sdRuns d ∧ islandOn d 6 ∧ (d.solv.sd.any ramping) ≠ false :=
  ⟨{ wrs [(SOLV.SD_CFG.EN, 1)] rdyDev with solv := { rdyDev.solv with sd := [{ e := { source := 0, part := 1, kind := 1, target := 0, index := 0, en := true, scale := 0, ofs := 0, lo := 0, hi := 0, rate := 0 }, target := 1, issued := 0, started := true, aimed := true }] } }, by decide +kernel⟩
theorem witness_KeysComplete_0_keyUpdate :
    ∃ (h : CmdHdr) (s : State) (d : Dev), d = begun { unit := 14, op := 1, c := true, isl := [13] } h s.dev ∧ Ready { unit := 14, op := 1, c := true, isl := [13] } h s ∧ bufOk h = true ∧ kuCheck d (inBuf h d) = 0 :=
  ⟨hdr [(64, 164)], onDev ({ memWrite 0 64 (toBytes 164 0x85a6240432b0a0641505728bc42972ae8d8b419518bdbbc581c814edc197773e75ad20f31ec7b18e37058bbe22ca87aab70a7672385e543a6c2955bf5df20255382a5482e041f759989ba78b623b1d6e74ad20f31ec7b18e37058bbe22ca87aaffff000000000000000000000000000000000000000000000000000000000000000000000000000100000004000000019600000000000000000000000000000000060001) (wrs [(CRUST.STATUS.COUNT_LOST, 0), (CRUST.STATUS.KEY_LOST, 0)] rdyDev) with keys := { rdyDev.keys with anchor := grantDev.keys.anchor } }), _, rfl, by decide +kernel, by decide +kernel⟩
theorem witness_KeysComplete_1_keyPub :
    ∃ (h : CmdHdr) (slot : Nat) (nonce : List Byte) (s : State) (d : Dev), d = begun { unit := 14, op := 2, isl := [13], kw := true } h s.dev ∧ Ready { unit := 14, op := 2, isl := [13], kw := true } h s ∧ slot ≤ 63 ∧ slotRefusal d slot [2, 3, 4] = 0 ∧ recvOk h 192 = true :=
  ⟨hdr [(64, 192)], 0, [], onDev (wrs [(CRUST.STATUS.COUNT_LOST, 0), (CRUST.STATUS.KEY_LOST, 0), (KEYS.SLOT.CFG.TYPE 0, 1), (KEYS.SLOT.CFG.USE 0, 3), (KEYS.SLOT.CFG.NODE 0, 0), (KEYS.NODE.CFG.STATE 0, 1), (KEYS.NODE.CFG.PARENT 0, 0xFFFF), (KEYS.NODE.CFG.USE 0, 3)] rdyDev), _, rfl, by decide +kernel, by decide +kernel⟩
theorem witness_KeysComplete_2_keyPub :
    ∃ (h : CmdHdr) (nonce : List Byte) (s : State) (d : Dev), d = begun { unit := 14, op := 2, isl := [13], kw := true } h s.dev ∧ Ready { unit := 14, op := 2, isl := [13], kw := true } h s ∧ recvOk h (192 + identityCert.length) = true :=
  ⟨hdr [(64, 192 + identityCert.length)], [], onDev (rdyDev), _, rfl, by decide +kernel, by
    have h : identityCert.length ≤ maxBuf - 192 := List.length_take_le _ _
    generalize identityCert.length = n at h ⊢
    simp [recvOk, bufOk, bufLen, hdr, maxBuf] at h ⊢
    exact decide_eq_true (by omega)⟩
theorem witness_KeysComplete_3_keyOp :
    ∃ (h : CmdHdr) (slot : Nat) (iv : List Byte) (s : State) (d : Dev), d = begun { unit := 14, op := 3, isl := [13] } h s.dev ∧ Ready { unit := 14, op := 3, isl := [13] } h s ∧ slot ≤ 63 ∧ bufOk h = true ∧ bufLen h ≤ 65536 ∧ slotRefusal d slot [5] = 0 :=
  ⟨hdr [(64, 4)], 0, [], onDev (wrs [(CRUST.STATUS.COUNT_LOST, 0), (CRUST.STATUS.KEY_LOST, 0), (KEYS.SLOT.CFG.TYPE 0, 1), (KEYS.SLOT.CFG.USE 0, 5), (KEYS.SLOT.CFG.NODE 0, 0), (KEYS.NODE.CFG.STATE 0, 1), (KEYS.NODE.CFG.PARENT 0, 0xFFFF), (KEYS.NODE.CFG.USE 0, 5)] rdyDev), _, rfl, by decide +kernel, by decide +kernel⟩
theorem witness_KeysComplete_4_keyOp :
    ∃ (h : CmdHdr) (slot : Nat) (iv : List Byte) (s : State) (d : Dev), d = begun { unit := 14, op := 3, isl := [13] } h s.dev ∧ Ready { unit := 14, op := 3, isl := [13] } h s ∧ slot ≤ 63 ∧ bufOk h = true ∧ bufLen h ≤ 65536 ∧ slotRefusal d slot [6] = 0 :=
  ⟨hdr [(64, 4)], 0, [], onDev (wrs [(CRUST.STATUS.COUNT_LOST, 0), (CRUST.STATUS.KEY_LOST, 0), (KEYS.SLOT.CFG.TYPE 0, 1), (KEYS.SLOT.CFG.USE 0, 6), (KEYS.SLOT.CFG.NODE 0, 0), (KEYS.NODE.CFG.STATE 0, 1), (KEYS.NODE.CFG.PARENT 0, 0xFFFF), (KEYS.NODE.CFG.USE 0, 6)] rdyDev), _, rfl, by decide +kernel, by decide +kernel⟩
theorem witness_KeysComplete_5_keyOp :
    ∃ (h : CmdHdr) (slot : Nat) (iv : List Byte) (s : State) (d : Dev), d = begun { unit := 14, op := 3, isl := [13] } h s.dev ∧ Ready { unit := 14, op := 3, isl := [13] } h s ∧ slot ≤ 63 ∧ bufOk h = true ∧ bufLen h ≤ 65536 ∧ slotRefusal d slot [6] = 0 :=
  ⟨hdr [(64, 4)], 0, [], onDev (wrs [(CRUST.STATUS.COUNT_LOST, 0), (CRUST.STATUS.KEY_LOST, 0), (KEYS.SLOT.CFG.TYPE 0, 1), (KEYS.SLOT.CFG.USE 0, 6), (KEYS.SLOT.CFG.NODE 0, 0), (KEYS.NODE.CFG.STATE 0, 1), (KEYS.NODE.CFG.PARENT 0, 0xFFFF), (KEYS.NODE.CFG.USE 0, 6)] rdyDev), _, rfl, by decide +kernel, by decide +kernel⟩
theorem witness_KeysComplete_6_keyOp :
    ∃ (h : CmdHdr) (slot : Nat) (iv : List Byte) (s : State) (d : Dev), d = begun { unit := 14, op := 3, isl := [13] } h s.dev ∧ Ready { unit := 14, op := 3, isl := [13] } h s ∧ slot ≤ 63 ∧ bufOk h = true ∧ bufLen h ≤ 65536 ∧ slotRefusal d slot [4] = 0 :=
  ⟨hdr [(64, 4)], 0, [], onDev (wrs [(CRUST.STATUS.COUNT_LOST, 0), (CRUST.STATUS.KEY_LOST, 0), (KEYS.SLOT.CFG.TYPE 0, 1), (KEYS.SLOT.CFG.USE 0, 4), (KEYS.SLOT.CFG.NODE 0, 0), (KEYS.NODE.CFG.STATE 0, 1), (KEYS.NODE.CFG.PARENT 0, 0xFFFF), (KEYS.NODE.CFG.USE 0, 4)] rdyDev), _, rfl, by decide +kernel, by decide +kernel⟩
theorem witness_KeysComplete_7_keyRead :
    ∃ (h : CmdHdr) (table first count : Nat) (s : State) (d : Dev), d = begun { unit := 14, op := 4, isl := [13], kw := true } h s.dev ∧ Ready { unit := 14, op := 4, isl := [13], kw := true } h s ∧ table ≤ 1 ∧ first < (if table = 0 then 128 else 64) ∧ recvOk h ((if table = 0 then 48 else 16) * count) :=
  ⟨hdr [(64, 48)], 0, 0, 1, onDev (rdyDev), _, rfl, by decide +kernel, by decide +kernel⟩
theorem witness_KeysComplete_8_keyJtag :
    ∃ (h : CmdHdr) (s : State) (d : Dev), d = begun { unit := 14, op := 5, c := true } h s.dev ∧ Ready { unit := 14, op := 5, c := true } h s ∧ (checkGrant 5 h d).1 = 0 :=
  ⟨hdr [(64, 160)], onDev (grantDev), _, rfl, by decide +kernel, by decide +kernel⟩
/-- A device whose host memory holds a signed header. -/
def trayDev : Dev := { memWrite 0 64 (toBytes 448 0x55b852781b9995a44c939b64e441ae2724b96f99c8f4fb9a141cfc9842c4b0e3000000000000000000000000000000000000000000000032000000000000000000000000000000000000000000000000000000000000000000000000000000000000000000000000000000000000000000000000000000004e3b8285d100b1f1e8099f99ff95429e4861db588a82f891b84252ca4de16caf74ad20f31ec7b18e37058bbe22ca87aab70a7672385e543a6c2955bf5df20255382a5482e041f759989ba78b623b1d6e74ad20f31ec7b18e37058bbe22ca87aa000000000000000000000000000000000000000000000000000000000000000000000000000000000000000000000000000000000000000000000000000000000000000000000000000000000000000000000000000000000000000000000000000000000000000000000000000000000000000000000000000000000000000000000000000000000000000000000000a1299b17b855c67686132a6aaaad04dacb0d0e4cd2a4412576f97ef2c914656c000000000000000000020001000000000000000100000000000000000000000000000000ff00ffff9600000159415254) (wrs [(CRUST.STATUS.COUNT_LOST, 0), (CRUST.STATUS.KEY_LOST, 0), (KEYS.SLOT.CFG.TYPE 0, 2), (KEYS.SLOT.CFG.USE 0, 17)] rdyDev) with keys := { rdyDev.keys with pubs := [(0, grantDev.keys.anchor)] } }
/-- The device once the command has begun. -/
def trayD : Dev := begun { unit := 15, op := 1, c := true, isl := [13], kw := true, rack := true } (hdr [(64, 448)]) trayDev
/-- The header the command reads. -/
def trayB : List Byte := inBuf (hdr [(64, 448)]) trayD
theorem tray_0 : trayFormatOk false trayB = true := by decide +kernel
theorem tray_1 : fieldAt trayB 6 2 = 0x9600 := by decide +kernel
theorem tray_2 : fieldAt trayB 8 2 = 65535 := by decide +kernel
theorem tray_3 : isZero (hdrTarget trayB) = true := by decide +kernel
theorem tray_4 : levelOk (hdrSet trayB) trayD = true := by decide +kernel
theorem tray_5 : countLost trayD = false := by decide +kernel
theorem tray_6 : rollbackOk (hdrSet trayB) trayD = true := by decide +kernel
theorem tray_7 : signersOk false trayB trayD = true := by decide +kernel
theorem tray_8 : ([0, 1].any fun p => portWorks trayD p && decide (poolFree trayD p < hdrPayload trayB)) = false := by decide +kernel
theorem tray_9 : (hdrParts trayB).any (fun p => p.kind == 0x30 || p.kind == 0x31) = false := by decide +kernel
theorem tray_10 : lastImport trayD (hdrSet trayB).exporter = none := by decide +kernel
theorem witness_UpdateComplete_0_updOpen :
    ∃ (h : CmdHdr) (s : State) (d : Dev), d = begun { unit := 15, op := 1, c := true, isl := [13], kw := true, rack := true } h s.dev ∧ Ready { unit := 15, op := 1, c := true, isl := [13], kw := true, rack := true } h s ∧ bufOk h = true ∧ d.upd.staging = none ∧ d.upd.arm = none ∧ openCheck false (inBuf h d) d = 0 := by
  refine ⟨hdr [(64, 448)], onDev trayDev, _, rfl, by decide +kernel, by decide +kernel, by decide +kernel, by decide +kernel, ?_⟩
  exact openCheck_zero tray_0 tray_1 tray_2 (.inl tray_3) tray_4 tray_5 tray_6 tray_7 tray_8 tray_9 tray_10
/-- A device whose host memory holds a signed header. -/
def recipeDev : Dev := { memWrite 0 64 (toBytes 576 0x55b852781b9995a44c939b64e441ae2724b96f99c8f4fb9a141cfc9842c4b0e300000000000000000000000000000000000000000000003200000000000000000000000000000000000000000000000000000000000000000000000000000000000000000000000000000000000000000000000000000000d99126384cd8b18e265b764ef1f6782f6690f537611fde63d94451d8e2b047e174ad20f31ec7b18e37058bbe22ca87aab70a7672385e543a6c2955bf5df20255382a5482e041f759989ba78b623b1d6e74ad20f31ec7b18e37058bbe22ca87aa000000000000000000000000000000000000000000000000000000000000000000000000000000000000000000000000000000000000000000000000000000000000000000000000000000000000000000000000000000000000000000000000000000000000000000000000000000000000000000000000000000000000000000000000000000000000000000000007a1299b17b855c67686132a6aaaad04dacb0d0e4cd2a4412576f97ef2c914656c000000000000000000040201000000010000000100000000000000000000000000000000ff00ffff9600000159415254) (wrs [(CRUST.STATUS.COUNT_LOST, 0), (CRUST.STATUS.KEY_LOST, 0), (KEYS.SLOT.CFG.TYPE 0, 2), (KEYS.SLOT.CFG.USE 0, 18)] rdyDev) with keys := { rdyDev.keys with pubs := [(0, grantDev.keys.anchor)] } }
/-- The device once the command has begun. -/
def recipeD : Dev := begun { unit := 15, op := 10, c := true, isl := [13] } (hdr [(64, 576)]) recipeDev
/-- The header the command reads. -/
def recipeB : List Byte := inBuf (hdr [(64, 576)]) recipeD
theorem recipe_0 : trayFormatOk true recipeB = true := by decide +kernel
theorem recipe_1 : fieldAt recipeB 6 2 = 0x9600 := by decide +kernel
theorem recipe_2 : fieldAt recipeB 8 2 = 65535 := by decide +kernel
theorem recipe_3 : isZero (hdrTarget recipeB) = true := by decide +kernel
theorem recipe_4 : levelOk (hdrSet recipeB) recipeD = true := by decide +kernel
theorem recipe_5 : countLost recipeD = false := by decide +kernel
theorem recipe_6 : rollbackOk (hdrSet recipeB) recipeD = true := by decide +kernel
theorem recipe_7 : signersOk true recipeB recipeD = true := by decide +kernel
theorem recipe_8 : ([0, 1].any fun p => portWorks recipeD p && decide (poolFree recipeD p < hdrPayload recipeB)) = false := by decide +kernel
theorem recipe_9 : (hdrParts recipeB).any (fun p => p.kind == 0x30 || p.kind == 0x31) = false := by decide +kernel
theorem recipe_10 : lastImport recipeD (hdrSet recipeB).exporter = none := by decide +kernel
theorem witness_UpdateComplete_1_recipeImport :
    ∃ (h : CmdHdr) (s : State) (d : Dev), d = begun { unit := 15, op := 10, c := true, isl := [13] } h s.dev ∧ Ready { unit := 15, op := 10, c := true, isl := [13] } h s ∧ bufOk h = true ∧ d.upd.staging = none ∧ d.upd.arm = none ∧ openCheck true (inBuf h d) d = 0 := by
  refine ⟨hdr [(64, 576)], onDev recipeDev, _, rfl, by decide +kernel, by decide +kernel, by decide +kernel, by decide +kernel, ?_⟩
  exact openCheck_zero recipe_0 recipe_1 recipe_2 (.inl recipe_3) recipe_4 recipe_5 recipe_6 recipe_7 recipe_8 recipe_9 recipe_10
theorem witness_UpdateComplete_2_updData :
    ∃ (h : CmdHdr) (part offset : Nat) (badA badB : Bool) (g : Staging) (p : UpdPart) (s : State) (d : Dev), d = begun { unit := 15, op := 2, kw := true, rack := true } h s.dev ∧ Ready { unit := 15, op := 2, kw := true, rack := true } h s ∧ d.upd.staging = some g ∧ g.man[part]? = some p ∧ bufOk h = true ∧ offset + bufLen h ≤ p.len ∧ ¬ (badA = true ∧ badB = true) :=
  ⟨hdr [(64, 4)], 0, 0, false, false, { header := [], man := [{ kind := 1, len := 4 }] }, { kind := 1, len := 4 }, onDev ({ rdyDev with upd := { rdyDev.upd with staging := some { header := [], man := [{ kind := 1, len := 4 }] } } }), _, rfl, by decide +kernel, by decide +kernel⟩
theorem witness_UpdateComplete_3_updClose :
    ∃ (h : CmdHdr) (parts : List PartIn) (g : Staging) (area : List Byte) (s : State) (d : Dev), d = begun { unit := 15, op := 3, c := true, kw := true, rack := true } h s.dev ∧ Ready { unit := 15, op := 3, c := true, kw := true, rack := true } h s ∧ d.upd.staging = some g ∧ payloadArea g d = some area ∧
  (let ps := g.man.zipIdx.map fun e => { e.1 with bytes := (area.drop e.1.off).take e.1.len, content := (parts.getD e.2 {}).content }
   (ps.zipIdx.all fun e => partFault g (expectAfter ps d) e.1 (parts.getD e.2 {}).sealOk d == 0) = true) :=
  ⟨hdr [], [], { header := [], man := [{ kind := 0x32, hash := sha256 [] }] }, [], onDev ({ rdyDev with upd := { rdyDev.upd with staging := some { header := [], man := [{ kind := 0x32, hash := sha256 [] }] } } }), _, rfl, by decide +kernel, by decide +kernel⟩
theorem witness_UpdateComplete_4_updActivate :
    ∃ (h : CmdHdr) (sec tick : Nat) (t : TraySet) (s : State) (d : Dev), d = begun { unit := 15, op := 4, c := true } h s.dev ∧ Ready { unit := 15, op := 4, c := true } h s ∧ epochBad sec tick d = false ∧ d.upd.staged = some t ∧ d.rd UPD.STAT.STATE = 2 ∧ countLost d = false ∧ 2 ≤ inServ d ∧ (t.recipe = false ∨ t.lo = d.rd GLB.COMPAT_LEVEL.LEVEL) ∧ refusal t.defaults false t.parts d = none :=
  ⟨hdr [], 100, 0, { parts := [] }, onDev ({ wrs [(TIME.SVC.STAT.TEMPOS_RUN, 1), (UPD.STAT.STATE, 2), (CRUST.STATUS.COUNT_LOST, 0)] rdyDev with upd := { rdyDev.upd with staged := some { parts := [] } } }), _, rfl, by decide +kernel, by decide +kernel⟩
theorem witness_UpdateComplete_5_updRevert :
    ∃ (h : CmdHdr) (sec tick : Nat) (t : TraySet) (s : State) (d : Dev), d = begun { unit := 15, op := 5, c := true } h s.dev ∧ Ready { unit := 15, op := 5, c := true } h s ∧ epochBad sec tick d = false ∧ d.upd.prev = some t ∧ d.upd.arm = none ∧ countLost d = false ∧ d.rd (CRUST.CNT.VALUE 0) ≤ t.rb ∧ 2 ≤ inServ d ∧ refusal d.upd.active.defaults true (revertParts t.dir d.upd.active.dir) d = none :=
  ⟨hdr [], 100, 0, { }, onDev ({ wrs [(TIME.SVC.STAT.TEMPOS_RUN, 1), (CRUST.STATUS.COUNT_LOST, 0)] rdyDev with upd := { rdyDev.upd with prev := some { } } }), _, rfl, by decide +kernel, by decide +kernel⟩
theorem witness_UpdateComplete_6_updCancel :
    ∃ (h : CmdHdr) (s : State) (d : Dev), d = begun { unit := 15, op := 6, c := true, kw := true, rack := true } h s.dev ∧ Ready { unit := 15, op := 6, c := true, kw := true, rack := true } h s ∧ (d.upd.arm.any (·.committed)) = false :=
  ⟨hdr [], onDev (rdyDev), _, rfl, by decide +kernel, by decide +kernel⟩
theorem witness_UpdateComplete_7_updRecover :
    ∃ (h : CmdHdr) (t : TraySet) (s : State) (d : Dev), d = begun { unit := 15, op := 7, c := true, rack := true } h s.dev ∧ Ready { unit := 15, op := 7, c := true, rack := true } h s ∧ d.upd.arm = none ∧ d.upd.staged = some t ∧ levelOk t d = true ∧ countLost d = false ∧ rollbackOk t d = true :=
  ⟨hdr [], { }, onDev ({ wrs [(CRUST.STATUS.COUNT_LOST, 0)] rdyDev with upd := { rdyDev.upd with staged := some { } } }), _, rfl, by decide +kernel, by decide +kernel⟩
theorem witness_UpdateComplete_8_updRecover :
    ∃ (h : CmdHdr) (t : TraySet) (s : State) (d : Dev), d = begun { unit := 15, op := 7, c := true, rack := true } h s.dev ∧ Ready { unit := 15, op := 7, c := true, rack := true } h s ∧ d.upd.arm = none ∧ d.upd.prev = some t ∧ levelOk t d = true ∧ countLost d = false ∧ d.rd (CRUST.CNT.VALUE 0) ≤ t.rb :=
  ⟨hdr [], { }, onDev ({ wrs [(CRUST.STATUS.COUNT_LOST, 0)] rdyDev with upd := { rdyDev.upd with prev := some { } } }), _, rfl, by decide +kernel, by decide +kernel⟩
theorem witness_UpdateComplete_9_updReport :
    ∃ (h : CmdHdr) (s : State) (d : Dev), d = begun { unit := 15, op := 8, kw := true } h s.dev ∧ Ready { unit := 15, op := 8, kw := true } h s ∧ recvOk h 1216 :=
  ⟨hdr [(64, 1216)], onDev (rdyDev), _, rfl, by decide +kernel, by decide +kernel⟩
theorem witness_UpdateComplete_10_recipeExport :
    ∃ (h : CmdHdr) (flags : Nat) (target : List Byte) (s : State) (d : Dev), d = begun { unit := 15, op := 9, c := true, isl := [13], kw := true } h s.dev ∧ Ready { unit := 15, op := 9, c := true, isl := [13], kw := true } h s ∧ flags = 2 ∧ slotRefusal d (d.rd UPD.CFG.REPORT_SLOT) [3] = 0 ∧ countLost d = false ∧ d.rd (CRUST.CNT.VALUE 2) ≠ 0xFFFFFFFF :=
  ⟨hdr [], 2, [], onDev (wrs [(CRUST.STATUS.COUNT_LOST, 0), (CRUST.STATUS.KEY_LOST, 0), (KEYS.SLOT.CFG.TYPE 0, 1), (KEYS.SLOT.CFG.USE 0, 3), (KEYS.SLOT.CFG.NODE 0, 0), (KEYS.NODE.CFG.STATE 0, 1), (KEYS.NODE.CFG.PARENT 0, 0xFFFF), (KEYS.NODE.CFG.USE 0, 3)] rdyDev), _, rfl, by decide +kernel, by decide +kernel⟩
theorem witness_UpdateComplete_11_recipeExport :
    ∃ (h : CmdHdr) (flags : Nat) (target : List Byte) (badB : Bool) (s : State) (d : Dev), d = begun { unit := 15, op := 9, c := true, isl := [13], kw := true } h s.dev ∧ Ready { unit := 15, op := 9, c := true, isl := [13], kw := true } h s ∧ flags ≤ 1 ∧ slotRefusal d (d.rd UPD.CFG.REPORT_SLOT) [3] = 0 ∧ countLost d = false ∧ d.rd (CRUST.CNT.VALUE 2) ≠ 0xFFFFFFFF :=
  ⟨hdr [], 0, [], false, onDev (wrs [(CRUST.STATUS.COUNT_LOST, 0), (CRUST.STATUS.KEY_LOST, 0), (KEYS.SLOT.CFG.TYPE 0, 1), (KEYS.SLOT.CFG.USE 0, 3), (KEYS.SLOT.CFG.NODE 0, 0), (KEYS.NODE.CFG.STATE 0, 1), (KEYS.NODE.CFG.PARENT 0, 0xFFFF), (KEYS.NODE.CFG.USE 0, 3)] rdyDev), _, rfl, by decide +kernel, by decide +kernel⟩
theorem witness_UpdateComplete_12_stagingTimeout :
    ∃ (g : Staging) (d : Dev), d.upd.staging = some g :=
  ⟨{ header := [], man := [{ kind := 0x32, hash := sha256 [] }] }, { rdyDev with upd := { rdyDev.upd with staging := some { header := [], man := [{ kind := 0x32, hash := sha256 [] }] } } }, by decide +kernel⟩
theorem witness_UpdateComplete_13_partArmed :
    ∃ (part : Nat) (a : Arming) (d : Dev), d.upd.arm = some a ∧ a.committed = false :=
  ⟨0, { sec := 0, tick := 0, set := { }, parts := [{ part := { kind := 0x32, hash := sha256 [] } }] }, { rdyDev with upd := { rdyDev.upd with arm := some { sec := 0, tick := 0, set := { }, parts := [{ part := { kind := 0x32, hash := sha256 [] } }] } } }, by decide +kernel⟩
theorem witness_UpdateComplete_14_collect :
    ∃ (ok : Bool) (a : Arming) (d : Dev), d.upd.arm = some a ∧ a.committed = false ∧ collectFault ok a (toSvcNs (epochNs a.sec a.tick - 50000000) d) = none :=
  ⟨true, { sec := 0, tick := 0, set := { }, parts := [{ part := { kind := 0x32, hash := sha256 [] }, st := 1 }] }, { wrs [(CRUST.STATUS.COUNT_LOST, 0)] rdyDev with upd := { rdyDev.upd with arm := some { sec := 0, tick := 0, set := { }, parts := [{ part := { kind := 0x32, hash := sha256 [] }, st := 1 }] } } }, by decide +kernel⟩
theorem witness_UpdateComplete_15_collect :
    ∃ (ok : Bool) (a : Arming) (r st i : Nat) (d : Dev), d.upd.arm = some a ∧ a.committed = false ∧ collectFault ok a (toSvcNs (epochNs a.sec a.tick - 50000000) d) = some (r, st, i) :=
  ⟨true, { sec := 0, tick := 0, set := { }, parts := [{ part := { kind := 0x32, hash := sha256 [] } }] }, 1, 0x0F0F, 0, { rdyDev with upd := { rdyDev.upd with arm := some { sec := 0, tick := 0, set := { }, parts := [{ part := { kind := 0x32, hash := sha256 [] } }] } } }, by decide +kernel⟩
theorem witness_UpdateComplete_16_partSwitch :
    ∃ (part : Nat) (a : Arming) (p : ArmPart) (d : Dev), d.upd.arm = some a ∧ a.parts[part]? = some p ∧ a.committed = true ∧ p.st = 1 ∧ (p.part.kind ≠ 2 ∨ (a.parts.all fun q => q.st != 1 || q.part.kind == 2) = true) ∧ islandOn (toSvcNs (epochNs a.sec a.tick) d) (partIsland p.part) = true :=
  ⟨0, { sec := 0, tick := 0, committed := true, set := { }, parts := [{ part := { kind := 0x32, hash := sha256 [] }, st := 1 }] }, { part := { kind := 0x32, hash := sha256 [] }, st := 1 }, { rdyDev with upd := { rdyDev.upd with arm := some { sec := 0, tick := 0, committed := true, set := { }, parts := [{ part := { kind := 0x32, hash := sha256 [] }, st := 1 }] } } }, by decide +kernel⟩
theorem witness_UpdateComplete_17_partSwitch :
    ∃ (part : Nat) (a : Arming) (p : ArmPart) (d : Dev), d.upd.arm = some a ∧ a.parts[part]? = some p ∧ a.committed = true ∧ p.st = 1 ∧ (p.part.kind ≠ 2 ∨ (a.parts.all fun q => q.st != 1 || q.part.kind == 2) = true) ∧ islandOn (toSvcNs (epochNs a.sec a.tick) d) (partIsland p.part) = false :=
  ⟨0, { sec := 0, tick := 0, committed := true, set := { }, parts := [{ part := { kind := 5, hash := sha256 [] }, st := 1 }] }, { part := { kind := 5, hash := sha256 [] }, st := 1 }, { wrs [(PWR.ISL_STAT.STATE 8, 0)] rdyDev with upd := { rdyDev.upd with arm := some { sec := 0, tick := 0, committed := true, set := { }, parts := [{ part := { kind := 5, hash := sha256 [] }, st := 1 }] } } }, by decide +kernel⟩
theorem witness_StepRunsFrontCommand_idle :
    ∃ s : State, s.pending = [] :=
  ⟨State.reset, rfl⟩
theorem witness_StepKeepsInvariant_reset :
    ∃ s t : State, Inv s ∧ step s = .next t :=
  ⟨State.reset, _, ⟨rfl, rfl⟩, rfl⟩
theorem witness_HostMemoryWrites_write :
    ∃ (bs : List Byte) (d : Dev) (q b : Nat), bs.length ≤ 2 ^ 64 ∧ bs ≠ [] ∧ Memory.wf d.host.mem = true ∧ ∀ i, i < bs.length → memKey q b ≠ memKey 0 (64 + i) :=
  ⟨[1, 2], {}, 1, 64, by decide, by decide, by decide, by decide⟩
theorem witness_BenchPublishesWhole_free :
    ∃ d : Dev, (benchTab d 1).otherLeases = [] :=
  ⟨{}, by decide⟩
theorem witness_BenchPublishesWhole_leased :
    ∃ d : Dev, (benchTab d 1).otherLeases ≠ [] :=
  ⟨{ bench := [(1, { lease1 := [7] })] }, by decide⟩
theorem witness_LogicCountersStep_runs :
    ∃ (l : Fin 3) (a : Nat) (s : State), ClpRuns l.val s.dev ∧ ((laneSt s.dev l.val).ctr a).cv < 2 ^ 32 ∧ (laneSt s.dev l.val).clp.ba = true :=
  ⟨0, 5, onDev (clpDev { clp := { ba := true, ctr := [(5, { cv := 2 ^ 31 - 1 })] } }), by decide +kernel, by decide +kernel, by decide +kernel⟩
theorem witness_LogicWordsCompute_runs :
    ∃ (l : Fin 3) (sp : Fin 16) (a : Nat) (s : State), ClpRuns l.val s.dev ∧ (laneSt s.dev l.val).clp.wa < 2 ^ 32 ∧ wordOpnd (laneSt s.dev l.val) false sp.val a < 2 ^ 32 ∧ sgn 32 (wordOpnd (laneSt s.dev l.val) false sp.val a) ≠ 0 :=
  ⟨0, 9, 0xFFFF, onDev (clpDev { clp := { wa := 7 } }), by decide +kernel, by decide +kernel, by decide +kernel, by decide +kernel⟩
theorem witness_FaultClassNeverMilder_classes :
    ∃ (det v : Nat), fdClass det ≤ v ∧ v ≤ 5 ∧ ∃ u, u < fdClass det :=
  ⟨29, 5, by decide, by decide, 0, by decide⟩
theorem witness_FaultClassNeverMilder_raise :
    ∃ (d : Dev) (r : Raise), r.det < 172 ∧ opState d ≠ 2 ∧ suppressed (d.bump (FCU.DET.COUNT r.det)) r = false ∧ classOf d r.det ≠ 0 ∧ d.flag (FCU.REC.STATE.OPEN r.det) = false :=
  ⟨rdyDev, { det := 29, src := 1, detail := 0 }, by decide +kernel, by decide +kernel, by decide +kernel, by decide +kernel, by decide +kernel⟩
theorem witness_FaultRecordOpens_raise :
    ∃ (d : Dev) (r : Raise), r.det < 172 ∧ opState d ≠ 2 ∧ suppressed (d.bump (FCU.DET.COUNT r.det)) r = false ∧ classOf d r.det ≠ 0 ∧ d.flag (FCU.REC.STATE.OPEN r.det) = false :=
  ⟨rdyDev, { det := 0, src := 1, detail := 0 }, by decide +kernel, by decide +kernel, by decide +kernel, by decide +kernel, by decide +kernel⟩
theorem witness_VoteNeedsTwoEqual_three :
    ∃ (l : List Nat) (v : Nat), l.length ≤ 3 ∧ majority l = some v ∧ ∃ w ∈ l, w ≠ v :=
  ⟨[4, 7, 7], 7, by decide, by decide, 4, by decide, by decide⟩
theorem witness_CommandsTurnedAway_rack :
    ∃ (sp : CmdSpec) (h : CmdHdr) (s : State), canStart h sp.unit sp.op s.dev = true ∧ cmdGate sp h (begun sp h s.dev) = some stWrongState :=
  ⟨{ unit := 7, op := 1, isl := [2] }, hdr [], onDev (wrs [(GLB.STATE.STATE, 5)] rdyDev), by decide +kernel, by decide +kernel⟩
theorem witness_CommandsTurnedAway_off :
    ∃ (sp : CmdSpec) (h : CmdHdr) (s : State), canStart h sp.unit sp.op s.dev = true ∧ cmdGate sp h (begun sp h s.dev) = some stUnavailable :=
  ⟨{ unit := 7, op := 1, isl := [2] }, hdr [], onDev (wrs [(PWR.ISL_STAT.STATE 2, 0)] rdyDev), by decide +kernel, by decide +kernel⟩
theorem witness_OffBlocksDoNotRespond_blocks :
    ∃ (a b c : Nat) (d : Dev), blockOf a = none ∧ blockOf b = some 13 ∧ islandOn d (blockIsland 13) = false ∧ blockOf c = some 6 ∧ opState d = 5 :=
  ⟨0x1F00000, 0xD00000, 0x600000, wrs [(GLB.STATE.STATE, 5), (PWR.ISL_STAT.STATE 8, 0)] rdyDev, by decide +kernel, by decide +kernel, by decide +kernel, by decide +kernel, by decide +kernel⟩
theorem witness_OffBlocksDoNotRespond_write :
    ∃ (a : Nat), a % 4 = 0 ∧ blockOf a = none :=
  ⟨0x1F00000, by decide⟩
theorem witness_OffBlocksDoNotRespond_other :
    ∃ f : FRef, f.key ≠ GLB.IGN_WRITES.COUNT.key ∧ f.key ≠ GLB.IGN_WRITES.LAST_PORT.key ∧ f.key ≠ GLB.IGN_ADDR.ADDR.key :=
  ⟨GLB.STATE.STATE, by decide⟩
theorem witness_EnergySnapshotsExact_reads :
    ∃ (d1 d2 : Dev) (f r : Nat), energy d1 f r / snapDiv d1 < energy d2 f r / snapDiv d2 ∧ energy d2 f r / snapDiv d2 - energy d1 f r / snapDiv d1 < 2 ^ 32 ∧ energy d2 f r / snapDiv d2 < 2 ^ 48 :=
  ⟨{}, { meter := { e := [(0, 50000)] } }, 0, 0, by decide +kernel, by decide +kernel, by decide +kernel⟩
theorem witness_WrappingCountersCompare_near :
    ∃ (w a b : Nat), 0 < w ∧ (a : Int) - b < 2 ^ (w - 1) ∧ -(2 ^ (w - 1) : Int) < (a : Int) - b ∧ a % 2 ^ w < b % 2 ^ w :=
  ⟨8, 256, 255, by decide, by decide, by decide, by decide⟩
theorem witness_EffectiveTickIsFirst_started :
    ∃ (d : Dev) (t lead : Nat), d.gate.t0 = some t ∧ t ≤ d.up + lead :=
  ⟨{ gate := { t0 := some 0 } }, 0, 20000, by decide, by decide⟩
theorem witness_RecorderQueueDrops_room :
    ∃ d : Dev, d.evr.queue.length < 1024 :=
  ⟨{}, by decide⟩
theorem witness_RecorderQueueDrops_full :
    ∃ d : Dev, 1024 ≤ d.evr.queue.length ∧ d.evr.queue.length ≤ 1024 :=
  ⟨{ evr := { queue := List.replicate 1024 occ0 } }, by rw [List.length_replicate], by rw [List.length_replicate]⟩
theorem witness_KeyUpdateRefusedWhole_bad :
    ∃ (h : CmdHdr) (s : State), Ready { unit := 14, op := 1, c := true, isl := [13] } h s ∧ bufOk h = true ∧ kuCheck (begun { unit := 14, op := 1, c := true, isl := [13] } h s.dev) (inBuf h (begun { unit := 14, op := 1, c := true, isl := [13] } h s.dev)) ≠ 0 :=
  ⟨hdr [(64, 164)], onDev rdyDev, by decide +kernel, by decide +kernel, by decide +kernel⟩

end Sys2Proof.Tests
end

section
/-! SUPPORT. Proofs of the statements of spec/00: register access and its routing, wrapping counters, the loop engine's commands and ticks; with the
laws they share: when an event or a ring command has the effect a statement names, reads of captures, counts of ignored writes, due samples. -/
namespace Sys2Proof.Machine
open Sys2Proof

/-! ### What exec makes of single rows -/

/-- BAR0_WRITE as an effect on the device. -/
theorem exec_bar0Write (p : Fin 2) (a size v : Nat) (s : State) :
    exec (.bar0Write p a size v) s = go (fun d => if size ≠ 4 ∨ a % 4 ≠ 0 then ignoreWrite p.val a d else barWrite p.val a v d) s := rfl

/-- LOCK_COMMIT_END by its meaning. -/
theorem exec_lockCommitEnd (ok : Bool) (s : State) : exec (.lockCommitEnd ok) s = execLockCommitEnd ok s := rfl

/-- LOOP_CTX_WRITE by its meaning. -/
theorem exec_loopCtxWrite (p : Fin 2) (addr v : Nat) (s : State) : exec (.loopCtxWrite p addr v) s = execLoopCtxWrite p addr v s := rfl

/-- BASE_TICK by its meaning. -/
theorem exec_baseTick (s : State) : exec .baseTick s = execBaseTick s := rfl

/-! ### Events and BAR0 accesses -/

/-- An instruction that is an effect on the device is the event of that effect, wherever the two effects agree. -/
theorem event_of_go {i : Instr} {s : State} {hyp : Dev → Prop} {f g : Dev → Dev} (hi : exec i s = go g s) (h : hyp s.dev → g s.dev = f s.dev) :
    Event i s hyp f := fun hd => by rw [hi, go_event (h hd)]

/-- An instruction that is an effect on the device, in every state. -/
theorem event_of_effect {i : Instr} {s : State} {hyp : Dev → Prop} {f : Dev → Dev} (hi : exec i s = go f s) : Event i s hyp f :=
  event_of_go hi fun _ => rfl

/-- A write that its routing admits is performed (R595). -/
theorem guardWrite_of_writable {p a : Nat} {f : Dev → Dev} {d : Dev} (h : writable p a d = true) : guardWrite p a f d = f d := if_pos h

/-- A routed write is the event of its own effect where its routing admits it (R111, R595). -/
theorem event_of_guardWrite {i : Instr} {s : State} {p a : Nat} {f : Dev → Dev} (hi : exec i s = go (guardWrite p a f) s) :
    Event i s (fun d => writable p a d = true) f := event_of_go hi guardWrite_of_writable

/-- A write to a word of a loop context, routed (R38, R416). -/
theorem loopCtxWrite_event (p : Fin 2) (addr v : Nat) (s : State) :
    Event (.loopCtxWrite p addr v) s (fun _ => 0xE10000 ≤ addr ∧ addr < 0xE50000 ∧ addr % 4 = 0)
      (guardWrite p.val addr (loopCtxWriteOp p.val addr (v % 2 ^ 32))) :=
  event_of_go (exec_loopCtxWrite p addr v s) fun ⟨hlo, hhi, hal⟩ => if_neg (by omega)

/-! ### Ring commands -/

/-- A ring command whose own part has the effect `res` where `hyp` holds. -/
theorem cmd_of_runCmd {sp : CmdSpec} {i : Instr} {h : CmdHdr} {s : State} {hyp : Dev → Prop} {res body : Dev → CmdOut}
    (hi : exec i s = go (runCmd sp h body) s) (hb : ∀ d, hyp d → body d = res d) : Cmd sp i h s hyp res :=
  fun hr hd => by rw [hi, runCmd_ready body hr, hb _ hd]

/-! ### Wrapping counters (R10) -/

/-- The wrapped difference of two readings is the difference of the counts, modulo the range. -/
theorem readings_sub_cast {M : Nat} (hM : 0 < M) (a b : Nat) :
    (((a % M % M + M - b % M % M) % M : Nat) : Int) = ((a : Int) - b) % M := by
  have hb : b % M ≤ a % M + M := (Nat.mod_lt b hM).le.trans (Nat.le_add_left _ _)
  rw [Nat.mod_mod, Nat.mod_mod, Int.natCast_mod, Nat.cast_sub hb]
  push_cast
  rw [add_sub_right_comm, Int.add_emod_right, ← Int.sub_emod]

/-- Read as two's complement, the residue of a number within half the range is the number itself. -/
theorem sgn_of_residue {w v : Nat} {x : Int} (hw : 0 < w) (hv : (v : Int) = x % (2 ^ w : Nat))
    (hlt : x < (2 ^ (w - 1) : Nat)) (hgt : -((2 ^ (w - 1) : Nat) : Int) < x) : sgn w v = x := by
  have hd : 2 ^ w = 2 * 2 ^ (w - 1) := by rw [← Nat.pow_succ', Nat.succ_eq_add_one, Nat.sub_add_cancel hw]
  unfold sgn
  generalize 2 ^ w = M at *
  generalize 2 ^ (w - 1) = H at *
  rcases lt_or_ge x 0 with hneg | hpos
  · have hx : (v : Int) = x + M := by
      rw [hv, ← Int.add_emod_right, Int.emod_eq_of_lt (by omega) (by omega)]
    have hm : v % M = v := Nat.mod_eq_of_lt (by omega)
    rw [hm, if_neg (by omega), hx, add_sub_cancel_right]
  · have hx : (v : Int) = x := by rw [hv, Int.emod_eq_of_lt hpos (by omega)]
    have hm : v % M = v := Nat.mod_eq_of_lt (by omega)
    rw [hm, if_pos (by omega), hx]

/-- Settles O48: the wrapped difference is the difference of the counts modulo the range, and within half the range that residue has one
reading as two's complement. -/
theorem wrappingCountersCompare : Obligations.WrappingCountersCompare := by
  unfold Obligations.WrappingCountersCompare
  intro w a b hw hlt hgt
  exact sgn_of_residue hw (readings_sub_cast (Nat.two_pow_pos w) a b) (by push_cast; exact hlt) (by push_cast; exact hgt)

/-! ### Blocks that do not respond (R22, R39) -/

/-- A block whose island is off does not respond; LOOP and CLP are judged by the lanes instead (R22, R38). -/
theorem blockOn_of_islandOff {d : Dev} {b : Nat} (h14 : b ≠ 14) (h15 : b ≠ 15) (hi : islandOn d (blockIsland b) = false) : blockOn d b = false := by
  simp [blockOn, h14, h15, hi]

/-- In Rack state only the blocks up to the CRUST window respond (R39). -/
theorem blockOn_of_rack {d : Dev} {b : Nat} (hs : opState d = 5) (hb : 5 < b) : blockOn d b = false := by
  simp [blockOn, hs, Nat.not_le.mpr hb]

/-- A fact of the block of an address is one of every block that the address names. -/
theorem forall_blockOf {a b : Nat} {P : Nat → Prop} (ha : blockOf a = some b) (h : P b) : ∀ c, blockOf a = some c → P c :=
  fun _ hc => Option.some.inj (ha.symm.trans hc) ▸ h

/-! ### Ignored writes (R3, R115) -/

/-- A write whose routing refuses it is ignored as a whole. -/
theorem barWrite_of_not_writable {p a v : Nat} {d : Dev} (h : writable p a d = false) : barWrite p a v d = ignoreWrite p a d :=
  if_pos (by simp [h])

/-- A field that is counted up reads one more, and stays at its greatest value. -/
theorem Dev.rd_bump_same (d : Dev) (f : FRef) : (d.bump f).rd f = min (d.rd f + 1) (2 ^ f.width - 1) := by
  have hp := Nat.two_pow_pos f.width
  simp only [Dev.bump, Dev.rd_wr_same, satInc]
  split
  · next hlt => rw [Nat.mod_eq_of_lt hlt, Nat.min_eq_left (by omega)]
  · next hge => rw [Nat.mod_eq_of_lt (by omega), Nat.min_eq_right (by omega)]

/-- Counting up a field leaves the fields of other places. -/
theorem Dev.rd_bump_ne (d : Dev) {f g : FRef} (h : g.key ≠ f.key) : (d.bump f).rd g = d.rd g := Dev.rd_wr_ne _ _ h

theorem rd_countIgn_count (p a : Nat) (d : Dev) :
    (countIgn p a d).rd GLB.IGN_WRITES.COUNT = min (d.rd GLB.IGN_WRITES.COUNT + 1) (2 ^ GLB.IGN_WRITES.COUNT.width - 1) := by
  rw [countIgn, Dev.rd_wr_ne _ _ (by decide), Dev.rd_wr_ne _ _ (by decide), Dev.rd_bump_same]

theorem rd_countIgn_addr (p a : Nat) (d : Dev) : (countIgn p a d).rd GLB.IGN_ADDR.ADDR = a % 2 ^ GLB.IGN_ADDR.ADDR.width :=
  Dev.rd_wr_same _ _ _

theorem rd_countIgn_ne (p a : Nat) (d : Dev) {f : FRef} (hc : f.key ≠ GLB.IGN_WRITES.COUNT.key) (hp : f.key ≠ GLB.IGN_WRITES.LAST_PORT.key)
    (ha : f.key ≠ GLB.IGN_ADDR.ADDR.key) : (countIgn p a d).rd f = d.rd f := by
  rw [countIgn, Dev.rd_wr_ne _ _ ha, Dev.rd_wr_ne _ _ hp, Dev.rd_bump_ne _ hc]

/-- Settles O46: no clause's block responds, so that reads and writes there meet the laws of registers that do not respond; what counting a write
changes is read off its three register writes. -/
theorem offBlocksDoNotRespond : Obligations.OffBlocksDoNotRespond := by
  unfold Obligations.OffBlocksDoNotRespond
  refine ⟨?unassigned, ?islandOff, ?rack, ?offWrite, ?otherSize, ?counted⟩
  case unassigned =>
    intro p a d ha
    exact barRead_off (by simp [ha])
  case islandOff =>
    intro p a b d ha h14 h15 hi
    exact barRead_off (forall_blockOf ha (blockOn_of_islandOff h14 h15 hi))
  case rack =>
    intro p a b d ha hs hb
    exact barRead_off (forall_blockOf ha (blockOn_of_rack hs hb))
  case offWrite =>
    intro p a v s hal hoff
    have hw : writable p.val a s.dev = false := writable_off <| by
      rcases hoff with ha | ⟨b, ha, ⟨h14, h15, hi⟩ | ⟨hs, hb⟩⟩
      · simp [ha]
      · exact forall_blockOf ha (blockOn_of_islandOff h14 h15 hi)
      · exact forall_blockOf ha (blockOn_of_rack hs hb)
    rw [exec_bar0Write]
    exact go_event (by simp [hal, barWrite_of_not_writable hw])
  case otherSize =>
    intro p a size v s hsize
    rw [exec_bar0Write]
    exact go_event (if_pos (.inl hsize))
  case counted =>
    intro p a d
    exact ⟨rd_countIgn_count p a d, rd_countIgn_addr p a d, rfl, fun f hc hp ha => rd_countIgn_ne p a d hc hp ha⟩

/-! ### The captures' low words (R198) -/

/-- CAP_SEC_LO of trigger input k. -/
abbrev capAddr (k : Fin 2) : Nat := 0x600344 + 0x10 * k.val

theorem blockOf_capAddr (k : Fin 2) : blockOf (capAddr k) = some 6 := by revert k; decide

theorem capAddr_aligned (k : Fin 2) : capAddr k / 4 * 4 = capAddr k := by revert k; decide
theorem capAddr_not_window (k : Fin 2) : ¬ 0x1580000 ≤ capAddr k := by revert k; decide

/-- CAP_SEC_LO is no half of a 64-bit quantity: its partners are latched by the capture itself (R4, R198). -/
theorem isHighWord_capAddr (k : Fin 2) : isHighWord (capAddr k) = false := by revert k; decide +kernel
theorem isLowWord_capAddr (k : Fin 2) : isLowWord (capAddr k) = false := by revert k; decide +kernel

/-- No field of CAP_SEC_LO clears on a read. -/
theorem clearRC_capAddr (k : Fin 2) (d : Dev) : clearRC (capAddr k) d = d := by
  match k with
  | 0 => rfl
  | 1 => rfl

/-- A read of CAP_SEC_LO takes the oldest capture from the queue. -/
theorem readEffect_capAddr (p : Nat) (k : Fin 2) (d : Dev) : readEffect p (capAddr k) d = popCapture p k.val d := by
  match k with
  | 0 => rfl
  | 1 => rfl

/-- A read of CAP_SEC_LO answers the live word and takes the oldest capture. -/
theorem barRead_capAddr {p : Nat} {k : Fin 2} {d : Dev} (h : blockOn d 6 = true) :
    barRead p (capAddr k) d = (liveWord p (capAddr k) d, popCapture p k.val d) := by
  have hs : shownAddr (capAddr k) d = capAddr k := if_neg (capAddr_not_window k)
  simp [barRead, blockOf_capAddr, h, hs, isHighWord_capAddr, isLowWord_capAddr, clearRC_capAddr, readEffect_capAddr]

theorem popCapture_cons {p k : Nat} {d : Dev} {c : Capture} {rest : List Capture} (h : lookD d.time.trigQ k [] = c :: rest) :
    popCapture p k d = { d with time := { d.time with trigQ := ins k rest d.time.trigQ, capLatch := ins (4 * p + k) c d.time.capLatch } }.wr
      (TIME.TRIG.CFG.LEVEL k) rest.length := by
  simp only [popCapture, h]

/-- A read of CAP_SEC_LO gives the live word back to the port. -/
theorem answerRead_capAddr {p : Nat} {k : Fin 2} {d : Dev} (h : blockOn d 6 = true) :
    answerRead p (capAddr k) 4 d = { popCapture p k.val d with
      host := { (popCapture p k.val d).host with
        rdata := ins p (addressedBytes (capAddr k) 4 (liveWord p (capAddr k) d)) (popCapture p k.val d).host.rdata } } := by
  simp only [answerRead, capAddr_aligned, barRead_capAddr h]

/-! ### Accesses of registers -/

/-- Settles O5: each row is an effect on the device or a routed write of one, and its own guard is what the clause assumes. -/
theorem registerAccessComplete : Obligations.RegisterAccessComplete := by
  unfold Obligations.RegisterAccessComplete
  refine ⟨?bar0Write, ?lowWordRead, ?clearOnRead, ?kick, ?lock, ?lockCommitEnd, ?ringEnSet, ?ringEnClear, ?canEnWrite, ?sarEnWrite, ?sessEnWrite,
    ?clpEnWrite, ?portEnWrite, ?partEnWrite, ?heatEnClear, ?cttCfgWrite, ?ppsTargetWrite, ?loopCtxWrite, ?rtcLoRead, ?svcSecLoRead, ?capSecLoRead,
    ?snapRead, ?curSeqWrite, ?areaWrite, ?next⟩
  case bar0Write =>
    intro p addr size v s
    exact event_of_go (exec_bar0Write p addr size v s) fun ⟨hsize, hal⟩ => if_neg (by omega)
  case lockCommitEnd =>
    intro ok s
    exact event_of_go (exec_lockCommitEnd ok s) fun h => if_neg (not_not_intro h)
  case loopCtxWrite =>
    intro p addr v s
    exact loopCtxWrite_event p addr v s
  case capSecLoRead =>
    intro p k c rest s
    refine event_of_go rfl fun ⟨hon, hq⟩ => ?_
    rw [answerRead_capAddr hon, popCapture_cons hq]
  case lowWordRead | clearOnRead | rtcLoRead | svcSecLoRead | snapRead =>
    intros
    exact event_of_effect rfl
  case kick | lock | ringEnSet | ringEnClear | canEnWrite | sarEnWrite | sessEnWrite | clpEnWrite | portEnWrite | partEnWrite | heatEnClear
      | cttCfgWrite | ppsTargetWrite | curSeqWrite | areaWrite | next =>
    intros
    exact event_of_guardWrite rfl

/-! ### LOOP commands (R423) -/

/-- A LOOP command on a loop that is in use does its own part. -/
theorem onLoop_of_loopOk {n : Nat} {d : Dev} {f : Dev → CmdOut} (h : LoopOk n d) : onLoop n d f = f d := by
  obtain ⟨hn, hlane, huse⟩ := h
  obtain ⟨l, hl⟩ := Option.isSome_iff_exists.mp hlane
  simp [onLoop, Nat.not_lt.mpr hn, hl, huse]

/-- A LOOP command whose own part has the effect `res` on a loop in use where `hyp` holds. -/
theorem cmd_of_onLoop {sp : CmdSpec} {i : Instr} {h : CmdHdr} {s : State} {n : Nat} {hyp : Dev → Prop} {res body : Dev → CmdOut}
    (hi : exec i s = go (runCmd sp h fun d => onLoop n d body) s) (hb : ∀ d, LoopOk n d → hyp d → body d = res d) :
    Cmd sp i h s (fun d => LoopOk n d ∧ hyp d) res :=
  cmd_of_runCmd hi fun d ⟨hl, hd⟩ => (onLoop_of_loopOk hl).trans (hb d hl hd)

/-! ### Samples (R397 to R399) -/

/-- A due sample of class c, none of whose faster ones is due, starts on a lane that runs: it carries the clock to its tick, and either runs or, behind
one of its class in progress, is skipped. -/
theorem laneSample_due {l c idx T : Nat} {late : Bool} {d : Dev} (hrun : laneRuns d l = true) (ht0 : d.gate.t0.isSome = true)
    (hnext : nextSample (laneSt d l) c = some (idx, T)) (hfast : fasterDue (laneSt d l) c T = false) :
    laneSample l c late d =
      if (laneSt (toTick T d) l).runs.any fun r => r.cls == c then
        skipSample l c (setLane l (afterSample c idx false (laneSt (toTick T d) l)) (toTick T d))
      else
        let (x, evs) := pumpRuns T (afterSample c idx late (startRun c idx T (laneSt (toTick T d) l)))
        let d := raiseLane l evs (setLane l x (toTick T d))
        if late then skipSample l c d else d := by
  have hgo : ¬ (¬ laneRuns d l = true ∨ d.gate.t0.isNone = true) := by simp [hrun, Option.isSome_iff_ne_none.mp ht0]
  rw [laneSample, if_neg hgo, hnext]
  exact if_neg (by simp [hfast])

/-! ### The loop engine -/

/-- Settles O17: a LOOP command passes the loop's own tests, and each refusal left is excluded by the clause; the base tick and a due sample pass
their guards. -/
theorem loopComplete : Obligations.LoopComplete := by
  unfold Obligations.LoopComplete
  refine ⟨?baseTick, ?mode, ?sp, ?manual, ?coef, ?limits, ?force, ?release, ?read, ?ctxWrite, ?sample, ?skipped⟩
  case baseTick =>
    intro s
    exact event_of_go (exec_baseTick s) fun h => if_neg (Nat.not_lt.mpr h)
  case mode =>
    intro h n mode src s
    refine cmd_of_onLoop rfl fun d _ ⟨hmode, hsrc, hcas, hopen⟩ => ?_
    have hcas' : ¬ (src = 2 ∧ ¬ (lookD (lowSt d).binds n {}).cas = true) := by simpa using hcas
    rw [if_neg (not_or.mpr ⟨hmode, hsrc⟩), if_neg hcas']
    exact if_neg hopen
  case sp =>
    intro h n v s
    exact cmd_of_onLoop rfl fun d _ hf => if_neg (not_not_intro hf)
  case manual =>
    intro h n v s
    exact cmd_of_onLoop rfl fun d _ hf => if_neg (not_not_intro hf)
  case coef =>
    intro h n s
    refine cmd_of_onLoop rfl fun d _ ⟨hsend, hlock, hok⟩ => ?_
    simp [hsend, hlock, hok]
  case limits =>
    intro h n s
    refine cmd_of_onLoop rfl fun d _ ⟨hsend, hok⟩ => ?_
    simp [hsend, hok]
  case force =>
    intro h n v s
    refine cmd_of_onLoop rfl fun d _ hf => ?_
    simp [hf]
  case release =>
    intro h n v s
    refine cmd_of_onLoop rfl fun d _ hforced => ?_
    obtain ⟨w, hw⟩ := Option.isSome_iff_exists.mp hforced
    simp [hw]
  case read =>
    intro h n count s
    refine cmd_of_onLoop rfl fun d _ ⟨hlo, hhi, hrecv⟩ => ?_
    have hcount : ¬ (count = 0 ∨ 64 < count) := by omega
    rw [if_neg hcount]
    exact if_neg (not_not_intro hrecv)
  case ctxWrite =>
    intro p addr v s
    exact loopCtxWrite_event p addr v s
  case sample =>
    intro l c late idx T s
    refine event_of_go rfl fun ⟨hrun, ht0, hnext, hfast, hidle⟩ => ?_
    exact (laneSample_due hrun ht0 hnext hfast).trans (if_neg (by simp [hidle]))
  case skipped =>
    intro l c late idx T s
    refine event_of_go rfl fun ⟨hrun, ht0, hnext, hfast, hbusy⟩ => ?_
    exact (laneSample_due hrun ht0 hnext hfast).trans (if_pos hbusy)

end Sys2Proof.Machine
end

section
/-! SUPPORT. Proofs of the statements of spec/01: publications of the Bench, effective ticks, the state right after reset, and the rows of the tempos'
units: ports and rings, the model, the solver; with the laws they share: what a publication leaves in each table, an event on the estimator's window, a
command on a partition. -/
namespace Sys2Proof.Machine
open Sys2Proof

/-! ### Publications (R28, R29) -/

/-- Publishing writes the Bench and nothing else. -/
theorem publish_frame (t tempo : Nat) (valid stale : Bool) (body : List Byte) (d : Dev) :
    publish t tempo valid stale body d = { d with bench := (publish t tempo valid stale body d).bench } := by
  by_cases h : (benchTab d t).otherLeases = []
  · rw [publish_free h]
  · rw [publish_leased h]

/-- With no lease on the other buffer the table holds the built one as its current. -/
theorem benchTab_publish_free {d : Dev} {t tempo : Nat} {valid stale : Bool} {body : List Byte} (h : (benchTab d t).otherLeases = []) :
    benchTab (publish t tempo valid stale body d) t = (benchTab d t).make (builtBuf d t tempo valid stale body) := by
  rw [publish_free h, benchTab, lookD, look_ins_same, Option.getD_some]

/-- With a lease on it, the table only notes the built one as waiting. -/
theorem benchTab_publish_leased {d : Dev} {t tempo : Nat} {valid stale : Bool} {body : List Byte} (h : (benchTab d t).otherLeases ≠ []) :
    benchTab (publish t tempo valid stale body d) t = { benchTab d t with waiting := some (builtBuf d t tempo valid stale body) } := by
  rw [publish_leased h, benchTab, lookD, look_ins_same, Option.getD_some]

/-- Another table stays as it is. -/
theorem benchTab_publish_ne {t u : Nat} (hu : u ≠ t) (tempo : Nat) (valid stale : Bool) (body : List Byte) (d : Dev) :
    benchTab (publish t tempo valid stale body d) u = benchTab d u := by
  by_cases h : (benchTab d t).otherLeases = []
  · rw [publish_free h, benchTab, lookD, look_ins_ne hu]; rfl
  · rw [publish_leased h, benchTab, lookD, look_ins_ne hu]; rfl

/-- Settles O39: the table published in is known in both cases, and the built buffer is the one the statement writes out. -/
theorem benchPublishesWhole : Obligations.BenchPublishesWhole := by
  unfold Obligations.BenchPublishesWhole
  intro d t tempo valid stale body
  refine ⟨fun hfree => ?free, fun hleased => ?leased, fun u hu => ?others, ?frame⟩
  case free =>
    rw [benchTab_publish_free hfree, BenchTab.current_make, BenchTab.other_make]
    exact ⟨rfl, rfl⟩
  case leased =>
    rw [benchTab_publish_leased hleased]
    exact ⟨rfl, rfl, rfl⟩
  case others => exact benchTab_publish_ne hu tempo valid stale body d
  case frame => exact publish_frame t tempo valid stale body d

/-! ### Effective ticks (R26, R262) -/

/-- With the lanes' common start given, the effective tick is the distance to the end of the lead in base ticks, rounded up. -/
theorem effTick_eq_ceilDiv {d : Dev} {t : Nat} (lead : Nat) (ht : d.gate.t0 = some t) : effTick lead d = (d.up + lead - t) ⌈/⌉ tickNs := by
  simp only [effTick, ht, Nat.ceilDiv_eq_add_pred_div]

/-- Settles O49: the rounded-up quotient is the least number of ticks that covers the distance. -/
theorem effectiveTickIsFirst : Obligations.EffectiveTickIsFirst := by
  unfold Obligations.EffectiveTickIsFirst
  intro d t lead ht hle
  have hleast (j : Nat) : effTick lead d ≤ j ↔ d.up + lead - t ≤ j * tickNs := by
    rw [effTick_eq_ceilDiv lead ht, ceilDiv_le_iff_le_mul (by decide), Nat.mul_comm]
  constructor
  · have hcover := (hleast (effTick lead d)).mp le_rfl
    omega
  · intro j hj
    exact (hleast j).mpr (by omega)

/-! ### The state right after reset (R31, R74, R90, R104, R105, R124, R503) -/

/-- With an empty bank every register field reads its reset value. -/
@[simp] theorem Dev.rd_empty (f : FRef) : ({} : Dev).rd f = f.rst := rfl

/-- The table class of a detector is one of 0 to 5. -/
theorem fdClass_le {n : Nat} (hn : n < 172) : fdClass n ≤ 5 := by
  revert n; decide +kernel

/-- An island other than CRUST and AON that is not in ON does not work. -/
theorem islandOn_of_islState_ne {d : Dev} {n : Nat} (hn : 2 ≤ n) (h : islState d n ≠ 2) : islandOn d n = false := by
  have h0 : n ≠ 0 := by omega
  have h1 : n ≠ 1 := by omega
  simp [islandOn, h, h0, h1]

/-- Settles O34: every clause about registers is about reset values, and everything the device holds beside them begins empty. -/
theorem resetState : Obligations.ResetState := by
  unfold Obligations.ResetState
  refine ⟨rfl, Dev.rd_empty _, rfl, fun n hlo _ => ?island, fun n _ => Dev.rd_empty _, fun n hn => ?detector, rfl, rfl, rfl, rfl⟩
  case island =>
    have hst : islState State.reset.dev n = 1 := Dev.rd_empty _
    exact ⟨hst, islandOn_of_islState_ne hlo (by rw [hst]; decide)⟩
  case detector =>
    have hcls : State.reset.dev.rd (FCU.DET.CLASS n) = fdClass n := Dev.rd_empty _
    refine ⟨?_, Dev.rd_empty _⟩
    rw [classOf, hcls, max_self, min_eq_right (fdClass_le hn)]

/-! ### Rows by their meanings -/

/-- An instruction whose meaning `m` is an effect on the device is the event of that effect, wherever the two effects agree. Naming the meaning keeps
the unifier from unfolding the effect itself. -/
theorem event_of_meaning (m : State → Host.Outcome State Fault Refusal) {i : Instr} {s : State} {hyp : Dev → Prop} {f g : Dev → Dev}
    (hi : exec i s = m s) (hm : m s = go g s) (h : hyp s.dev → g s.dev = f s.dev) : Event i s hyp f :=
  event_of_go (hi.trans hm) h

/-! ### Ports, rings, doorbells -/

/-- Settles O6: each row's own guard is what its clause excludes, and what is left of the row is the clause's effect. -/
theorem portsRingsComplete : Obligations.PortsRingsComplete := by
  unfold Obligations.PortsRingsComplete
  refine ⟨?perstAssert, ?perstRelease, ?portGone, ?portReturn, ?heartbeat, ?doorbell, ?moderation, ?lease, ?nop, ?regRead, ?cfgWrite, ?keepWarmIn,
    ?keepWarmOut, ?warmReset, ?retryProof, ?startPolicy, ?benchRead, ?benchWrite, ?unlock, ?ringSetup, ?ringStop, ?routeSet, ?give, ?claim⟩
  case perstAssert =>
    intro p s
    exact event_of_meaning (execPerstAssert p) rfl rfl fun hen => if_neg (not_not_intro hen)
  case perstRelease | portGone =>
    intros
    exact event_of_effect rfl
  case portReturn =>
    intro p up s
    exact event_of_meaning (execPortReturn p up) rfl rfl fun ⟨hen, hperst, hisl⟩ => if_neg (not_or.mpr ⟨not_not_intro hen, not_or.mpr ⟨hperst, not_not_intro hisl⟩⟩)
  case heartbeat =>
    intro p s
    exact event_of_meaning (execHostHeartbeatCheck p) rfl rfl fun ⟨htmo, hgone, hen, hisl⟩ => if_neg (by simp [htmo, hgone, hen, hisl])
  case doorbell =>
    intro p link s
    exact event_of_meaning (execDoorbellPoll p link) rfl rfl fun ⟨hisl, hgone, hen⟩ => if_neg (by simp [hgone, hen, hisl])
  case moderation =>
    intro n s
    exact event_of_meaning (execModerationTimeout n) rfl rfl fun ⟨hpend, hisl⟩ => if_neg (by simp [hpend, hisl])
  case lease =>
    intro table buffer consumer l s
    exact event_of_meaning (execLeaseExpiry table buffer consumer) rfl rfl fun hl => by simp only [hl]
  case nop =>
    intro h s
    exact cmd_of_runCmd rfl fun d _ => rfl
  case regRead =>
    intro h count offs s
    exact cmd_of_runCmd rfl fun d ⟨hlo, hhi, hoffs⟩ => if_neg (not_or.mpr ⟨by omega, not_or.mpr ⟨by omega, hoffs⟩⟩)
  case cfgWrite =>
    intro h count pairs s
    refine cmd_of_runCmd rfl fun d ⟨hlo, hhi, hfree, hok⟩ => ?_
    dsimp only
    rw [if_neg (by omega), if_neg hfree, hok]
  case keepWarmIn =>
    intro h s
    exact cmd_of_runCmd rfl fun d hst => if_neg hst
  case keepWarmOut =>
    intro h s
    exact cmd_of_runCmd rfl fun d ⟨hst, hopen⟩ => by simp [hst, hopen]
  case warmReset =>
    intro h s
    exact cmd_of_runCmd rfl fun d _ => rfl
  case retryProof =>
    intro h s
    exact cmd_of_runCmd rfl fun d hst => if_neg hst
  case startPolicy =>
    intro h v s
    exact cmd_of_runCmd rfl fun d hv => if_neg (Nat.not_lt.mpr hv)
  case benchRead =>
    intro h table s
    refine cmd_of_runCmd rfl fun d ⟨hne, hle, hknown, hbuf, hlen, hflow⟩ => ?_
    dsimp only
    rw [if_neg (by simp [hne, hle, hknown]), if_neg (by simp [hbuf, hlen]), if_neg hflow]
  case benchWrite =>
    intro h table s
    refine cmd_of_runCmd rfl fun d ⟨hhost, hbuf, hlen⟩ => ?_
    have hroom : ¬ (¬ bufOk h = true ∨ bufLen h < 32) := not_or.mpr ⟨not_not_intro hbuf, Nat.not_lt.mpr hlen⟩
    exact (if_neg (not_not_intro hhost)).trans (if_neg hroom)
  case unlock =>
    intro h s
    refine cmd_of_runCmd rfl fun d ⟨hfree, hgrant⟩ => ?_
    generalize checkGrant 0 h d = g at hgrant ⊢
    obtain ⟨st, d'⟩ := g
    obtain rfl : st = 0 := hgrant
    simp [hfree]
  case ringSetup =>
    intro h ring kind log2size cring vector modCount modTime epoch base s
    refine cmd_of_runCmd rfl fun d ⟨htarget, hbase, hcring, hvector, hstopped⟩ => ?_
    simp only [htarget]
    rw [if_neg (by omega), if_neg (by omega), if_neg (not_not_intro hstopped)]
  case ringStop =>
    intro h ring s
    refine cmd_of_runCmd rfl fun d ⟨htarget, htaken⟩ => ?_
    simp [htarget, htaken]
  case routeSet =>
    intro h first count words s
    exact cmd_of_runCmd rfl fun d ⟨hlo, hhi, hend⟩ => if_neg (by omega)
  case give =>
    intro h mask claim s
    refine cmd_of_runCmd rfl fun d ⟨hle, hgive, hmine⟩ => ?_
    dsimp only
    rw [if_neg (by omega), if_pos hgive, if_neg (not_not_intro hmine)]
  case claim =>
    intro h mask claim s
    refine cmd_of_runCmd rfl fun d ⟨hle, hclaim, hmay⟩ => ?_
    dsimp only
    rw [if_neg (by omega), if_neg hclaim, if_neg hmay]

/-! ### The model, the estimator and the transport delay engine -/

/-- A list none of whose records fails has no first bad record. -/
theorem firstBad_eq_none_of_all {α : Type} {bad : α → Bool} {l : List α} (h : (l.all fun e => !bad e) = true) :
    firstBad (fun _ e => bad e) l = none := by
  simp only [firstBad, Option.map_eq_none_iff, List.find?_eq_none]
  intro e he
  have hgood := List.all_eq_true.mp h e.1 (List.fst_mem_of_mem_zipIdx he)
  simpa using hgood

/-- An event of an estimator that runs acts on its open window (R343). -/
theorem onWindow_of_open {f : EstWin → Dev → Dev} {w : EstWin} {d : Dev} (hw : d.model.win = some w) (hrun : estRuns d = true) :
    onWindow f d = f w d := by
  simp only [onWindow, hw, hrun, if_true]

/-- One of an estimator that is off drops the window (R355). -/
theorem onWindow_of_off {f : EstWin → Dev → Dev} {w : EstWin} {d : Dev} (hw : d.model.win = some w) (hrun : estRuns d = false) :
    onWindow f d = onModel (fun k => { k with win := none }) d := by
  simp [onWindow, hw, hrun]

/-- An event of the estimator whose part on the open window has the effect `f` where `hyp` holds. -/
theorem event_of_onWindow {i : Instr} {s : State} {w : EstWin} {hyp : Dev → Prop} {f : Dev → Dev} {g : EstWin → Dev → Dev}
    (hi : exec i s = go (onWindow g) s) (h : hyp s.dev → g w s.dev = f s.dev) :
    Event i s (fun d => d.model.win = some w ∧ estRuns d = true ∧ hyp d) f :=
  event_of_go hi fun ⟨hw, hrun, hd⟩ => (onWindow_of_open hw hrun).trans (h hd)

/-- Settles O27: the commands pass the tests their clauses exclude, and an event of the estimator acts on the window that is open. -/
theorem modelComplete : Obligations.ModelComplete := by
  unfold Obligations.ModelComplete
  refine ⟨?load, ?analysed, ?activate, ?edit, ?read, ?tick, ?gather, ?gatherOff, ?converged, ?ungathered, ?noInput, ?deadline, ?tde⟩
  case load =>
    intro h s
    refine cmd_of_runCmd rfl fun d ⟨hidle, hlen, hsend, hnodes, hbranches, hmeas, hok⟩ => ?_
    have hsize : ¬ (8192 < (imgCounts (inBuf h d)).1 ∨ 16384 < (imgCounts (inBuf h d)).2.1 ∨ 32768 < (imgCounts (inBuf h d)).2.2.1) := by omega
    dsimp only
    rw [if_neg (by simp [hidle]), if_neg (by simp [hlen, hsend])]
    refine (if_neg hsize).trans ?_
    simp only [modelLoadEffect, hok]
  case analysed =>
    intro m t s
    exact event_of_meaning execModelAnalysisEnd rfl rfl fun hm => by simp only [hm]
  case activate =>
    intro h s
    refine cmd_of_runCmd rfl fun d ⟨hidle, hstaged⟩ => ?_
    rw [if_neg (by simp [hidle]), if_neg (by simpa [Option.isSome_iff_ne_none] using hstaged)]
  case edit =>
    intro h count m s
    refine cmd_of_runCmd rfl fun d ⟨hlo, hhi, hsend, hm, hgood⟩ => ?_
    rw [if_neg (by omega), if_neg (not_not_intro hsend)]
    simp only [modelEditEffect, hm, firstBad_eq_none_of_all hgood]
  case read =>
    intro h table first count m s
    refine cmd_of_runCmd rfl fun d ⟨htable, hm, hrecv⟩ => ?_
    rw [if_neg (Nat.not_lt.mpr htable)]
    simp only [modelReadEffect, hm]
    exact if_neg (not_not_intro hrecv)
  case tick =>
    intro s
    exact event_of_meaning execModelTick rfl rfl fun ⟨htempos, hst⟩ => if_neg (not_or.mpr ⟨not_not_intro htempos, not_not_intro hst⟩)
  case gather =>
    intro w s
    exact event_of_onWindow rfl fun hg => if_neg (by simp [hg])
  case gatherOff =>
    intro w s
    exact event_of_go rfl fun ⟨hw, hoff⟩ => onWindow_of_off hw hoff
  case converged =>
    intro w s
    exact event_of_onWindow rfl fun ⟨hg, hin⟩ => (if_neg (by simp [hg, hin])).trans rfl
  case ungathered =>
    intro done thermal w s
    exact event_of_onWindow rfl fun hg => if_pos (by simp [hg])
  case noInput =>
    intro done thermal w s
    exact event_of_onWindow rfl fun ⟨hg, hin⟩ => (if_neg (not_not_intro hg)).trans (if_pos (by simp [hin]))
  case deadline =>
    intro done thermal w s
    exact event_of_onWindow rfl fun ⟨hg, hin⟩ => (if_neg (not_not_intro hg)).trans (if_neg (not_not_intro hin))
  case tde =>
    intro t m s
    refine event_of_meaning execTdeStep rfl rfl fun ⟨hdue, hm, hrun⟩ => ?_
    simp only [hdue, hm]
    exact if_neg (not_not_intro hrun)

/-! ### The dispatch solver -/

/-- A command that names partition i does its own part on it. -/
theorem onPart_of_partOf {p i : Nat} {d : Dev} {f : Nat → CmdOut} (hp : partOf p = some i) : onPart p d f = f i := by
  simp only [onPart, hp]

/-- A SOLV command whose own part has the effect `res` on the partition it names where `hyp` holds. -/
theorem cmd_of_onPart {sp : CmdSpec} {i : Instr} {h : CmdHdr} {s : State} {p k : Nat} {hyp : Dev → Prop} {res : Dev → CmdOut} {body : Dev → Nat → CmdOut}
    (hi : exec i s = go (runCmd sp h fun d => onPart p d (body d)) s) (hb : ∀ d, hyp d → body d k = res d) :
    Cmd sp i h s (fun d => partOf p = some k ∧ hyp d) res :=
  cmd_of_runCmd hi fun d ⟨hp, hd⟩ => (onPart_of_partOf hp).trans (hb d hd)

/-- Settles O28: a command passes the tests on the partition it names, and an event finds the request, cycle or timer it is about. -/
theorem solverComplete : Obligations.SolverComplete := by
  unfold Obligations.SolverComplete
  refine ⟨?partSet, ?partSetApply, ?structLoad, ?analysed, ?activate, ?delta, ?switch, ?rearm, ?cold, ?read, ?planWait, ?fTake, ?delivery, ?deadline,
    ?minoff⟩
  case partSet =>
    intro h tiles sram bwE bwF s
    refine cmd_of_runCmd rfl fun d ⟨hE, hF, htiles, hsram, hfits⟩ => ?_
    have hroom : ¬ (tilesIn d < tiles.getD 0 0 + tiles.getD 1 0 + tiles.getD 2 0 ∨ 12 < sram.getD 0 0 + sram.getD 1 0 + sram.getD 2 0) :=
      not_or.mpr ⟨Nat.not_lt.mpr htiles, Nat.not_lt.mpr hsram⟩
    dsimp only
    rw [if_neg (by omega), if_neg hroom, if_neg (Bool.eq_false_iff.mp hfits)]
  case partSetApply =>
    intro q rest s
    refine event_of_meaning execPartSetApply rfl rfl fun ⟨hq, hwin, hD, hF⟩ => ?_
    simp [hq, hwin, hD, hF]
  case structLoad =>
    intro h p i s
    refine cmd_of_onPart rfl fun d ⟨hidle, hlen, hsend, hok, hfits, hisl⟩ => ?_
    dsimp only
    rw [if_neg (by simp [hidle]), if_neg (by simp [hlen, hsend])]
    simp only [hok]
    rw [if_neg (by simp [hfits]), if_neg (by simp [hisl])]
  case analysed =>
    intro p st t s
    exact event_of_meaning (execStructAnalysisEnd p) rfl rfl fun hst => by simp only [hst]
  case activate =>
    intro h p i s
    refine cmd_of_onPart rfl fun d ⟨hidle, hstaged⟩ => ?_
    rw [if_neg (by simp [hidle]), if_neg (by simpa [Option.isSome_iff_ne_none] using hstaged)]
  case delta =>
    intro h p id i st s
    refine cmd_of_onPart rfl fun d ⟨hsend, hcount, hst, hgood⟩ => ?_
    dsimp only
    rw [if_neg (not_or.mpr ⟨not_not_intro hsend, Nat.not_lt.mpr hcount⟩)]
    simp only [hst, hgood]
  case switch =>
    intro h p action i s
    refine cmd_of_onPart rfl fun d ⟨haction, hdone⟩ => ?_
    have hnow : ¬ (action = 1 ∧ (partRequest i (action == 1) d).flag (SOLV.PART.STAT.PENDING_REARM i) = true) := by
      rcases hdone with hclear | hoff
      · simp [hclear]
      · simp [hoff]
    rw [if_neg (by omega), if_neg (by omega), if_neg hnow]
  case rearm =>
    intro h p i s
    refine cmd_of_onPart rfl fun d ⟨_, hpend⟩ => ?_
    rw [if_neg (by decide), if_neg (by decide), if_pos ⟨rfl, hpend⟩]
    rfl
  case cold =>
    intro h p i s
    exact cmd_of_runCmd rfl fun d hp => onPart_of_partOf hp
  case read =>
    intro h p what first count i st s
    refine cmd_of_onPart rfl fun d ⟨hwhat, hst, hrecv⟩ => ?_
    rw [if_neg (Nat.not_lt.mpr hwhat)]
    simp only [hst]
    exact (if_neg (not_not_intro hrecv)).trans rfl
  case planWait =>
    intro t s
    exact event_of_meaning execPlanWaitExpiry rfl rfl fun ht => by simp only [ht]
  case fTake =>
    intro s
    exact event_of_meaning execFTake rfl rfl fun ⟨htempos, hst⟩ => if_neg (not_or.mpr ⟨not_not_intro htempos, not_not_intro hst⟩)
  case delivery =>
    intro p st c s
    refine event_of_meaning (execPartitionDelivery p) rfl rfl fun ⟨hst, hc, hin⟩ => ?_
    simp only [hst, hc]
    exact (if_neg (Nat.not_lt.mpr hin)).trans rfl
  case deadline =>
    intro p done c s
    exact event_of_meaning (execSolveDeadline p done) rfl rfl fun hc => by simp only [hc]
  case minoff =>
    intro p s
    exact event_of_meaning (execPartitionMinoffEnd p) rfl rfl fun hoff => if_neg (not_not_intro hoff)

end Sys2Proof.Machine
end

section
/-! SUPPORT. Proofs of the statements of spec/02: power good, strap sampling, Proof, its verdict and deadline, WRST_N and the power-fail warning; with
what does not depend on the balls' levels or on what CS holds, and what a last-gasp record leaves alone. -/
namespace Sys2Proof.Machine
open Sys2Proof

/-! ### Balls, holds, last-gasp records -/

/-- The operating state depends neither on the levels of the balls nor on what CS holds: they are no registers. -/
@[simp] theorem opState_pins_pwr (d : Dev) (p : PinSt) (q : PwrSt) : opState { d with pins := p, pwr := q } = opState d := rfl

/-- Nor does any register field. -/
@[simp] theorem Dev.rd_pins_pwr (d : Dev) (p : PinSt) (q : PwrSt) (f : FRef) : ({ d with pins := p, pwr := q } : Dev).rd f = d.rd f := rfl

/-- Nor does any flag. -/
@[simp] theorem Dev.flag_pins_pwr (d : Dev) (p : PinSt) (q : PwrSt) (f : FRef) : ({ d with pins := p, pwr := q } : Dev).flag f = d.flag f := rfl

/-- A control die that runs is past STANDBY and not held (R61, R75, R86, R92). -/
theorem dieRunning_iff {d : Dev} : dieRunning d = true ↔ 1 < opState d ∧ d.pwr.heldDie = false := by
  simp [dieRunning, Nat.lt_iff_add_one_le]

/-- A last-gasp record neither holds the dies nor frees them (R162). -/
@[simp] theorem lastGasp_pwr (num w0 w1 : Nat) (d : Dev) : (lastGasp num w0 w1 d).pwr = d.pwr := by
  unfold lastGasp
  split <;> rfl

/-- A WRST_N pulse of 10 µs or more is seen, and no free value decides (R52). -/
theorem wrstSeen_of_le {lowNs : Nat} (d : Dev) (h : 10000 ≤ lowNs) : wrstSeen lowNs d = (true, d) := by
  rw [wrstSeen, if_neg (by omega), if_pos h]

/-! ### Resets and Proof -/

/-- Settles O1: each clause excludes the guards that stand before its own effect, and no such test depends on what the event has written
before it: the balls' levels, the holds of CS, a last-gasp record. -/
theorem resetsAndProofComplete : Obligations.ResetsAndProofComplete := by
  unfold Obligations.ResetsAndProofComplete
  refine ⟨?mpgRise, ?straps, ?strapsAgain, ?proofStart, ?verdict, ?firstHang, ?nextHang, ?mpgFall, ?wrstN, ?mpgFallUnpowered, ?pfail, ?pfailRecord⟩
  case mpgRise =>
    intro testmode s
    refine event_of_meaning (execMpgRise testmode) rfl rfl fun ⟨hst, hvaux, hrail, htrip, hclk⟩ => ?_
    simp [hst, hvaux, hrail, htrip, hclk, mpgStart]
  case straps =>
    intro samples safeOk s
    exact event_of_meaning (execStrapSampling samples safeOk) rfl rfl fun ⟨hproof, hnot⟩ => if_pos ⟨hproof, by simp [hnot]⟩
  case strapsAgain =>
    intro samples safeOk s
    exact event_of_meaning (execStrapSampling samples safeOk) rfl rfl fun hdone => if_neg fun h => h.2 hdone
  case proofStart =>
    intro w s
    exact event_of_meaning (execProofStart w) rfl rfl fun ⟨hproof, hrun⟩ => if_neg (by simp [hproof, hrun])
  case verdict =>
    intro r s
    exact event_of_meaning (execProofVerdict r) rfl rfl fun ⟨hproof, hrun⟩ => if_neg (by simp [hproof, hrun])
  case firstHang =>
    intro s
    refine event_of_meaning execProofDeadline rfl rfl fun ⟨hproof, hfirst⟩ => ?_
    rw [proofHang, if_neg (not_not_intro hproof), hfirst]
    exact if_pos rfl
  case nextHang =>
    intro s
    refine event_of_meaning execProofDeadline rfl rfl fun ⟨hproof, hlater⟩ => ?_
    rw [proofHang, if_neg (not_not_intro hproof)]
    exact if_neg (by omega)
  case mpgFall =>
    intro s
    refine event_of_meaning execMpgFall rfl rfl fun ⟨hvaux, hst, hpon⟩ => ?_
    simp [mpgLow, hvaux, hst, hpon]
  case wrstN =>
    intro lowNs s
    refine event_of_meaning (execWrstN lowNs false) rfl rfl fun ⟨hvaux, hmpg, hst, hlow, hrail, hclk, htrip⟩ => ?_
    simp only [wrstSeen_of_le _ hlow]
    simp [hvaux, hmpg, hrail, hclk, htrip, Nat.not_le.mpr hst, warmReset]
  case mpgFallUnpowered =>
    intro s
    exact event_of_meaning execMpgFall rfl rfl fun hvaux => if_neg (by simp [hvaux])
  case pfail =>
    intro s
    refine event_of_meaning (execPfailNFall false) rfl rfl fun ⟨hvaux, hrun⟩ => ?_
    obtain ⟨hst, hfree⟩ := dieRunning_iff.mp hrun
    simp [hvaux, Nat.not_le.mpr hst, hfree]
  case pfailRecord =>
    intro mpgToo s
    refine event_of_meaning (execPfailNFall mpgToo) rfl rfl fun ⟨hvaux, hst, halone⟩ => ?_
    simp [hvaux, Nat.not_le.mpr hst, halone]

end Sys2Proof.Machine
end

section
/-! SUPPORT. Proofs of the statements of spec/03: rails, clocks, PLLs, the thermal manager, islands, AVSBus and the actions that begin after their
completion; with the writes that leave the operating state and an island's status alone, and what a rail that leaves its range does. -/
namespace Sys2Proof.Machine
open Sys2Proof

/-! ### Writes of other fields -/

/-- A flag of another place reads as before. -/
theorem Dev.flag_wr_ne (d : Dev) {f g : FRef} (v : Nat) (h : g.key ≠ f.key) : (d.wr f v).flag g = d.flag g := by
  rw [Dev.flag, Dev.rd_wr_ne d v h, Dev.flag]

/-- The operating state changes by writes of its own field only. -/
theorem opState_wr_ne (d : Dev) {f : FRef} (v : Nat) (h : GLB.STATE.STATE.key ≠ f.key) : opState (d.wr f v) = opState d := Dev.rd_wr_ne d v h

/-- A control die that runs still runs after a write of any field but the operating state, and one that does not still does not. -/
theorem dieRunning_wr_ne (d : Dev) {f : FRef} (v : Nat) (h : GLB.STATE.STATE.key ≠ f.key) : dieRunning (d.wr f v) = dieRunning d := by
  rw [dieRunning, opState_wr_ne d v h, Dev.wr_pwr, dieRunning]

/-- An island's state changes by writes of its own field only. -/
theorem islState_wr_ne (d : Dev) {n : Nat} {f : FRef} (v : Nat) (h : (PWR.ISL_STAT.STATE n).key ≠ f.key) : islState (d.wr f v) n = islState d n :=
  Dev.rd_wr_ne d v h

/-- A last-gasp record writes no field but its own status (R162). -/
theorem rd_lastGasp_ne (num w0 w1 : Nat) (d : Dev) {f : FRef} (hcount : f.key ≠ CRUST.STATUS.LG_COUNT.key) (hnew : f.key ≠ CRUST.STATUS.LG_NEW.key) :
    (lastGasp num w0 w1 d).rd f = d.rd f := by
  have hstatus (c : Dev) : (lgStatus c).rd f = c.rd f := by
    rw [lgStatus, Dev.put, Dev.rd_wr_ne _ _ hnew, Dev.rd_wr_ne _ _ hcount]
  unfold lastGasp
  split <;> exact hstatus _

/-! ### Rails (R61, R63) -/

/-- The range that rail n has left while the device runs, as GOOD and VIOL show it; a break of the order of R59 or R60 sets VIOL too. -/
def railShown (n : Nat) (order : Bool) (d : Dev) : Dev :=
  let d := d.wr PWR.RAIL_STAT.GOOD (setBit (d.rd PWR.RAIL_STAT.GOOD) n false)
  let d := d.wr PWR.RAIL_STAT.VIOL (setBit (d.rd PWR.RAIL_STAT.VIOL) n true)
  if order then d.wr PWR.RAIL_STAT.VIOL (setBit (d.rd PWR.RAIL_STAT.VIOL) n true) else d

/-- The same with the last-gasp record, whose payload is GOOD (R162). -/
def railGasp (n : Nat) (order : Bool) (d : Dev) : Dev :=
  lastGasp 0x011 ((railShown n order d).rd PWR.RAIL_STAT.GOOD) 0 (railShown n order d)

/-- What RAIL_STAT shows does not stop or start the control die. -/
theorem dieRunning_railShown (n : Nat) (order : Bool) (d : Dev) : dieRunning (railShown n order d) = dieRunning d := by
  cases order <;> simp (disch := decide) only [railShown, dieRunning_wr_ne, if_true, Bool.false_eq_true, if_false]

/-- Neither RAIL_STAT nor the last-gasp record changes ANA's state. -/
theorem islState_railGasp (n : Nat) (order : Bool) (d : Dev) : islState (railGasp n order d) 9 = islState d 9 := by
  have hshown : (railShown n order d).rd (PWR.ISL_STAT.STATE 9) = d.rd (PWR.ISL_STAT.STATE 9) := by
    cases order <;> simp (disch := decide) only [railShown, Dev.rd_wr_ne, if_true, Bool.false_eq_true, if_false]
  exact (rd_lastGasp_ne _ _ _ _ (by decide) (by decide)).trans hshown

/-- While the device runs, a rail's class reacts once GOOD, VIOL and the last-gasp log show it. -/
theorem railSeen_running {n : Nat} {order : Bool} {d : Dev} (hvaux : d.crust.vaux = true) (hrun : dieRunning d = true) :
    railSeen n order d = railReact n (railGasp n order d) := by
  have hshown := dieRunning_railShown n order d
  simp only [railShown, hrun] at hshown
  simp (disch := decide) only [railSeen, railBad, dieRunning_wr_ne, hvaux, hrun, not_true_eq_false, if_false, if_true, hshown]
  rfl

/-- VAUX33 and VBAT are no main rails. -/
theorem railClass_supply {n : Nat} (h : railClass n ≠ 4) : n ≠ 0 ∧ n ≠ 11 := by
  constructor <;> rintro rfl <;> exact h rfl

/-- A main rail that leaves its range is the event that the rail monitor sees. -/
theorem event_of_railSeen {r : Fin 12} {order : Bool} {s : State} {hyp : Dev → Prop} {f : Dev → Dev} (hmain : ∀ d, hyp d → railClass r.val ≠ 4)
    (h : ∀ d, hyp d → railSeen r.val order d = f d) : Event (.railOutOfRange r order) s hyp f := by
  refine event_of_meaning (execRailOutOfRange r order) rfl rfl fun hd => ?_
  obtain ⟨hvaux33, hvbat⟩ := railClass_supply (hmain _ hd)
  rw [if_neg hvaux33, if_neg hvbat, h _ hd]

/-- Where the device runs, that event is the reaction of the rail's class. -/
theorem event_of_railReact {r : Fin 12} {order : Bool} {s : State} {hyp : Dev → Prop} {f : Dev → Dev}
    (h : ∀ d, hyp d → d.crust.vaux = true ∧ dieRunning d = true ∧ railClass r.val ≠ 4 ∧ railReact r.val (railGasp r.val order d) = f d) :
    Event (.railOutOfRange r order) s hyp f :=
  event_of_railSeen (fun d hd => have ⟨_, _, hmain, _⟩ := h d hd; hmain) fun d hd => by
    obtain ⟨hvaux, hrun, -, heff⟩ := h d hd
    rw [railSeen_running hvaux hrun, heff]

/-- While the control die does not run, the rail monitor holds it; without an order broken GOOD alone shows the rail. -/
theorem railSeen_held {n : Nat} {order : Bool} {d : Dev} (hvaux : d.crust.vaux = true) (hrun : dieRunning d = false) :
    railSeen n order d =
      (let d := d.wr PWR.RAIL_STAT.GOOD (setBit (d.rd PWR.RAIL_STAT.GOOD) n false)
       let d := if order then d.wr PWR.RAIL_STAT.VIOL (setBit (d.rd PWR.RAIL_STAT.VIOL) n true) else d
       { d with pwr := { d.pwr with heldRail := true } }) := by
  cases order <;>
    simp (disch := decide) only [railSeen, railBad, dieRunning_wr_ne, hvaux, hrun, not_true_eq_false, Bool.false_eq_true, if_false, if_true]

/-! ### Holds -/

/-- CS holds the control die for four reasons, and frees it when none is left (R61, R75, R86, R92). -/
theorem heldDie_eq_false_iff {p : PwrSt} : p.heldDie = false ↔ p.heldRail = false ∧ p.heldClk = false ∧ p.heldHang = false ∧ p.tripHold = false := by
  simp [PwrSt.heldDie, and_assoc]

/-! ### Islands (R69 to R74) -/

/-- Whether an island is held shows in its own flag only. -/
theorem held_wr_ne (d : Dev) {n : Nat} {f : FRef} (v : Nat) (h : (PWR.ISL_STAT.HELD n).key ≠ f.key) : held (d.wr f v) n = held d n :=
  Dev.flag_wr_ne d v h

/-- The end of an island's minimum off time leaves its state, its latched enable and its hold (R71). -/
theorem wr_minoff_keeps (n v : Nat) (d : Dev) :
    islState (d.wr (PWR.ISL_STAT.MINOFF n) v) n = islState d n ∧
      (d.wr (PWR.ISL_STAT.MINOFF n) v).flag (PWR.ISL_STAT.PENDING_REARM n) = d.flag (PWR.ISL_STAT.PENDING_REARM n) ∧
      held (d.wr (PWR.ISL_STAT.MINOFF n) v) n = held d n :=
  ⟨islState_wr_ne d v (by simp [FRef.key, PWR.ISL_STAT.STATE, PWR.ISL_STAT.MINOFF]),
    Dev.flag_wr_ne d v (by simp [FRef.key, PWR.ISL_STAT.PENDING_REARM, PWR.ISL_STAT.MINOFF]),
    held_wr_ne d v (by simp [FRef.key, PWR.ISL_STAT.HELD, PWR.ISL_STAT.MINOFF])⟩

/-- Only the islands of the lanes have a lane at work (R70). -/
theorem laneAtWork_island {d : Dev} {n : Nat} (h : laneAtWork d n = true) : 3 ≤ n ∧ n ≤ 5 := by
  simp only [laneAtWork, Bool.and_eq_true, decide_eq_true_eq] at h
  obtain ⟨⟨hlane, -⟩, -⟩ := h
  exact hlane

/-! ### The statements -/

/-- Settles O2: each clause's state meets the guards of its row; what the row writes before a guard leaves the operating state, the presence of
REFCLK and ANA's state as they were. That ANA's CAUSE then shows 0 (log 82) and which throttle step counts as the previous one (log 94) are the
model's choices. -/
theorem railsClocksComplete : Obligations.RailsClocksComplete := by
  unfold Obligations.RailsClocksComplete
  refine ⟨?deviceRail, ?analogueRail, ?linkRail, ?memoryRail, ?railBeforeStart, ?railUnpowered, ?vaux33, ?vbat, ?railRecovery, ?clockLost, ?refclkLost,
    ?refclkLostHeld, ?refclkRecovery, ?clockReturn, ?pllLost, ?sysPllLost, ?pllLocked, ?trip, ?thermalRead, ?throttle, ?unthrottle, ?dcq⟩
  case deviceRail | linkRail | memoryRail =>
    intro r order s
    refine event_of_railReact fun d ⟨hvaux, hrun, hclass⟩ => ⟨hvaux, hrun, by omega, ?_⟩
    simp only [railReact, hclass]
    rfl
  case analogueRail =>
    intro r order s
    refine event_of_railReact fun d ⟨hvaux, hrun, hclass, hon⟩ => ⟨hvaux, hrun, by omega, ?_⟩
    simp only [railReact, hclass, islState_railGasp, if_neg hon]
    rfl
  case railBeforeStart =>
    intro r order s
    exact event_of_railSeen (fun d ⟨_, _, hmain⟩ => hmain) fun d ⟨hvaux, hrun, _⟩ => railSeen_held hvaux hrun
  case railUnpowered =>
    intro r order s
    exact event_of_railSeen (fun d ⟨_, hmain⟩ => hmain) fun d ⟨hvaux, _⟩ => if_pos (by simp [hvaux])
  case vaux33 =>
    intro order s
    exact event_of_meaning (execRailOutOfRange 0 order) rfl rfl fun _ => if_pos rfl
  case vbat =>
    intro order s
    exact event_of_meaning (execRailOutOfRange 11 order) rfl rfl fun _ => (if_neg (by decide)).trans (if_pos rfl)
  case railRecovery =>
    intro rails s
    refine event_of_meaning (execRailRecovery rails) rfl rfl fun ⟨hrail, hclk, hhang, htrip, hvaux, hmpg, href, hgood⟩ => ?_
    have hfree : ({ s.dev.pwr with heldRail := false } : PwrSt).heldDie = false := heldDie_eq_false_iff.mpr ⟨rfl, hclk, hhang, htrip⟩
    have hpresent (v : Nat) : bitOf ((s.dev.wr PWR.RAIL_STAT.GOOD v).rd PWR.CLK_STAT.PRESENT) 0 = true := by
      rwa [Dev.rd_wr_ne _ _ (by decide)]
    calc _ = _ := if_neg (not_not_intro hvaux)
      _ = _ := if_pos ⟨hrail, hgood⟩
      _ = _ := if_neg (not_or.mpr ⟨ne_true_of_eq_false hfree, not_not_intro hmpg⟩)
      _ = _ := if_neg (not_not_intro (hpresent _))
  case clockLost =>
    intro n s
    refine event_of_meaning (execClockLost n) rfl rfl fun ⟨hrun, hn⟩ => ?_
    have hne : n.val ≠ 0 := Fin.val_ne_zero_iff.mpr hn
    simp (disch := decide) only [dieRunning_wr_ne, hrun, not_true_eq_false, if_false, if_neg hne]
  case refclkLost =>
    intro s
    refine event_of_meaning (execClockLost 0) rfl rfl fun hrun => ?_
    simp (disch := decide) only [dieRunning_wr_ne, hrun, not_true_eq_false, if_false]
    rfl
  case refclkLostHeld =>
    intro s
    refine event_of_meaning (execClockLost 0) rfl rfl fun ⟨hheld, hst⟩ => ?_
    have hrun : dieRunning s.dev = false := by simp [dieRunning, hheld]
    simp (disch := decide) only [dieRunning_wr_ne, opState_wr_ne, hrun, hst]
    rfl
  case refclkRecovery =>
    intro s
    refine event_of_meaning execRefclkRecovery rfl rfl fun ⟨hclk, hrail, hhang, htrip, hst⟩ => ?_
    have hfree : ({ s.dev.pwr with heldClk := false } : PwrSt).heldDie = false := heldDie_eq_false_iff.mpr ⟨hrail, rfl, hhang, htrip⟩
    have hstate := opState_wr_ne s.dev (f := PWR.CLK_STAT.PRESENT) (setBit (s.dev.rd PWR.CLK_STAT.PRESENT) 0 true) (by decide)
    calc _ = _ := if_neg (not_not_intro hclk)
      _ = _ := if_neg (ne_true_of_eq_false hfree)
      _ = _ := if_neg (hstate ▸ Nat.not_le.mpr hst)
  case clockReturn =>
    intros
    exact event_of_effect rfl
  case pllLost =>
    intro i s
    refine event_of_meaning (execPllLockLost i false) rfl rfl fun ⟨hrun, hi, hhad⟩ => ?_
    have hne : i.val ≠ 5 := fun h => hi (Fin.ext h)
    simp (disch := decide) [dieRunning_wr_ne, hrun, hhad, hne]
  case sysPllLost =>
    intro s
    refine event_of_meaning (execPllLockLost 5 false) rfl rfl fun ⟨hrun, hhad⟩ => ?_
    have hfive : (5 : Fin 7).val = 5 := rfl
    simp (disch := decide) only [dieRunning_wr_ne, hfive, hrun, hhad, not_true_eq_false, or_false, Bool.false_eq_true, if_false, if_true]
    rfl
  case pllLocked =>
    intro i s
    exact event_of_meaning (execPllLockLost i true) rfl rfl fun _ => if_pos (.inl rfl)
  case trip =>
    intro s
    exact event_of_meaning execThermalTrip rfl rfl fun hrun => if_pos hrun
  case thermalRead =>
    intro temps s
    exact event_of_meaning (execThermalRead temps) rfl rfl fun ⟨hrun, hread⟩ => if_neg (by simp [hrun, hread])
  case throttle =>
    intro s
    exact event_of_meaning execThrottleStep rfl rfl fun ⟨hthr, hhot, hrose⟩ => by rw [if_neg hthr, if_pos hhot, if_pos hrose]
  case unthrottle =>
    intro s
    exact event_of_meaning execThrottleStep rfl rfl fun ⟨hthr, hcool, hback⟩ => by rw [if_neg hthr, if_neg (by omega), if_pos hback]
  case dcq =>
    intros
    exact event_of_effect rfl

/-- Settles O3: the state that each clause names decides every branch of its row, and the writes that stand before a branch are of other
fields of the island's status. That a host off isolates a lane at work at once (log 66) and that VCMD stays while VDDC is held (log 81) are the model's choices. -/
theorem islandsAvsComplete : Obligations.IslandsAvsComplete := by
  unfold Obligations.IslandsAvsComplete
  refine ⟨?islCtrlEn, ?stopEnd, ?startEnd, ?startEndOff, ?startEndLaneOff, ?minoffEnd, ?hostReturn, ?warmReset, ?retryProof, ?hostOff, ?powerOn,
    ?powerOff, ?powerOffLane, ?powerOffHost, ?avs⟩
  case islCtrlEn =>
    intros
    exact event_of_guardWrite rfl
  case stopEnd =>
    intro n s
    exact event_of_meaning (execIslandStopEnd n) rfl rfl fun hstop => if_pos hstop
  case startEnd =>
    intro n s
    refine event_of_meaning (execIslandStartEnd n) rfl rfl fun ⟨hstart, hnone⟩ => ?_
    simp only [hstart, hnone, not_true_eq_false, ne_eq, if_false]
  case startEndOff =>
    intro n c s
    refine event_of_meaning (execIslandStartEnd n) rfl rfl fun ⟨hstart, hsome, hupd, hwork⟩ => ?_
    simp only [hstart, hsome, hupd, hwork, not_true_eq_false, ne_eq, Bool.false_eq_true, if_false]
  case startEndLaneOff =>
    intro n c s
    refine event_of_meaning (execIslandStartEnd n) rfl rfl fun ⟨hstart, hsome, hupd, hwork⟩ => ?_
    simp only [hstart, hsome, hupd, hwork, not_true_eq_false, ne_eq, if_false, if_true]
  case minoffEnd =>
    intro n s
    refine event_of_meaning (execIslandMinoffEnd n) rfl rfl fun ⟨hoff, hpend, hfree⟩ => ?_
    obtain ⟨hstate, hrearm, hheld⟩ := wr_minoff_keeps n.val 0 s.dev
    exact if_pos ⟨hstate.trans hoff, hrearm.trans hpend, ne_true_of_eq_false (hheld.trans hfree)⟩
  case hostReturn =>
    intro s
    refine event_of_meaning execHostReturnTimer rfl rfl fun ⟨hsome, hfree, hoff, hmin⟩ => ?_
    obtain ⟨secs, hsecs⟩ := Option.isSome_iff_exists.mp hsome
    have hstate : islState (s.dev.wr (PWR.ISL_STAT.CAUSE 12) causeTimer) 12 = 0 := (islState_wr_ne _ _ (by decide)).trans hoff
    have hready : (s.dev.wr (PWR.ISL_STAT.CAUSE 12) causeTimer).flag (PWR.ISL_STAT.MINOFF 12) = false :=
      (Dev.flag_wr_ne _ _ (by decide)).trans hmin
    simp only [hsecs]
    calc _ = _ := if_neg (not_or.mpr ⟨ne_true_of_eq_false hfree, fun h => h.1 hoff⟩)
      _ = _ := if_pos ⟨hstate, ne_true_of_eq_false hready⟩
  case warmReset | retryProof | hostOff =>
    intros
    exact event_of_meaning execActionDelayEnd rfl rfl fun hq => by simp only [hq]
  case powerOn =>
    intro h isl ret s
    refine cmd_of_runCmd rfl fun d ⟨hlo, hhi, hfree, hon, hpend⟩ => ?_
    dsimp only
    rw [if_neg (by omega), if_pos rfl, if_neg (ne_true_of_eq_false hfree), if_neg hon, if_neg (ne_true_of_eq_false hpend)]
  case powerOff =>
    intro h isl ret s
    refine cmd_of_runCmd rfl fun d ⟨hlo, hhi, hhost, hwork, hfree, hoff⟩ => ?_
    dsimp only
    rw [if_neg (by omega), if_neg (by decide), if_neg hhost, if_neg (ne_true_of_eq_false hwork),
      if_neg (not_or.mpr ⟨ne_true_of_eq_false hfree, hoff⟩)]
  case powerOffLane =>
    intro h isl ret s
    refine cmd_of_runCmd rfl fun d ⟨hwork, hserv⟩ => ?_
    obtain ⟨hlo, hhi⟩ := laneAtWork_island hwork
    dsimp only
    rw [if_neg (by omega), if_neg (by decide), if_neg (by omega), if_pos hwork, if_neg (by omega)]
  case powerOffHost =>
    intro h ret s
    refine cmd_of_runCmd rfl fun d ⟨hlo, hhi, hfree, hon⟩ => ?_
    dsimp only
    rw [if_neg (by omega), if_neg (by decide), if_pos rfl, if_neg (ne_true_of_eq_false hfree), if_neg hon]
  case avs =>
    intro c answer s
    exact event_of_meaning (execAvsCommand c answer) rfl rfl fun hrun => if_neg (not_not_intro hrun)

end Sys2Proof.Machine
end

section
/-! SUPPORT. Proofs of the statements of spec/04: the common refusals of a ring command and the order of their tests; with the law that a row made of
`runCmd` alone is turned away by them. -/
namespace Sys2Proof.Machine
open Sys2Proof

/-! ### The common refusals (R101, R102, R125, R129, R137) -/

/-- The operating states that turn a command away: a die that does not run yet, Rack, KEEP-WARM and PROOF, each of the three unless the command's row
accepts it (R101, R102; what PROOF accepts is log 76). -/
theorem gateState_iff (sp : CmdSpec) (st : Nat) :
    ((st = 5 ∧ ¬ sp.rack) ∨ (st = 4 ∧ ¬ sp.kw) ∨ (st = 2 ∧ ¬ sp.proof) ∨ st < 2) ↔
      st < 2 ∨ (st = 5 ∧ sp.rack = false) ∨ (st = 4 ∧ sp.kw = false) ∨ (st = 2 ∧ sp.proof = false) := by
  simp only [Bool.not_eq_true]
  tauto

/-- The islands that turn a command away: one of those its row names is off (R137). -/
theorem gateIslands_iff (sp : CmdSpec) (d : Dev) : (¬ sp.isl.all (islandOn d)) ↔ ∃ i ∈ sp.isl, islandOn d i = false := by
  simp only [List.all_eq_true, not_forall, Bool.not_eq_true, exists_prop]

/-- The common refusals, test by test. The order of the tests is the model's choice, as are what PROOF accepts (log 76) and that an island is on in
state ON alone (log 6). -/
theorem cmdGate_eq (sp : CmdSpec) (h : CmdHdr) (d : Dev) : cmdGate sp h d =
    (if h.flagsBad = true then some stBadParam
     else if opState d < 2 ∨ (opState d = 5 ∧ sp.rack = false) ∨ (opState d = 4 ∧ sp.kw = false) ∨ (opState d = 2 ∧ sp.proof = false) then some stWrongState
     else if (∃ i ∈ sp.isl, islandOn d i = false) then some stUnavailable
     else if h.chained = true ∧ h.chainOk = false then some stChainError
     else if h.bufs ≠ [] ∧ h.dmaOk = false then some stDmaError
     else none) :=
  if_congr Iff.rfl rfl <|
  if_congr (gateState_iff sp (opState d)) rfl <|
  if_congr (gateIslands_iff sp d) rfl <|
  if_congr (and_congr_right' (Bool.not_eq_true _).to_iff) rfl <|
  if_congr (and_congr_right' (Bool.not_eq_true _).to_iff) rfl rfl

/-! ### Rows that the common refusals guard (R128) -/

/-- A row that is `runCmd` alone is turned away by the common refusals, whatever its own part. -/
theorem turnedAway_of_runCmd {sp : CmdSpec} {i : Instr} {h : CmdHdr} {s : State} {body : Dev → CmdOut} (hi : exec i s = go (runCmd sp h body) s) :
    TurnedAway sp i h s := fun _ hstart hgate => hi.trans (runCmd_turned body hstart hgate)

/-- Settles O45: the tests stand in the gate in the order stated, and every row of the command table is `runCmd` with that row's specification, so that
the gate decides before the row's own part. -/
theorem commandsTurnedAway : Obligations.CommandsTurnedAway := by
  unfold Obligations.CommandsTurnedAway
  refine ⟨cmdGate_eq, ?rows⟩
  case rows =>
    and_intros
    all_goals
      intros
      exact turnedAway_of_runCmd rfl

end Sys2Proof.Machine
end

section
/-! SUPPORT. Proofs of the statements of spec/05: what a step makes of the queue, runs of steps, and what a write to host memory changes; with the law
that every row of the command table is an effect on the device. -/
namespace Sys2Proof.Machine
open Sys2Proof

/-! ### Every row is an effect on the device (R128) -/

/-- Every command of the table is an effect on the device, whatever its operands and the state it meets: no meaning stops, none touches the queue.
Each arm of the dispatch is one meaning, and each meaning is written as `go` of its effect. -/
theorem exec_eq_go (c : Instr) (s : State) : ∃ f : Dev → Dev, exec c s = go f s := by
  unfold exec
  cases c <;> exact ⟨_, rfl⟩

/-- A command answers a next state, with the queue as it was and no raise waiting (that each raise is taken within its step is log 12). -/
theorem exec_next (c : Instr) (s : State) : ∃ d : Dev, exec c s = .next { s with dev := d } ∧ d.fcu.todo = [] := by
  obtain ⟨f, hf⟩ := exec_eq_go c s
  exact ⟨settle (f s.dev), hf.trans (go_next f s), settle_todo _⟩

/-! ### One step -/

/-- On an empty queue one AON clock period passes (log 2). -/
theorem step_idle {s : State} (h : s.pending = []) : step s = .next { s with dev := settle (elapse 1 s.dev) } := by
  simp only [step, h, go_next]

/-- With a command in front the step is that command's meaning, on the rest of the queue. -/
theorem step_front {s : State} {c : Instr} {rest : List Instr} (h : s.pending = c :: rest) : step s = exec c { s with pending := rest } := by
  simp only [step, h]

/-- A step answers a next state, takes the front command alone from the queue, and leaves no raise waiting. -/
theorem step_next (s : State) : ∃ t : State, step s = .next t ∧ t.pending = s.pending.tail ∧ t.dev.fcu.todo = [] := by
  cases h : s.pending with
  | nil => exact ⟨_, step_idle h, h, settle_todo _⟩
  | cons c rest =>
    obtain ⟨d, hd, htodo⟩ := exec_next c { s with pending := rest }
    exact ⟨_, (step_front h).trans hd, rfl, htodo⟩

/-- Settles O32: the step's two cases, for the state with the command put in front and for the empty queue. -/
theorem stepRunsFrontCommand : Obligations.StepRunsFrontCommand := by
  unfold Obligations.StepRunsFrontCommand
  exact ⟨fun _ _ => step_front rfl, fun _ => step_idle⟩

/-- Settles O33: every row is an effect on the device, so that a step's next state differs from the state it ran on in the device alone. -/
theorem queueShrinksByOne : Obligations.QueueShrinksByOne := by
  unfold Obligations.QueueShrinksByOne
  refine ⟨fun s => ?step, fun c s => ?command⟩
  case step =>
    obtain ⟨t, ht, hq, -⟩ := step_next s
    exact ⟨t, ht, hq⟩
  case command =>
    obtain ⟨d, hd, -⟩ := exec_next c s
    exact ⟨d, hd⟩

/-! ### Runs of steps -/

/-- A run of one step more goes on from the step's next state. -/
theorem run_succ {s t : State} (h : step s = .next t) (n : Nat) : run (n + 1) s = run n t := by
  simp only [run, h]

/-- Settles O37, by induction on the number of steps: a step always answers a next state, and where more steps follow, the run from that state has
the rest of the queue and leaves no raise (log 12). -/
theorem everyRunCompletes : Obligations.EveryRunCompletes := by
  unfold Obligations.EveryRunCompletes
  intro n
  induction n with
  | zero => exact fun s => ⟨s, rfl, rfl, fun h => absurd h (lt_irrefl 0)⟩
  | succ n ih =>
    intro s
    obtain ⟨t, ht, hq, htodo⟩ := step_next s
    obtain ⟨u, hu, hrest, hquiet⟩ := ih t
    refine ⟨u, (run_succ ht n).trans hu, ?queue, fun _ => ?noRaise⟩
    case queue => rw [hrest, hq, List.drop_tail]
    case noRaise =>
      cases n with
      | zero => obtain rfl : t = u := Option.some.inj hu; exact htodo
      | succ n => exact hquiet n.succ_pos

/-! ### Host memory (R126, R597) -/

/-- Addresses less than 2^64 apart name different bytes behind a port, also across the wrap to 0 (log 5). -/
theorem memKey_add_ne (p a : Nat) {i : Nat} (hpos : 0 < i) (hlt : i < 2 ^ 64) : memKey p a ≠ memKey p (a + i) := by
  simp only [memKey]
  omega

/-- A byte that no written byte shares its place with is left as it is. -/
theorem lookD_putBytes_ne (p : Nat) {k : Nat} (bs : List Byte) (a : Nat) (m : SMap Byte) (h : ∀ i, i < bs.length → k ≠ memKey p (a + i)) :
    lookD (putBytes m p a bs) k 0 = lookD m k 0 := by
  induction bs generalizing a m with
  | nil => rfl
  | cons b t ih =>
    have hfirst : k ≠ memKey p a := h 0 t.length.succ_pos
    have hrest (i : Nat) (hi : i < t.length) : k ≠ memKey p (a + 1 + i) := by
      rw [Nat.add_right_comm]
      exact h (i + 1) (Nat.succ_lt_succ hi)
    exact (ih (a + 1) _ hrest).trans (putByte_ne hfirst b)

/-- The same of the device: a write leaves every byte outside it, through either port. -/
theorem memByte_memWrite_ne {p a q b : Nat} {bs : List Byte} (d : Dev) (h : ∀ i, i < bs.length → memKey q b ≠ memKey p (a + i)) :
    memByte (memWrite p a bs d) q b = memByte d q b := lookD_putBytes_ne p bs a d.host.mem h

/-- A byte just written reads back. -/
theorem memByte_memWrite_singleton (p a : Nat) (b : Byte) (d : Dev) : memByte (memWrite p a [b] d) p a = b := putByte_same _ _ _

/-- A string is written byte by byte, upwards. -/
theorem memWrite_cons (p a : Nat) (b : Byte) (t : List Byte) (d : Dev) : memWrite p a (b :: t) d = memWrite p (a + 1) t (memWrite p a [b] d) := rfl

/-- A string no longer than the address space reads back: no later byte of it comes round to the place of an earlier one. -/
theorem memRead_memWrite (p : Nat) (bs : List Byte) (a : Nat) (d : Dev) (h : bs.length ≤ 2 ^ 64) :
    memRead (memWrite p a bs d) p a bs.length = bs := by
  induction bs generalizing a d with
  | nil => rfl
  | cons b t ih =>
    rw [List.length_cons] at h
    have hapart (i : Nat) (hi : i < t.length) : memKey p a ≠ memKey p (a + 1 + i) := by
      rw [Nat.add_assoc]
      exact memKey_add_ne p a (by omega) (by omega)
    have hfirst : memByte (memWrite p a (b :: t) d) p a = b := by
      rw [memWrite_cons, memByte_memWrite_ne _ hapart, memByte_memWrite_singleton]
    have hrest : memRead (memWrite p a (b :: t) d) p (a + 1) t.length = t := by
      rw [memWrite_cons]
      exact ih (a + 1) _ (by omega)
    rw [List.length_cons, memRead, hfirst, hrest]

/-- Settles O38: the laws of a written string, read back, outside it, in its canonical form and in what it leaves. That a port has 2^64 addresses which
wrap to 0, and that a byte never written reads 0, are the model's choices (log 5). -/
theorem hostMemoryWrites : Obligations.HostMemoryWrites := by
  unfold Obligations.HostMemoryWrites
  exact fun d p a bs hlen =>
    ⟨memRead_memWrite p bs a d hlen, fun _ _ => memByte_memWrite_ne d, putBytes_wf p bs a, memWrite_frame p a bs d⟩

end Sys2Proof.Machine
end

section
/-! SUPPORT. Proofs of the statements of spec/06: the Crust's supplies, RTC, alarms, tamper inputs, counters and the Crust port; with what a tamper
input that turns leaves alone, what an accepted tamper event does where no action of its input is set, and the port's answers. -/
namespace Sys2Proof.Machine
open Sys2Proof

/-! ### Bits -/

/-- A bit of a number is that bit in the library's sense. -/
theorem bitOf_eq_testBit (v b : Nat) : bitOf v b = v.testBit b := by
  rw [bitOf, Nat.testBit_eq_decide_div_mod_eq, beq_eq_decide]

/-- A bit that has been cleared is 0. -/
theorem bitOf_setBit_false (v b : Nat) : bitOf (setBit v b false) b = false := by
  cases hb : bitOf v b with
  | false => simp only [setBit, hb]
  | true =>
    have hset : v.testBit b = true := by rw [← bitOf_eq_testBit, hb]
    have hle : 2 ^ b ≤ v := Nat.ge_two_pow_of_testBit hset
    have hflip : (2 ^ b + (v - 2 ^ b)).testBit b = true := by rwa [Nat.add_sub_cancel' hle]
    rw [Nat.testBit_two_pow_add_eq, Bool.not_eq_true'] at hflip
    simpa only [setBit, hb, bitOf_eq_testBit] using hflip

/-- A mask adds no bit. -/
theorem bitOf_and_of_eq_false {v b : Nat} (m : Nat) (h : bitOf v b = false) : bitOf (v &&& m) b = false := by
  rw [bitOf_eq_testBit] at h ⊢
  rw [Nat.testBit_and, h, Bool.false_and]

/-! ### Events -/

/-- An event takes place with every effect that agrees with its own, under every condition that gives its own. -/
theorem Event.congr {i : Instr} {s : State} {hyp hyp' : Dev → Prop} {f f' : Dev → Dev} (he : Event i s hyp f)
    (h : hyp' s.dev → hyp s.dev ∧ f s.dev = f' s.dev) : Event i s hyp' f' := fun hd => by
  obtain ⟨hhyp, heff⟩ := h hd
  rw [he hhyp, heff]

/-! ### Tamper inputs (R158, R169) -/

/-- Input k turns to a level: ACTIVE follows, and it can be accepted anew (R158, R169). -/
def tamperTurned (k : Nat) (level : Bool) (d : Dev) : Dev :=
  settleTamp { d with pins := { d.pins with tamper := setBit d.pins.tamper k level, tampAcc := setBit d.pins.tampAcc k false } }

/-- The Crust's own state stays. -/
@[simp] theorem tamperTurned_crust (k : Nat) (level : Bool) (d : Dev) : (tamperTurned k level d).crust = d.crust := rfl

/-- Of the registers it writes ACTIVE only. -/
theorem rd_tamperTurned_ne (k : Nat) (level : Bool) (d : Dev) {f : FRef} (h : f.key ≠ CRUST.TAMP_STAT.ACTIVE.key) :
    (tamperTurned k level d).rd f = d.rd f :=
  Dev.rd_wr_ne _ _ h

/-- Whether time is lost does not depend on the inputs. -/
@[simp] theorem timeLost_tamperTurned (k : Nat) (level : Bool) (d : Dev) : timeLost (tamperTurned k level d) = timeLost d :=
  Dev.flag_wr_ne _ _ (by decide)

/-- TAMP_CFG does not overlap ACTIVE (R169). -/
theorem tampField_key_ne_active {n hi lo : Nat} (hn : n < 4) (hlo : lo < 8) : (tampField n hi lo).key ≠ CRUST.TAMP_STAT.ACTIVE.key := by
  simp only [tampField, FRef.key, CRUST.TAMP_STAT.ACTIVE]
  omega

/-- The configuration of an input stays when an input turns. -/
theorem rd_tamperTurned_cfg {n hi lo : Nat} (hn : n < 4) (hlo : lo < 8) (k : Nat) (level : Bool) (d : Dev) :
    (tamperTurned k level d).rd (tampField n hi lo) = d.rd (tampField n hi lo) :=
  rd_tamperTurned_ne k level d (tampField_key_ne_active hn hlo)

/-- So do its flags. -/
theorem flag_tamperTurned_cfg {n hi lo : Nat} (hn : n < 4) (hlo : lo < 8) (k : Nat) (level : Bool) (d : Dev) :
    (tamperTurned k level d).flag (tampField n hi lo) = d.flag (tampField n hi lo) := by
  rw [Dev.flag, rd_tamperTurned_cfg hn hlo, Dev.flag]

/-- An input that has turned has no accepted event. -/
theorem tamperTurned_unaccepted (k : Nat) (level : Bool) (d : Dev) : bitOf (tamperTurned k level d).pins.tampAcc k = false :=
  bitOf_and_of_eq_false _ (bitOf_setBit_false _ _)

/-- Input n is armed, and under a supply it has held its active level for its filter time (R158). -/
abbrev TamperHeld (n : Nat) (level : Bool) (heldNs : Nat) (d : Dev) : Prop :=
  d.flag (tampEn n) = true ∧ level = d.flag (tampPol n) ∧ filtNs (d.rd (tampFilt n)) ≤ heldNs ∧ (d.crust.vaux = true ∨ d.crust.vbat = true)

/-- The tests under which the model does not accept an input that has turned are those under which it has not held its active level. -/
theorem tamperTurned_refused_iff {n : Nat} (hn : n < 4) (level : Bool) (heldNs : Nat) (d : Dev) :
    (¬ (tamperTurned n level d).flag (tampEn n) = true ∨ level ≠ (tamperTurned n level d).flag (tampPol n) ∨
      heldNs < filtNs ((tamperTurned n level d).rd (tampFilt n)) ∨ bitOf (tamperTurned n level d).pins.tampAcc n = true ∨
      (¬ (tamperTurned n level d).crust.vaux = true ∧ ¬ (tamperTurned n level d).crust.vbat = true)) ↔ ¬ TamperHeld n level heldNs d := by
  have hen : (tamperTurned n level d).flag (tampEn n) = d.flag (tampEn n) := flag_tamperTurned_cfg hn (by decide) n level d
  have hpol : (tamperTurned n level d).flag (tampPol n) = d.flag (tampPol n) := flag_tamperTurned_cfg hn (by decide) n level d
  have hfilt : (tamperTurned n level d).rd (tampFilt n) = d.rd (tampFilt n) := rd_tamperTurned_cfg hn (by decide) n level d
  rw [hen, hpol, hfilt, tamperTurned_unaccepted, tamperTurned_crust, TamperHeld, ← Nat.not_le, ← not_or]
  simp only [Bool.false_eq_true, false_or, ne_eq, not_and_or]

/-- An input that turns to another level is accepted where it has held the active one, and else only turns. -/
theorem tamperEvent_turned (n : Fin 4) (level : Bool) (heldNs : Nat) (s : State) :
    Event (.tamperEvent n level heldNs) s (fun d => bitOf d.pins.tamper n.val ≠ level)
      (fun d => if TamperHeld n.val level heldNs d then tamperAccepted n.val (tamperTurned n.val level d) else tamperTurned n.val level d) := by
  refine event_of_meaning (execTamperEvent n level heldNs) rfl rfl fun hturn => ?_
  simp only [if_neg hturn]
  exact (if_congr (tamperTurned_refused_iff n.isLt level heldNs s.dev) rfl rfl).trans (ite_not ..)

/-- Accepted with VAUX33 present, time valid and room in the log, an event of an input without an action is logged, latched and reported, and does
nothing else (R158, R160). -/
theorem tamperAccepted_of_no_action {k : Nat} {d : Dev} (hvaux : d.crust.vaux = true) (htime : timeLost d = false)
    (hroom : d.crust.tamperLog.length < 16) (hzero : d.flag (tampZero k) = false) (hsafe : d.flag (tampSafe k) = false)
    (hwake : d.flag (tampWake k) = false) :
    tamperAccepted k d =
      (let log := d.crust.tamperLog ++ [(d.crust.sec % 2 ^ 48, k, 0)]
       let d : Dev := { d with crust := { d.crust with tamperLog := log }, pins := { d.pins with tampAcc := setBit d.pins.tampAcc k true } }
       let d := d.wr CRUST.TAMP_STAT.LOG_COUNT log.length
       let d := (d.wr CRUST.TAMP_STAT.LATCH (setBit (d.rd CRUST.TAMP_STAT.LATCH) k true)).wr CRUST.STATUS.TAMPER 1
       let d := alertSet 0 d
       if dieRunning d then raise 164 k (raiseEv 18 0 0 d) else d) := by
  have hfull : decide (16 ≤ d.crust.tamperLog.length) = false := decide_eq_false (Nat.not_le.mpr hroom)
  simp only [tamperAccepted, hvaux, htime, hfull, hzero, hsafe, hwake]
  rfl

/-! ### The Crust port (R163, R164) -/

/-- While VAUX33 is present the port answers a read with its bytes. -/
theorem crpAnswer_of_vaux {bytes : Dev → List Byte} {d : Dev} (h : d.crust.vaux = true) :
    crpAnswer bytes d = { d with crust := { d.crust with answer := bytes d, acked := true } } := if_pos h

/-- Past the codes of the status reads, the reads that the port lists are those of the last-gasp records. -/
theorem crpRead_of_no_status_code {c : Nat} (d : Dev) (h : c = 0 ∨ 6 < c) :
    crpRead c d = if 0x10 ≤ c ∧ c ≤ 0x17 then some (padTo 32 (((lgImage d).drop (32 * (c - 0x10))).take 32)) else none := by
  unfold crpRead
  split
  case h_7 => rfl
  all_goals omega

/-! ### The statement -/

/-- Settles O9: the state that each clause names decides the branches of its row; what the row writes before a branch is of other fields. That
LOW_RET is set at every loss of both supplies (log 18) is the model's choice. -/
theorem crustComplete : Obligations.CrustComplete := by
  unfold Obligations.CrustComplete
  refine ⟨?ponTimeout, ?vaux33Fall, ?switchBack, ?powerUp, ?powerLoss, ?batLevel, ?lowRet, ?scrub, ?almFire, ?discipline, ?compStep, ?calendarEnd,
    ?setSeconds, ?setService, ?slew, ?rtcStep, ?cntIncr, ?tamperCfg, ?tamperAccept, ?tamperUnarmed, ?readStatus, ?readRtc, ?readTampStat,
    ?readTamperLog, ?readCounters, ?readIdentity, ?readLastGasp, ?readUnlisted, ?crpWake, ?alertClr, ?alertResponse, ?smbusTimeout⟩
  case vaux33Fall | powerLoss | batLevel | lowRet | discipline | readStatus | readRtc | readTampStat | readTamperLog | readCounters | readIdentity
      | smbusTimeout =>
    intros
    exact event_of_effect rfl
  case ponTimeout =>
    intro s
    exact event_of_meaning execPonTimeout rfl rfl fun hwaking => if_neg (not_not_intro hwaking)
  case switchBack =>
    intro w s
    exact event_of_meaning (execCrustSwitchBack w) rfl rfl fun ⟨hvaux, hst⟩ => if_neg (not_or.mpr ⟨hvaux, hst⟩)
  case powerUp =>
    intro vaux w s
    exact event_of_meaning (execCrustPowerUp vaux w) rfl rfl fun hst => if_neg (not_not_intro hst)
  case scrub =>
    intro parityError s
    exact event_of_meaning (execScrub parityError) rfl rfl fun ⟨hvaux, herr⟩ => if_neg (not_or.mpr ⟨not_not_intro hvaux, not_not_intro herr⟩)
  case almFire =>
    intro i s
    exact event_of_meaning (execAlmFire i) rfl rfl fun ⟨hen, htime, hnever⟩ => if_neg (not_or.mpr ⟨not_not_intro hen, not_or.mpr ⟨htime, hnever⟩⟩)
  case compStep =>
    intro temp s
    exact event_of_meaning (execCompStep temp) rfl rfl fun hsupply => if_neg hsupply
  case calendarEnd =>
    intro s
    exact event_of_meaning execCalendarEnd rfl rfl fun htime => if_neg htime
  case setSeconds =>
    intro h secs s
    exact cmd_of_runCmd rfl fun d hrange => if_pos hrange
  case setService =>
    intro h secs s
    exact cmd_of_runCmd rfl fun d ⟨hvalid, hrange⟩ => (if_neg (not_not_intro hvalid)).trans (if_neg (not_not_intro hrange))
  case slew =>
    intro h secs s
    exact cmd_of_runCmd rfl fun d ⟨hvalid, htime, hoff⟩ => (if_neg (by simp [hvalid, htime])).trans (if_neg (Nat.not_lt.mpr hoff))
  case rtcStep =>
    intro p rest s
    exact event_of_meaning execRtcStep rfl rfl fun ⟨hpending, hmode⟩ => by simp only [hpending, hmode, if_true]
  case cntIncr =>
    intro h n s
    refine cmd_of_runCmd rfl fun d ⟨hhi, hlo, hkept, hmax⟩ => ?_
    rw [if_neg (Nat.not_lt.mpr hhi), if_neg (Nat.not_lt.mpr hlo), if_neg hkept, if_neg hmax]
  case tamperCfg =>
    intro h v s
    exact cmd_of_runCmd rfl fun d harms => if_pos (ne_true_of_eq_false harms)
  case tamperAccept =>
    intro n level heldNs s
    refine (tamperEvent_turned n level heldNs s).congr fun ⟨hen, hpol, hheld, hturn, hvaux, htime, hroom, hzero, hsafe, hwake⟩ => ⟨hturn, ?_⟩
    have hcfg {hi lo : Nat} (hlo : lo < 8) := flag_tamperTurned_cfg (hi := hi) n.isLt hlo n.val level s.dev
    rw [if_pos ⟨hen, hpol, hheld, .inl hvaux⟩]
    exact tamperAccepted_of_no_action hvaux ((timeLost_tamperTurned ..).trans htime) hroom ((hcfg (by decide)).trans hzero)
      ((hcfg (by decide)).trans hsafe) ((hcfg (by decide)).trans hwake)
  case tamperUnarmed =>
    intro n level heldNs s
    exact (tamperEvent_turned n level heldNs s).congr fun ⟨hen, hturn⟩ =>
      ⟨hturn, if_neg fun ⟨harmed, _⟩ => ne_true_of_eq_false hen harmed⟩
  case readLastGasp =>
    intro code s
    refine event_of_meaning (execCrpReadLastGasp code) rfl rfl fun ⟨hlo, hhi, hvaux⟩ => ?_
    have hcode : code.val = 0 ∨ 6 < code.val := by omega
    simp only [crpRead_of_no_status_code s.dev hcode, if_pos (And.intro hlo hhi)]
    exact crpAnswer_of_vaux hvaux
  case readUnlisted =>
    intro code s
    refine event_of_meaning (execCrpReadLastGasp code) rfl rfl fun hunlisted => ?_
    have hcode : code.val = 0 ∨ 6 < code.val := by omega
    have hnone : ¬ (0x10 ≤ code.val ∧ code.val ≤ 0x17) := by omega
    simp only [crpRead_of_no_status_code s.dev hcode, if_neg hnone]
  case crpWake =>
    intro s
    refine event_of_meaning (execCrpWake true) rfl rfl fun ⟨hvaux, hport⟩ => ?_
    simp only [hvaux]
    exact if_pos ⟨trivial, trivial, hport⟩
  case alertClr =>
    intro s
    refine event_of_meaning (execAlertClr true) rfl rfl fun hvaux => ?_
    simp only [hvaux]
    rfl
  case alertResponse =>
    intro s
    exact event_of_meaning execAlertResponse rfl rfl fun hasserted => if_pos hasserted

end Sys2Proof.Machine
end

section
/-! SUPPORT. Proofs of the statements of spec/07: the Ethernet ports, PRP and the diagnostic service; and the refutation of the statement about network
time, whose clause on captures leaves out that a trigger ball in its safe state is ignored. -/
namespace Sys2Proof.Machine
open Sys2Proof

/-! ### Captures (R42, R191) -/

/-- While the SAFE path is applied an edge on a trigger ball is ignored (R42). -/
theorem trigCapture_ignored_of_safeAct (k : Fin 2) (rise : Bool) (s : State) : Event (.trigCapture k rise) s (fun d => safeAct d = true) id :=
  event_of_meaning (execTrigCapture k rise) rfl rfl fun hsafe => if_pos (.inr (.inr (.inl hsafe)))

/-- RUN with the SAFE path applied: NET is on, TIME_TRIG0 is enabled for both edges, and its queue is empty. -/
def safeTrigDev : Dev :=
  (((((({} : Dev).wr GLB.STATE.STATE 3).wr (PWR.ISL_STAT.STATE 10) 2).wr (TIME.TRIG.CFG.EN 0) 1).wr (TIME.TRIG.CFG.EDGE 0) 3).wr LANES.STAT.SAFE_ACT 1)

/-- Refutes O10: its clause on TIME_TRIG requires a capture of every selected edge while NET is on, but R42 lists the ball's safe state as ignored, and
the model captures nothing while the SAFE path is applied: on `safeTrigDev` the queue stays empty where the clause puts a capture into it. -/
theorem not_timeComplete : ¬ Obligations.TimeComplete := by
  unfold Obligations.TimeComplete
  rintro ⟨-, -, -, -, -, -, -, -, -, -, -, hcapture, -, -⟩
  have hclause := hcapture 0 true { dev := safeTrigDev } (by decide +kernel)
  have hmodel := trigCapture_ignored_of_safeAct 0 true { dev := safeTrigDev } (by decide +kernel)
  rw [hmodel] at hclause
  injection hclause with hstate
  have hqueue := congrArg (fun s : State => s.dev.time.trigQ) hstate
  exact absurd hqueue (by decide +kernel)

/-! ### Ethernet, PRP and the diagnostic service -/

/-- Settles O11: each row's own guard is what its clause excludes, and what is left of the row is the clause's effect. That a PORT_POWER on which still
waits when its port has stopped completes as REFUSED (log 79) is the model's choice. -/
theorem ethernetComplete : Obligations.EthernetComplete := by
  unfold Obligations.EthernetComplete
  refine ⟨?portAddr, ?powerOn, ?powerOff, ?stopEnd, ?startEnd, ?minoffEnd, ?linkUp, ?linkDown, ?frameRx, ?supervision, ?lanTimeout, ?forgetNode,
    ?forgetEntry, ?diagBar0, ?diagProof, ?diagFaults, ?diagRecords, ?diagCrust⟩
  case minoffEnd | forgetNode | forgetEntry | diagCrust =>
    intros
    exact event_of_effect rfl
  case portAddr =>
    intro h s
    exact cmd_of_runCmd rfl fun d ⟨hsend, hrecords⟩ => (if_neg (not_not_intro hsend)).trans (if_pos hrecords)
  case powerOn =>
    intro h port s
    refine cmd_of_runCmd rfl fun d ⟨hport, hsound, hstarting, hcfg⟩ => ?_
    have hmay : ¬ (badFunc (ethRequest port true d) (106 + port) = true ∨
        ((ethRequest port true d).flag (ETH.PORT.STAT.CFG_ERR port) = true ∧ ethState (ethRequest port true d) port = 0)) :=
      not_or.mpr ⟨Bool.eq_false_iff.mp hsound, hcfg⟩
    exact (if_neg (by omega)).trans ((if_neg hmay).trans (if_pos hstarting))
  case powerOff =>
    intro h port s
    exact cmd_of_runCmd rfl fun d ⟨hport, hstopping⟩ => (if_neg (by omega)).trans (if_pos (.inl hstopping))
  case stopEnd =>
    intro q s
    exact event_of_meaning (execPortStopEnd q) rfl rfl fun hstopping => if_neg (not_not_intro hstopping)
  case startEnd =>
    intro q s
    exact event_of_meaning (execPortStartEnd q) rfl rfl fun hstarting => if_neg (not_not_intro hstarting)
  case linkUp =>
    intro q up speed s
    exact event_of_meaning (execLinkChange q up speed) rfl rfl fun hup => if_pos hup
  case linkDown =>
    intro q up speed s
    exact event_of_meaning (execLinkChange q up speed) rfl rfl fun hdown => if_neg hdown
  case frameRx =>
    intro q f s
    exact event_of_meaning (execFrameRx q f) rfl rfl fun ⟨hup, hisl, htakes⟩ =>
      if_neg (not_or.mpr ⟨not_not_intro hup, not_or.mpr ⟨not_not_intro hisl, not_not_intro htakes⟩⟩)
  case supervision =>
    intro pair s
    exact event_of_meaning (execPrpSupervision pair) rfl rfl fun ⟨hon, hst, hports⟩ =>
      if_neg (not_or.mpr ⟨not_not_intro hon, not_or.mpr ⟨not_not_intro hst, hports⟩⟩)
  case lanTimeout =>
    intro pair lanB s
    exact event_of_meaning (execPrpLanTimeout pair lanB) rfl rfl fun ⟨hon, hok⟩ => if_neg (not_or.mpr ⟨not_not_intro hon, not_not_intro hok⟩)
  case diagBar0 =>
    intro q ident off len s
    exact event_of_meaning (execDiagBar0Read q ident off len) rfl rfl fun hrange => if_neg (by omega)
  case diagProof =>
    intro q ident off len s
    exact event_of_meaning (execDiagProofReport q ident off len) rfl rfl fun hst => if_neg hst
  case diagFaults =>
    intro q ident first len s
    exact event_of_meaning (execDiagFaultRecords q ident first len) rfl rfl fun hrange => if_neg (by omega)
  case diagRecords =>
    intro q ident seq len s
    exact event_of_meaning (execDiagRecorderRecords q ident seq len) rfl rfl fun hlen => if_neg (Nat.not_lt.mpr hlen)

end Sys2Proof.Machine
end

section
/-! SUPPORT. Proofs of the statements of spec/08: the commands of the FIELD unit and the events of the CAN channels; with what the end of a frame on the
bus leaves alone, that the return of CAN_CLK switches no island, and what a channel makes of a frame in the states that take it. -/
namespace Sys2Proof.Machine
open Sys2Proof

/-! ### The islands while a channel's own state is written (R74, R203) -/

/-- An island is on or off by CS's holds, the operating state and its own state: a write of any other field leaves it. -/
theorem islandOn_wr_ne (d : Dev) {n : Nat} {f : FRef} (v : Nat) (hop : GLB.STATE.STATE.key ≠ f.key) (hisl : (PWR.ISL_STAT.STATE n).key ≠ f.key) :
    islandOn (d.wr f v) n = islandOn d n := by
  rw [islandOn, opState_wr_ne d v hop, Dev.wr_pwr, islState_wr_ne d v hisl, islandOn]

/-- A channel's own state switches no island. -/
theorem islandOn_setCan (n : Nat) (x : CanSt) (d : Dev) (i : Nat) : islandOn (setCan n x d) i = islandOn d i := rfl

/-- The return of CAN_CLK sets the channels' stamp counters, and switches no island (R203, R211). -/
theorem islandOn_canClockBack (d : Dev) (i : Nat) : islandOn (canClockBack d) i = islandOn d i :=
  List.foldlRecOn (motive := fun e => islandOn e i = islandOn d i) _ _ rfl fun e he n _ => (islandOn_setCan n _ e i).trans he

/-- CAN_CLK present again: FIELD is on if it was on before. -/
theorem islandOn_canClkPresent (d : Dev) (v : Nat) : islandOn (canClockBack (d.wr PWR.CLK_STAT.PRESENT v)) 11 = islandOn d 11 :=
  (islandOn_canClockBack ..).trans (islandOn_wr_ne d v (by decide) (by decide))

/-! ### Frames on the bus (R199, R207, R208, R218, R219) -/

/-- A frame of a format that channel n takes reaches it: FIELD is on, the operating state lets channels serve, and an FD frame finds FD_EN set (R199, R219). -/
abbrev FrameReaches (n : Nat) (f : CanFrame) (d : Dev) : Prop :=
  islandOn d 11 = true ∧ canServes d = true ∧ ¬ (f.fdf = true ∧ ¬ d.flag (CAN.CTRL.FD_EN n) = true)

/-- The end of the frame on the bus, noted in the channel's own state, does not change what reaches it. -/
theorem frameReaches_busEnded (n : Nat) (f : CanFrame) (d : Dev) : FrameReaches n f (busEnded n d) ↔ FrameReaches n f d := Iff.rfl

/-- What a frame that reaches channel n does is decided by the channel's state. -/
theorem canFrameIn_of_reaches {n : Nat} {f : CanFrame} {d : Dev} (age : Nat) (h : FrameReaches n f d) :
    canFrameIn n f age d =
      if canState d n = 3 ∧ d.rd (CAN.CTRL.WAKE_MODE n) = 2 then
        if d.flag (CAN.WAKE_ID.IDE n) = f.ide ∧ idMatches (d.rd (CAN.WAKE_ID.ID n)) (d.rd (CAN.WAKE_MASK.MASK n)) f.id f.ide
        then canWakeUp n (hpbPut n 8 (d.up - age) f (busEnded n d)).1 else busEnded n d
      else if canState d n = 2 ∨ canState d n = 4 then engServe n (rxTest n (d.up - age) f (recDown n (busEnded n d)))
      else busEnded n d := by
  obtain ⟨hisl, hserves, hformat⟩ := (frameReaches_busEnded n f d).mpr h
  exact (if_neg (not_or.mpr ⟨not_not_intro hisl, not_not_intro hserves⟩)).trans (if_neg hformat)

/-- In ACTIVE, and as the frame that ends in STOPPING, it is tested, and the bus engine takes what its objects store (R208, R214, R236). -/
theorem canFrameIn_tested {n : Nat} {f : CanFrame} {d : Dev} (age : Nat) (h : FrameReaches n f d) (hst : canState d n = 2 ∨ canState d n = 4) :
    canFrameIn n f age d = engServe n (rxTest n (d.up - age) f (recDown n (busEnded n d))) := by
  have hawake : ¬ (canState d n = 3 ∧ d.rd (CAN.CTRL.WAKE_MODE n) = 2) := fun ⟨hsleep, _⟩ => by omega
  rw [canFrameIn_of_reaches age h, if_neg hawake, if_pos hst]

/-- In SLEEP with WAKE_MODE 2 a wake frame is buffered and wakes the channel; another one only ends (R218). -/
theorem canFrameIn_asleep {n : Nat} {f : CanFrame} {d : Dev} (age : Nat) (h : FrameReaches n f d)
    (hst : canState d n = 3 ∧ d.rd (CAN.CTRL.WAKE_MODE n) = 2) :
    canFrameIn n f age d =
      if d.flag (CAN.WAKE_ID.IDE n) = f.ide ∧ idMatches (d.rd (CAN.WAKE_ID.ID n)) (d.rd (CAN.WAKE_MASK.MASK n)) f.id f.ide
      then canWakeUp n (hpbPut n 8 (d.up - age) f (busEnded n d)).1 else busEnded n d := by
  rw [canFrameIn_of_reaches age h, if_pos hst]

/-! ### The statement -/

/-- Settles O12: each row's own guard is what its clause excludes, and what is left of the row is the clause's effect. That CAN_RX_READ refuses a range
that takes in an object of the bus engine (log 22) is the model's choice. -/
theorem canComplete : Obligations.CanComplete := by
  unfold Obligations.CanComplete
  refine ⟨?clkBackOn, ?clkBackOff, ?powerOn, ?powerOff, ?powerSleep, ?powerWake, ?tx, ?cancelNow, ?cancelLatched, ?rxRead, ?hpbRead, ?resume, ?boRecover,
    ?startEnd, ?stopEnd, ?stopTimeout, ?minoffEnd, ?frameTested, ?frameAsleep, ?txEnd, ?busoffEnd, ?sleepEntry, ?wake, ?exception, ?rxError⟩
  case minoffEnd =>
    intros
    exact event_of_effect rfl
  case clkBackOn =>
    intro s
    exact event_of_meaning execCanClkRecovery rfl rfl fun hon => if_pos ((islandOn_canClkPresent ..).trans hon)
  case clkBackOff =>
    intro s
    exact event_of_meaning execCanClkRecovery rfl rfl fun hoff => if_neg (ne_true_of_eq_false ((islandOn_canClkPresent ..).trans hoff))
  case powerOn =>
    intro h ch s
    refine cmd_of_runCmd rfl fun d ⟨hch, hsound, hstarting⟩ => ?_
    rw [if_neg (by omega), if_neg (by simp [hsound]), if_pos rfl]
    exact (if_neg (by simp [hstarting])).trans (if_pos hstarting)
  case powerOff =>
    intro h ch s
    refine cmd_of_runCmd rfl fun d ⟨hch, hstopping⟩ => ?_
    rw [if_neg (by omega)]
    exact if_pos hstopping
  case powerSleep =>
    intro h ch s
    refine cmd_of_runCmd rfl fun d ⟨hch, hactive⟩ => ?_
    simp [Nat.not_lt.mpr hch, hactive]
  case powerWake =>
    intro h ch s
    refine cmd_of_runCmd rfl fun d ⟨hch, hasleep⟩ => ?_
    simp [Nat.not_lt.mpr hch, hasleep]
  case tx =>
    intro h ch obj dlc flags inline s
    refine cmd_of_runCmd rfl fun d ⟨hch, hobj, hon, hfree, htx, hidle, hfd, hinline, hbuf⟩ => ?_
    rw [if_neg (by omega), if_neg hon, if_neg hfree, if_neg (not_not_intro htx), if_neg hidle]
    exact (if_neg hfd).trans (if_neg (not_or.mpr ⟨hinline, hbuf⟩))
  case cancelNow =>
    intro h ch obj phase s
    refine cmd_of_runCmd rfl fun d ⟨hch, hobj, hfree, hpending, hbefore⟩ => ?_
    have hnot : ¬ (phase.val ≠ 0 ∧ canDrives d ch obj = true) := fun ⟨hsof, hdrives⟩ => hbefore.elim hsof (ne_false_of_eq_true hdrives)
    rw [if_neg (by omega), if_neg hfree, if_neg (not_not_intro hpending), if_neg hnot]
  case cancelLatched =>
    intro h ch obj phase s
    refine cmd_of_runCmd rfl fun d ⟨hch, hobj, hfree, hpending, hdrives⟩ => ?_
    rw [if_neg (by omega), if_neg hfree, if_neg (not_not_intro hpending), if_pos hdrives]
  case rxRead =>
    intro h ch first count s
    refine cmd_of_runCmd rfl fun d ⟨hch, hfirst, hlo, hhi, hfree, hrecv⟩ => ?_
    rw [if_neg (by omega)]
    exact (if_neg hfree).trans (if_neg (not_not_intro hrecv))
  case hpbRead =>
    intro h ch s
    exact cmd_of_runCmd rfl fun d ⟨hch, hrecv⟩ => (if_neg (Nat.not_lt.mpr hch)).trans (if_neg (not_not_intro hrecv))
  case resume =>
    intro h ch s
    exact cmd_of_runCmd rfl fun d hch => if_neg (Nat.not_lt.mpr hch)
  case boRecover =>
    intro h ch s
    exact cmd_of_runCmd rfl fun d ⟨hch, hwaits⟩ => (if_neg (Nat.not_lt.mpr hch)).trans (if_neg (not_not_intro hwaits))
  case startEnd =>
    intro n s
    exact event_of_meaning (execCanStartEnd n) rfl rfl fun hstarting => if_neg (not_not_intro hstarting)
  case stopEnd =>
    intro n s
    exact event_of_meaning (execCanStopEnd n) rfl rfl fun hstopping => if_pos hstopping
  case stopTimeout =>
    intro n s
    exact event_of_meaning (execCanStopTimeout n) rfl rfl fun hstopping => if_neg (not_not_intro hstopping)
  case frameTested =>
    intro n f age s
    exact event_of_meaning (execCanFrameRx n f age) rfl rfl fun ⟨hisl, hserves, hformat, hst⟩ => canFrameIn_tested age ⟨hisl, hserves, hformat⟩ hst
  case frameAsleep =>
    intro n f age s
    exact event_of_meaning (execCanFrameRx n f age) rfl rfl fun ⟨hisl, hserves, hformat, hst⟩ => canFrameIn_asleep age ⟨hisl, hserves, hformat⟩ hst
  case txEnd =>
    intro n r tdcv age s
    exact event_of_meaning (execCanTxEnd n r tdcv age) rfl rfl fun ⟨hisl, hserves, hst, hmode⟩ => if_neg (by simp [hisl, hserves, hst, hmode])
  case busoffEnd =>
    intro n s
    exact event_of_meaning (execBusoffRecoveryEnd n) rfl rfl fun ⟨hst, hauto⟩ => if_neg (not_or.mpr ⟨not_not_intro hst, hauto⟩)
  case sleepEntry =>
    intro n s
    exact event_of_meaning (execSleepEntry n) rfl rfl fun ⟨hst, hreq⟩ => if_neg (not_or.mpr ⟨not_not_intro hst, not_not_intro hreq⟩)
  case wake =>
    intro n s
    exact event_of_meaning (execCanWake n) rfl rfl fun hasleep => if_pos hasleep
  case exception =>
    intro n s
    exact event_of_meaning (execProtocolException n) rfl rfl fun htakes => if_pos htakes
  case rxError =>
    intro n code dataPhase plus8 s
    exact event_of_meaning (execCanRxError n code dataPhase plus8) rfl rfl fun ⟨hisl, hst, hcode⟩ => if_neg (by simp [hisl, hst, hcode])

end Sys2Proof.Machine
end

section
/-! SUPPORT. Proofs of the statements of spec/09: the commands of the SESSION unit, the PDUs of stations, slots, timeouts and broadcasts; with what a
datagram of one PDU does, and that the clock carried forward leaves the sessions and their RETRY settings alone. -/
namespace Sys2Proof.Machine
open Sys2Proof

/-! ### The commands (R235 to R237, R244) -/

/-- Settles O13: each command's own tests are what its clause excludes, and what is left is the clause's effect. What SESS_CFG takes of an image, and that
slices must lie inside the image (log 29), are the model's choices. -/
theorem sessionCommandsComplete : Obligations.SessionCommandsComplete := by
  unfold Obligations.SessionCommandsComplete
  refine ⟨?cfg, ?powerOn, ?powerOff, ?read, ?param, ?bcast, ?enWrite⟩
  case cfg =>
    intro h n s
    refine cmd_of_runCmd rfl fun d ⟨hn, hsend, hen, hidle⟩ => ?_
    rw [if_neg (Nat.not_lt.mpr hn), if_neg (not_not_intro hsend), if_neg (not_or.mpr ⟨hen, not_not_intro hidle⟩)]
  case powerOn =>
    intro h n s
    refine cmd_of_runCmd rfl fun d ⟨hn, hfit, hmay, hrearm, hidle⟩ => ?_
    rw [if_neg (by omega), if_pos rfl, if_neg (not_not_intro hfit)]
    simp only [hmay]
    exact if_neg (by simp [hrearm, hidle])
  case powerOff =>
    intro h n s
    refine cmd_of_runCmd rfl fun d hn => ?_
    rw [if_neg (by omega)]
    exact if_neg (by decide)
  case read =>
    intro h first count s
    refine cmd_of_runCmd rfl fun d ⟨hfirst, hlo, hhi, hrecv⟩ => ?_
    rw [if_neg (by omega)]
    exact if_neg (not_not_intro hrecv)
  case param =>
    intro h n rw len param s
    refine cmd_of_runCmd rfl fun d ⟨hn, hrw, hlen, hparam, hbuf, hst, hfits⟩ => ?_
    rw [if_neg (by omega), if_neg hbuf, if_neg hst]
    exact if_neg (Nat.not_lt.mpr hfits)
  case bcast =>
    intro h sub cans ports s
    exact cmd_of_runCmd rfl fun d ⟨hsub, hcans, hports⟩ => if_neg (by omega)
  case enWrite =>
    intros
    exact event_of_guardWrite rfl

/-! ### Reception of a datagram's one PDU (R228 to R232) -/

/-- A row receives what begins with a PDU of its class for its session. -/
theorem receiveAs_of_first {cls n : Nat} {p : PduIn} (h : pduFirst p = some (cls, n)) (d : Dev) : receiveAs cls n p d = receive p d := if_pos h

/-- It leaves everything else. -/
theorem receiveAs_of_first_ne {cls n : Nat} {p : PduIn} (h : pduFirst p ≠ some (cls, n)) (d : Dev) : receiveAs cls n p d = d := if_neg h

/-- A datagram with a PDU holds its header, which names the class and the session (R230). -/
theorem dgPdus_head {k : Nat} {b : List Byte} {u : DgPdu} {us : List DgPdu} (h : dgPdus k b = u :: us) :
    8 ≤ b.length ∧ u.addr = fieldAt b 0 2 % 4096 ∧ u.cls = fieldAt b 0 2 / 4096 := by
  cases k with
  | zero => simp [dgPdus] at h
  | succ k =>
    rw [dgPdus] at h
    split at h
    · simp at h
    · next hlen =>
      injection h with hu
      subst hu
      exact ⟨Nat.not_lt.mp hlen, rfl, rfl⟩

section
variable {n cls : Nat} {q : Fin 6} {g : Datagram} {u : DgPdu} {d : Dev}

/-- That PDU is the first of the datagram. -/
theorem pduFirst_of_arrives (h : PduArrives n cls q g u d) : pduFirst (.udp q g) = some (cls, n) := by
  obtain ⟨-, -, -, -, -, hone, -, -, haddr, hcls, -⟩ := h
  obtain ⟨hlen, haddr', hcls'⟩ := dgPdus_head hone
  simp only [pduFirst]
  rw [if_neg (Nat.not_lt.mpr hlen), ← hcls', ← haddr', hcls, haddr]

/-- Of such a datagram the one PDU is received, stamped now. -/
theorem receive_of_arrives (h : PduArrives n cls q g u d) :
    receive (.udp q g) d = rxPdu n cls u.seq d.up (dgSrc q g) u.data d := by
  obtain ⟨hserved, heng, hsport, hdport, hlen, hone, hup, hwhole, haddr, hcls, -⟩ := h
  have htaken : ¬ (¬ sessServed d = true ∨ ¬ engEth d q.val = true ∨ g.sport ≠ tyridPort d ∨ g.dport ≠ tyridPort d ∨ 1472 < g.data.length) := by
    simp [hserved, heng, hsport, hdport, hlen]
  refine (if_neg htaken).trans ?_
  simp [hone, hup, hwhole, haddr, hcls, dgSrc]

/-- Its sequence is remembered, and the tests of R229 to R232 decide. -/
theorem rxPdu_of_arrives (h : PduArrives n cls q g u d) (hcls : cls < 8) :
    rxPdu n cls u.seq d.up (dgSrc q g) u.data d =
      (let t := d.up
       let d := tookPdu n cls q g u d
       if cls ≠ 0 ∧ ¬ pduOurs d n (dgSrc q g) u.data then segErr n (dgSrc q g) d
       else if cls ≠ 0 ∧ sessState d n = 0 then d
       else if u.data.length < pduLeast d n cls then segErr n (dgSrc q g) d
       else if cls = 0 then joinRequestEffect n (dgSrc q g) u.data d
       else pduEffect n cls t u.data d) := by
  obtain ⟨-, -, -, -, -, -, -, -, -, -, hnew⟩ := h
  exact (if_neg (Nat.not_le.mpr hcls)).trans (if_neg hnew)

/-- A JOIN request that is long enough is answered (R232). -/
theorem rxPdu_join (h : PduArrives n 0 q g u d) (hlen : 16 ≤ u.data.length) :
    rxPdu n 0 u.seq d.up (dgSrc q g) u.data d = joinRequestEffect n (dgSrc q g) u.data (tookPdu n 0 q g u d) := by
  rw [rxPdu_of_arrives h (by decide)]
  exact (if_neg (by simp)).trans ((if_neg (by simp)).trans ((if_neg (Nat.not_lt.mpr hlen)).trans (if_pos rfl)))

/-- A PDU of another class that the session takes has the effect of its class. -/
theorem rxPdu_of_ok (h : PduOk n cls q g u d) (hjoin : cls ≠ 0) (hcls : cls < 8) :
    rxPdu n cls u.seq d.up (dgSrc q g) u.data d = pduEffect n cls d.up u.data (tookPdu n cls q g u d) := by
  obtain ⟨harrives, hst, hours, hlen⟩ := h
  rw [rxPdu_of_arrives harrives hcls]
  refine (if_neg fun ⟨_, hnot⟩ => hnot hours).trans ((if_neg fun ⟨_, hidle⟩ => hst hidle).trans ?_)
  exact (if_neg (Nat.not_lt.mpr hlen)).trans (if_neg hjoin)
end

/-! ### Rows of PDUs -/

section
variable {n cls : Nat} {q : Fin 6} {g : Datagram} {u : DgPdu} {i : Instr} {s : State}

/-- A row of PDUs, applied to what begins with a PDU of its class for its session. -/
theorem event_of_receiveAs {p : PduIn} (hi : exec i s = go (receiveAs cls n p) s) :
    Event i s (fun _ => pduFirst p = some (cls, n)) (fun d => receive p d) :=
  event_of_go hi fun hfirst => receiveAs_of_first hfirst s.dev

/-- What receives each datagram that begins with such a PDU has, for the one PDU that the session takes, the effect of its class. -/
theorem Event.pduTaken {hyp : Dev → Prop} (he : Event i s hyp (fun d => receive (.udp q g) d))
    (hfirst : pduFirst (.udp q g) = some (cls, n) → hyp s.dev) (hjoin : cls ≠ 0) (hcls : cls < 8) :
    Event i s (fun d => PduOk n cls q g u d) (fun d => pduEffect n cls d.up u.data (tookPdu n cls q g u d)) :=
  he.congr fun hok => ⟨hfirst (pduFirst_of_arrives hok.1), (receive_of_arrives hok.1).trans (rxPdu_of_ok hok hjoin hcls)⟩

/-- The row of that class alone. -/
theorem event_of_pduTaken (hi : exec i s = go (receiveAs cls n (.udp q g)) s) (hjoin : cls ≠ 0) (hcls : cls < 8) :
    Event i s (fun d => PduOk n cls q g u d) (fun d => pduEffect n cls d.up u.data (tookPdu n cls q g u d)) :=
  (event_of_receiveAs hi).pduTaken id hjoin hcls

end

/-- The row of confirmations receives those of an OUT and those of a SETPT, each once. -/
theorem outConfirmation_event (n : Fin 4096) (p : PduIn) (s : State) :
    Event (.outConfirmation n p) s (fun _ => pduFirst p = some (2, n.val) ∨ pduFirst p = some (3, n.val)) (fun d => receive p d) := by
  refine event_of_meaning (execOutConfirmation n p) rfl rfl fun hfirst => ?_
  rcases hfirst with hout | hsp
  · have hother : pduFirst p ≠ some (3, n.val) := by simp [hout]
    rw [receiveAs_of_first hout, receiveAs_of_first_ne hother]
  · have hother : pduFirst p ≠ some (2, n.val) := by simp [hsp]
    rw [receiveAs_of_first_ne hother, receiveAs_of_first hsp]

/-- A PARAM answer that a request waits for is taken from the requests; with no command waiting there is no buffer to fill. -/
theorem paramTaken_of_no_waits {n : Nat} {b : List Byte} {d : Dev} (hasked : (look (sessSt d n).paramAt (fieldAt b 1 1)).isSome = true)
    (hwaits : d.host.waits = []) :
    paramTaken n b d = finishKindWith (paramTag n (fieldAt b 1 1)) stOK [fieldAt b 2 1, min 58 (fieldAt b 3 1)]
      (setSess n { sessSt d n with paramAt := del (fieldAt b 1 1) (sessSt d n).paramAt } d) := by
  have hwaits' (x : SessSt) : (setSess n x d).host.waits = [] := hwaits
  have hasked' : ¬ (look (sessSt d n).paramAt (fieldAt b 1 1)).isNone = true := by simp [Option.isSome_iff_ne_none.mp hasked]
  simp only [paramTaken, if_neg hasked', hwaits', List.foldl_nil]

/-- Settles O14: each row receives what begins with a PDU of its class, and a datagram's one PDU that the session takes has the effect of its class,
whose own test each clause assumes. That such a row receives all that its PDU comes with (log 28), and that the fallback of a STATUS answer is
kept in the state only (log 62), are the model's choices. -/
theorem sessionPdusComplete : Obligations.SessionPdusComplete := by
  unfold Obligations.SessionPdusComplete
  refine ⟨?join, ?joinTaken, ?poll, ?pollTaken, ?confirm, ?outTaken, ?setptTaken, ?alarm, ?alarmTaken, ?status, ?statusTaken, ?param, ?paramTaken,
    ?leave, ?leaveTaken⟩
  case join | poll | alarm | status | param | leave =>
    intros
    exact event_of_receiveAs rfl
  case confirm =>
    intro n p s
    exact outConfirmation_event n p s
  case joinTaken =>
    intro n q g u s
    refine (event_of_receiveAs rfl).congr fun ⟨harrives, hlen⟩ => ⟨pduFirst_of_arrives harrives, ?_⟩
    exact (receive_of_arrives harrives).trans (rxPdu_join harrives hlen)
  case pollTaken =>
    intro n q g u t s
    refine (event_of_pduTaken rfl (by decide) (by decide)).congr fun ⟨hok, hst, hpoll, hseq, hup, hmode⟩ => ⟨hok, ?_⟩
    have hpoll' : (sessSt (tookPdu n.val 1 q g u s.dev) n.val).pollAt = some t := hpoll
    simp only [pduEffect, pollAnswered, hpoll']
    exact if_pos ⟨hst, hseq, hup, hmode⟩
  case outTaken =>
    intro n q g u s
    exact (outConfirmation_event n (.udp q g) s).pduTaken .inl (by decide) (by decide) |>.congr fun ⟨hok, hcounts⟩ => ⟨hok, if_pos hcounts⟩
  case setptTaken =>
    intro n q g u s
    exact (outConfirmation_event n (.udp q g) s).pduTaken .inr (by decide) (by decide) |>.congr fun ⟨hok, hcounts⟩ => ⟨hok, if_pos hcounts⟩
  case alarmTaken | statusTaken =>
    intros
    exact event_of_pduTaken rfl (by decide) (by decide)
  case paramTaken =>
    intro n q g u s
    refine (event_of_pduTaken rfl (by decide) (by decide)).congr fun ⟨hok, hasked, hwaits⟩ => ⟨hok, ?_⟩
    exact paramTaken_of_no_waits (d := tookPdu n.val 6 q g u s.dev) hasked hwaits
  case leaveTaken =>
    intro n q g u s
    exact (event_of_pduTaken rfl (by decide) (by decide)).congr fun ⟨hok, hrunning⟩ => ⟨hok, if_neg (ne_true_of_eq_false hrunning)⟩

/-! ### What a poll's retries are counted by, and what leaves it alone (R234) -/

/-- What the retries of a poll are counted by: the sessions' own states and the RETRY setting of each (R234). The clock carried forward to a timeout runs
events, completions and conversions, and none of them is about this. -/
def retryView (d : Dev) : SMap SessSt × (Nat → Nat) := (d.sess, fun n => d.rd (SESS.CTX.CFG.RETRY n))

/-- A field whose lowest bit is not bit 7 of its word is no RETRY (R247). -/
@[simp] theorem retryView_wr (d : Dev) {addr hi lo rst : Nat} (v : Nat) (h : lo % 32 ≠ 7) : retryView (d.wr ⟨addr, hi, lo, rst⟩ v) = retryView d := by
  have hretry (n : Nat) : (d.wr ⟨addr, hi, lo, rst⟩ v).rd (SESS.CTX.CFG.RETRY n) = d.rd (SESS.CTX.CFG.RETRY n) :=
    Dev.rd_wr_ne _ _ (by simp only [FRef.key, SESS.CTX.CFG.RETRY]; omega)
  simp only [retryView, hretry, Dev.wr_sess]

@[simp] theorem retryView_put (d : Dev) {addr hi lo rst : Nat} (b : Bool) (h : lo % 32 ≠ 7) : retryView (d.put ⟨addr, hi, lo, rst⟩ b) = retryView d :=
  retryView_wr d _ h
@[simp] theorem retryView_bump (d : Dev) {addr hi lo rst : Nat} (h : lo % 32 ≠ 7) : retryView (d.bump ⟨addr, hi, lo, rst⟩) = retryView d :=
  retryView_wr d _ h

@[simp] theorem retryView_set_host (d : Dev) (x : HostSt) : retryView { d with host := x } = retryView d := rfl
@[simp] theorem retryView_set_evr (d : Dev) (x : EvrSt) : retryView { d with evr := x } = retryView d := rfl
@[simp] theorem retryView_set_time (d : Dev) (x : TimeSt) : retryView { d with time := x } = retryView d := rfl
@[simp] theorem retryView_set_pio (d : Dev) (x : PioSt) : retryView { d with pio := x } = retryView d := rfl

/-- A fold of steps that leave it. -/
theorem retryView_foldl {α : Type} {f : Dev → α → Dev} (h : ∀ d x, retryView (f d x) = retryView d) (l : List α) (d : Dev) :
    retryView (l.foldl f d) = retryView d :=
  List.foldlRecOn (motive := fun e => retryView e = retryView d) l f rfl fun e he x _ => (h e x).trans he

/-! #### Events (R134, R135, R596) -/

@[simp] theorem retryView_raise (det detail : Nat) (d : Dev) : retryView (raise det detail d) = retryView d := rfl
@[simp] theorem retryView_memWrite (p a : Nat) (bs : List Byte) (d : Dev) : retryView (memWrite p a bs d) = retryView d := rfl
@[simp] theorem retryView_setRingSt (n : Nat) (r : RingSt) (d : Dev) : retryView (setRingSt n r d) = retryView d := rfl
@[simp] theorem retryView_loseWaits (p : Wait → Bool) (d : Dev) : retryView (loseWaits p d) = retryView d := rfl
@[simp] theorem retryView_writeShadow (n : Nat) (d : Dev) : retryView (writeShadow n d) = retryView d := rfl

@[simp] theorem retryView_pushOcc (o : Occ) (d : Dev) : retryView (pushOcc o d) = retryView d := by
  simp only [pushOcc]
  split_ifs <;> simp [EVR.STAT.QDROP]

@[simp] theorem retryView_record (unit num w0 w1 src : Nat) (d : Dev) : retryView (record unit num w0 w1 src d) = retryView d :=
  retryView_pushOcc _ d

@[simp] theorem retryView_countIgn (p a : Nat) (d : Dev) : retryView (countIgn p a d) = retryView d := by
  simp [countIgn, GLB.IGN_ADDR.ADDR, GLB.IGN_WRITES.LAST_PORT, GLB.IGN_WRITES.COUNT]

@[simp] theorem retryView_sendVector (p v : Nat) (d : Dev) : retryView (sendVector p v d) = retryView d := by
  simp only [sendVector]
  split_ifs <;> simp

@[simp] theorem retryView_moderate (n : Nat) (urgent : Bool) (d : Dev) : retryView (moderate n urgent d) = retryView d := by
  simp only [moderate]
  split_ifs <;> simp

@[simp] theorem retryView_ringToError (n code : Nat) (d : Dev) : retryView (ringToError n code d) = retryView d := by
  simp [ringToError, HOST.RING.STAT.ERR_CODE, HOST.RING.STAT.STATE]

@[simp] theorem retryView_pushEntry (n : Nat) (mk : Nat → List Byte) (d : Dev) : retryView (pushEntry n mk d) = retryView d := by
  simp only [pushEntry]
  split_ifs <;> simp [HOST.RING.INDEX]

@[simp] theorem retryView_deliverEvent (e w0 w1 p : Nat) (d : Dev) : retryView (deliverEvent e w0 w1 p d).1 = retryView d := by
  simp only [deliverEvent]
  split_ifs <;> simp [HOST.RING.STAT.DROPS]

@[simp] theorem retryView_evWords (e w0 w1 : Nat) (d : Dev) : retryView (evWords e w0 w1 d).2.2 = retryView d := by
  simp only [evWords, takeFree]
  split_ifs <;> rfl

@[simp] theorem retryView_sideEvent (e p : Nat) (d : Dev) : retryView (sideEvent e p d) = retryView d := by
  rw [sideEvent]
  exact (retryView_deliverEvent ..).trans ((retryView_record ..).trans (retryView_evWords e 0 0 d))

@[simp] theorem retryView_deliver (e w0 w1 p : Nat) (d : Dev) : retryView (deliver e w0 w1 p d) = retryView d := by
  simp only [deliver]
  split_ifs <;> simp

@[simp] theorem retryView_sendEv (ports : List Nat) (src e w0 w1 : Nat) (d : Dev) : retryView (sendEv ports src e w0 w1 d) = retryView d := by
  rw [sendEv]
  exact (retryView_foldl (fun d p => retryView_deliver e _ _ p d) ..).trans ((retryView_record ..).trans (retryView_evWords e w0 w1 d))

@[simp] theorem retryView_noteIgnored (d : Dev) : retryView (noteIgnored d) = retryView d := by
  simp only [noteIgnored]
  split_ifs <;> simp

@[simp] theorem retryView_raiseEvAt (ports : List Nat) (src e w0 w1 : Nat) (d : Dev) : retryView (raiseEvAt ports src e w0 w1 d) = retryView d := by
  simp only [raiseEvAt]
  split_ifs <;> simp

@[simp] theorem retryView_raiseEv (e w0 w1 : Nat) (d : Dev) : retryView (raiseEv e w0 w1 d) = retryView d := retryView_raiseEvAt ..

/-! #### Completions (R116, R123, R127, R128) -/

@[simp] theorem retryView_pushOrError (n : Nat) (mk : Nat → List Byte) (d : Dev) : retryView (pushOrError n mk d) = retryView d := by
  simp only [pushOrError]
  split_ifs <;> simp

@[simp] theorem retryView_complete (h : CmdHdr) (cseq : Option Nat) (st : Nat) (ws : List Nat) (d : Dev) :
    retryView (complete h cseq st ws d) = retryView d := by
  simp only [complete, writeCompletion]
  split_ifs <;> simp

@[simp] theorem retryView_drainFetched (st : Fetched → Option Nat) (k n : Nat) (d : Dev) : retryView (drainFetched st k n d) = retryView d := by
  induction k generalizing d with
  | zero => rfl
  | succ k ih =>
    simp only [drainFetched]
    split
    · rfl
    · split
      · rfl
      · split_ifs <;> simp [ih]

@[simp] theorem retryView_settleStopping (n : Nat) (d : Dev) : retryView (settleStopping n d) = retryView d := by
  simp only [settleStopping]
  split_ifs <;> simp [HOST.RING.STAT.STATE]

@[simp] theorem retryView_settleRing (n : Nat) (d : Dev) : retryView (settleRing n d) = retryView d := by
  simp only [settleRing]
  split_ifs <;> simp

@[simp] theorem retryView_finishWaits (f : Wait → Option (Nat × List Nat)) (d : Dev) : retryView (finishWaits f d) = retryView d := by
  refine (retryView_foldl (fun d w => ?_) ..).trans (retryView_set_host ..)
  split
  · split_ifs <;> simp
  · rfl

@[simp] theorem retryView_finishKindWith (k : WaitKind) (st : Nat) (ws : List Nat) (d : Dev) : retryView (finishKindWith k st ws d) = retryView d :=
  retryView_finishWaits _ d

/-! #### Ethernet ports (R171, R181, R189) -/

@[simp] theorem retryView_setDom (i : Nat) (x : DomSt) (d : Dev) : retryView (setDom i x d) = retryView d := by
  simp [setDom, TIME.DOM.OFS, TIME.DOM.DRATE]

@[simp] theorem retryView_setEth (q : Nat) (x : EthCount) (d : Dev) : retryView (setEth q x d) = retryView d := rfl

@[simp] theorem retryView_pushTxStamp (q : Nat) (x : TxStamp) (dom : Nat) (d : Dev) : retryView (pushTxStamp q x dom d) = retryView d := by
  simp only [pushTxStamp]
  generalize List.find? _ _ = dup
  cases dup <;> simp [apply_ite retryView, ETH.PORT.TXTS.STALE, ETH.PORT.TXTS.DROPS, ETH.PORT.TXTS.LEVEL, TIME.DOM.STAT.LOST_FUP]

@[simp] theorem retryView_ethOut (q : Nat) (f : TxFrame) (d : Dev) : retryView (ethOut q f d) = retryView d := by
  simp only [ethOut]
  split
  · split <;> split_ifs <;> simp
  · simp

@[simp] theorem retryView_ethPump (q : Nat) (d : Dev) : retryView (ethPump q d) = retryView d := by
  simp only [ethPump]
  split_ifs
  · rfl
  · exact retryView_foldl (fun d f => retryView_ethOut q f d) ..

/-! #### Time passes (R177, R178, R185) -/

@[simp] theorem retryView_setSvcState (st : Nat) (d : Dev) : retryView (setSvcState st d) = retryView d := by
  simp only [setSvcState]
  split_ifs <;> simp [TIME.SVC.STAT.STATE, TIME.SVC.STAT.VALID]

@[simp] theorem retryView_settleResidual (d : Dev) : retryView (settleResidual d) = retryView d := by
  simp only [settleResidual]
  split <;> simp [TIME.SVC.RES, TIME.SVC.RATE]

@[simp] theorem retryView_tbStep (n i : Nat) (d : Dev) : retryView (tbStep n i d) = retryView d := by
  simp only [tbStep]
  split_ifs <;> simp [TIME.TB.CNT]

@[simp] theorem retryView_rtcStep (n : Nat) (d : Dev) : retryView (rtcStep n d) = retryView d := rfl

@[simp] theorem retryView_advance (n : Nat) (d : Dev) : retryView (advance n d) = retryView d := by
  unfold advance
  extract_lets dt base sec0 at0
  split
  extract_lets rdt inc started run domains hist now kept
  have hrun (i : Nat) (e : Dev) : retryView (run i e) = retryView e := by
    simp only [run]
    split_ifs <;> simp
  have hkept : retryView kept = retryView domains := by
    simp only [kept]
    split_ifs <;> rfl
  rw [retryView_settleResidual, retryView_rtcStep, retryView_foldl fun e i => retryView_tbStep n i e, hkept]
  exact (hrun 1 _).trans ((hrun 0 _).trans rfl)

@[simp] theorem retryView_elapseBy (k n : Nat) (d : Dev) : retryView (elapseBy k n d) = retryView d := by
  induction k generalizing n d with
  | zero => exact retryView_advance n d
  | succ k ih =>
    have hpump (d : Dev) : retryView ((List.range 6).foldl (fun (d : Dev) q => ethPump q d) d) = retryView d :=
      retryView_foldl (fun d q => retryView_ethPump q d) ..
    simp only [elapseBy]
    split
    · split_ifs <;> simp [ih, hpump]
    · simp

@[simp] theorem retryView_elapse (n : Nat) (d : Dev) : retryView (elapse n d) = retryView d := retryView_elapseBy 6 n d

/-! #### Results of the converters (R255, R261 to R265) -/

@[simp] theorem retryView_handAt (eff : Nat) (hs : List HandOver) (d : Dev) : retryView (handAt eff hs d) = retryView d := rfl
@[simp] theorem retryView_setEnt (k e : Nat) (x : EntSt) (d : Dev) : retryView (setEnt k e x d) = retryView d := rfl
@[simp] theorem retryView_setSar (k : Nat) (x : SarSt) (d : Dev) : retryView (setSar k x d) = retryView d := rfl
@[simp] theorem retryView_setCal (k e : Nat) (x : CalSess) (d : Dev) : retryView (setCal k e x d) = retryView d := rfl

@[simp] theorem retryView_calResult (k e raw : Nat) (d : Dev) : retryView (calResult k e raw d) = retryView d := by
  simp only [calResult]
  split
  · rfl
  · split_ifs <;> simp

@[simp] theorem retryView_putResult (r : SarRes) (d : Dev) : retryView (putResult r d) = retryView d := by
  simp [putResult, apply_ite retryView, PIO.RESULT.STAT.OVR, PIO.RESULT.STAT.TAINT, PIO.RESULT.STAT.WIRE, PIO.RESULT.STAT.HALF, PIO.RESULT.STAT.CAL,
    PIO.RESULT.STAT.STALE, PIO.RESULT.STAT.CODE, PIO.RESULT.VALUE, PIO.RESULT.STAMP, PIO.RESULT.PASS, PIO.SAR.CNT.OVR_CNT, PIO.SAR.CNT.TAINT_CNT]

@[simp] theorem retryView_entStale (k e : Nat) (d : Dev) : retryView (entStale k e d) = retryView d := by
  simp only [entStale, handWordAt]
  split_ifs <;> simp [PIO.RESULT.STAT.STALE]

@[simp] theorem retryView_seqStale (k : Nat) (d : Dev) : retryView (seqStale k d) = retryView d := by
  refine retryView_foldl (fun d e => ?_) ..
  split_ifs <;> simp

@[simp] theorem retryView_noteCarrying (d : Dev) : retryView (noteCarrying d) = retryView d := by
  simp [noteCarrying, PIO.SAR.STAT.CARRYING]

@[simp] theorem retryView_settleSars (d : Dev) : retryView (settleSars d) = retryView d := by
  simp [settleSars, apply_ite retryView]

@[simp] theorem retryView_settleStop (k : Nat) (d : Dev) : retryView (settleStop k d) = retryView d := by
  simp only [settleStop, sarStopped]
  split_ifs <;> simp [PIO.SAR.STAT.SSTATE, PIO.SAR.STAT.MINOFF]

@[simp] theorem retryView_settlePio (d : Dev) : retryView (settlePio d) = retryView d := by
  simp only [settlePio, retryView_settleStop]
  exact retryView_foldl (fun d r => retryView_putResult r d) ..

/-! #### The clock is carried forward (log 20) -/

@[simp] theorem retryView_runOn (k n : Nat) (d : Dev) : retryView (runOn k n d) = retryView d := by
  induction k generalizing n d with
  | zero => exact retryView_elapse n d
  | succ k ih =>
    simp only [runOn]
    split
    · split_ifs <;> simp [ih]
    · simp

/-- The clock carried forward leaves it: no register written on the way begins at RETRY's bit, and no session is touched. -/
@[simp] theorem retryView_toUp (t : Nat) (d : Dev) : retryView (toUp t d) = retryView d := by
  simp only [toUp]
  split_ifs <;> simp

theorem sessSt_toUp (t n : Nat) (d : Dev) : sessSt (toUp t d) n = sessSt d n :=
  congrArg (fun v : SMap SessSt × (Nat → Nat) => lookD v.1 n {}) (retryView_toUp t d)

theorem rd_retry_toUp (t n : Nat) (d : Dev) : (toUp t d).rd (SESS.CTX.CFG.RETRY n) = d.rd (SESS.CTX.CFG.RETRY n) :=
  congrArg (fun v : SMap SessSt × (Nat → Nat) => v.2 n) (retryView_toUp t d)

/-! ### Slots, timeouts, broadcasts (R231, R234 to R236, R239 to R241, R244) -/

/-- Settles O15: each row's own guard is what its clause excludes. A poll is missed where its retries are used up when the answer was due, and the clock
carried forward to its timeout changes neither them nor RETRY. That LOST_TMO counts from the join where no response has come (log 62), that the first
LOST_POLL counts from the change to LOST (log 28), and how far the clock is carried (log 20) are the model's choices. -/
theorem sessionTimersComplete : Obligations.SessionTimersComplete := by
  unfold Obligations.SessionTimersComplete
  refine ⟨?pollSlot, ?pollMissed, ?outMissed, ?paramMissed, ?join, ?lost, ?lostPoll, ?stopEnd, ?minoffEnd, ?broadcast⟩
  case pollSlot =>
    intro n s
    exact event_of_meaning (execPollSlot n) rfl rfl fun ⟨hserved, hpolled⟩ => if_neg (not_or.mpr ⟨not_not_intro hserved, not_not_intro hpolled⟩)
  case pollMissed =>
    intro n t s
    refine event_of_meaning (execRespTimeout n 0) rfl rfl fun ⟨hpoll, htries⟩ => ?_
    have hlast : ¬ (sessSt (toUp (t + respNs s.dev n.val) s.dev) n.val).tries <
        (toUp (t + respNs s.dev n.val) s.dev).rd (SESS.CTX.CFG.RETRY n.val) := by
      rw [sessSt_toUp, rd_retry_toUp]
      exact Nat.not_lt.mpr htries
    simp only [hpoll]
    exact (if_pos rfl).trans (if_neg (not_and_of_not_left _ hlast))
  case outMissed =>
    intro n t s
    refine event_of_meaning (execRespTimeout n 1) rfl rfl fun hout => ?_
    simp only [hout]
    exact (if_neg (by decide)).trans (if_pos rfl)
  case paramMissed =>
    intro n id t rest s
    refine event_of_meaning (execRespTimeout n 2) rfl rfl fun hparam => ?_
    simp only [respTimeoutEffect, hparam]
    exact (if_neg (by decide)).trans (if_neg (by decide))
  case join =>
    intro n s
    exact event_of_meaning (execJoinTimeout n) rfl rfl fun hjoining => if_neg (not_not_intro hjoining)
  case lost =>
    intro n s
    exact event_of_meaning (execLostTimeout n) rfl rfl fun hstale => if_neg (not_not_intro hstale)
  case lostPoll =>
    intro n s
    exact event_of_meaning (execLostPoll n) rfl rfl fun ⟨hserved, hlost⟩ => if_neg (not_or.mpr ⟨not_not_intro hserved, not_not_intro hlost⟩)
  case stopEnd =>
    intro n s
    exact event_of_meaning (execSessionStopEnd n) rfl rfl fun hstopping => if_neg (not_not_intro hstopping)
  case minoffEnd =>
    intro n s
    exact event_of_meaning (execSessMinoffEnd n) rfl rfl fun hminoff => if_neg (not_not_intro hminoff)
  case broadcast =>
    intro s
    exact event_of_meaning execTimeBroadcast rfl rfl fun ⟨hserved, hisl⟩ => if_neg (not_or.mpr ⟨not_not_intro hserved, not_not_intro hisl⟩)

end Sys2Proof.Machine
end

section
/-! SUPPORT. Proofs of the statements of spec/10: the commands of the ADC unit, passes, calibration sessions, and the events of digital lines, pulse
inputs, excitation sources and analogue outputs. -/
namespace Sys2Proof.Machine
open Sys2Proof

/-! ### The statement (R249 to R275) -/

/-- Settles O16: each row's own guard is what its clause excludes, and what is left of the row is the clause's effect. That an injection is dropped while
ADC_CLK is absent (log 39), that a pass that runs ends before its SAR is OFF and that DAC_CAL is not committed (log 69), and how far the clock is carried
(log 20) are the model's choices. -/
theorem processIoComplete : Obligations.ProcessIoComplete := by
  unfold Obligations.ProcessIoComplete
  refine ⟨?inject, ?calOpen, ?takeOut, ?putBack, ?dacCal, ?pinLoad, ?pass, ?minoffEnd, ?selfcalEnd, ?calTimeout, ?staleTimeout, ?level, ?mismatch,
    ?edge, ?rateTimeout, ?excitation, ?dacMeets⟩
  case minoffEnd =>
    intros
    exact event_of_effect rfl
  case inject =>
    intro h sar cfg tim gain ofs param codes refs s
    exact cmd_of_runCmd rfl fun d hsar => if_neg (Nat.not_lt.mpr hsar)
  case calOpen =>
    intro h sar entry ref s
    refine cmd_of_runCmd rfl fun d ⟨hsar, hentry, huse, hkind, hclosed⟩ => ?_
    rw [if_neg (by omega), if_neg (not_or.mpr ⟨not_not_intro huse, hkind⟩)]
    simp only [adcCalEffect, hclosed]
  case takeOut =>
    intro h sar action s
    refine cmd_of_runCmd rfl fun d ⟨hsar, haction, hzero, hin, hother, hruns, hstays⟩ => ?_
    rw [if_neg (by omega), if_pos hzero, if_neg hin]
    exact if_neg (not_or.mpr ⟨hother, not_or.mpr ⟨not_not_intro hruns, hstays⟩⟩)
  case putBack =>
    intro h sar action s
    refine cmd_of_runCmd rfl fun d ⟨hsar, haction, hone, hout, hsound, hidle⟩ => ?_
    rw [if_neg (by omega), if_neg hone, if_neg (not_not_intro hout), if_neg hsound]
    exact if_neg hidle
  case dacCal =>
    intro h n gain ofs s
    exact cmd_of_runCmd rfl fun d hn => if_neg (Nat.not_lt.mpr hn)
  case pinLoad =>
    intro h n count s
    exact cmd_of_runCmd rfl fun d hn => if_neg (Nat.not_lt.mpr hn)
  case pass =>
    intro k convs conv s
    refine event_of_meaning (execSarPass k convs) rfl rfl fun hconv => ?_
    simp only [hconv]
  case selfcalEnd =>
    intro k s
    exact event_of_meaning (execSarSelfcalEnd k) rfl rfl fun hcalibrates => if_neg (not_not_intro hcalibrates)
  case calTimeout =>
    intro k e c s
    refine event_of_meaning (execCalTimeout k e) rfl rfl fun hopen => ?_
    simp only [hopen]
  case staleTimeout =>
    intro k e t s
    refine event_of_meaning (execInputStaleTimeout k e) rfl rfl fun ⟨hlast, _, hfresh⟩ => ?_
    simp only [hlast]
    exact if_pos (ne_true_of_eq_false hfresh)
  case level =>
    intro n v s
    exact event_of_meaning (execDioLevelChange n v) rfl rfl fun ⟨hisl, hst, hturned⟩ =>
      if_neg (not_or.mpr ⟨not_not_intro hisl, not_or.mpr ⟨Nat.not_lt.mpr hst, hturned⟩⟩)
  case mismatch =>
    intro n s
    exact event_of_meaning (execDioMismatch n) rfl rfl fun ⟨hisl, hdriven, hdiffers, hnew⟩ =>
      if_neg (not_or.mpr ⟨not_not_intro hisl, not_or.mpr ⟨hdriven, not_or.mpr ⟨hdiffers, hnew⟩⟩⟩)
  case edge =>
    intro n rise s
    exact event_of_meaning (execPinEdge n rise) rfl rfl fun ⟨hruns, hen, hcounts⟩ =>
      if_neg (not_or.mpr ⟨not_not_intro hruns, not_or.mpr ⟨not_not_intro hen, not_not_intro hcounts⟩⟩)
  case rateTimeout =>
    intro n t s
    refine event_of_meaning (execRateTimeout n) rfl rfl fun hlast => ?_
    simp only [hlast]
  case excitation =>
    intro n now s
    exact event_of_meaning (execExcOpen n now) rfl rfl fun ⟨hisl, hused, hturned⟩ =>
      if_neg (not_or.mpr ⟨not_not_intro hisl, not_or.mpr ⟨hused, hturned⟩⟩)
  case dacMeets =>
    intro n now s
    exact event_of_meaning (execDacOpen n now) rfl rfl fun ⟨hisl, _, hends⟩ => (if_neg (not_not_intro hisl)).trans (if_neg hends)

end Sys2Proof.Machine
end

section
/-! SUPPORT. Proofs of the statements of spec/11: what the energy snapshots give back, and the commands, samples, cycles, records and outputs of
electrical metering. -/
namespace Sys2Proof.Machine
open Sys2Proof

/-! ### Snapshots (R296, R297) -/

/-- The snapshot and its wrap count are the digits of the accumulator in snapshot units. -/
theorem snapOf_add_wrapOf (d : Dev) (f r : Nat) : snapOf d f r + 2 ^ 32 * wrapOf d f r = energy d f r / snapDiv d % 2 ^ 48 :=
  (Nat.mod_mul (x := energy d f r / snapDiv d) (a := 2 ^ 32) (b := 2 ^ 16)).symm

/-- The difference of two numbers is that of their residues, modulo the range. -/
theorem residues_sub_emod (a b M : Nat) : (((a % M : Nat) : Int) - (b % M : Nat)) % M = ((a : Int) - b) % M := by
  push_cast
  exact (Int.sub_emod ..).symm

/-- Settles O47: snapshot and wrap count are two digits of one number; the snapshots' difference is its residue, which a difference below the range is
itself, and with all the digits kept nothing is lost. -/
theorem energySnapshotsExact : Obligations.EnergySnapshotsExact := by
  unfold Obligations.EnergySnapshotsExact
  refine ⟨snapOf_add_wrapOf, fun d1 d2 f r hle hlt => ?within, fun d1 d2 f r h1 h2 => ?exact⟩
  case within =>
    calc ((snapOf d2 f r : Int) - snapOf d1 f r) % 2 ^ 32
        = (((energy d2 f r / snapDiv d2 : Nat) : Int) - (energy d1 f r / snapDiv d1 : Nat)) % 2 ^ 32 :=
          residues_sub_emod (energy d2 f r / snapDiv d2) (energy d1 f r / snapDiv d1) (2 ^ 32)
      _ = _ := Int.emod_eq_of_lt (by omega) (by omega)
  case exact =>
    have hdigits1 := snapOf_add_wrapOf d1 f r
    have hdigits2 := snapOf_add_wrapOf d2 f r
    rw [Nat.mod_eq_of_lt h1] at hdigits1
    rw [Nat.mod_eq_of_lt h2] at hdigits2
    omega

/-! ### Calibration sessions (R310) -/

/-- A channel's CAL bit is no part of its gain or phase. -/
theorem rd_wr_cal_gain (d : Dev) (ch v : Nat) : (d.wr (METER.CH.CFG.CAL ch) v).rd (METER.CH.GAIN ch) = d.rd (METER.CH.GAIN ch) :=
  Dev.rd_wr_ne _ _ (by simp only [FRef.key, METER.CH.GAIN, METER.CH.CFG.CAL]; omega)

theorem rd_wr_cal_phase (d : Dev) (ch v : Nat) : (d.wr (METER.CH.CFG.CAL ch) v).rd (METER.CH.PHASE ch) = d.rd (METER.CH.PHASE ch) :=
  Dev.rd_wr_ne _ _ (by simp only [FRef.key, METER.CH.PHASE, METER.CH.CFG.CAL]; omega)

/-- The result words of a session are its own values. -/
theorem mcalWords_of_session {d : Dev} {c : Nat} {x : MCal} (h : look d.meter.cal c = some x) (measured : Nat) :
    mcalWords d c measured = [x.gain, x.phase, measured] := by
  simp only [mcalWords, h]

/-! ### Commands and events (R286 to R310) -/

/-- Settles O24: each row's own guard is what its clause excludes, and what is left of the row is the clause's effect. That the end of a session by
action 5 and a return of a DSP happen at once while no samples are taken (log 64), and how far the clock is carried (log 20), are the model's choices. -/
theorem meterCommandsComplete : Obligations.MeterCommandsComplete := by
  unfold Obligations.MeterCommandsComplete
  refine ⟨?calOpen, ?calMeasure, ?calEnd, ?takeOut, ?putBack, ?stream, ?read, ?sample, ?cycle, ?firstCrossing, ?block, ?window, ?halfCycle, ?interval,
    ?unsigned, ?signed, ?checkpoint, ?pout, ?dtf, ?calTimeout, ?selftest, ?temp⟩
  case calOpen =>
    intro h ch ref s
    refine cmd_of_runCmd rfl fun d ⟨hch, hclosed⟩ => ?_
    rw [Option.isNone_iff_eq_none] at hclosed
    rw [if_neg (by omega), if_neg (by omega)]
    simp only [mtrCalEffect, hclosed, if_true]
    rw [mcalWords_of_session (look_ins_same ..)]
    exact congrArg₂ (fun g p => CmdOut.done _ stOK [g, p, 0]) (rd_wr_cal_gain d ch 1).symm (rd_wr_cal_phase d ch 1).symm
  case calMeasure =>
    intro h ch ref x s
    refine cmd_of_runCmd rfl fun d ⟨hch, hopen, hidle⟩ => ?_
    rw [if_neg (by omega), if_neg (by omega)]
    simp only [mtrCalEffect, hopen, hidle]
    rfl
  case calEnd =>
    intro h ch ref x s
    refine cmd_of_runCmd rfl fun d ⟨hch, hopen, hidle⟩ => ?_
    rw [if_neg (by omega), if_neg (by omega)]
    simp only [mtrCalEffect, hopen, hidle]
    rfl
  case takeOut =>
    intro h k s
    refine cmd_of_runCmd rfl fun d ⟨hk, hall, hnone, hruns⟩ => ?_
    have hin : bitOf (d.rd METER.DSP.OUT) k = false := by rw [hall, bitOf_eq_testBit, Nat.zero_testBit]
    dsimp only
    rw [if_neg (by omega), if_pos rfl, if_neg (ne_true_of_eq_false hin), if_neg (by simp [hall, hnone]), if_pos hruns]
  case putBack =>
    intro h k action s
    refine cmd_of_runCmd rfl fun d ⟨hk, haction, hback, hout, hsound, hidle, hstopped⟩ => ?_
    dsimp only
    rw [if_neg (by omega), if_neg hback, if_neg (not_not_intro hout), if_neg hsound, if_neg hidle, if_neg hstopped]
  case stream =>
    intro h ring period fmask bmask flags s
    exact cmd_of_runCmd rfl fun d ⟨hperiod, hfmask, hbmask, hflags, hring, hport, hkind, hstate⟩ =>
      (if_neg (by omega)).trans (if_neg (by simp [hring, hport, hkind, hstate]))
  case read =>
    intro h f first count s
    exact cmd_of_runCmd rfl fun d ⟨hf, hlo, hhi, hrecv, hsome⟩ =>
      (if_neg (by omega)).trans ((if_neg (not_not_intro hrecv)).trans (if_neg hsome))
  case sample =>
    intro raw s
    exact event_of_meaning (execMeterSample raw) rfl rfl fun hruns => if_pos hruns
  case cycle =>
    intro b frac c s
    refine event_of_meaning (execMeterCycleEnd b (some frac)) rfl rfl fun ⟨hruns, hwin, hfrom, hcross, hcyc, hc, hvalid⟩ => ?_
    dsimp only
    rw [if_neg (not_and_of_not_right _ (Nat.not_le.mpr hwin)), if_neg (not_or.mpr ⟨not_not_intro hruns, Nat.not_le.mpr hfrom⟩),
      if_neg (Nat.not_le.mpr hcyc)]
    simp only [hcross]
    rw [if_neg (Nat.not_le.mpr hc)]
    exact if_pos (.inr hvalid)
  case firstCrossing =>
    intro b frac s
    refine event_of_meaning (execMeterCycleEnd b (some frac)) rfl rfl fun ⟨hruns, hwin, hfrom, hcross, hcyc⟩ => ?_
    dsimp only
    rw [if_neg (not_and_of_not_right _ (Nat.not_le.mpr hwin)), if_neg (not_or.mpr ⟨not_not_intro hruns, Nat.not_le.mpr hfrom⟩),
      if_neg (Nat.not_le.mpr hcyc)]
    simp only [hcross]
  case block =>
    intro b s
    refine event_of_meaning (execMeterCycleEnd b none) rfl rfl fun ⟨hruns, hwin, hfrom, hinvalid, hpos⟩ => ?_
    dsimp only
    rw [if_neg (not_and_of_not_right _ (Nat.not_le.mpr hwin)), if_neg (not_or.mpr ⟨not_not_intro hruns, Nat.not_le.mpr hfrom⟩)]
    exact if_neg (not_or.mpr ⟨Nat.not_lt.mpr hpos, not_and_of_not_left _ (ne_true_of_eq_false hinvalid)⟩)
  case window =>
    intro b s
    exact event_of_meaning (execMeterWindowEnd b) rfl rfl fun hwin => if_pos hwin
  case halfCycle =>
    intro b s
    exact event_of_meaning (execUrmsHalfCycle b) rfl rfl fun ⟨hruns, hdin, hsign, hn⟩ =>
      if_neg (not_or.mpr ⟨not_not_intro hruns, not_or.mpr ⟨hdin, not_or.mpr ⟨hsign, Nat.not_lt.mpr hn⟩⟩⟩)
  case interval =>
    intro s
    exact event_of_meaning execMeterIntervalClose rfl rfl fun ⟨hst, hisl⟩ => if_neg (not_or.mpr ⟨not_not_intro hst, not_not_intro hisl⟩)
  case unsigned =>
    intro r t s
    refine event_of_meaning execRecordSigning rfl rfl fun ⟨hq, hserved, hnot⟩ => ?_
    simp only [signNext, hq]
    exact (if_neg (not_and_or.mpr (hserved.imp not_not_intro not_not_intro))).trans (if_neg hnot)
  case signed =>
    intro r t s
    refine event_of_meaning execRecordSigning rfl rfl fun ⟨hq, hisl, hsign, hslot⟩ => ?_
    simp only [signNext, hq]
    exact (if_neg (not_and_of_not_left _ (not_not_intro hisl))).trans (if_pos ⟨hsign, hslot⟩)
  case checkpoint =>
    intro s
    exact event_of_meaning execMeterCheckpoint rfl rfl fun hst => if_neg (not_not_intro hst)
  case pout =>
    intro k s
    exact event_of_meaning (execPoutPulse k) rfl rfl fun ⟨hen, hback, hsafe, hruns⟩ =>
      if_neg (not_or.mpr ⟨not_not_intro hen, not_or.mpr ⟨hback, not_or.mpr ⟨hsafe, not_not_intro hruns⟩⟩⟩)
  case dtf =>
    intro k s
    exact event_of_meaning (execDtfPulse k) rfl rfl fun ⟨hen, hvalid, hsafe, hruns⟩ =>
      if_neg (not_or.mpr ⟨not_not_intro hen, not_or.mpr ⟨not_not_intro hvalid, not_or.mpr ⟨hsafe, not_not_intro hruns⟩⟩⟩)
  case calTimeout =>
    intro c x s
    exact event_of_meaning (execMcalTimeout c) rfl rfl fun hopen => by simp only [hopen]
  case selftest =>
    intro k pass s
    exact event_of_meaning (execDspSelftestEnd k pass) rfl rfl fun htest => if_neg (not_not_intro htest)
  case temp =>
    intro t s
    exact event_of_meaning (execCttTempUpdate t) rfl rfl fun ⟨hisl, hst⟩ => if_neg (not_or.mpr ⟨not_not_intro hisl, not_not_intro hst⟩)

end Sys2Proof.Machine
end

section
/-! SUPPORT. Proofs of the statements of spec/12: the reads of heat records, the close of a billing period, samples and closes. -/
namespace Sys2Proof.Machine
open Sys2Proof

/-! ### Commands (R331) -/

/-- Where nothing is held, a range names no record. -/
theorem recsFrom_nil (first count : Nat) : recsFrom [] first count = [] := rfl

/-- A read that finds records answers them: a meter that holds one is known, enabled or not. -/
theorem heatRead_found {h : CmdHdr} {m first count limit : Nat} {sel : HeatSt → List (List Byte)} {d : Dev} (hsel : sel = (·.recI) ∨ sel = (·.recB))
    (hm : m ≤ 255) (hlo : 1 ≤ count) (hhi : count ≤ limit) (hrecv : recvOk h (192 * count) = true)
    (hsome : recsFrom (sel (heatSt d m)) first count ≠ []) :
    heatRead h m first count limit sel d =
      .done (outBuf h (recsFrom (sel (heatSt d m)) first count).flatten d) stOK [(recsFrom (sel (heatSt d m)) first count).length] := by
  have hheld : ¬ (¬ d.flag (METER.HM.CFG.EN m) = true ∧ (heatSt d m).recI = [] ∧ (heatSt d m).recB = []) := by
    rintro ⟨-, hI, hB⟩
    rcases hsel with rfl | rfl
    · exact hsome (by simp only [hI, recsFrom_nil])
    · exact hsome (by simp only [hB, recsFrom_nil])
  rw [heatRead, if_neg (by omega), if_neg (not_not_intro hrecv)]
  exact (if_neg hheld).trans (if_neg hsome)

/-- Settles O25: a read finds a record that the meter holds, and a close finds a running meter that its mask names. -/
theorem heatComplete : Obligations.HeatComplete := by
  unfold Obligations.HeatComplete
  refine ⟨?ivlRead, ?billRead, ?billClose⟩
  case ivlRead =>
    intro h m first count s
    exact cmd_of_runCmd rfl fun d ⟨hm, hlo, hhi, hrecv, hsome⟩ => heatRead_found (.inl rfl) hm hlo hhi hrecv hsome
  case billRead =>
    intro h m first count s
    exact cmd_of_runCmd rfl fun d ⟨hm, hlo, hhi, hrecv, hsome⟩ => heatRead_found (.inr rfl) hm hlo hhi hrecv hsome
  case billClose =>
    intro h s
    exact cmd_of_runCmd rfl fun d ⟨hsend, hsome⟩ => (if_neg (not_not_intro hsend)).trans (if_neg hsome)

/-! ### Samples and closes (R316, R317, R325, R326, R328) -/

/-- Settles O26: a meter in use takes its sample with the settings that hold, those before a change if one waits; the closes pass their guards. That a
change takes effect at the sample boundary and how far the clock is carried (log 20) are the model's choices. -/
theorem heatEventsComplete : Obligations.HeatEventsComplete := by
  unfold Obligations.HeatEventsComplete
  refine ⟨?sample, ?unused, ?changed, ?interval, ?billing⟩
  case sample =>
    intro m s
    refine event_of_meaning (execHeatSample m) rfl rfl fun ⟨hrun, hsame⟩ => ?_
    dsimp only
    rw [if_neg (not_not_intro hrun)]
    simp only [hsame]
    rfl
  case unused =>
    intro m s
    exact event_of_meaning (execHeatSample m) rfl rfl fun hstopped => if_pos (ne_true_of_eq_false hstopped)
  case changed =>
    intro m rs s
    refine event_of_meaning (execHeatSample m) rfl rfl fun ⟨hrun, hold, hsrc⟩ => ?_
    dsimp only
    rw [if_neg (not_not_intro hrun)]
    simp only [hold, hsrc]
    exact if_neg Bool.false_ne_true
  case interval =>
    intro s
    exact event_of_meaning execHeatIntervalClose rfl rfl fun ⟨hst, hisl⟩ => if_neg (not_or.mpr ⟨not_not_intro hst, not_not_intro hisl⟩)
  case billing =>
    intro s
    exact event_of_meaning execBillingClose rfl rfl fun ⟨hst, hisl⟩ => if_neg (not_or.mpr ⟨not_not_intro hst, not_not_intro hisl⟩)

end Sys2Proof.Machine
end

section
/-! SUPPORT. Proofs of the statements of spec/14 on the Setpoint Distributor: its map, rounds and ramps. -/
namespace Sys2Proof.Machine
open Sys2Proof

/-! ### The Setpoint Distributor (R383 to R386) -/

/-- Settles O29: a map passes the tests its clause excludes, and a round or a ramp finds the Distributor running with something to issue. -/
theorem distributorComplete : Obligations.DistributorComplete := by
  unfold Obligations.DistributorComplete
  refine ⟨?map, ?round, ?ramp⟩
  case map =>
    intro h count s
    refine cmd_of_runCmd rfl fun d ⟨hcount, hlen, hsend, hrange, honce⟩ => ?_
    have hbuf : ¬ (bufLen h ≠ 32 * count ∨ (count ≠ 0 ∧ ¬ sendOk h (32 * count) = true)) :=
      not_or.mpr ⟨not_not_intro hlen, fun ⟨hne, hno⟩ => hsend.elim hne hno⟩
    rw [if_neg (Nat.not_lt.mpr hcount), if_neg hbuf]
    simp only [sdMapEffect, hrange, honce]
  case round =>
    intro p rest s
    refine event_of_meaning execSdRound rfl rfl fun ⟨hdue, hthawed, hruns, hnewer⟩ => ?_
    have hkeep : ¬ (p = 0 ∧ (onSolv (fun k => { k with sdDue := rest }) s.dev).boot.frozenRsp = true ∧
        (onSolv (fun k => { k with sdDue := rest }) s.dev).boot.exitPlan = true) := by
      rintro ⟨-, hfrozen, -⟩
      exact ne_true_of_eq_false hthawed hfrozen
    simp only [hdue, if_neg hkeep]
    exact if_neg (not_or.mpr ⟨not_not_intro hruns, not_not_intro hnewer⟩)
  case ramp =>
    intro s
    exact event_of_meaning execRampIssue rfl rfl fun ⟨hruns, hisl, hramps⟩ =>
      if_neg (not_or.mpr ⟨not_not_intro hruns, not_or.mpr ⟨not_not_intro hisl, hramps⟩⟩)

end Sys2Proof.Machine
end

section
/-! SUPPORT. Proofs of the statements of spec/16: the CLP's instructions, its word arithmetic and its counters, the base ticks that a path takes, and the
commands and cycles of the CLP. -/
namespace Sys2Proof.Machine
open Sys2Proof

/-! ### Instructions (R436 to R442) -/

/-- An instruction row is the event of its operation on a lane that runs. -/
theorem event_of_clpExec {i : Instr} {l : Fin 3} {s : State} {op : LaneSt → LaneSt} (hi : exec i s = go (clpExec l op) s) :
    Event i s (fun d => ClpRuns l.val d) (fun d => clpTook op l.val d) := event_of_go hi (clpExec_runs op)

/-- Settles O20: each row executes its own operation. -/
theorem logicBitComplete : Obligations.LogicBitComplete := by
  unfold Obligations.LogicBitComplete
  and_intros
  all_goals
    intros
    exact event_of_clpExec rfl

/-- Settles O21: each row executes its own operation; END publishes after its own time has been added. -/
theorem logicTimerComplete : Obligations.LogicTimerComplete := by
  unfold Obligations.LogicTimerComplete
  refine ⟨?ton, ?tof, ?tp, ?tpre, ?trst, ?ctu, ?ctd, ?crst, ?cld, ?jmp, ?jc, ?jnc, ?endProg⟩
  case endProg =>
    intro l s
    refine event_of_meaning (execIEnd l) rfl rfl fun hruns => ?_
    rw [if_neg (not_not_intro hruns), clpExec_runs clpEnd hruns]
  all_goals
    intros
    exact event_of_clpExec rfl

/-- Settles O22: each row executes its own operation. -/
theorem logicWordComplete : Obligations.LogicWordComplete := by
  unfold Obligations.LogicWordComplete
  and_intros
  all_goals
    intros
    exact event_of_clpExec rfl

/-- Settles O23: each row executes its own operation. -/
theorem logicFloatComplete : Obligations.LogicFloatComplete := by
  unfold Obligations.LogicFloatComplete
  and_intros
  all_goals
    intros
    exact event_of_clpExec rfl

/-! ### What an instruction writes (R438, R440, R442) -/

/-- An operation that changes the CLP to c with the time and the next address added, and leaves ERR as it was, writes c alone. -/
theorem clpWrites_of_op {i : Instr} {l : Fin 3} {s : State} {op : LaneSt → LaneSt} {cyc : Nat} {c : ClpSt} (hi : exec i s = go (clpExec l op) s)
    (hruns : ClpRuns l.val s.dev)
    (hop : op (laneSt s.dev l.val) = { laneSt s.dev l.val with clp := { c with pc := (laneSt s.dev l.val).clp.pc + 1, cycles := (laneSt s.dev l.val).clp.cycles + cyc } })
    (herr : c.err = (laneSt s.dev l.val).clp.err) : ClpWrites i l.val s cyc c := by
  have hquiet : (op (laneSt s.dev l.val)).clp.err = (laneSt s.dev l.val).clp.err := by rw [hop]; exact herr
  rw [ClpWrites, hi, go_event ((clpExec_runs op hruns).trans (clpTook_quiet hquiet)), hop]

/-- Setting WA, then the time and the next address, writes WA alone. -/
theorem clpWrites_of_setWA {i : Instr} {l : Fin 3} {s : State} {cyc v w : Nat} {op : LaneSt → LaneSt} (hi : exec i s = go (clpExec l op) s)
    (hruns : ClpRuns l.val s.dev) (hop : op (laneSt s.dev l.val) = clpNext cyc (setWA v (laneSt s.dev l.val))) (hv : v % 2 ^ 32 = w) :
    ClpWrites i l.val s cyc { (laneSt s.dev l.val).clp with wa := w } :=
  clpWrites_of_op hi hruns (by rw [hop, ← hv]; rfl) rfl

/-! ### Word arithmetic (R440) -/

/-- A word is congruent to the signed number that it stands for. -/
theorem modEq_sgn (v : Nat) : (v : Int) ≡ sgn 32 v [ZMOD 2 ^ 32] := by
  unfold sgn Int.ModEq
  split <;> omega

/-- The word of a signed number is the residue of whatever is congruent to it. -/
theorem mod_eq_wrapI_of_modEq {v : Nat} {x : Int} (h : (v : Int) ≡ x [ZMOD 2 ^ 32]) : v % 2 ^ 32 = wrapI 32 x := by
  unfold wrapI
  unfold Int.ModEq at h
  omega

/-- The difference of two words, with the range added so that it is no negative number. -/
theorem modEq_sgn_sub (a : Nat) {b : Nat} (hb : b < 2 ^ 32) : ((a + 2 ^ 32 - b : Nat) : Int) ≡ sgn 32 a - sgn 32 b [ZMOD 2 ^ 32] := by
  have hcast : ((a + 2 ^ 32 - b : Nat) : Int) = (a : Int) - b + 2 ^ 32 := by omega
  rw [hcast]
  exact Int.add_modEq_right.trans ((modEq_sgn a).sub (modEq_sgn b))

/-- The word of a signed number is a word. -/
theorem wrapI_mod (x : Int) : wrapI 32 x % 2 ^ 32 = wrapI 32 x := by
  unfold wrapI
  omega

/-- Outside the two cases that set ERR, DIV leaves the truncated quotient. -/
theorem clpDiv_quotient {sp a : Nat} {x : LaneSt} (hzero : sgn 32 (wordOpnd x false sp a) ≠ 0)
    (hover : ¬ (sgn 32 x.clp.wa = -2 ^ 31 ∧ sgn 32 (wordOpnd x false sp a) = -1)) :
    clpDiv sp a x = clpNext 12 (setWA (wrapI 32 ((sgn 32 x.clp.wa).tdiv (sgn 32 (wordOpnd x false sp a)))) x) :=
  congrArg (clpNext 12) ((if_neg hzero).trans (if_neg hover))

/-- Settles O41: each row sets WA; the words are congruent to the signed numbers they stand for, so that the results agree modulo 2^32. -/
theorem logicWordsCompute : Obligations.LogicWordsCompute := by
  unfold Obligations.LogicWordsCompute
  intro l sp a k s hruns x w hwa hw
  have hk : k.val % 32 = k.val := Nat.mod_eq_of_lt k.isLt
  refine ⟨?ldw, ?add, ?sub, ?mul, fun hzero hover => ?div, ?shl, ?shr⟩
  case ldw => exact clpWrites_of_setWA rfl hruns rfl (Nat.mod_eq_of_lt hw)
  case add => exact clpWrites_of_setWA rfl hruns rfl (mod_eq_wrapI_of_modEq (by push_cast; exact (modEq_sgn _).add (modEq_sgn _)))
  case sub => exact clpWrites_of_setWA rfl hruns rfl (mod_eq_wrapI_of_modEq (modEq_sgn_sub _ hw))
  case mul => exact clpWrites_of_setWA rfl hruns rfl (mod_eq_wrapI_of_modEq (by push_cast; exact (modEq_sgn _).mul (modEq_sgn _)))
  case div => exact clpWrites_of_setWA rfl hruns (clpDiv_quotient hzero hover) (wrapI_mod _)
  case shl => exact clpWrites_of_setWA rfl hruns rfl (by rw [hk])
  case shr => exact clpWrites_of_setWA rfl hruns rfl (by rw [hk]; exact Nat.mod_eq_of_lt ((Nat.div_le_self _ _).trans_lt hwa))

/-! ### Counters (R442) -/

/-- One more, staying at the greatest signed word. -/
theorem sgn_succ_sat {v : Nat} (hv : v < 2 ^ 32) : sgn 32 (if v ≠ 2 ^ 31 - 1 then (v + 1) % 2 ^ 32 else v) = min (sgn 32 v + 1) (2 ^ 31 - 1) := by
  unfold sgn
  split_ifs <;> omega

/-- One less, staying at the least signed word. -/
theorem sgn_pred_sat {v : Nat} (hv : v < 2 ^ 32) :
    sgn 32 (if v ≠ 2 ^ 31 then (v + (2 ^ 32 - 1)) % 2 ^ 32 else v) = max (sgn 32 v - 1) (-2 ^ 31) := by
  unfold sgn
  split_ifs <;> omega

/-- The value that CTU leaves in CV, with its own copy of the last BA. -/
def ctuValue (ba : Bool) (k : CtrSt) : Nat := if ba ∧ ¬ k.lastU ∧ k.cv ≠ 2 ^ 31 - 1 then (k.cv + 1) % 2 ^ 32 else k.cv
/-- The value that CTD leaves in CV. -/
def ctdValue (ba : Bool) (k : CtrSt) : Nat := if ba ∧ ¬ k.lastD ∧ k.cv ≠ 2 ^ 31 then (k.cv + (2 ^ 32 - 1)) % 2 ^ 32 else k.cv

theorem ctuValue_lt {ba : Bool} {k : CtrSt} (h : k.cv < 2 ^ 32) : ctuValue ba k < 2 ^ 32 := by
  unfold ctuValue
  split <;> omega

theorem ctdValue_lt {ba : Bool} {k : CtrSt} (h : k.cv < 2 ^ 32) : ctdValue ba k < 2 ^ 32 := by
  unfold ctdValue
  split <;> omega

theorem sgn_ctuValue {ba : Bool} {k : CtrSt} (h : k.cv < 2 ^ 32) :
    sgn 32 (ctuValue ba k) = if ba = true ∧ k.lastU = false then min (sgn 32 k.cv + 1) (2 ^ 31 - 1) else sgn 32 k.cv := by
  rw [ctuValue, ← sgn_succ_sat h]
  cases ba <;> cases k.lastU <;> simp

theorem sgn_ctdValue {ba : Bool} {k : CtrSt} (h : k.cv < 2 ^ 32) :
    sgn 32 (ctdValue ba k) = if ba = true ∧ k.lastD = false then max (sgn 32 k.cv - 1) (-2 ^ 31) else sgn 32 k.cv := by
  rw [ctdValue, ← sgn_pred_sat h]
  cases ba <;> cases k.lastD <;> simp

/-- Settles O40: each row writes its counter with the value that a rising edge against its own copy gives; PV is read off the image. -/
theorem logicCountersStep : Obligations.LogicCountersStep := by
  unfold Obligations.LogicCountersStep
  refine ⟨fun l a s hruns hcv => ⟨⟨_, ctuValue_lt hcv, sgn_ctuValue hcv, ?up⟩, ⟨_, ctdValue_lt hcv, sgn_ctdValue hcv, ?down⟩⟩, fun x y a himg => ?preset⟩
  case up | down => exact clpWrites_of_op rfl hruns rfl rfl
  case preset => rw [LaneSt.ctrPv, himg, LaneSt.ctrPv]

/-! ### The period (R432) -/

/-- WC_TICKS is the path's time with its 5 µs in base ticks, rounded up. -/
theorem wcTicks_eq_ceilDiv (c : Nat) : wcTicks c = (2000 + c) ⌈/⌉ 100000 := by
  rw [wcTicks, Nat.ceilDiv_eq_add_pred_div, Nat.add_sub_assoc (by decide)]

/-- Settles O50: the rounded-up quotient is the least number of ticks that holds the path. -/
theorem cyclePeriodIsLeast : Obligations.CyclePeriodIsLeast := by
  unfold Obligations.CyclePeriodIsLeast
  intro c
  have hleast (j : Nat) : wcTicks c ≤ j ↔ 2000 + c ≤ j * 100000 := by
    rw [wcTicks_eq_ceilDiv, ceilDiv_le_iff_le_mul (by decide), Nat.mul_comm]
  exact ⟨(hleast _).mp le_rfl, fun j => (hleast j).mpr⟩

/-! ### Commands and cycles of the CLP (R430 to R434, R444 to R454) -/

/-- With a lane in service the test for one passes. -/
theorem lowLane_not_none {d : Dev} (h : (lowLane d).isSome = true) : ¬ (lowLane d).isNone = true := by
  simp [Option.isSome_iff_ne_none.mp h]

/-- A read of an area's items answers those from the first on, up to the area's end. -/
theorem clpReadEffect_of_area {h : CmdHdr} {area first count total w : Nat} {item : Nat → Nat} {d : Dev} (harea : clpArea d (lowSt d) area = some (total, w, item))
    (hfirst : first < total) (hrecv : recvOk h (if w < 32 then (count * w + 31) / 32 * 4 else count * (w / 8)) = true) :
    clpReadEffect h area first count d =
      .done (outBuf h (packItems w ((List.range (min count (total - first))).map fun i => item (first + i))) d) stOK
        [min count (total - first), (lowSt d).rd CLP.CYC.CYCLE % 2 ^ 32, (lowSt d).rd CLP.CYC.CYCLE / 2 ^ 32] := by
  simp only [clpReadEffect, harea]
  exact (if_neg (Nat.not_le.mpr hfirst)).trans (if_neg (not_not_intro hrecv))

/-- Settles O19: each row's own guard is what its clause excludes, and what is left of the row is the clause's effect. That the watchdog's lane is isolated
in the same step (log 67) and how far the clock is carried (log 20) are the model's choices. -/
theorem logicProcessorComplete : Obligations.LogicProcessorComplete := by
  unfold Obligations.LogicProcessorComplete
  refine ⟨?enWrite, ?force, ?release, ?releaseAll, ?run, ?stop, ?data, ?readDw, ?readQ, ?cycle, ?watchdog, ?retentive, ?minoffEnd⟩
  case enWrite =>
    intros
    exact event_of_guardWrite rfl
  case cycle =>
    intros
    exact event_of_effect rfl
  case force =>
    intro h space addr v k s
    refine cmd_of_runCmd rfl fun d ⟨hspace, haddr, hbit, hlane, hfree, howned, hentry⟩ => ?_
    have hparam : ¬ (1 < 1 ∨ ¬ (space ≤ 1 ∨ space = 5 ∨ space = 6) ∨ ¬ spaceOk space addr = true ∨ (1 = 1 ∧ decide (space ≤ 1) = true ∧ 1 < v)) := by
      simpa [hspace, haddr] using hbit
    dsimp only
    rw [if_neg hparam, if_neg (lowLane_not_none hlane), if_neg (by decide), if_neg (ne_true_of_eq_false hfree), if_neg howned]
    simp only [clpForceEffect, hentry]
  case release =>
    intro h space addr v k s
    refine cmd_of_runCmd rfl fun d ⟨hspace, haddr, hlane, hentry⟩ => ?_
    dsimp only
    rw [if_neg (by simp [hspace, haddr]), if_neg (lowLane_not_none hlane), if_pos rfl]
    simp only [hentry]
  case releaseAll =>
    intro h s
    exact cmd_of_runCmd rfl fun d hlane => if_neg hlane
  case run =>
    intro h s
    exact cmd_of_runCmd rfl fun d hlane => (if_neg (by decide)).trans ((if_neg (lowLane_not_none hlane)).trans (if_pos rfl))
  case stop =>
    intro h s
    refine cmd_of_runCmd rfl fun d ⟨hlane, hstops⟩ => ?_
    exact (if_neg (by decide)).trans ((if_neg (lowLane_not_none hlane)).trans ((if_neg (by decide)).trans (if_pos hstops)))
  case data =>
    intro h space addr v s
    refine cmd_of_runCmd rfl fun d ⟨hspace, haddr, hbit, hlane⟩ => ?_
    exact (if_neg (not_or.mpr ⟨not_not_intro hspace, not_or.mpr ⟨not_not_intro haddr, hbit⟩⟩)).trans (if_neg hlane)
  case readDw =>
    intro h first count s
    refine cmd_of_runCmd rfl fun d ⟨hlane, hfirst, _, hrecv⟩ => ?_
    have harea : clpArea d (lowSt d) 7 = some (8192, 32, fun i => lookD (lowSt d).clp.dw i 0) := rfl
    rw [if_neg (lowLane_not_none hlane), clpReadEffect_of_area harea hfirst hrecv]
  case readQ =>
    intro h first count s
    refine cmd_of_runCmd rfl fun d ⟨hlane, hfirst, _, hrecv⟩ => ?_
    have harea : clpArea d (lowSt d) 1 = some (65536, 1, fun i => b2n (lookD (lowSt d).clp.outB i false)) := rfl
    have hroom : recvOk h ((count * 1 + 31) / 32 * 4) = true := by rwa [Nat.mul_one]
    rw [if_neg (lowLane_not_none hlane), clpReadEffect_of_area harea hfirst hroom]
  case watchdog =>
    intro l s
    exact event_of_meaning (execClpWatchdog l) rfl rfl fun ⟨hruns, ht0, hoff, hhalted⟩ =>
      if_neg (not_or.mpr ⟨not_not_intro hruns, not_or.mpr ⟨ht0, not_or.mpr ⟨hoff, hhalted⟩⟩⟩)
  case retentive =>
    intro s
    exact event_of_meaning execRetentiveCopyEv rfl rfl fun ⟨ht0, hlane⟩ => if_neg (not_or.mpr ⟨ht0, hlane⟩)
  case minoffEnd =>
    intro s
    exact event_of_meaning execClpMinoffEnd rfl rfl fun hminoff => if_neg (not_not_intro hminoff)

end Sys2Proof.Machine
end

section
/-! SUPPORT. Proofs of the statements of spec/17: the vote of up to three values; and the refutation of the statement about lanes, whose clause on the end
of SHADOW leaves out what the clock carried to that instant does. -/
namespace Sys2Proof.Machine
open Sys2Proof

/-! ### The vote (R460, R461) -/

/-- Of two values the vote takes the one they share. -/
theorem majority_pair (a b v : Nat) : majority [a, b] = some v ↔ a = v ∧ b = v := by
  simp only [majority]
  split_ifs with hab
  · simp [← hab]
  · simp only [false_iff]
    rintro ⟨rfl, rfl⟩
    exact hab rfl

/-- Of three it takes the one that some two of them share. -/
theorem majority_triple (a b c v : Nat) : majority [a, b, c] = some v ↔ (a = v ∧ b = v) ∨ (a = v ∧ c = v) ∨ (b = v ∧ c = v) := by
  simp only [majority]
  split_ifs with hfirst hrest <;> simp only [Option.some.injEq, false_iff] <;> omega

/-- Settles O44: the vote of one value or none takes nothing, and of two or three what two of them share. -/
theorem voteNeedsTwoEqual : Obligations.VoteNeedsTwoEqual := by
  unfold Obligations.VoteNeedsTwoEqual
  intro l v hlen
  match l, hlen with
  | [], _ => simp [majority]
  | [a], _ =>
    have hone : [a].count v ≤ 1 := List.count_le_length
    simp only [majority, reduceCtorEq, false_iff]
    omega
  | [a, b], _ =>
    rw [majority_pair]
    simp only [List.count_cons, List.count_nil, beq_iff_eq]
    split_ifs <;> omega
  | [a, b, c], _ =>
    rw [majority_triple]
    simp only [List.count_cons, List.count_nil, beq_iff_eq]
    split_ifs <;> omega

/-! ### The end of SHADOW (R472, R474) -/

/-- RUN with lane A in SHADOW since the start, whose time there ends now with all its publications seen, and with domain 0 MASTER at an offset other than 0. -/
def shadowDueDev : Dev :=
  let d := ((({} : Dev).wr GLB.STATE.STATE 3).wr (LSTATE 0) 4).wr (TIME.DOM.STAT.STATE 0) 5
  { d with up := 2000000000, time := { d.time with dom := ins 0 { ofs := 1 } d.time.dom },
           gate := { d.gate with readmit := some { lane := 0, source := 1, since := 0, seen := [8] } } }

/-- The offset of domain 0 in the state that a command answers. -/
def ofsAfter : Host.Outcome State Fault Refusal → Option Int
  | .next t => some (domSt t.dev 0).ofs
  | _ => none

/-- Refutes O18: its clause on SHADOW_END leaves the clock alone once the time in SHADOW has passed, but the model carries it to the first cycle's end from
that instant on (log 20), and a clock carried forward sets the offset of a MASTER domain to 0 (R182), also when no whole cycle is left to pass: on
`shadowDueDev` the model answers the offset 0 where the clause keeps 1. -/
theorem not_lanesComplete : ¬ Obligations.LanesComplete := by
  unfold Obligations.LanesComplete
  rintro ⟨-, -, -, -, -, -, -, -, -, -, -, -, -, -, -, hshadowEnd, -⟩
  have hclause := hshadowEnd { lane := 0, source := 1, since := 0, seen := [8] } { dev := shadowDueDev } (by decide +kernel)
  have hofs := congrArg ofsAfter hclause
  exact absurd hofs (by decide +kernel)

end Sys2Proof.Machine
end

section
/-! SUPPORT. Proofs of the statements of spec/18: what holds between steps, the class of a detector, the record that a raise opens, and the commands and
events of the FCU. -/
namespace Sys2Proof.Machine
open Sys2Proof

/-! ### What holds between steps (R480, R483) -/

/-- Settles O36: a step takes the front command alone from the queue, and leaves no raise waiting (log 12). -/
theorem stepKeepsInvariant : Obligations.StepKeepsInvariant := by
  unfold Obligations.StepKeepsInvariant
  intro s t ⟨_, hwf⟩ hstep
  obtain ⟨u, hu, hq, htodo⟩ := step_next s
  obtain rfl : t = u := by rw [hstep] at hu; injection hu
  refine ⟨htodo, List.all_eq_true.mpr fun c hc => List.all_eq_true.mp hwf c ?_⟩
  exact List.mem_of_mem_tail (hq ▸ hc)

/-- Settles O35: the device is empty at reset, and so is the queue. -/
theorem resetMeetsInvariant : Obligations.ResetMeetsInvariant := by
  unfold Obligations.ResetMeetsInvariant Inv
  rw [State.reset_dev, State.reset_pending]
  exact ⟨rfl, rfl⟩

/-! ### The class of a detector (R484) -/

/-- Every table class lies within the classes of R480: the table names no other. -/
theorem fdClass_le_five (n : Nat) : fdClass n ≤ 5 := by
  unfold fdClass
  repeat' refine (ite_le_sup ..).trans (sup_le ?_ ?_)
  all_goals decide

/-- The class in effect lies between the table class and 5. -/
theorem fdClass_le_classOf (d : Dev) (n : Nat) : fdClass n ≤ classOf d n :=
  le_min (fdClass_le_five n) (le_max_right ..)

/-- The class in effect after a setting that fits its field. -/
theorem classOf_wr_same (d : Dev) (n : Nat) {v : Nat} (hv : v ≤ 5) : classOf (d.wr (FCU.DET.CLASS n) v) n = max v (fdClass n) := by
  have hrd : (d.wr (FCU.DET.CLASS n) v).rd (FCU.DET.CLASS n) = v := (Dev.rd_wr_same ..).trans (Nat.mod_eq_of_lt (by omega : v < 8))
  rw [classOf, hrd]
  exact min_eq_right (max_le hv (fdClass_le_five n))

/-- A raise of a detector that is neither suppressed nor in PROOF, whose class counts and whose record is not open, opens its record with that class;
its reaction follows unless it is dry (R480, R485, R487). -/
theorem noteRaise_opens {d : Dev} {r : Raise} (hdet : r.det < 172) (hst : opState d ≠ 2)
    (hsup : suppressed (d.bump (FCU.DET.COUNT r.det)) r = false) (hcls : classOf d r.det ≠ 0) (hopen : d.flag (FCU.REC.STATE.OPEN r.det) = false) :
    noteRaise r d = (openRecord r (classOf d r.det) (d.bump (FCU.DET.COUNT r.det)), !r.dry) := by
  have hclosed : (d.bump (FCU.DET.COUNT r.det)).flag (FCU.REC.STATE.OPEN r.det) = false := by
    rw [← hopen]
    exact Dev.flag_wr_ne _ _ (by simp only [FRef.key, FCU.REC.STATE.OPEN, FCU.DET.COUNT]; omega)
  simp only [noteRaise, Nat.not_le.mpr hdet, hst, hsup, classOf_bump, hcls, hclosed, if_false, Bool.false_eq_true]

/-- Settles O42: the class in effect is the greater of the setting and the table class; the setting is no field of a record, and a raise that opens a
record opens it with the class in effect. -/
theorem faultClassNeverMilder : Obligations.FaultClassNeverMilder := by
  unfold Obligations.FaultClassNeverMilder
  refine ⟨fun d n v hlo hhi => ?stricter, fun d n v hlo => ?milder, fun d n => ⟨fdClass_le_classOf d n, classOf_le d n⟩, fun d n v k => ?record,
    fun d r hdet hst hsup hcls hopen => noteRaise_opens hdet hst hsup hcls hopen⟩
  case stricter => rw [classOf_wr_same d n hhi, max_eq_left hlo]
  case milder => rw [classOf_wr_same d n (by have := fdClass_le_five n; omega), max_eq_right hlo.le]
  case record => exact Dev.rd_wr_ne _ _ (by simp only [FRef.key, FCU.REC.STATE.CLASS, FCU.DET.CLASS]; omega)

/-! ### The record that a raise opens (R485) -/

/-- A window that starts or stops is no register. -/
theorem rd_window (dry : Bool) (n cls : Nat) (d : Dev) (f : FRef) : ((if dry = true then stopWindow n else startWindow n cls) d).rd f = d.rd f := by
  cases dry <;> rfl

/-- Nor does it move service time. -/
theorem svc_window (dry : Bool) (n cls : Nat) (d : Dev) : ((if dry = true then stopWindow n else startWindow n cls) d).time.svc = d.time.svc := by
  cases dry <;> rfl

/-- The device with the record opened, before EV144 is raised. -/
def recordOpened (r : Raise) (cls : Nat) (d : Dev) : Dev :=
  let n := r.det
  let d := ((((d.wr (FCU.REC.STATE.OPEN n) 1).wr (FCU.REC.STATE.ACK n) 0).wr (FCU.REC.STATE.ESC n) 0).wr (FCU.REC.STATE.REPEAT n) 0)
  let d := (d.put (FCU.REC.STATE.INJ n) r.inj).put (FCU.REC.STATE.DRY n) r.dry
  let d := (if r.dry then stopWindow n else startWindow n cls) (d.wr (FCU.REC.STATE.CLASS n) cls)
  let d := ((d.wr (FCU.REC.SRC n) r.src).wr (FCU.REC.DETAIL n) r.detail).wr (FCU.REC.MERGE n) 0
  let d := ((d.wr (FCU.REC.FIRST_SEC n) (svcSec d)).wr (FCU.REC.FIRST_NS n) (svcNs d)).wr (FCU.REC.LAST_SEC n) (svcSec d)
  d.wr (FCU.REC.LOC n) r.loc

theorem openRecord_eq (r : Raise) (cls : Nat) (d : Dev) : openRecord r cls d = raiseEv 144 r.det cls (recordOpened r cls d) := rfl

/-- The fields of the record that has opened. -/
theorem rd_recordOpened_same (r : Raise) (cls : Nat) (d : Dev) :
    (recordOpened r cls d).rd (FCU.REC.STATE.OPEN r.det) = 1 ∧ (recordOpened r cls d).rd (FCU.REC.MERGE r.det) = 0 ∧
      (recordOpened r cls d).rd (FCU.REC.FIRST_SEC r.det) = svcSec d % 2 ^ (FCU.REC.FIRST_SEC r.det).width ∧
      (recordOpened r cls d).rd (FCU.REC.FIRST_NS r.det) = svcNs d % 2 ^ (FCU.REC.FIRST_NS r.det).width ∧
      (recordOpened r cls d).rd (FCU.REC.LAST_SEC r.det) = svcSec d % 2 ^ (FCU.REC.LAST_SEC r.det).width ∧
      (recordOpened r cls d).rd (FCU.REC.SRC r.det) = r.src % 2 ^ (FCU.REC.SRC r.det).width ∧
      (recordOpened r cls d).rd (FCU.REC.DETAIL r.det) = r.detail % 2 ^ (FCU.REC.DETAIL r.det).width := by
  and_intros
  all_goals
    simp (disch := (simp only [FRef.key]; omega)) only [recordOpened, FCU.REC.STATE.OPEN, FCU.REC.STATE.ACK, FCU.REC.STATE.ESC, FCU.REC.STATE.REPEAT,
      FCU.REC.STATE.INJ, FCU.REC.STATE.DRY, FCU.REC.STATE.CLASS, FCU.REC.SRC, FCU.REC.DETAIL, FCU.REC.MERGE, FCU.REC.FIRST_SEC, FCU.REC.FIRST_NS,
      FCU.REC.LAST_SEC, FCU.REC.LOC, Dev.rd_wr_ne, Dev.rd_wr_same, Dev.put, rd_window, svcSec, svcNs, Dev.wr_time, svc_window]
  all_goals rfl

/-- A field outside the record's 32 bytes reads as before. -/
theorem rd_recordOpened_ne (r : Raise) (cls : Nat) (d : Dev) {f : FRef} (hlo : f.lo < 32) (h : f.addr / 0x20 ≠ 0x18080 + r.det) :
    (recordOpened r cls d).rd f = d.rd f := by
  simp (disch := (simp only [FRef.key]; omega)) only [recordOpened, FCU.REC.STATE.OPEN, FCU.REC.STATE.ACK, FCU.REC.STATE.ESC, FCU.REC.STATE.REPEAT,
    FCU.REC.STATE.INJ, FCU.REC.STATE.DRY, FCU.REC.STATE.CLASS, FCU.REC.SRC, FCU.REC.DETAIL, FCU.REC.MERGE, FCU.REC.FIRST_SEC, FCU.REC.FIRST_NS,
    FCU.REC.LAST_SEC, FCU.REC.LOC, Dev.rd_wr_ne, Dev.put, rd_window]

/-- A field of the records is no count of a detector of the table. -/
theorem rd_bump_count (d : Dev) {n : Nat} (hn : n < 172) {f : FRef} (h : 0x301000 ≤ f.addr) : (d.bump (FCU.DET.COUNT n)).rd f = d.rd f :=
  Dev.rd_bump_ne d (by simp only [FRef.key, FCU.DET.COUNT]; omega)

/-- Settles O43: the raise opens its record; what is written lies in its 32 bytes, and counting the raise touches no record. -/
theorem faultRecordOpens : Obligations.FaultRecordOpens := by
  unfold Obligations.FaultRecordOpens
  intro d r hdet hst hsup hcls hopen
  refine ⟨recordOpened r (classOf d r.det) (d.bump (FCU.DET.COUNT r.det)), ?record, (noteRaise_opens hdet hst hsup hcls hopen).trans ?event⟩
  case event => rw [openRecord_eq]
  case record =>
    obtain ⟨hOpen, hmerge, hfirst, hns, hlast, hsrc, hdetail⟩ := rd_recordOpened_same r (classOf d r.det) (d.bump (FCU.DET.COUNT r.det))
    have hother {n : Nat} {f : FRef} (hn : n ≠ r.det) (hlo : f.lo < 32) (haddr : f.addr / 0x20 = 0x18080 + n) :
        (recordOpened r (classOf d r.det) (d.bump (FCU.DET.COUNT r.det))).rd f = d.rd f :=
      (rd_recordOpened_ne _ _ _ hlo (by omega)).trans (rd_bump_count d hdet (by omega))
    refine ⟨hOpen, hmerge, hfirst, hns, hlast, hsrc, hdetail, fun n hn => ⟨hother hn ?_ ?_, hother hn ?_ ?_, hother hn ?_ ?_⟩⟩
    all_goals simp only [FCU.REC.STATE.OPEN, FCU.REC.STATE.CLASS, FCU.REC.DETAIL]; omega

/-! ### Commands and events of the FCU (R480 to R502) -/

/-- Settles O7: each row's own guard is what its clause excludes, and what is left of the row is the clause's effect. That a record left open reports
FAULT_ACTIVE with both counts 1, and what EV147 carries (log 91), are the model's choices. -/
theorem fcuComplete : Obligations.FcuComplete := by
  unfold Obligations.FcuComplete
  refine ⟨?clearOne, ?clearAll, ?arm, ?disarm, ?inject, ?read, ?raises, ?within, ?window, ?unacknowledged, ?heartbeat, ?csHeartbeat, ?fires, ?noPath,
    ?sessionEnd⟩
  case csHeartbeat =>
    intros
    exact event_of_effect rfl
  case clearOne =>
    intro h det action s
    refine cmd_of_runCmd rfl fun d ⟨haction, hrange, hone, hopen⟩ => ?_
    rw [if_neg (not_or.mpr ⟨Nat.not_lt.mpr haction, hrange⟩), if_neg hone, if_neg (not_not_intro hopen)]
  case clearAll =>
    intro h action s
    exact cmd_of_runCmd rfl fun d haction => (if_neg (by omega)).trans (if_pos rfl)
  case arm =>
    intro h secs s
    refine cmd_of_runCmd rfl fun d ⟨hlo, hhi, hgrant⟩ => ?_
    generalize checkGrant 1 h d = g at hgrant ⊢
    obtain ⟨st, d'⟩ := g
    obtain rfl : st = 0 := hgrant
    exact (if_neg (Nat.not_lt.mpr hhi)).trans (if_neg (Nat.ne_of_gt hlo))
  case disarm =>
    intro h s
    refine cmd_of_runCmd rfl fun d hgrant => ?_
    generalize checkGrant 1 h d = g at hgrant ⊢
    obtain ⟨st, d'⟩ := g
    obtain rfl : st = 0 := hgrant
    rfl
  case inject =>
    intro h det flags src scope n s
    refine cmd_of_runCmd rfl fun d ⟨hdet, hsession, hpath, hlane, hclosed, hscope⟩ => ?_
    have hmay : ¬ (¬ bitOf flags 0 = true ∧ 4 ≤ classOf d det ∧ ¬ bitOf scope 2 = true) := by
      rintro ⟨hdry, hcls, hgranted⟩
      rcases hscope with h | h | h
      · exact hdry h
      · omega
      · exact hgranted h
    rw [if_neg (Nat.not_lt.mpr hdet)]
    simp only [fcuInjectEffect, hsession]
    rw [if_neg hpath, if_neg hlane, if_neg (ne_true_of_eq_false hclosed), if_neg hmay]
  case read =>
    intro h first count s
    exact cmd_of_runCmd rfl fun d ⟨hfirst, hlo, hhi, hrecv⟩ => (if_neg (by omega)).trans (if_neg (not_not_intro hrecv))
  case raises =>
    intro det src detail loc s
    exact event_of_meaning (execDetectorRaise det src detail loc .plain) rfl rfl fun _ => if_neg (not_not_intro rfl)
  case within =>
    intro det src detail loc f s
    exact event_of_meaning (execDetectorRaise det src detail loc f) rfl rfl fun hnone => if_pos (ne_true_of_eq_false hnone)
  case window =>
    intro det t s
    refine event_of_meaning (execWindowExpiry det) rfl rfl fun ⟨hend, hopen⟩ => ?_
    simp only [hend]
    exact if_pos hopen
  case unacknowledged =>
    intro det s
    exact event_of_meaning (execCsRaiseUnacknowledged det) rfl rfl fun hraised => if_neg (not_not_intro hraised)
  case heartbeat =>
    intro e s
    exact event_of_meaning (execHeartbeatTimeout e) rfl rfl fun ⟨hwatched, hproof⟩ => (if_neg (not_not_intro hwatched)).trans (if_neg hproof)
  case fires =>
    intro det i s
    exact event_of_meaning (execInjectionFire det) rfl rfl fun hfound => by simp only [hfound]
  case noPath =>
    intro det i s
    exact event_of_meaning (execInjectionNoPath det) rfl rfl fun hfound => by simp only [hfound]
  case sessionEnd =>
    intro s
    exact event_of_meaning execInjectionSessionEnd rfl rfl fun hsession => if_pos hsession

end Sys2Proof.Machine
end

section
/-! SUPPORT. Proofs of the statements of spec/19: the recorder's input queue, and its commands and events; with what an accepted grant leaves alone, and
what a wear check notes before it compares. -/
namespace Sys2Proof.Machine
open Sys2Proof

/-! ### The input queue (R507) -/

/-- With room in the queue an occurrence is appended. -/
theorem pushOcc_of_room {o : Occ} {d : Dev} (h : d.evr.queue.length < 1024) :
    pushOcc o d = { d with evr := { d.evr with queue := d.evr.queue ++ [o] } } := if_pos h

/-- A full queue drops it, and counts the drop. -/
theorem pushOcc_of_full {o : Occ} {d : Dev} (h : 1024 ≤ d.evr.queue.length) :
    pushOcc o d = ({ d with evr := { d.evr with dropped := d.evr.dropped + 1 } } : Dev).bump EVR.STAT.QDROP := if_neg (Nat.not_lt.mpr h)

/-- Of a list handed over the queue takes as many as it has room for, by induction on the list. -/
theorem queue_foldl_pushOcc (l : List Occ) {d : Dev} (h : d.evr.queue.length ≤ 1024) :
    (l.foldl (fun d o => pushOcc o d) d).evr.queue = d.evr.queue ++ l.take (1024 - d.evr.queue.length) := by
  induction l generalizing d with
  | nil => simp
  | cons o t ih =>
    rw [List.foldl_cons]
    rcases Nat.lt_or_ge d.evr.queue.length 1024 with hroom | hfull
    · have hq : (pushOcc o d).evr.queue = d.evr.queue ++ [o] := by rw [pushOcc_of_room hroom]
      have hlen : (pushOcc o d).evr.queue.length = d.evr.queue.length + 1 := by rw [hq, List.length_append, List.length_singleton]
      have hsucc : 1024 - d.evr.queue.length = 1024 - (d.evr.queue.length + 1) + 1 := by omega
      rw [ih (by omega), hlen, hq, hsucc, List.take_succ_cons, List.append_assoc, List.singleton_append]
    · have hq : (pushOcc o d).evr.queue = d.evr.queue := by rw [pushOcc_of_full hfull, Dev.bump_evr]
      have hnone : 1024 - d.evr.queue.length = 0 := by omega
      rw [ih (hq ▸ h), hq, hnone, List.take_zero, List.take_zero]

/-- Settles O51: the two cases of one occurrence, and by induction any list of them. -/
theorem recorderQueueDrops : Obligations.RecorderQueueDrops := by
  unfold Obligations.RecorderQueueDrops
  refine ⟨fun o d => pushOcc_of_room, fun o d hfull => ?_, fun l d => queue_foldl_pushOcc l⟩
  rw [pushOcc_of_full hfull]
  exact ⟨rfl, Dev.rd_bump_same _ _⟩

/-! ### Grants (R540) -/

/-- KE changes nothing but the count of grants and what the last one allowed when it accepts one: every refusal has a status other than 0. -/
theorem checkGrant_accepted {b : Nat} {h : CmdHdr} {d : Dev} (hg : (checkGrant b h d).1 = 0) :
    (checkGrant b h d).2 = (setCnt 3 (d.rd (CRUST.CNT.VALUE 3) + 1) d).wr KEYS.GRANT.LAST_SCOPE (fieldAt (inBuf h d) 24 4) := by
  unfold checkGrant at hg ⊢
  split at hg
  · cases hg
  · next hisl =>
    dsimp only at hg
    split at hg
    · cases hg
    · next hbuf =>
      rw [if_neg hisl]
      refine (congrArg Prod.snd (if_neg hbuf)).trans ?_
      split at hg
      · rfl
      · cases hg

/-! ### Wear (R517) -/

/-- The age in 0.1 years that a wear check comes to, and the device with the age and the forecast noted before they are compared. -/
def wearAge (d : Dev) : Nat := min 65535 ((d.evr.ageDays + if d.evr.stageChk then 0 else 1) * 10 / 365)
def wearNoted (forecast : Nat) (d : Dev) : Dev :=
  (({ d with evr := { d.evr with ageDays := d.evr.ageDays + (if d.evr.stageChk then 0 else 1), stageChk := false } } : Dev).wr EVR.WEAR.FORECAST
    (min forecast 65535)).wr EVR.WEAR.AGE (wearAge d)

/-- Noting them leaves the service years and the wear stage. -/
theorem serviceY_wearNoted (forecast : Nat) (d : Dev) : serviceY (wearNoted forecast d) = serviceY d := by
  rw [serviceY, wearNoted, Dev.rd_wr_ne _ _ (by decide), Dev.rd_wr_ne _ _ (by decide), Dev.rd_set_evr, serviceY]

theorem rd_wstage_wearNoted (forecast : Nat) (d : Dev) : (wearNoted forecast d).rd EVR.STAT.WSTAGE = d.rd EVR.STAT.WSTAGE := by
  rw [wearNoted, Dev.rd_wr_ne _ _ (by decide), Dev.rd_wr_ne _ _ (by decide), Dev.rd_set_evr]

/-- What the comparison of forecast f with the target does to the device that has noted both, `day` days after the last one. -/
def wearCompared (f target day : Nat) (d : Dev) : Dev :=
  let st := d.rd EVR.STAT.WSTAGE
  if f < target then
    let d : Dev := { d with evr := { d.evr with goodDays := 0, stageChk := decide (st < 3) } }
    let d := raise 168 f (d.wr EVR.STAT.WEAR_LIMIT 1)
    raiseEv 153 (min 3 (st + 1)) 0 (d.wr EVR.STAT.WSTAGE (min 3 (st + 1)))
  else if target * 11 < f * 10 then
    let g := d.evr.goodDays + day
    if 30 ≤ g ∧ 0 < st then
      let d : Dev := { d with evr := { d.evr with goodDays := 0, stageChk := true } }
      let d := d.wr EVR.STAT.WSTAGE (st - 1)
      raiseEv 153 (st - 1) 0 (if st = 1 then d.wr EVR.STAT.WEAR_LIMIT 0 else d)
    else { d with evr := { d.evr with goodDays := g } }
  else { d with evr := { d.evr with goodDays := 0 } }

/-- A wear check notes, then compares. -/
theorem exec_wearCheck (forecast : Nat) (s : State) : exec (.wearCheck forecast) s =
    go (fun d => wearCompared (min forecast 65535) (serviceY (wearNoted forecast d) * 10 - wearAge d) (if d.evr.stageChk then 0 else 1)
      (wearNoted forecast d)) s := rfl

/-- A short forecast takes the next stage (R517). -/
theorem wearCompared_short {f target : Nat} (day : Nat) {d : Dev} (h : f < target) : wearCompared f target day d =
    (let st := d.rd EVR.STAT.WSTAGE
     let d : Dev := { d with evr := { d.evr with goodDays := 0, stageChk := decide (st < 3) } }
     let d := raise 168 f (d.wr EVR.STAT.WEAR_LIMIT 1)
     raiseEv 153 (min 3 (st + 1)) 0 (d.wr EVR.STAT.WSTAGE (min 3 (st + 1)))) := if_pos h

/-- A forecast a tenth above the target, on the 30th such day, undoes the only stage, and with it the limit (R517). -/
theorem wearCompared_long {f target day : Nat} {d : Dev} (h : target * 11 < f * 10) (hday : 30 ≤ d.evr.goodDays + day)
    (hst : d.rd EVR.STAT.WSTAGE = 1) : wearCompared f target day d =
    (let d : Dev := { d with evr := { d.evr with goodDays := 0, stageChk := true } }
     raiseEv 153 0 0 ((d.wr EVR.STAT.WSTAGE 0).wr EVR.STAT.WEAR_LIMIT 0)) := by
  simp only [wearCompared, hst]
  rw [if_neg (by omega), if_pos h, if_pos ⟨hday, by decide⟩, if_pos trivial]

/-! ### Clearing (R516) -/

/-- With a new configuration both areas are emptied, so that the first sequence kept is the next one. -/
theorem evrClearEffect_of_conf {h : CmdHdr} {areas conf : Nat} {d : Dev} (hconf : conf ≤ 2) : evrClearEffect h areas conf d =
    (let d := d.evr.openSeqs.foldl (fun d q => sealRec q d) d
     let d : Dev := { d with evr := { d.evr with areaC := [], mirror := [], closeMark := none } }
     let d : Dev := ({ d with evr := { d.evr with areaF := [] } } : Dev).wr EVR.STAT.F_FULL 0
     let d := d.wr EVR.CFG.CONF conf
     let d := if conf = 0 then d.wr EVR.STAT.FALLBACK 0 else d
     let kept := d.evr.nextSeq
     .done (raiseEv 155 0 0 (writeNow 13 0x002 kept (d.rd (CRUST.CNT.VALUE 3)) (1 + h.port.val) d)) stOK [kept]) := by
  have hgiven : conf ≠ 0xFF := by omega
  simp only [evrClearEffect, if_pos hgiven]
  by_cases hS : conf = 0
  · simp only [if_pos hS]
    rfl
  · simp only [if_neg hS]
    rfl

/-! ### Commands and events of the recorder (R507 to R519) -/

/-- Settles O8: each row's own guard is what its clause excludes, and what is left of the row is the clause's effect. That CONF 0 ends a fallback and that
the check after a change of stage counts no day (log 92), and how far the clock is carried (log 20), are the model's choices. -/
theorem recorderComplete : Obligations.RecorderComplete := by
  unfold Obligations.RecorderComplete
  refine ⟨?read, ?stream, ?clear, ?note, ?intake, ?pages, ?period, ?reload, ?wearShort, ?wearLong⟩
  case note =>
    intro h w0 w1 s
    exact cmd_of_runCmd rfl fun d _ => rfl
  case read =>
    intro h area first count r rs s
    refine cmd_of_runCmd rfl fun d ⟨harea, hnone, hlo, hhi, hrecv, hheld⟩ => ?_
    have hparam : ¬ (1 < area ∨ (area = 1 ∧ d.rd EVR.CFG.CONF = 2) ∨ count < 1 ∨ 65536 < count) :=
      not_or.mpr ⟨Nat.not_lt.mpr harea, not_or.mpr ⟨hnone, by omega⟩⟩
    rw [if_neg hparam, if_neg (not_not_intro hrecv)]
    simp only [hheld]
    rfl
  case stream =>
    intro h ring area start first s
    refine cmd_of_runCmd rfl fun d ⟨harea, hnone, hstart, hring, hport, hkind, hrun, hon⟩ => ?_
    rw [if_neg (not_or.mpr ⟨Nat.not_lt.mpr harea, not_or.mpr ⟨hnone, Nat.not_lt.mpr hstart⟩⟩), if_neg (by simp [hring, hport, hkind, hrun])]
    exact if_neg hon
  case clear =>
    intro h areas conf s
    refine cmd_of_runCmd rfl fun d ⟨hareas, hconf, hspace, hmem, hgrant⟩ => ?_
    have hevr : (checkGrant 3 h d).2.evr = d.evr := by rw [checkGrant_accepted hgrant]; rfl
    have hpwr : (checkGrant 3 h d).2.pwr = d.pwr := by rw [checkGrant_accepted hgrant]; rfl
    generalize checkGrant 3 h d = g at hgrant hevr hpwr ⊢
    obtain ⟨st, d'⟩ := g
    obtain rfl : st = 0 := hgrant
    replace hevr : d'.evr = d.evr := hevr
    replace hpwr : d'.pwr = d.pwr := hpwr
    have hparam : ¬ (3 < areas ∨ (2 < conf ∧ conf ≠ 0xFF) ∨ (bitOf areas 1 = true ∧ d'.rd EVR.CFG.CONF = 2 ∧ conf = 0xFF)) := by
      rintro (hbad | ⟨hbad, -⟩ | ⟨-, -, hbad⟩) <;> omega
    have hroom : ¬ (conf ≠ 0xFF ∧ d'.evr.partA < confMiB conf) := by
      rw [hevr]
      exact fun ⟨_, hsmall⟩ => Nat.not_lt.mpr hspace hsmall
    have hdie : ¬ ((conf = 1 ∨ conf = 2) ∧ d'.pwr.memLost = true) := by
      rw [hpwr]
      exact fun ⟨_, hlost⟩ => ne_true_of_eq_false hmem hlost
    exact (if_neg hparam).trans ((if_neg hroom).trans ((if_neg hdie).trans (evrClearEffect_of_conf hconf)))
  case intake =>
    intro o rest s
    refine event_of_meaning execRecordIntake rfl rfl fun ⟨htakes, hq⟩ => ?_
    rw [if_neg (not_not_intro htakes)]
    simp only [hq]
  case pages =>
    intro okA okB s
    exact event_of_meaning (execRecordMirror okA okB) rfl rfl fun hfull => if_pos hfull
  case period =>
    intro okA okB s
    exact event_of_meaning (execRecordMirror okA okB) rfl rfl fun hnone => if_neg (not_not_intro hnone)
  case reload =>
    intro s
    exact event_of_meaning execAreaCReloadEnd rfl rfl fun ⟨hreloading, hafter⟩ => if_neg (not_or.mpr ⟨not_not_intro hreloading, hafter⟩)
  case wearShort =>
    intro forecast s
    refine event_of_go (exec_wearCheck forecast s) fun hshort => ?_
    replace hshort : min forecast 65535 < serviceY s.dev * 10 - wearAge s.dev := hshort
    rw [serviceY_wearNoted, wearCompared_short _ hshort, rd_wstage_wearNoted]
    rfl
  case wearLong =>
    intro forecast s
    refine event_of_go (exec_wearCheck forecast s) fun ⟨hlong, hdays, hstage⟩ => ?_
    replace hlong : (serviceY s.dev * 10 - wearAge s.dev) * 11 < min forecast 65535 * 10 := hlong
    rw [← rd_wstage_wearNoted forecast s.dev] at hstage
    replace hdays : 30 ≤ (wearNoted forecast s.dev).evr.goodDays + (if s.dev.evr.stageChk then 0 else 1) := hdays
    rw [serviceY_wearNoted, wearCompared_long hlong hdays hstage]
    rfl

end Sys2Proof.Machine
end

section
/-! SUPPORT. Proofs of the statements of spec/20: the length of a signature, key updates that pass and that fail, and the commands of the KEYS unit. -/
namespace Sys2Proof.Machine
open Sys2Proof

/-! ### Lengths -/

theorem length_toBytes (n v : Nat) : (toBytes n v).length = n := by
  induction n generalizing v with
  | zero => rfl
  | succ n ih => rw [toBytes, List.length_cons, ih]

theorem length_beBytes (n v : Nat) : (beBytes n v).length = n := by rw [beBytes, List.length_reverse, length_toBytes]

/-- A signature is two coordinates long. -/
theorem Curve.length_sign (c : Curve) (d k : Nat) (m : List Byte) : (c.sign d k m).length = 2 * c.len := by
  rw [Curve.sign, List.length_append, length_beBytes, length_beBytes, Nat.two_mul]

theorem length_identitySign (m : List Byte) (d : Dev) : (identitySign m d).1.length = 96 := p384.length_sign _ _ _

/-! ### Public keys (R523, R542) -/

/-- Where key, signature and what follows them fit the receive buffer, they go to the host. -/
theorem givePub_of_recvOk {h : CmdHdr} {tail : List Byte} (slot : Nat) (nonce key : List Byte) (gen : Nat) (d : Dev)
    (hrecv : recvOk h (192 + tail.length) = true) : givePub h slot nonce key gen tail d =
    (let k := (key ++ List.replicate 96 0).take 96
     let (sig, d') := identitySign ((nonce ++ List.replicate 32 0).take 32 ++ k ++ toBytes 1 slot ++ toBytes 4 gen) d
     .done (outBuf h (k ++ sig ++ tail) d') stOK [192 + tail.length, gen]) := by
  have hkey : ((key ++ List.replicate 96 0).take 96).length = 96 := by
    rw [List.length_take, List.length_append, List.length_replicate]
    omega
  have hsig := length_identitySign ((nonce ++ List.replicate 32 0).take 32 ++ (key ++ List.replicate 96 0).take 96 ++ toBytes 1 slot ++ toBytes 4 gen) d
  dsimp only [givePub]
  generalize identitySign _ d = g at hsig ⊢
  obtain ⟨sig, d'⟩ := g
  replace hsig : sig.length = 96 := hsig
  have hlen : ((key ++ List.replicate 96 0).take 96 ++ sig ++ tail).length = 192 + tail.length := by
    rw [List.length_append, List.length_append, hkey, hsig]
  dsimp only
  rw [hlen, if_neg (not_not_intro hrecv)]

/-! ### Key updates (R531, R533, R543) -/

/-- A message that passes every check is applied with the increment of CNT[1]. -/
theorem keyUpdateEffect_of_pass {h : CmdHdr} {d : Dev} (hpass : kuCheck d (inBuf h d) = 0) : keyUpdateEffect h d =
    (let m := kuParse (inBuf h d)
     let (x, d) := kuApply m (setCnt 1 (if m.kind = 2 ∧ m.flags = 1 then d.rd (CRUST.CNT.VALUE 1) else d.rd (CRUST.CNT.VALUE 1) + 1) d)
     let d := raiseEv 161 m.kind (d.rd (CRUST.CNT.VALUE 1)) ((d.wr KEYS.KU.LAST_STATUS 0).wr KEYS.KU.LAST_KIND m.kind)
     .done d stOK [d.rd (CRUST.CNT.VALUE 1), x]) := by
  simp only [keyUpdateEffect, hpass]

/-- A message that fails one leaves its status, a count and EV162. -/
theorem keyUpdateEffect_of_fail {h : CmdHdr} {d : Dev} (hfail : kuCheck d (inBuf h d) ≠ 0) : keyUpdateEffect h d =
    (let st := kuCheck d (inBuf h d)
     let d' := raiseEv 162 st 0 ((d.wr KEYS.KU.LAST_STATUS st).addSat KEYS.KU.REFUSED 1)
     .done d' st [d'.rd (CRUST.CNT.VALUE 1)]) := by
  dsimp only [keyUpdateEffect]
  split
  · contradiction
  · rfl

/-- Settles O52: the body of KEY_UPDATE is the refusal, on the device as the command begins. -/
theorem keyUpdateRefusedWhole : Obligations.KeyUpdateRefusedWhole := by
  unfold Obligations.KeyUpdateRefusedWhole
  intro h s sp d st hready hbuf hfail
  refine (runCmd_ready _ hready).trans ?_
  rw [if_neg (not_not_intro hbuf), keyUpdateEffect_of_fail hfail]

/-! ### The commands (R523 to R542) -/

/-- KEY_OP hands a slot, an operation and a buffer that are in range to the operation. -/
theorem keyOp_params {h : CmdHdr} {slot op : Nat} {α : Type} {bad buf ok : α} (hslot : slot ≤ 63) (hop : 1 ≤ op ∧ op ≤ 4) (hbuf : bufOk h = true)
    (hlen : bufLen h ≤ 65536) :
    (if 63 < slot ∨ op = 0 ∨ 4 < op then bad else if ¬ bufOk h ∨ 65536 < bufLen h then buf else ok) = ok := by
  rw [if_neg (by omega), if_neg (not_or.mpr ⟨not_not_intro hbuf, Nat.not_lt.mpr hlen⟩)]

/-- Settles O30: each row's own guard is what its clause excludes, and what is left of the row is the clause's effect. That a key operation writes its
output at its input's address, and what KEY_PUB and KEY_READ lay out, are the model's choices (log 36). -/
theorem keysComplete : Obligations.KeysComplete := by
  unfold Obligations.KeysComplete
  refine ⟨?update, ?pubSlot, ?pubIdentity, ?mac, ?gcmSeals, ?gcmOpens, ?sign, ?read, ?jtag⟩
  case update =>
    intro h s
    refine cmd_of_runCmd rfl fun d ⟨hbuf, hpass⟩ => ?_
    rw [if_neg (not_not_intro hbuf)]
    exact keyUpdateEffect_of_pass hpass
  case pubSlot =>
    intro h slot nonce s
    refine cmd_of_runCmd rfl fun d ⟨hslot, hserves, hrecv⟩ => ?_
    rw [if_neg (by omega), if_neg (Nat.not_lt.mpr hslot)]
    simp only [keyPubEffect, hserves]
    rw [givePub_of_recvOk (tail := []) _ _ _ _ _ hrecv]
    simp only [List.append_nil]
    rfl
  case pubIdentity =>
    intro h nonce s
    refine cmd_of_runCmd rfl fun d hrecv => ?_
    rw [if_pos rfl]
    exact givePub_of_recvOk _ _ _ _ _ hrecv
  case mac =>
    intro h slot iv s
    refine cmd_of_runCmd rfl fun d ⟨hslot, hbuf, hlen, hserves⟩ => ?_
    rw [keyOp_params hslot (by decide) hbuf hlen]
    simp only [keyOpEffect, hserves]
  case gcmSeals =>
    intro h slot iv s
    refine cmd_of_runCmd rfl fun d ⟨hslot, hbuf, hlen, hserves⟩ => ?_
    rw [keyOp_params hslot (by decide) hbuf hlen]
    simp only [keyOpEffect, hserves]
  case gcmOpens =>
    intro h slot iv s
    refine cmd_of_runCmd rfl fun d ⟨hslot, hbuf, hlen, hserves⟩ => ?_
    rw [keyOp_params hslot (by decide) hbuf hlen]
    simp only [keyOpEffect, hserves] <;> rfl
  case sign =>
    intro h slot iv s
    refine cmd_of_runCmd rfl fun d ⟨hslot, hbuf, hlen, hserves⟩ => ?_
    rw [keyOp_params hslot (by decide) hbuf hlen]
    simp only [keyOpEffect, hserves]
  case read =>
    intro h table first count s
    refine cmd_of_runCmd rfl fun d ⟨htable, hfirst, hrecv⟩ => ?_
    rw [if_neg (not_or.mpr ⟨Nat.not_lt.mpr htable, Nat.not_le.mpr hfirst⟩), if_neg (not_not_intro hrecv)]
  case jtag =>
    intro h s
    refine cmd_of_runCmd rfl fun d hgrant => ?_
    generalize checkGrant 5 h d = g at hgrant ⊢
    obtain ⟨st, d'⟩ := g
    obtain rfl : st = 0 := hgrant
    rfl

end Sys2Proof.Machine
end

section
/-! SUPPORT. Proofs of the statements of spec/21: opening and closing a staging, arming an activation, and the commands and events of the UPDATE unit. -/
namespace Sys2Proof.Machine
open Sys2Proof

/-! ### Opening a staging (R550, R552, R566) -/

/-- A Tray or Recipe from the host that passes every check is staged with nothing received; what was staged, and the previous set, go. -/
theorem openStaging_host {recipe : Bool} {h : CmdHdr} {d : Dev} (hbuf : bufOk h = true) (hstaging : d.upd.staging = none) (harm : d.upd.arm = none)
    (hpass : openCheck recipe (inBuf h d) d = 0) : openStaging recipe h 0 d =
    (let b := inBuf h d
     let g : Staging := { header := b.take 384, man := hdrParts b, wrap := (b.drop (384 + 64 * hdrCount b)).take 128, got := [], last := d.up }
     let d := onUpd (fun u => { u with staging := some g, staged := none, prev := none, forReset := none }) d
     .done ((((d.wr UPD.STAT.STATE 1).wr UPD.STAT.PREV_VALID 0).put UPD.STAT.RECIPE recipe).wr UPD.STG_ID (fieldAt b 28 4)) stOK [hdrPayload b]) := by
  have hidle : ¬ (d.upd.staging.isSome = true ∨ d.upd.arm.isSome = true) := by simp [hstaging, harm]
  rw [openStaging, if_neg (by decide), if_neg (fun hbad => hbad.2 hbuf), if_neg hidle]
  simp only [if_true, hpass]
  rfl

/-! ### Flash writes (R546) -/

/-- With at least one port's write good the payload is kept; a port's fault is raised, and one copy noted. -/
theorem flashWrite_of_one {badA badB : Bool} (d : Dev) (hone : ¬ (badA = true ∧ badB = true)) : flashWrite badA badB d =
    (let d' := if badA = true then raise 166 0 d else d
     let d' := if badB = true then raise 167 0 d' else d'
     some (if badA = true ∨ badB = true then d'.wr UPD.STAT.SINGLE_COPY 1 else d')) := by
  cases badA <;> cases badB
  case true.true => exact absurd ⟨rfl, rfl⟩ hone
  all_goals rfl

/-! ### Closing a staging (R551) -/

/-- The parts of a staging at its close: their bytes from the payload area, and what those stand for (log 42). -/
def closeParts (g : Staging) (area : List Byte) (parts : List PartIn) : List UpdPart :=
  g.man.zipIdx.map fun e => { e.1 with bytes := (area.drop e.1.off).take e.1.len, content := (parts.getD e.2 {}).content }

/-- A close whose parts all pass, with good writes to both ports, leaves them staged. -/
theorem closeStaging_of_pass {parts : List PartIn} {g : Staging} {area : List Byte} {d : Dev} (hstaging : d.upd.staging = some g)
    (harea : payloadArea g d = some area)
    (hpass : ((closeParts g area parts).zipIdx.all fun e =>
      partFault g (expectAfter (closeParts g area parts) d) e.1 (parts.getD e.2 {}).sealOk d == 0) = true) :
    closeStaging parts false false d =
    (let ps := closeParts g area parts
     let s : TraySet := { hdrSet g.header with parts := ps, dir := overDir (ps.filter fun p => !((hdrSet g.header).recipe && decide (p.kind ≤ 9))) d.upd.active.dir }
     let d := if g.single = true then d else d.wr UPD.STAT.SINGLE_COPY 0
     let d := endStaging 0 (onUpd (fun u => { u with staged := some s }) (d.wr UPD.STAT.STATE 2))
     .done (if s.recipe = true then raiseEvFrom 9 174 0 0 (onUpd (fun u => { u with imported := (u.imported.filter fun e => e.1 != s.exporter) ++ [(s.exporter, s.expCnt)] }) d) else d) stOK [0xFFFFFFFF, 0, armBound ps]) := by
  have hnone : (((closeParts g area parts).zipIdx.map fun e =>
      (e.2, partFault g (expectAfter (closeParts g area parts) d) e.1 (parts.getD e.2 {}).sealOk d)).find? fun e => e.2 != 0) = none := by
    rw [List.find?_eq_none]
    intro e he
    obtain ⟨p, hp, rfl⟩ := List.mem_map.mp he
    simpa using List.all_eq_true.mp hpass p hp
  unfold closeParts at hnone
  simp only [closeStaging, hstaging, harea, hnone, flashWrite, closeParts, Bool.or_false, Bool.and_false, Bool.false_eq_true, if_false]

/-! ### Arming (R553, R554, R559) -/

/-- An activation that nothing refuses is armed; its command waits. -/
theorem beginArm_of_clear {sec tick : Nat} {revert defaults : Bool} {t : TraySet} {ps : List UpdPart} {d : Dev}
    (hdefaults : (if revert then d.upd.active.defaults else t.defaults) = defaults) (hclear : refusal defaults revert ps d = none) :
    beginArm sec tick revert t ps d =
    (let a : Arming := { sec := sec, tick := tick, revert := revert, set := { t with defaults := defaults }, parts := armParts t.recipe ps d, lanes := [0, 1, 2].filter (laneIn d) }
     let d := ((d.wr UPD.EPOCH_LO.SEC_LO (sec % 2 ^ 32)).wr UPD.EPOCH_HI.SEC_HI (sec / 2 ^ 32)).wr UPD.EPOCH_HI.TICK tick
     .later (onUpd (fun u => { u with arm := some a }) (d.wr UPD.STAT.STATE 3)) (.other 60 0) []) := by
  simp only [beginArm, hdefaults, hclear]

/-! ### Recipes (R565, R567) -/

/-- Where REPORT_SLOT serves and the counters hold, RECIPE_EXPORT builds the Recipe, and sends it to the host or leaves it in the drop area. -/
theorem recipeExportEffect_of_serves {h : CmdHdr} {flags : Nat} {target : List Byte} {badB : Bool} {d : Dev}
    (hslot : slotRefusal d (d.rd UPD.CFG.REPORT_SLOT) [3] = 0) (hcount : countLost d = false) (hmax : d.rd (CRUST.CNT.VALUE 2) ≠ 0xFFFFFFFF) :
    recipeExportEffect h flags target badB d =
    (let cnt := d.rd (CRUST.CNT.VALUE 2) + 1
     let (b, d') := recipeBytes (bitOf flags 0) (padTo 16 target) cnt (setCnt 2 cnt d)
     if ¬ bitOf flags 1 ∧ ¬ recvOk h b.length then .done d stBadBuffer []
     else if bitOf flags 1 ∧ badB then .done ((raise 167 0 d').wr UPD.STAT.SINGLE_COPY 1) 0x0F0A [0, cnt]
     else
       let d := if bitOf flags 1 then onUpd (fun u => { u with drop := ins 1 b u.drop }) d' else outBuf h b d'
       .done (raiseEvFrom 9 174 0 0 d) stOK [b.length, cnt]) := by
  simp only [recipeExportEffect, hslot, hcount, Bool.false_eq_true, if_false, if_neg hmax]

/-! ### The switches (R549, R556) -/

/-- A part armed for a committed activation is due, the boot firmware once no other part is still to switch. -/
theorem partSwitch_due {a : Arming} {p : ArmPart} (hcommitted : a.committed = true) (hst : p.st = 1)
    (hlast : p.part.kind ≠ 2 ∨ (a.parts.all fun q => q.st != 1 || q.part.kind == 2) = true) :
    ¬ (¬ a.committed = true ∨ p.st ≠ 1 ∨ (p.part.kind = 2 ∧ (a.parts.any fun q => q.st == 1 && q.part.kind != 2) = true)) := by
  rintro (hun | hother | ⟨hboot, hwaits⟩)
  · exact hun hcommitted
  · exact hother hst
  · obtain ⟨q, hq, hwait⟩ := List.any_eq_true.mp hwaits
    have hdone := List.all_eq_true.mp (hlast.resolve_left (not_not_intro hboot)) q hq
    obtain ⟨hone, hkind⟩ : q.st = 1 ∧ q.part.kind ≠ 2 := by simpa using hwait
    exact absurd hdone (by simp [hone, hkind])

/-! ### Commands and events (R550 to R566) -/

/-- Settles O31: each row's own guard is what its clause excludes, and what is left of the row is the clause's effect. That UPD_OPEN drops the previous
image (log 52), what words of ones stand for in an answer (log 53), that the boot firmware switches after every other part (log 56), and how far the clock
is carried (log 20), are the model's choices. -/
theorem updateComplete : Obligations.UpdateComplete := by
  unfold Obligations.UpdateComplete
  refine ⟨?opens, ?imports, ?data, ?close, ?activate, ?revert, ?cancel, ?recoverStaged, ?recoverPrev, ?report, ?exportDrop, ?exportHost, ?timeout,
    ?armed, ?commits, ?aborts, ?switches, ?defers⟩
  case opens =>
    intro h s
    exact cmd_of_runCmd rfl fun d ⟨hbuf, hstaging, harm, hpass⟩ => openStaging_host hbuf hstaging harm hpass
  case imports =>
    intro h s
    exact cmd_of_runCmd rfl fun d ⟨hbuf, hstaging, harm, hpass⟩ => openStaging_host hbuf hstaging harm hpass
  case data =>
    intro h part offset badA badB g p s
    refine cmd_of_runCmd rfl fun d ⟨hstaging, hpart, hbuf, hfits, hone⟩ => ?_
    simp only [hstaging, hpart]
    rw [if_neg (not_not_intro hbuf), if_neg (Nat.not_lt.mpr hfits), flashWrite_of_one d hone]
  case close =>
    intro h parts g area s
    exact cmd_of_runCmd rfl fun d ⟨hstaging, harea, hpass⟩ => closeStaging_of_pass hstaging harea hpass
  case activate =>
    intro h sec tick t s
    refine cmd_of_runCmd rfl fun d ⟨hepoch, hstaged, hstate, hcount, hlanes, hlevel, hclear⟩ => ?_
    have hrecipe : ¬ (t.recipe = true ∧ t.lo ≠ d.rd GLB.COMPAT_LEVEL.LEVEL) :=
      fun ⟨hrec, hlo⟩ => hlevel.elim (fun htray => by simp [htray] at hrec) hlo
    rw [if_neg (ne_true_of_eq_false hepoch)]
    simp only [updActivateEffect, hstaged]
    rw [if_neg (not_not_intro hstate), if_neg (ne_true_of_eq_false hcount), if_neg (Nat.not_lt.mpr hlanes), if_neg hrecipe]
    exact beginArm_of_clear rfl hclear
  case revert =>
    intro h sec tick t s
    refine cmd_of_runCmd rfl fun d ⟨hepoch, hprev, harm, hcount, hrb, hlanes, hclear⟩ => ?_
    rw [if_neg (ne_true_of_eq_false hepoch)]
    simp only [updRevertEffect, hprev]
    rw [if_neg (by simp [harm]), if_neg (ne_true_of_eq_false hcount), if_neg (Nat.not_lt.mpr hrb), if_neg (Nat.not_lt.mpr hlanes)]
    exact beginArm_of_clear rfl hclear
  case cancel =>
    intro h s
    refine cmd_of_runCmd rfl fun d huncommitted => ?_
    refine if_neg ?_
    revert huncommitted
    cases d.upd.arm <;> simp
  case recoverStaged =>
    intro h t s
    refine cmd_of_runCmd rfl fun d ⟨harm, hstaged, hlevel, hcount, hrb⟩ => ?_
    rw [if_neg (by decide), if_neg (by simp [harm])]
    simp [updRecoverEffect, hstaged, hlevel, hcount, hrb]
  case recoverPrev =>
    intro h t s
    refine cmd_of_runCmd rfl fun d ⟨harm, hprev, hlevel, hcount, hrb⟩ => ?_
    rw [if_neg (by decide), if_neg (by simp [harm])]
    simp [updRecoverEffect, hprev, hlevel, hcount, hrb]
  case report =>
    intro h s
    exact cmd_of_runCmd rfl fun d hrecv => if_neg (not_not_intro hrecv)
  case exportDrop =>
    intro h flags target s
    refine cmd_of_runCmd rfl fun d ⟨hflags, hslot, hcount, hmax⟩ => ?_
    subst hflags
    rw [if_neg (by decide), recipeExportEffect_of_serves hslot hcount hmax]
    rfl
  case exportHost =>
    intro h flags target badB s
    refine cmd_of_runCmd rfl fun d ⟨hflags, hslot, hcount, hmax⟩ => ?_
    have hhost : bitOf flags 1 = false := by interval_cases flags <;> rfl
    rw [if_neg (by omega), recipeExportEffect_of_serves hslot hcount hmax]
    simp only [hhost, Bool.false_eq_true, not_false_eq_true, true_and, false_and, if_false]
    exact ite_not _ _ _
  case timeout =>
    intro g s
    refine event_of_meaning execStagingTimeout rfl rfl fun hstaging => ?_
    simp only [hstaging]
  case armed =>
    intro part a s
    refine event_of_meaning (execPartArmed part) rfl rfl fun ⟨harm, huncommitted⟩ => ?_
    simp only [harm]
    exact if_neg (ne_true_of_eq_false huncommitted)
  case commits =>
    intro ok a s
    refine event_of_meaning (execCollect ok) rfl rfl fun ⟨harm, huncommitted, hclear⟩ => ?_
    simp only [harm]
    rw [if_neg (ne_true_of_eq_false huncommitted)]
    simp only [hclear]
  case aborts =>
    intro ok a r st i s
    refine event_of_meaning (execCollect ok) rfl rfl fun ⟨harm, huncommitted, hfault⟩ => ?_
    simp only [harm]
    rw [if_neg (ne_true_of_eq_false huncommitted)]
    simp only [hfault]
  case switches =>
    intro part a p s
    refine event_of_meaning (execPartSwitch part) rfl rfl fun ⟨harm, hpart, hcommitted, hst, hlast, hon⟩ => ?_
    simp only [harm, hpart]
    rw [if_neg (partSwitch_due hcommitted hst hlast)]
    exact if_neg (not_not_intro hon)
  case defers =>
    intro part a p s
    refine event_of_meaning (execPartSwitch part) rfl rfl fun ⟨harm, hpart, hcommitted, hst, hlast, hoff⟩ => ?_
    simp only [harm, hpart]
    rw [if_neg (partSwitch_due hcommitted hst hlast)]
    exact if_pos (ne_true_of_eq_false hoff)

end Sys2Proof.Machine
end
